-- ==== Sys2Proof/Word.lean ====
section
/-!
DEFINITION. Word.lean: the word types of the HJN9120 model: a byte is the smallest unit the spec addresses
(R4, R72, R117). Object values are held as natural numbers below `256 ^ size`, little-endian.
-/
namespace Sys2Proof

/-- One byte, of a register value, a frame, a descriptor or a memory cell. -/
abbrev Byte := BitVec 8

end Sys2Proof
end

