-- ==== Sys2Proof/Syntax.lean ====
section
/-!
DEFINITION. Syntax.lean: the commands of the HJN9120, one constructor of `Instr` for each row of
spec/opcode_table.json, with the operands the row's rule gives it.

Every command's first operand `dt` is the time in nanoseconds that passes, at the nominal rate of the
25 MHz crystal, between the command before it and itself (assumption log 1). The other operands are what
the outside world fixes: the master and the value of a write, a measured voltage, a converter code, a
received frame, the number of the channel concerned.
-/
namespace Sys2Proof

/-- A master of the dictionary (R75): the ring (one requester per node identity), the local port, a CAN
controller, or a vat. -/
inductive Master where
  | ring (id : Fin 256)
  | localPort
  | can (n : Fin 4)
  | vat (v : Fin 16)
deriving DecidableEq, Repr

/-- The two line inputs, LINE_E and LINE_W (R25). -/
inductive LineInput where
  | east
  | west
deriving DecidableEq, Repr

/-- The two contexts of a vat's interrupt controller (Table 5-5). -/
inductive IrqContext where
  | machine
  | supervisor
deriving DecidableEq, Repr

/-- Who made an access that a capture record names (Table 15-7, MASTER and ACCESS). -/
inductive AccessKind where
  | read
  | write
  | fetch
  | atomic
deriving DecidableEq, Repr

/-- A fault message of hardware that has no row of its own in the table: a DRAM error found by inline ECC
(kinds 0x07, 0x08) or a PCIe error (kind 0x60). -/
structure HwFault where
  kind : Byte
  detail : Byte
  address : BitVec 32
  fullAddr : BitVec 64
deriving DecidableEq, Repr

/-- What start-up finds outside the node's own state (Table 2-8): the charge time of VBULK from 30 V to
40 V (R29), the flash sectors whose erase fails verification twice (R87), the straps, and which image
slots were written with an image that passes its check. -/
structure Startup where
  chargeUs : Nat
  badSectors : List (Fin 4096)
  strap : Fin 32
  prefStrap : Bool
deriving DecidableEq, Repr

/-- One store of a vat's core, made since the vat's last command: address, bytes (1, 2, 4 or 8), value,
and whether the core was in M mode. The vat's core runs its own firmware; these are all of it the node
can see (Table 5-2). -/
structure VatStore where
  addr : BitVec 64
  size : Fin 9
  value : BitVec 64
  inM : Bool
deriving DecidableEq, Repr

/-- What block 0 of a data namespace holds (R353): this node's volume header with its slot, nothing, or
anything else. -/
inductive NsContent where
  | member (slot : Fin 32)
  | blank
  | foreign
deriving DecidableEq, Repr

/-- A data namespace that enumeration finds (R350): its size in bytes, whether its LBAs are 4,096 bytes, what
it holds, whether the drive has an index namespace, and the drive's serial, bus, device and function. -/
structure Namespace where
  size : BitVec 64
  lba4k : Bool
  content : NsContent
  index : Bool
  serial : BitVec 160
  bus : Byte
  devfn : Byte
deriving DecidableEq, Repr

/-- A Woad frame as it arrives at a ring port: the port (0 EAST, 1 WEST), source address, HSR sequence number,
whether it is addressed to all or to this node's address, the header of Table 10-6, the body, and how long
ago its first bit came. -/
structure WoadIn where
  port : Fin 2
  mac : BitVec 48
  hsrSeq : BitVec 16
  toAll : Bool
  version : Byte
  src : Byte
  pub : Byte
  dst : Byte
  flags : Byte
  seq : BitVec 32
  part : BitVec 16
  parts : BitVec 16
  body : List Byte
  agoNs : Nat
deriving DecidableEq, Repr

/-- A PTP Announce (R301): its data set, its grandmaster, and what it says of UTC. -/
structure Announce where
  ident : BitVec 64
  prio1 : Byte
  cls : Byte
  acc : Byte
  var : BitVec 16
  prio2 : Byte
  steps : BitVec 16
  utcOffset : BitVec 16
  utcValid : Bool
  leap59 : Bool
  leap61 : Bool
deriving DecidableEq, Repr

/-- A twin-link message (R325): its sequence number, whether its CRC holds, and its body. -/
structure LinkMsg where
  seq : BitVec 32
  crcOk : Bool
  body : List Byte
deriving DecidableEq, Repr

/-- A Command message (Table 11-2): the standby's record and its master, or the owner's reply. -/
inductive LinkCommand where
  | ask (record : List Byte) (m : Master)
  | answer (code : BitVec 16)
deriving DecidableEq, Repr

/-- What the state image holds of a point (R335); `record` is its configuration in the layout of Table 8-22. -/
structure PointImage where
  point : Fin 16384
  record : List Byte
  st : Byte
  on : BitVec 4
  raw : Byte
  runOn : Nat
  runOff : Nat
  active : Bool
  cond : Byte
  onset : BitVec 64
  onsetV : BitVec 32
  ret : BitVec 64
  retV : BitVec 32
  sup : Bool
  rel : Nat
  shelve : Option Nat
  oos : Bool
  faultUnack : Bool
  occ : BitVec 32
  standing : BitVec 64
  value : BitVec 32
  quality : Byte
  time : BitVec 64
  age : Nat
  prio : Byte
deriving DecidableEq, Repr

/-- What the state image holds of an area: responsibility, attendance, calls and their timers. -/
structure AreaImage where
  area : Fin 8
  holder : Byte
  attended : Bool
  offer : Option Byte
  offerCount : Nat
  call : Byte
  level : Byte
  ceiling : Byte
  count : Nat
  point : BitVec 16
  prio : Byte
  seq : BitVec 16
  silenced : Bool
  es : Byte
  esCount : Nat
  esCall : Option Byte
  esCallCount : Nat
deriving DecidableEq, Repr

/-- A candidate of a first-out capture in the state image. -/
structure CandImage where
  onset : BitVec 64
  ident : Byte
  point : BitVec 16
deriving DecidableEq, Repr

/-- What the state image holds of a group: its state and result, and a capture in progress. -/
structure GroupImage where
  group : Fin 1024
  state : Byte
  first : BitVec 32
  time : BitVec 64
  ties : Byte
  tieList : BitVec 128
  captures : BitVec 32
  flags : Byte
  start : BitVec 64
  cands : List CandImage
deriving DecidableEq, Repr

/-- A block of the state image (R335). The spec names what the image holds, not its bytes. -/
inductive TwinBlock where
  | point (x : PointImage)
  | group (x : GroupImage)
  | area (x : AreaImage)
  | sched (entry : Fin 256) (record : List Byte) (late : Bool)
  | limiters (p : List Nat)
  | frame (num : BitVec 64)
deriving DecidableEq, Repr

/-- How an ISO/IEC 15693 request names the tags it is for (R441): by UID, the selected one, or all. -/
inductive TagAddr where
  | addressed (uid : BitVec 64)
  | selected
  | all
deriving DecidableEq, Repr

/-- The commands of the block, in the order of the table. -/
inductive Instr where
  /-- BACKUP_SOURCE_RISE (R18): The backup source at VKEEP rises above 1.8 V with line absent, and the node passes from OFF to KEEP. -/
  | backupSourceRise (dt : Nat) (mv : Nat)
  /-- BACKUP_SOURCE_FALL (R18): The backup source falls below 1.6 V, and the node passes from KEEP to OFF, losing the RTC and KEEP memory. -/
  | backupSourceFall (dt : Nat) (mv : Nat)
  /-- LINE_INPUT_FEED_START (R26): A line input rises above 40 V and starts to feed. -/
  | lineInputFeedStart (dt : Nat) (inp : LineInput) (mv : Nat)
  /-- LINE_INPUT_FEED_STOP (R26): A line input falls below 38 V and stops feeding. -/
  | lineInputFeedStop (dt : Nat) (inp : LineInput) (mv : Nat)
  /-- OVERVOLTAGE_LOCKOUT_TRIP (R448): A line input rises above 60.0 V and is held off, so it no longer feeds. -/
  | overvoltageLockoutTrip (dt : Nat) (inp : LineInput) (mv : Nat)
  /-- OVERVOLTAGE_LOCKOUT_RELEASE (R448): A held-off input falls below 59.0 V and may feed again. -/
  | overvoltageLockoutRelease (dt : Nat) (inp : LineInput) (mv : Nat)
  /-- LINE_VALID (R30): An input has fed for 10 ms with VBULK above 40 V, and the start-up sequence of Table 2-8 begins. -/
  | lineValid (dt : Nat) (vbulkMv : Nat) (su : Startup)
  /-- ROLE_DECISION (R32): At the end of start-up the node decides COMMISSION, ACTIVE or STANDBY and enters that mode. -/
  | roleDecision (dt : Nat)
  /-- ROLE_DECISION_WAIT_EXPIRY (R32): The 500 ms wait of a non-preferred node ends without OWN_IN, and it chooses STANDBY or ACTIVE. -/
  | roleDecisionWaitExpiry (dt : Nat)
  /-- LINE_LOSS_DETECTED (R33): No input has fed for 20 µs, so the node declares line loss and begins the line-loss sequence. -/
  | lineLossDetected (dt : Nat)
  /-- LINE_LOSS_SEQUENCE_END (R36): At 18 ms the line-loss record is written and the node enters KEEP or OFF, or restarts with cause 0x03 if line valid holds. -/
  | lineLossSequenceEnd (dt : Nat) (vbulkMv : Nat) (su : Startup)
  /-- HOLD_UP_SHORT (R37): VBULK falls below 24 V before the sequence ends, and the node resets at once and records result 2. -/
  | holdUpShort (dt : Nat) (vbulkMv : Nat)
  /-- NRESET_IN_LOW (R45): NRESET_IN held low for 1 µs starts a node reset with cause 0x01. -/
  | nresetInLow (dt : Nat)
  /-- NODE_RESET_RELEASE (R45): The node reset is released, BOOT begins and the cause, entry time and mode-change message are set. -/
  | nodeResetRelease (dt : Nat) (su : Startup)
  /-- ENTER_COMMISSION (R18): A write of 3 to 0x1010.02 requests COMMISSION from STANDBY or SAFE. -/
  | enterCommission (dt : Nat) (m : Master)
  /-- REQUEST_ACTIVE (R466): A write of 4 to 0x1010.02 requests leaving COMMISSION, RESUME, or a planned handover to this node. -/
  | requestActive (dt : Nat) (m : Master)
  /-- PLANNED_HANDOVER_TO_TWIN (R340): A write of 5 to 0x1010.02 requests a planned handover to the twin. -/
  | plannedHandoverToTwin (dt : Nat) (m : Master)
  /-- COMMAND_SAFE (R18): A write of 7 to 0x1010.02 requests SAFE, or sets 0x1010.08 in STANDBY. -/
  | commandSafe (dt : Nat) (m : Master)
  /-- NODE_RESET_COMMAND (R45): A reset command of KIND 0x01 starts a node reset after its reply. -/
  | nodeResetCommand (dt : Nat) (m : Master) (key : Byte) (inst : Byte)
  /-- KEEPER_RESET_COMMAND (R41): A reset command of KIND 0x02 resets the keeper. -/
  | keeperResetCommand (dt : Nat) (m : Master) (key : Byte) (inst : Byte)
  /-- VAT_RESET_COMMAND (R44): A reset command of KIND 0x03 resets one vat; a vat may reset only itself. -/
  | vatResetCommand (dt : Nat) (m : Master) (key : Byte) (inst : Byte)
  /-- LAKE_RESET_COMMAND (R43): A reset command of KIND 0x04 resets one lake. -/
  | lakeResetCommand (dt : Nat) (m : Master) (key : Byte) (inst : Byte)
  /-- DYNAMIC_LAKE_RESET_COMMAND (R43): A reset command of KIND 0x05 resets one dynamic lake. -/
  | dynamicLakeResetCommand (dt : Nat) (m : Master) (key : Byte) (inst : Byte)
  /-- RING_PORT_RESET_COMMAND (R41): A reset command of KIND 0x06 resets one ring port, which then retrains. -/
  | ringPortResetCommand (dt : Nat) (m : Master) (key : Byte) (inst : Byte)
  /-- PCIE_PORT_RESET_COMMAND (R41): A reset command of KIND 0x07 resets one PCIe root port and takes its drives offline. -/
  | pciePortResetCommand (dt : Nat) (m : Master) (key : Byte) (inst : Byte)
  /-- CAN_RESET_COMMAND (R41): A reset command of KIND 0x08 resets one CAN controller. -/
  | canResetCommand (dt : Nat) (m : Master) (key : Byte) (inst : Byte)
  /-- SERIAL_PORT_RESET_COMMAND (R41): A reset command of KIND 0x09 resets one serial port receiver. -/
  | serialPortResetCommand (dt : Nat) (m : Master) (key : Byte) (inst : Byte)
  /-- KEEPER_LOCKSTEP_MISMATCH (R41): The keeper cores disagree, and the keeper is reset. -/
  | keeperLockstepMismatch (dt : Nat) (stage : Byte)
  /-- KEEPER_SERVING_AGAIN (R42): The keeper completes its reset and serves the dictionary again, entering STANDBY after a keeper-reset handover. -/
  | keeperServingAgain (dt : Nat)
  /-- KEEPER_RESET_HANDOVER (R342): At the first close at least 10 µs after a keeper reset begins, an ACTIVE node hands over to its healthy twin. -/
  | keeperResetHandover (dt : Nat)
  /-- VAT_RESTART (R125): A vat is released from reset and restarts in M mode at 0x8000_0000. -/
  | vatRestart (dt : Nat) (v : Fin 16)
  /-- CAN_CONTROLLER_READY (R41): A reset CAN controller becomes ready within 1 ms. -/
  | canControllerReady (dt : Nat) (n : Fin 4)
  /-- SERIAL_PORT_READY (R41): A reset serial port becomes ready within 1 ms. -/
  | serialPortReady (dt : Nat) (p : Fin 8)
  /-- PLL_LOCK (R49): An island's PLL locks, and the island leaves its ring oscillator. -/
  | pllLock (dt : Nat) (i : Fin 61)
  /-- PLL_LOCK_LOST (R49): An island's PLL loses lock; the island falls back to its ring oscillator, its time copy becomes invalid and a clock lock lost message is sent. -/
  | pllLockLost (dt : Nat) (i : Fin 61)
  /-- TIME_TOKEN (R52): A time token arrives at an island and sets the target of its time copy. -/
  | timeToken (dt : Nat) (i : Fin 61) (tv : Nat)
  /-- LATENCY_CALIBRATION (R52): Every 1 s the time island measures each channel's latency with 64 echo tokens. -/
  | latencyCalibration (dt : Nat) (i : Fin 61) (sumPs : Nat)
  /-- BROADCAST_ISSUE (R57): The time island issues a requested broadcast along the island chain. -/
  | broadcastIssue (dt : Nat)
  /-- BROADCAST_ACK (R57): The acknowledgement from island 60 arrives, and the next waiting broadcast may be issued. -/
  | broadcastAck (dt : Nat)
  /-- TIMED_BROADCAST_ACT (R58): An island's time copy reaches the time of a timed broadcast, and it acts. -/
  | timedBroadcastAct (dt : Nat) (i : Fin 61)
  /-- RTC_TRIM_WINDOW (R59): A new 1,024 s trim window starts, and the new trim value takes effect. -/
  | rtcTrimWindow (dt : Nat)
  /-- RTC_TRIM_PULSE (R59): A spacing count expires, and one RTC tick is added or skipped. -/
  | rtcTrimPulse (dt : Nat)
  /-- RTC_SECOND (R65): An RTC second edge occurs; in state RTC the time island compares its count and slews. -/
  | rtcSecond (dt : Nat)
  /-- RTC_SHIFT (R60): A write of 0x1200.04 requests an RTC shift and sets SHIFT_PENDING. -/
  | rtcShift (dt : Nat) (m : Master) (val : BitVec 32)
  /-- RTC_SHIFT_APPLY (R60): At a crystal edge the pending shift moves the RTC and clears SHIFT_PENDING. -/
  | rtcShiftApply (dt : Nat)
  /-- RTC_SET_TIME (R64): A write of 0x1200.01 sets the RTC seconds, zeroes the sub-seconds, cancels any shift and clears OSF. -/
  | rtcSetTime (dt : Nat) (m : Master) (sec : BitVec 64)
  /-- PERIODIC_WAKE (R61): The wake period expires; WAKE is set and interrupts are raised, or in KEEP 0x1200.08 increments. -/
  | periodicWake (dt : Nat)
  /-- OSCILLATOR_STOPPED (R62): The 32.768 kHz crystal stops for 4 ms or more, and OSF is set. -/
  | oscillatorStopped (dt : Nat) (durNs : Nat)
  /-- TIME_STAMP_CAPTURE (R63): A write of 1 to 0x1100.08 requests a time-stamp capture. -/
  | timeStampCapture (dt : Nat) (m : Master) (val : Byte)
  /-- CAPTURE_LATCH (R63): At a crystal edge the RTC, TAI and UTC fields are latched, and CAPTURE_PENDING clears. -/
  | captureLatch (dt : Nat)
  /-- SYNC_TIMEOUT (R66): No Sync arrives for 3 s in LOCKED, and the time state goes to HOLDOVER. -/
  | syncTimeout (dt : Nat)
  /-- ANNOUNCE_RECEIPT_TIMEOUT (R301): No Announce arrives for the configured number of intervals, and LOCKED goes to HOLDOVER. -/
  | announceReceiptTimeout (dt : Nat)
  /-- HOLDOVER_LIMIT (R66): HOLDOVER has lasted longer than 0x1100.09, and the time state goes to RTC or UNSET. -/
  | holdoverLimit (dt : Nat)
  /-- LEAP_SECOND (R69): At the end of a UTC day with leap59 or leap61, the leap second is applied. -/
  | leapSecond (dt : Nat)
  /-- OD_READ (R76): A dictionary read request is judged by Table 4-4 and answered. -/
  | odRead (dt : Nat) (m : Master) (idx : BitVec 16) (sub : Byte)
  /-- OD_INFORMATION (R77): An information request is answered with the 16-byte object information record. -/
  | odInformation (dt : Nat) (m : Master) (idx : BitVec 16) (sub : Byte)
  /-- REGISTER_WRITE (R82): A write to an object that has no row of its own is judged by Table 4-4 and applied. -/
  | registerWrite (dt : Nat) (m : Master) (idx : BitVec 16) (sub : Byte) (data : List Byte)
  /-- COMMIT (R90): ACTION 0x01 of 0x1020.01 snapshots every kept object and programs it into the inactive bank. -/
  | commit (dt : Nat) (m : Master) (key : Byte)
  /-- COMMISSIONING_RESET (R91): ACTION 0x02 of 0x1020.01 sets every object to its default, in COMMISSION only. -/
  | commissioningReset (dt : Nat) (m : Master) (key : Byte)
  /-- DISCARD (R91): ACTION 0x03 of 0x1020.01 reloads the committed bank, or the defaults if none, in COMMISSION only. -/
  | discard (dt : Nat) (m : Master) (key : Byte)
  /-- COMMIT_COMPLETE (R91): A commit finishes programming and its COMMIT word, or fails, and 0x1020.02 is updated. -/
  | commitComplete (dt : Nat) (verified : Bool)
  /-- BANK_SECTOR_ERASED (R90): The background erase of one sector of the old bank completes, and the next begins. -/
  | bankSectorErased (dt : Nat) (verified : Bool)
  /-- DATA_PORT_CLAIM (R92): A nonzero write of .01 claims a data port, or retargets it, for a DOMAIN. -/
  | dataPortClaim (dt : Nat) (m : Master) (p : Fin 16) (target : BitVec 32)
  /-- DATA_PORT_RELEASE (R96): A write of 0 to .01 releases the port and abandons any transfer. -/
  | dataPortRelease (dt : Nat) (m : Master) (p : Fin 16)
  /-- DATA_PORT_SET_OFFSET (R95): A write of .02 sets the start offset, or leaves HOLD at the present position. -/
  | dataPortSetOffset (dt : Nat) (m : Master) (p : Fin 16) (off : BitVec 64)
  /-- DATA_PORT_OPEN (R93): A write of .03 opens a transfer of the given length. -/
  | dataPortOpen (dt : Nat) (m : Master) (p : Fin 16) (len : BitVec 64)
  /-- DATA_PORT_BURST (R94): A .04 access moves one burst at the present position, and after the last byte of a write enters APPLYING. -/
  | dataPortBurst (dt : Nat) (m : Master) (p : Fin 16) (data : Option (List Byte)) (busy : Bool)
  /-- DATA_PORT_APPLY_DONE (R97): A staged write is judged again and written into its DOMAIN as one change; the port enters DONE or ABANDONED. -/
  | dataPortApplyDone (dt : Nat) (p : Fin 16)
  /-- DATA_PORT_HOLD_TIMEOUT (R97): A claimed port has no access for its hold timeout, and it is released and its transfer abandoned. -/
  | dataPortHoldTimeout (dt : Nat) (p : Fin 16)
  /-- REQUEST (R101): A local-port REQUEST transaction delivers a request frame, or it is refused or discarded. -/
  | request (dt : Nat) (frame : List Byte)
  /-- STATUS (R100): A local-port STATUS transaction returns the status word and clears OVERRUN and CRC_ERR. -/
  | status (dt : Nat)
  /-- RESPONSE (R100): A local-port RESPONSE transaction returns and removes the oldest ready response. -/
  | response (dt : Nat)
  /-- RESYNC (R100): A local-port RESYNC transaction discards all outstanding requests and ready responses. -/
  | resync (dt : Nat)
  /-- APPLY (R105): A write of 1 to 0x1030.02 checks every Cezel entry and, if all pass, writes all values in one service cycle. -/
  | apply (dt : Nat) (m : Master) (val : Byte)
  /-- VAT_ACCESS_FAULT (R109): A vat access outside its map raises an access-fault exception and a Verdigris message. -/
  | vatAccessFault (dt : Nat) (v : Fin 16) (addr : BitVec 64) (kind : AccessKind)
  /-- TIMER_INTERRUPT (R109): The vat's time reaches MTIMECMP or STIMECMP, and the timer interrupt becomes pending. -/
  | timerInterrupt (dt : Nat) (v : Fin 16) (stores : List VatStore)
  /-- INTERRUPT_CLAIM (R113): A read of MCLAIM or SCLAIM returns the pending enabled source of highest priority and claims it. -/
  | interruptClaim (dt : Nat) (v : Fin 16) (ctx : IrqContext) (stores : List VatStore)
  /-- INTERRUPT_COMPLETE (R113): A write of the claimed number to MCLAIM or SCLAIM completes the source. -/
  | interruptComplete (dt : Nat) (v : Fin 16) (ctx : IrqContext) (src : Byte) (stores : List VatStore)
  /-- DOORBELL_WRITE (R117): A vat writes its queue's doorbell to advance its own index. -/
  | doorbellWrite (dt : Nat) (v : Fin 16) (slot : Fin 8192) (value : BitVec 32) (stores : List VatStore)
  /-- ENGINE_GRANT (R123): An engine grants one ready queue by rotation and fetches or delivers one descriptor. -/
  | engineGrant (dt : Nat) (engine : Fin 10) (busy : Bool)
  /-- QUEUE_ENABLE (R124): A write of true to 0x9100.0A checks the queue's configuration and enables it with PI and CI at 0. -/
  | queueEnable (dt : Nat) (m : Master)
  /-- QUEUE_DISABLE (R124): A write of false to 0x9100.0A stops the engine at a descriptor boundary. -/
  | queueDisable (dt : Nat) (m : Master)
  /-- DECLARE (R127): A write of 1 to a vat's declare command checks and installs its private-object declaration. -/
  | declare (dt : Nat) (m : Master) (v : Fin 16) (val : Byte)
  /-- SCAN_START (R155): A converter's scan starts, in periodic mode at its TAI time, or in free-running mode as the previous one ends. -/
  | scanStart (dt : Nat) (lake : Fin 32) (conv : Fin 2)
  /-- CONVERSION_END (R157): A lake conversion ends, and its value, quality and stamp are formed and held. -/
  | conversionEnd (dt : Nat) (lake : Fin 32) (conv : Fin 2) (code : BitVec 24) (cjTemp : BitVec 32)
  /-- LAKE_READING_RELEASE (R157): 250 µs after its window, a held lake reading is sent to the frame island and the archive. -/
  | lakeReadingRelease (dt : Nat) (lake : Fin 32) (pin : Fin 8)
  /-- CONTACT_BAND_CHANGE (R149): A contact pin holds a new band for its qualification count, and the change is reported, stamped at its first sample. -/
  | contactBandChange (dt : Nat) (lake : Fin 32) (pin : Fin 8) (band : Fin 4) (agoNs : Nat)
  /-- WIRE_BREAK (R162): A pin stays outside its window for 32 samples and a break is declared. -/
  | wireBreak (dt : Nat) (lake : Fin 32) (pin : Fin 8) (agoNs : Nat)
  /-- PULSE_TEST (R160): Every 100 µs a test pulse is driven into a watched pair; two failing pulses declare a break. -/
  | pulseTest (dt : Nat) (lake : Fin 32) (pin : Fin 8) (pairUv : Int)
  /-- BREAK_CLEAR (R163): A break clears after 100 ms with no violation and no failing pulse. -/
  | breakClear (dt : Nat) (lake : Fin 32) (pin : Fin 8)
  /-- MAINS_ZERO_CROSSING (R151): A rising zero crossing at MREF is stamped and the mains frequency is computed. -/
  | mainsZeroCrossing (dt : Nat)
  /-- MAINS_FREQUENCY_SEND (R151): Every 20 ms the keeper sends the valid mains frequency to every lake. -/
  | mainsFrequencySend (dt : Nat)
  /-- MAINS_REFERENCE_LOST (R151): With tracking on, no valid frequency for 100 ms makes the lakes use the nominal frequency. -/
  | mainsReferenceLost (dt : Nat)
  /-- TAKE_OUT (R170): Service command 1 takes a lake or dynamic lake out of service. -/
  | takeOut (dt : Nat) (m : Master) (unit : Fin 40)
  /-- TEST (R170): Service command 2 starts the test of a lake or dynamic lake. -/
  | test (dt : Nat) (m : Master) (unit : Fin 40)
  /-- RETURN (R170): Service command 3 returns a lake or dynamic lake to service, or releases its isolation. -/
  | returnToService (dt : Nat) (m : Master) (unit : Fin 40)
  /-- TAKING_OUT_END (R169): The conversions in progress end, and the lake enters OUT_OF_SERVICE. -/
  | takingOutEnd (dt : Nat) (unit : Fin 40)
  /-- TEST_DONE (R171): The lake test ends, its result is recorded and the lake returns to its earlier state. -/
  | testDone (dt : Nat) (unit : Fin 40) (failed : BitVec 10)
  /-- RETURNING_END (R169): The first reading of every configured set is sent, and the lake enters IN_SERVICE. -/
  | returningEnd (dt : Nat) (unit : Fin 40)
  /-- LAKE_RESET_DONE (R169): A lake reset ends, and the lake enters the state Table 6-12 gives. -/
  | lakeResetDone (dt : Nat) (unit : Fin 40)
  /-- SAMPLE_SLOT_DELIVERY (R166): A sample-stream slot's oldest sample passes the flush time, and the slot is delivered. -/
  | sampleSlotDelivery (dt : Nat) (q : Fin 8192)
  /-- REPEAT_PERIOD_END (R168): A repeat period or carrier period ends, and a new frequency or duty takes effect. -/
  | repeatPeriodEnd (dt : Nat) (a : Fin 24)
  /-- DYNAMIC_SAMPLE (R176): A dynamic converter delivers a stamped time sample to the archive and resampler. -/
  | dynamicSample (dt : Nat) (ch : Fin 32) (code : BitVec 24)
  /-- DYNAMIC_SUMMARY (R176): Every 100 µs a dynamic lake sends each channel's latest value, RMS and peak to the frame island. -/
  | dynamicSummary (dt : Nat) (k : Fin 8)
  /-- RMS_PEAK_UPDATE (R178): Every W/10 the RMS and peak of a channel's window are computed. -/
  | rmsPeakUpdate (dt : Nat) (ch : Fin 32)
  /-- OVERLOAD (R177): A front-end output goes beyond ±10 V; the channel is BAD_SENSOR and a CHARGE reset begins. -/
  | overload (dt : Nat) (ch : Fin 32)
  /-- CHARGE_RESET_END (R177): The 100 µs reset across C_f ends. -/
  | chargeResetEnd (dt : Nat) (ch : Fin 32)
  /-- INTEGRATOR_RESET (R177): A write of 1 to .0E starts a 100 µs reset across C_f in CHARGE. -/
  | integratorReset (dt : Nat) (m : Master) (ch : Fin 32) (val : Byte)
  /-- IEPE_BIAS_FAULT (R177): The IEPE bias stays above 24 V or below 2 V for 1 ms, and OPEN or SHORT is set. -/
  | iepeBiasFault (dt : Nat) (ch : Fin 32) (mv : Nat)
  /-- DYNAMIC_REFERENCE_CHECK (R177): Every 10 s a dynamic lake checks its reference and sets REF on drift. -/
  | dynamicReferenceCheck (dt : Nat) (k : Fin 8) (ppm : Int)
  /-- SHAFT_EDGE (R182): A shaft input counts an edge, stamps it and updates counts, direction and slow-class speed. -/
  | shaftEdge (dt : Nat) (sh : Fin 16) (rising : Bool) (aLeads : Bool) (both : Bool) (agoNs : Nat)
  /-- STANDSTILL_TIMEOUT (R183): A slow-class input sees no edge for its timeout, and its speed goes to 0 with STANDSTILL set. -/
  | standstillTimeout (dt : Nat) (sh : Fin 16)
  /-- SPEED_WINDOW_END (R183): A fast-class window ends, and the speed is computed from its edges. -/
  | speedWindowEnd (dt : Nat) (sh : Fin 16)
  /-- SHAFT_OPEN (R185): A DC differential above 3 V for 100 ms sets OPEN on a pickup input. -/
  | shaftOpen (dt : Nat) (sh : Fin 16) (mv : Nat)
  /-- COMPARE_FIRE (R193): The frame island's time copy reaches the predicted crossing of a compare entry, and it acts. -/
  | compareFire (dt : Nat) (d : Fin 4) (entry : Fin 1024)
  /-- COMPARE_PULSE_END (R193): A compare PULSE's WIDTH expires, and its annunciator drive ends. -/
  | comparePulseEnd (dt : Nat) (a : Fin 24)
  /-- COMPARE_ENTRIES_WRITE (R192): A write of the compare entry count checks the table and takes it into force at the next θ = 0. -/
  | compareEntriesWrite (dt : Nat) (m : Master) (val : BitVec 16)
  /-- ANGLE_SAMPLE (R194): Once the bracketing count and time samples have arrived, the resampler forms an angle sample. -/
  | angleSample (dt : Nat) (ch : Fin 32) (angle : Fin 7200)
  /-- CYCLE_WINDOW_END (R197): A cylinder's cycle window ends, and the indicator engine computes and delivers its result. -/
  | cycleWindowEnd (dt : Nat) (d : Fin 4) (cyl : Fin 20)
  /-- SERIAL_REQUEST (R202): A serial port's request falls due and it runs one SSI frame, or skips it as NOT_READY. -/
  | serialRequest (dt : Nat) (p : Fin 8) (lineHigh : Bool)
  /-- SERIAL_FRAME_END (R204): An SSI frame and its monotime end, its checks are applied and the position is updated or held. -/
  | serialFrameEnd (dt : Nat) (p : Fin 8) (startNs : Option Nat) (frame : BitVec 64) (endMark : Bool) (trailerZero : Bool) (lowAtEnd : Bool) (monoNs : Option Nat)
  /-- FRAME_CLOSE (R213): At close t_k Mordant swaps buffers, applies scheduled actions and commands, evaluates every point, updates groups and calls, and delivers records. -/
  | frameClose (dt : Nat)
  /-- ON_DELAY_EXPIRY (R224): run_on exceeds n_on and the delayed condition becomes active. -/
  | onDelayExpiry (dt : Nat) (pt : Fin 16384)
  /-- OFF_DELAY_EXPIRY (R224): run_off exceeds n_off and the delayed condition returns to NONE. -/
  | offDelayExpiry (dt : Nat) (pt : Fin 16384)
  /-- SUPPRESSION_RELEASE (R225): The release count exceeds n_rel and the point is no longer suppressed. -/
  | suppressionRelease (dt : Nat) (pt : Fin 16384)
  /-- STALE (R217): A point's age exceeds its stale limit and its input becomes STALE. -/
  | stale (dt : Nat) (pt : Fin 16384)
  /-- RATE_WINDOW_END (R221): A RATE point's window ends and its rate is recomputed. -/
  | rateWindowEnd (dt : Nat) (pt : Fin 16384)
  /-- SHELVE_EXPIRY (R226): A shelve time runs out and the point leaves SHELVED. -/
  | shelveExpiry (dt : Nat) (pt : Fin 16384)
  /-- FIRST_OUT_WINDOW_END (R234): The first-out window ends, the earliest onsets are found and the group enters CAPTURED. -/
  | firstOutWindowEnd (dt : Nat) (g : Fin 1024)
  /-- CALL_ESCALATION (R248): T_att, T1 or T2 expires and the alarm call rises one level. -/
  | callEscalation (dt : Nat) (a : Fin 8)
  /-- ANSWER_TIMEOUT (R248): The answer timeout expires and an answered call runs again at the next level. -/
  | answerTimeout (dt : Nat) (a : Fin 8)
  /-- TRANSFER_TIMEOUT (R239): A pending responsibility offer expires and the holder keeps the area. -/
  | transferTimeout (dt : Nat) (a : Fin 8)
  /-- ES_PREWARN (R251): The engineer-safety period less the pre-warning time passes and the timer enters PREWARN. -/
  | esPrewarn (dt : Nat) (a : Fin 8)
  /-- ES_EXPIRED (R251): The engineer-safety period passes and the engineer-safety call starts. -/
  | esExpired (dt : Nat) (a : Fin 8)
  /-- CALL_MESSAGE_REPEAT (R248): Every 2 s a running call's message is repeated, and a cleared message is sent three times. -/
  | callMessageRepeat (dt : Nat) (a : Fin 8)
  /-- REMOTE_STALE (R240): No responsibility records from the area master for 3 s set REMOTE_STALE. -/
  | remoteStale (dt : Nat) (a : Fin 8)
  /-- ACK_POINT (R229): Operator command 0x01 acknowledges one point. -/
  | ackPoint (dt : Nat) (m : Master) (loc : Byte) (target : BitVec 16) (param : BitVec 32) (when_ : BitVec 64)
  /-- ACK_GROUP (R236): Operator command 0x02 acknowledges every local member of a group. -/
  | ackGroup (dt : Nat) (m : Master) (loc : Byte) (target : BitVec 16) (param : BitVec 32) (when_ : BitVec 64)
  /-- ACK_AREA (R229): Operator command 0x03 acknowledges every point of an area. -/
  | ackArea (dt : Nat) (m : Master) (loc : Byte) (target : BitVec 16) (param : BitVec 32) (when_ : BitVec 64)
  /-- SILENCE (R249): Operator command 0x04 turns an area's horns off until a point next raises the call. -/
  | silence (dt : Nat) (m : Master) (loc : Byte) (target : BitVec 16) (param : BitVec 32) (when_ : BitVec 64)
  /-- SHELVE (R226): Operator command 0x05 shelves a point for 1–86,400 s. -/
  | shelve (dt : Nat) (m : Master) (loc : Byte) (target : BitVec 16) (param : BitVec 32) (when_ : BitVec 64)
  /-- UNSHELVE (R226): Operator command 0x06 ends the shelving of a point. -/
  | unshelve (dt : Nat) (m : Master) (loc : Byte) (target : BitVec 16) (param : BitVec 32) (when_ : BitVec 64)
  /-- OUT_OF_SERVICE (R226): Operator command 0x07 takes a point out of service. -/
  | outOfService (dt : Nat) (m : Master) (loc : Byte) (target : BitVec 16) (param : BitVec 32) (when_ : BitVec 64)
  /-- IN_SERVICE (R226): Operator command 0x08 returns a point to service. -/
  | inService (dt : Nat) (m : Master) (loc : Byte) (target : BitVec 16) (param : BitVec 32) (when_ : BitVec 64)
  /-- OFFER (R239): Operator command 0x09 offers an area's responsibility to another location. -/
  | offer (dt : Nat) (m : Master) (loc : Byte) (target : BitVec 16) (param : BitVec 32) (when_ : BitVec 64)
  /-- ACCEPT (R239): Operator command 0x0A accepts a pending offer. -/
  | accept (dt : Nat) (m : Master) (loc : Byte) (target : BitVec 16) (param : BitVec 32) (when_ : BitVec 64)
  /-- REJECT (R239): Operator command 0x0B rejects a pending offer. -/
  | reject (dt : Nat) (m : Master) (loc : Byte) (target : BitVec 16) (param : BitVec 32) (when_ : BitVec 64)
  /-- TAKE (R239): Operator command 0x0C lets an ECR location take an area at once. -/
  | take (dt : Nat) (m : Master) (loc : Byte) (target : BitVec 16) (param : BitVec 32) (when_ : BitVec 64)
  /-- ATTENDED (R241): Operator command 0x0D marks an area attended. -/
  | attended (dt : Nat) (m : Master) (loc : Byte) (target : BitVec 16) (param : BitVec 32) (when_ : BitVec 64)
  /-- UNATTENDED (R241): Operator command 0x0E marks an area unattended and switches the engineer-safety timer off. -/
  | unattended (dt : Nat) (m : Master) (loc : Byte) (target : BitVec 16) (param : BitVec 32) (when_ : BitVec 64)
  /-- ANSWER (R248): Operator command 0x0F answers a running alarm call. -/
  | answer (dt : Nat) (m : Master) (loc : Byte) (target : BitVec 16) (param : BitVec 32) (when_ : BitVec 64)
  /-- ES_ON (R251): Operator command 0x10 starts the engineer-safety timer. -/
  | esOn (dt : Nat) (m : Master) (loc : Byte) (target : BitVec 16) (param : BitVec 32) (when_ : BitVec 64)
  /-- ES_RESET (R251): Operator command 0x11 restarts the engineer-safety timer and ends its call. -/
  | esReset (dt : Nat) (m : Master) (loc : Byte) (target : BitVec 16) (param : BitVec 32) (when_ : BitVec 64)
  /-- ES_OFF (R251): Operator command 0x12 switches the engineer-safety timer off. -/
  | esOff (dt : Nat) (m : Master) (loc : Byte) (target : BitVec 16) (param : BitVec 32) (when_ : BitVec 64)
  /-- REARM (R233): Operator command 0x13 returns a CAPTURED group to ARMED. -/
  | rearm (dt : Nat) (m : Master) (loc : Byte) (target : BitVec 16) (param : BitVec 32) (when_ : BitVec 64)
  /-- CANCEL_SCHEDULED (R244): A write of 0x6000.0B cancels one schedule entry. -/
  | cancelScheduled (dt : Nat) (m : Master) (entry : BitVec 16)
  /-- COUNTER_CLEAR (R253): A write of 0 to a point's occurrence or standing-time counter clears it and its SAT bit. -/
  | counterClear (dt : Nat) (m : Master) (pt : Fin 16384) (standing : Bool) (value : BitVec 64)
  /-- POINT_CONFIG_WRITE (R222): A write of a point configuration subindex is checked against the resulting configuration. -/
  | pointConfigWrite (dt : Nat) (m : Master) (pt : Fin 16384) (sub : Byte) (data : List Byte)
  /-- LIMITER_TICK (R264): Every 10 µs each loop output's slew limiter moves p toward its target. -/
  | limiterTick (dt : Nat)
  /-- LOOP_CONDITION_SET (R265): OPEN or SHORT holds for 10 ms on a loop output, and it is set and reported. -/
  | loopConditionSet (dt : Nat) (n : Fin 16) (short : Bool)
  /-- LOOP_CONDITION_CLEAR (R265): A loop condition has been absent for 100 ms and clears. -/
  | loopConditionClear (dt : Nat) (n : Fin 16) (cond : Fin 3) (mv : Nat)
  /-- LOOP_SUPPLY_LOW (R265): AFSg falls below 16 V for 10 ms and SUPPLY_LOW is set on the group. -/
  | loopSupplyLow (dt : Nat) (g : Fin 4) (mv : Nat)
  /-- TRANSMIT (R268): A write of the FSK transmit object is judged and its characters are sent. -/
  | transmit (dt : Nat) (m : Master) (n : Fin 16) (data : List Byte)
  /-- TRANSMIT_DONE (R266): The last stop bit is sent and the carrier keys off. -/
  | transmitDone (dt : Nat) (n : Fin 16)
  /-- CHARACTER_RECEIVED (R267): The demodulator stores a received character in the FIFO, or drops it on overrun. -/
  | characterReceived (dt : Nat) (n : Fin 16) (ch : Byte) (parityOk : Bool)
  /-- RECEIVE (R267): A read of the FSK receive object returns and removes up to 256 characters. -/
  | receive (dt : Nat) (m : Master) (n : Fin 16)
  /-- BLANKING_END (R271): An annunciator's blanking window ends and it enters ON. -/
  | blankingEnd (dt : Nat) (a : Fin 24)
  /-- HARD_SHORT (R270): V_DS exceeds the hard threshold for 200 ns and the gate is pulled low. -/
  | hardShort (dt : Nat) (a : Fin 24)
  /-- SOFT_OVERCURRENT (R270): V_DS exceeds the soft threshold for the soft filter time and the gate turns off. -/
  | softOvercurrent (dt : Nat) (a : Fin 24)
  /-- OPEN_LOAD (R270): ANnn_S stays below 1.0 V for 100 ms in the off state, and OPEN_LOAD is set. -/
  | openLoad (dt : Nat) (a : Fin 24) (mv : Nat)
  /-- RESTART_DELAY_EXPIRY (R271): An annunciator's restart delay expires and it leaves RESTART_WAIT by demand. -/
  | restartDelayExpiry (dt : Nat) (a : Fin 24)
  /-- FAILURE_COUNT_RESTART (R271): After 1 s in ON an annunciator's failure count restarts at 0. -/
  | failureCountRestart (dt : Nat) (a : Fin 24)
  /-- GROUP_RELEASE (R272): A write of 1 to 0x7100.22 releases a latched group into RESTARTING. -/
  | groupRelease (dt : Nat) (m : Master) (g : Fin 3) (val : Byte)
  /-- AUTOMATIC_RESTART (R272): The automatic restart time of a latched group expires and it enters RESTARTING. -/
  | automaticRestart (dt : Nat) (g : Fin 3)
  /-- RESTART_SLOT (R272): Each 1 ms slot of a restarting group releases its next latched output. -/
  | restartSlot (dt : Nat) (g : Fin 3)
  /-- ANNUNCIATOR_RELEASE (R271): A write of 1 to LATCHED in 0x7100.10 releases a latched annunciator. -/
  | annunciatorRelease (dt : Nat) (m : Master) (a : Fin 24) (val : BitVec 16)
  /-- ANNUNCIATOR_SUPPLY_LOW (R271): ANSg falls below 16 V and the group's annunciators enter SUPPLY_LOW. -/
  | annunciatorSupplyLow (dt : Nat) (g : Fin 3) (mv : Nat)
  /-- ANNUNCIATOR_SUPPLY_RESTORED (R271): ANSg rises above 17 V and the annunciators leave SUPPLY_LOW by demand. -/
  | annunciatorSupplyRestored (dt : Nat) (g : Fin 3) (mv : Nat)
  /-- LINK_UP (R285): A ring port's link comes up at 1000BASE-T or 100BASE-TX, and queued frames are sent. -/
  | linkUp (dt : Nat) (p : Fin 2) (gig : Bool) (lengthM : BitVec 16) (mdix : Bool) (phyMaster : Bool) (snr : BitVec 32)
  /-- LINK_LOST (R285): A ring port loses its partner's signal and returns to TRAINING. -/
  | linkLost (dt : Nat) (p : Fin 2)
  /-- TRAINING_TIMEOUT (R285): No link 3 s after entry to TRAINING; the port enters DOWN and drops its queue. -/
  | trainingTimeout (dt : Nat) (p : Fin 2)
  /-- FAILED_ATTEMPT (R284): No link 750 ms after resolving 1000BASE-T counts one failed attempt; three in a row fall back to 100BASE-TX. -/
  | failedAttempt (dt : Nat) (p : Fin 2)
  /-- MARGIN_LOW (R286): The SNR margin stays below 3 dB for 1 s, and MARGIN_LOW is set. -/
  | marginLow (dt : Nat) (p : Fin 2) (deciDb : Nat)
  /-- MARGIN_CLEAR (R286): The margin stays at 4 dB or above for 10 s, and MARGIN_LOW clears. -/
  | marginClear (dt : Nat) (p : Fin 2) (deciDb : Nat)
  /-- BYPASS_CHANGE_DONE (R288): A bypass opening or closing completes, and the ports enter TRAINING or DISABLED. -/
  | bypassChangeDone (dt : Nat)
  /-- BYPASS_FORCE_CLOSE (R291): A write of 1 to 0x3000.17 forces the bypass closed. -/
  | bypassForceClose (dt : Nat) (m : Master)
  /-- BYPASS_RELEASE (R291): A write of 2 to 0x3000.17 releases the force. -/
  | bypassRelease (dt : Nat) (m : Master)
  /-- RING_FRAME_RECEIVED (R292): A frame arrives at a ring port and is removed, taken, forwarded or dropped under HSR. -/
  | ringFrameReceived (dt : Nat) (p : Fin 2) (agoNs : Nat) (frame : List Byte)
  /-- HSR_SUPERVISION (R293): The supervision interval expires and the node sends an HSR supervision frame. -/
  | hsrSupervision (dt : Nat)
  /-- NODE_FORGET (R293): A node-table entry unheard for the node forget time is removed. -/
  | nodeForget (dt : Nat) (mac : BitVec 48)
  /-- RING_OPEN (R293): Supervision frames of a device arrive on one port only for three intervals, and RING_OPEN is set. -/
  | ringOpen (dt : Nat)
  /-- PTP_SYNC_RECEIVED (R299): A Sync copy arrives; the ordinary clock measures an offset on the selected port. -/
  | ptpSyncReceived (dt : Nat) (p : Fin 2) (gm : BitVec 64) (domain : Byte) (seq : BitVec 16) (twoStep : Bool) (origin : BitVec 64) (corr : Int) (agoNs : Nat) (resNs : Nat)
  /-- PTP_FOLLOW_UP_RECEIVED (R297): A Follow_Up arrives and completes a two-step Sync. -/
  | ptpFollowUpReceived (dt : Nat) (p : Fin 2) (gm : BitVec 64) (domain : Byte) (seq : BitVec 16) (origin : BitVec 64) (corr : Int)
  /-- PDELAY_REQ_SEND (R298): The Pdelay interval expires and each port sends a Pdelay_Req. -/
  | pdelayReqSend (dt : Nat)
  /-- PDELAY_REQ_RECEIVED (R298): A Pdelay_Req arrives and the port answers it. -/
  | pdelayReqReceived (dt : Nat) (p : Fin 2) (seq : BitVec 16) (agoNs : Nat)
  /-- PDELAY_RESP_RECEIVED (R298): A Pdelay_Resp or its follow-up arrives and the mean link delay is updated. -/
  | pdelayRespReceived (dt : Nat) (p : Fin 2) (seq : BitVec 16) (followUp : Bool) (twoStep : Bool) (ts : BitVec 64) (corr : Int) (agoNs : Nat)
  /-- ANNOUNCE_RECEIVED (R301): An Announce arrives and the best master clock algorithm runs. -/
  | announceReceived (dt : Nat) (p : Fin 2) (domain : Byte) (ann : Announce)
  /-- PTP_SYNC_SEND (R301): As grandmaster, the node sends Sync and Announce at their intervals. -/
  | ptpSyncSend (dt : Nat)
  /-- DICTIONARY_REQUEST (R307): A Woad dictionary request frame arrives and is queued for service as a ring master request. -/
  | dictionaryRequest (dt : Nat) (f : WoadIn)
  /-- PUBLICATION (R306): A publication frame arrives and updates points of source kind 6, once per key. -/
  | publication (dt : Nat) (f : WoadIn)
  /-- ALARM_EVENTS (R306): An alarm events frame arrives and feeds remote group members and area records. -/
  | alarmEvents (dt : Nat) (f : WoadIn)
  /-- HEARTBEAT (R311): A node heartbeat from another node arrives. -/
  | heartbeat (dt : Nat) (f : WoadIn)
  /-- NODE_HEARTBEAT_SEND (R311): The node heartbeat period expires and a node heartbeat is sent to all. -/
  | nodeHeartbeatSend (dt : Nat)
  /-- TWIN_RING_HEARTBEAT_SEND (R326): Every 100 µs, or 10 µs while the link is silent, a ring twin heartbeat is sent on the twin side. -/
  | twinRingHeartbeatSend (dt : Nat)
  /-- TWIN_RING_HEARTBEAT (R326): A ring twin heartbeat from the twin arrives. -/
  | twinRingHeartbeat (dt : Nat) (p : Fin 2) (src : Byte) (body : List Byte)
  /-- SNAPSHOT_MARKER_COMMAND (R316): METHOD 0 of 0x3000.18 sends a MARKER and takes the node's own snapshot. -/
  | snapshotMarkerCommand (dt : Nat) (m : Master) (flags : Byte) (fire : BitVec 64)
  /-- SNAPSHOT_SCHEDULED_COMMAND (R317): METHOD 1 of 0x3000.18 checks the lead and sends an ORDER with FIRE. -/
  | snapshotScheduledCommand (dt : Nat) (m : Master) (flags : Byte) (fire : BitVec 64)
  /-- MARKER (R316): The first copy of a MARKER arrives, and the node takes its snapshot at its ingress stamp. -/
  | marker (dt : Nat) (f : WoadIn)
  /-- ORDER (R317): The first copy of an ORDER arrives, and the node arms a timed broadcast or refuses. -/
  | order (dt : Nat) (f : WoadIn)
  /-- ACK (R319): A snapshot acknowledgement arrives at the initiator. -/
  | ack (dt : Nat) (f : WoadIn)
  /-- SNAPSHOT_COLLECTION_END (R319): The collection time ends and the initiator sets COMPLETE or PARTIAL. -/
  | snapshotCollectionEnd (dt : Nat)
  /-- VAT_FRAME (R313): A received vat frame fills a slot of each matching ring receive queue. -/
  | vatFrame (dt : Nat) (type : Byte) (f : WoadIn)
  /-- TWIN_LINK_HEARTBEAT_SEND (R326): Every 2 µs the node sends a twin-link heartbeat. -/
  | twinLinkHeartbeatSend (dt : Nat)
  /-- TWIN_LINK_HEARTBEAT (R326): A valid twin-link heartbeat arrives and updates the twin's health. -/
  | twinLinkHeartbeat (dt : Nat) (g : LinkMsg) (seenOwn : Bool) (seenForce : Bool)
  /-- TWIN_LINK_SILENT (R326): No valid twin-link heartbeat for 6 µs; the node sends a ring twin heartbeat with LINK_LOST at once. -/
  | twinLinkSilent (dt : Nat)
  /-- READINGS (R331): A Readings message arrives and fills the standby's input buffer. -/
  | readings (dt : Nat) (g : LinkMsg)
  /-- CLOSE (R331): A Close message arrives, and with its continuations the standby closes and evaluates the frame. -/
  | close (dt : Nat) (g : LinkMsg)
  /-- CLOSE_CONTINUATION (R325): A Close continuation message arrives with further commands of a frame. -/
  | closeContinuation (dt : Nat) (g : LinkMsg)
  /-- STATE (R335): A State message delivers a block of the owner's state image. -/
  | state (dt : Nat) (seq : BitVec 32) (crcOk : Bool) (blocks : List TwinBlock)
  /-- COMMAND (R333): A Command message from the standby is served on the owner, or its reply returns to the standby. -/
  | command (dt : Nat) (seq : BitVec 32) (crcOk : Bool) (cmd : LinkCommand)
  /-- COMMAND_REPLY_TIMEOUT (R333): The owner's reply does not come within 1 ms, and the standby answers 0x0608. -/
  | commandReplyTimeout (dt : Nat)
  /-- HANDOVER (R340): A Handover message agrees the close of a planned handover. -/
  | handover (dt : Nat) (seq : BitVec 32) (crcOk : Bool) (nh : BitVec 64) (kind : Byte) (ack : Bool)
  /-- DIGEST (R341): A digest message arrives and CONFIG_MATCH is set or cleared. -/
  | digest (dt : Nat) (seq : BitVec 32) (crcOk : Bool) (digest : BitVec 64)
  /-- DIGEST_SEND (R341): Every 1 s the node sends its configuration digest. -/
  | digestSend (dt : Nat)
  /-- STATE_TRANSFER_DONE (R335): The state image is loaded and the sync state enters REPLAY. -/
  | stateTransferDone (dt : Nat)
  /-- REPLAY_DONE (R335): Buffered frames are replayed up to the latest Close and the sync state enters SYNC. -/
  | replayDone (dt : Nat)
  /-- OWN_IN_FALL (R336): OWN_IN falls on a standby, which waits for the takeover conditions. -/
  | ownInFall (dt : Nat)
  /-- OWN_IN_RISE (R329): OWN_IN rises within 5 µs of claiming, and the node with the higher identity withdraws. -/
  | ownInRise (dt : Nat)
  /-- TAKEOVER (R337): A fit standby asserts OWN, enables its stages, enters ACTIVE and resends records after the last SENT. -/
  | takeover (dt : Nat)
  /-- TWIN_INTERLOCK_FAULT (R336): OWN_IN has been low for 10 µs while heartbeats show OWNING; OWN_LINE_OK clears. -/
  | twinInterlockFault (dt : Nat)
  /-- OWN_DROP (R328): An output-pipeline or ring-island heartbeat is missing for 5 µs and the ownership keeper drops OWN. -/
  | ownDrop (dt : Nat)
  /-- FORCE_ASSERT (R338): Both twin paths are silent for 50 µs with OWN_IN high, and the standby asserts FORCE_OUT. -/
  | forceAssert (dt : Nat)
  /-- FORCE_HOLD_END (R338): FORCE_OUT has been held for 5 µs and the node takes over with cause 0x22. -/
  | forceHoldEnd (dt : Nat)
  /-- FORCE_IN_RISE (R338): FORCE_IN rises; the node's stages lose their enable and it enters STANDBY with cause 0x26. -/
  | forceInRise (dt : Nat)
  /-- TAKEBACK_REQUEST (R343): A preferred standby has been fit for takeback for the hold time and requests takeback. -/
  | takebackRequest (dt : Nat)
  /-- LAKE_SELF_TEST (R344): The lake test interval expires in STANDBY and the next lake is taken out, tested and returned. -/
  | lakeSelfTest (dt : Nat)
  /-- OUTPUT_LOOPBACK (R278): The loopback interval expires in STANDBY and the next stage is looped back and checked. -/
  | outputLoopback (dt : Nat) (failed : Bool)
  /-- MEMORY_SCRUB_PASS (R344): A DRAM scrub pass is scheduled and runs through inline ECC. -/
  | memoryScrubPass (dt : Nat) (fixed : Nat) (bad : Nat)
  /-- INTERLOCK_LINE_TEST (R344): Every 1 s the node pulses FORCE_OUT and OWN_OUT for the twin to detect. -/
  | interlockLineTest (dt : Nat)
  /-- LINE_TEST_UNREPORTED (R344): A line test goes unreported for 3 s, and OWN_LINE_OK or FORCE_LINE_OK clears. -/
  | lineTestUnreported (dt : Nat)
  /-- CLONE (R346): A write of 1 to 0x2400.17 copies the twin's store and description over the link. -/
  | clone (dt : Nat) (m : Master)
  /-- CLONE_DONE (R346): The clone copy and its commit complete and 0x2400.18 is set. -/
  | cloneDone (dt : Nat) (ok : Bool) (objs : List (Nat × Nat)) (doms : List (Nat × List Byte)) (descr : List Byte)
  /-- PCIE_LINK_UP (R350): A root port links up and Sepia enumerates its drives. -/
  | pcieLinkUp (dt : Nat) (px : Fin 4) (speed : Byte) (width : Byte) (found : List Namespace)
  /-- PRESENCE_CHANGE (R349): Insertion or surprise removal is detected on a root port. -/
  | presenceChange (dt : Nat) (px : Fin 4) (present : Bool)
  /-- ADOPT (R353): Drive command 1 deallocates a BLANK or FOREIGN namespace and makes it a MEMBER. -/
  | adopt (dt : Nat) (m : Master)
  /-- PREPARE_REMOVAL (R353): Drive command 2 puts a MEMBER into REMOVING. -/
  | prepareRemoval (dt : Nat) (m : Master)
  /-- KEEP (R353): Drive command 3 returns a REMOVING drive to MEMBER. -/
  | keep (dt : Nat) (m : Master)
  /-- FORGET (R353): Drive command 4 frees an OFFLINE or FAILED slot. -/
  | forget (dt : Nat) (m : Master)
  /-- REMOVAL_READY (R353): A REMOVING member's segment is closed and flushed, and READY_TO_REMOVE is set. -/
  | removalReady (dt : Nat) (slot : Fin 32)
  /-- NVME_COMPLETION (R351): An NVMe command completes on a drive. -/
  | nvmeCompletion (dt : Nat) (slot : Fin 32) (fatal : Bool)
  /-- NVME_COMMAND_TIMEOUT (R353): An NVMe command times out after 1 s; three in a row make the drive FAILED. -/
  | nvmeCommandTimeout (dt : Nat) (slot : Fin 32)
  /-- SMART_READ (R351): Every 60 s Sepia reads the error and SMART logs. -/
  | smartRead (dt : Nat) (slot : Fin 32) (pct : Byte) (mediaErrors : BitVec 64) (readOnly : Bool)
  /-- ASYNCHRONOUS_EVENT (R351): A drive completes an Asynchronous Event Request. -/
  | asynchronousEvent (dt : Nat) (slot : Fin 32) (readOnly : Bool)
  /-- SEAL_AGE (R359): An open record's first entry passes the seal age and the record is sealed, coded and written. -/
  | sealAge (dt : Nat) (kind : Byte) (src : BitVec 16)
  /-- RECORD_WRITE_COMPLETE (R362): A record's write completes and its journal entry is appended to both index copies. -/
  | recordWriteComplete (dt : Nat) (slot : Fin 32)
  /-- INDEX_CHECKPOINT (R362): Every 1 s Sepia writes changed tree nodes and a new superblock. -/
  | indexCheckpoint (dt : Nat)
  /-- INDEX_REBUILD_DONE (R363): An index rebuild or copy rebuild completes. -/
  | indexRebuildDone (dt : Nat)
  /-- ARCHIVE_READ_DONE (R367): An archive read result is written to the buffer and the descriptor completes. -/
  | archiveReadDone (dt : Nat) (q : Fin 8192)
  /-- QUERY (R366): A write of 0x8000.30 runs a time query for the master's data port. -/
  | query (dt : Nat) (m : Master) (kind : Byte) (flags : Byte) (src : BitVec 16) (from_ : BitVec 64) (to_ : BitVec 64)
  /-- QUERY_READY (R366): The query result is ready and 0x8000.32 is set. -/
  | queryReady (dt : Nat) (m : Master)
  /-- THINNING_SEGMENT (R368): A stream segment older than the horizon is rewritten thinned and the old segment deallocated. -/
  | thinningSegment (dt : Nat)
  /-- CAN_FRAME_RECEIVED (R378): A CAN frame is received and goes to dictionary service, value slots and receive queues. -/
  | canFrameReceived (dt : Nat) (n : Fin 4) (ident : BitVec 32) (fdf : Bool) (brs : Bool) (esi : Bool) (data : List Byte) (agoNs : Nat)
  /-- CAN_INTEGRATION (R376): A controller sees 11 consecutive recessive bits and enters ERROR_ACTIVE or LISTEN. -/
  | canIntegration (dt : Nat) (n : Fin 4)
  /-- BUS_OFF_RECOVERY (R376): 128 occurrences of 11 recessive bits end BUS_OFF. -/
  | busOffRecovery (dt : Nat) (n : Fin 4)
  /-- CAN_ERROR (R377): A bus error updates TEC or REC, moving the controller to ERROR_PASSIVE or BUS_OFF. -/
  | canError (dt : Nat) (n : Fin 4) (kind : Fin 8) (tx : Bool) (step : Fin 9)
  /-- CAN_FRAME_SENT (R380): A send's frame is acknowledged, or its attempt fails, and the send completes. -/
  | canFrameSent (dt : Nat) (n : Fin 4) (acked : Bool)
  /-- SLEEP (R383): A write of 1 to .15 puts the controller to sleep after the frame in progress. -/
  | sleep (dt : Nat) (m : Master)
  /-- WAKE (R383): A write of 2 to .15 wakes the controller. -/
  | wake (dt : Nat) (m : Master)
  /-- DOMINANT_WAKE (R383): In wake mode 0, CANn_RXD stays low for 5 µs and the controller wakes. -/
  | dominantWake (dt : Nat) (n : Fin 4)
  /-- RECOVER (R376): A write of 1 to .1A starts recovery from BUS_OFF. -/
  | recover (dt : Nat) (m : Master)
  /-- INIT_READ (R385): A CAN INIT_READ frame starts a dictionary read session. -/
  | initRead (dt : Nat) (n : Fin 4) (f64 : Bool) (toggle : Bool) (idx : BitVec 16) (sub : Byte)
  /-- INIT_WRITE (R385): A CAN INIT_WRITE frame starts a dictionary write session. -/
  | initWrite (dt : Nat) (n : Fin 4) (f64 : Bool) (toggle : Bool) (idx : BitVec 16) (sub : Byte) (len : BitVec 16) (bytes : List Byte)
  /-- INFO (R385): A CAN INFO frame requests an object information record. -/
  | info (dt : Nat) (n : Fin 4) (f64 : Bool) (toggle : Bool) (idx : BitVec 16) (sub : Byte)
  /-- SEGMENT (R385): A CAN SEGMENT frame carries or requests the next part of a session. -/
  | segment (dt : Nat) (n : Fin 4) (f64 : Bool) (toggle : Bool) (bytes : List Byte)
  /-- ABORT (R385): A CAN ABORT frame ends the session. -/
  | abort (dt : Nat) (n : Fin 4) (code : BitVec 16)
  /-- SESSION_TIMEOUT (R386): A CAN dictionary session has no request for 100 ms and is aborted with 0x0608. -/
  | sessionTimeout (dt : Nat) (n : Fin 4)
  /-- UPDATE_REQUEST (R399): A write of 0x7400.12 requests an update of one rectangle and starts its copy. -/
  | updateRequest (dt : Nat) (m : Master) (record : BitVec 128)
  /-- COPY_DONE (R400): A rectangle's copy and CRC end, and rails are raised if they are OFF. -/
  | copyDone (dt : Nat)
  /-- PANEL_CHECKS (R402): 1 ms before a boundary, the crack loop and staged CRCs are checked. -/
  | panelChecks (dt : Nat) (milliohm : Option Nat) (crcBad : List Nat)
  /-- PANEL_FRAME_BOUNDARY (R401): A panel frame boundary starts ready rectangles, drives one phase per scan and completes finished rectangles. -/
  | panelFrameBoundary (dt : Nat)
  /-- RAIL_STEP (R392): The rail step delay expires and the next rail enable is driven or released. -/
  | railStep (dt : Nat) (b0 : Nat) (b1 : Nat) (b2 : Nat) (b3 : Nat)
  /-- RAIL_FAULT (R393): A monitored rail misses its window, and the rails enter FAULT and the discharge sequence runs. -/
  | railFault (dt : Nat) (rail : Fin 4) (ballUv : Nat)
  /-- RAIL_IDLE (R392): No rectangle has been in flight for the idle time, and the rails fall. -/
  | railIdle (dt : Nat)
  /-- RAIL_COMMAND (R393): A write of 1 to 0x7400.1E clears FAULT. -/
  | railCommand (dt : Nat) (m : Master)
  /-- DISCHARGE_END (R405): The discharge sequence ends and the rail state becomes OFF or FAULT. -/
  | dischargeEnd (dt : Nat)
  /-- FAULT_MESSAGE (R415): A fault message arrives, is stamped, logged, counted, captured, published and may trigger its reaction. -/
  | faultMessage (dt : Nat) (src : BitVec 12) (hw : Option HwFault)
  /-- BUCKET_BOUNDARY (R416): At a bucket boundary a SEVERE pair's buckets shift, and it may return to MINOR. -/
  | bucketBoundary (dt : Nat)
  /-- CLEAR_LATCH (R416): A write of 1 to 0x2200.0A releases a latched pair. -/
  | clearLatch (dt : Nat) (m : Master) (val : Byte)
  /-- RAISE (R424): A write of 0x2200.0C raises a master's own fault message. -/
  | raise (dt : Nat) (m : Master) (data : BitVec 64)
  /-- CLEAR_NODE_CAPTURE (R421): A write of 1 to 0x2200.12 clears the node capture. -/
  | clearNodeCapture (dt : Nat) (m : Master) (val : Byte)
  /-- CLEAR_VAT_CAPTURE (R421): A write of v to 0x2200.30 clears the capture of Vv. -/
  | clearVatCapture (dt : Nat) (m : Master) (val : Byte)
  /-- ISOLATION_RELEASE (R419): A write of 0x2200.13 releases an isolated block. -/
  | isolationRelease (dt : Nat) (m : Master) (src : BitVec 16)
  /-- KIND_RULE_WRITE (R414): A write of 0x2200.02 changes a kind's rule at the end of the service cycle. -/
  | kindRuleWrite (dt : Nat) (m : Master) (rule : BitVec 64)
  /-- OVERRIDE_COUNT_WRITE (R414): A write of 0x2200.04 checks and brings override entries into force. -/
  | overrideCountWrite (dt : Nat) (m : Master) (count : BitVec 16)
  /-- FAULT_FRAME_SEND (R423): At most once per millisecond a fault frame is published from the publication queue. -/
  | faultFrameSend (dt : Nat)
  /-- EXTEND (R437): A write of 0x2300.05 extends register 22 or 23 and logs the entry. -/
  | extend (dt : Nat) (m : Master) (data : List Byte)
  /-- QUOTE_REQUEST (R438): A write of 0x2300.02 requests a signed quote of the selected registers. -/
  | quoteRequest (dt : Nat) (m : Master) (data : List Byte)
  /-- QUOTE_READY (R439): Cinnabar finishes taking and signing a quote. -/
  | quoteReady (dt : Nat)
  /-- LOADER_RETRY (R430): With no intact loader slot, the Boot ROM tries both slots again every 1 s. -/
  | loaderRetry (dt : Nat)
  /-- INVENTORY (R441): The tag answers an ISO/IEC 15693 Inventory. -/
  | inventory (dt : Nat) (afi : Option Byte) (maskLen : Nat) (mask : BitVec 64) (slots : Bool)
  /-- STAY_QUIET (R441): The tag enters the quiet state. -/
  | stayQuiet (dt : Nat) (uid : BitVec 64)
  /-- SELECT (R441): The tag enters the selected state. -/
  | select (dt : Nat) (uid : BitVec 64)
  /-- RESET_TO_READY (R441): The tag returns to the ready state. -/
  | resetToReady (dt : Nat) (addr : TagAddr)
  /-- GET_SYSTEM_INFORMATION (R441): The tag reports its system information. -/
  | getSystemInformation (dt : Nat) (addr : TagAddr)
  /-- EXTENDED_GET_SYSTEM_INFORMATION (R441): The tag reports its extended system information with 2,048 blocks. -/
  | extendedGetSystemInformation (dt : Nat) (addr : TagAddr)
  /-- EXTENDED_READ_SINGLE_BLOCK (R444): The tag reads one block, or answers busy if the page is held. -/
  | extendedReadSingleBlock (dt : Nat) (addr : TagAddr) (sec : Bool) (block : BitVec 16)
  /-- EXTENDED_WRITE_SINGLE_BLOCK (R442): The tag writes one block where the page allows, or refuses it. -/
  | extendedWriteSingleBlock (dt : Nat) (addr : TagAddr) (block : BitVec 16) (data : BitVec 32)
  /-- EXTENDED_READ_MULTIPLE_BLOCKS (R444): The tag reads up to 64 blocks within one page. -/
  | extendedReadMultipleBlocks (dt : Nat) (addr : TagAddr) (sec : Bool) (block : BitVec 16) (count : BitVec 16)
  /-- UNSUPPORTED_TAG_COMMAND (R441): Any other tag command gets an error response with code 0x01. -/
  | unsupportedTagCommand (dt : Nat) (addr : TagAddr)
  /-- TAG_PAGE_WRITE (R444): A wired write of 0x3700.02 writes a whole tag page, or is refused while the field holds it. -/
  | tagPageWrite (dt : Nat) (m : Master) (data : List Byte)
  /-- NRESET_IN_HIGH (R45): NRESET_IN rises while the node is held in reset, and release falls due 1 ms later. -/
  | nresetInHigh (dt : Nat)
  /-- FORCE_IN_FALL (R336): FORCE_IN falls past its filter, lifting the bar on takeover and on stage enables. -/
  | forceInFall (dt : Nat)
  /-- TWIN_LINK_UP (R335): The twin link completes training and a lane comes up, setting LINK_UP, 0x2400.09 and sending a standby's sync state to TRANSFER. -/
  | twinLinkUp (dt : Nat) (lanes : Fin 3)
  /-- TWIN_LINK_LANE_LOST (R325): A twin-link lane fails and traffic runs on the other lane at half rate, or the link goes down, updating 0x2400.09, LINK_UP and TWIN_ACT_N. -/
  | twinLinkLaneLost (dt : Nat)
  /-- TWIN_DET_N_CHANGE (R449): TWIN_DET_N changes level, and the node starts or stops training the twin link. -/
  | twinDetNChange (dt : Nat) (high : Bool)
  /-- CARRIER_CHANGE (R267): The received FSK signal crosses the detection threshold and CARRIER is set or cleared. -/
  | carrierChange (dt : Nat) (n : Fin 16) (mvpp : Nat)
  /-- FIELD_PRESENT_CHANGE (R441): A reader's field appears at or leaves the tag antenna, powering the tag and changing 0x3700.04. -/
  | fieldPresentChange (dt : Nat) (on : Bool)
deriving DecidableEq, Repr

end Sys2Proof
end

