-- ==== Sys2Proof/Machine/Num.lean ====
section
/-!
DEFINITION. Machine/Num.lean: bit fields, little-endian byte strings, two's complement, the
IEEE 754 formats of Table 4-2 as exact rationals plus one rounding, and the square root and
logarithm that R143 and R144 compute in F64.

An F32 or F64 is held as its bit pattern, a natural number (R72). Arithmetic is done on rationals
and rounded to nearest, ties to even, after each operation the pseudocode writes (R7).
-/
namespace Sys2Proof.Machine

/-! ## Bit fields -/

/-- Bits `hi .. lo` of `v`, right-aligned. -/
def bits (v hi lo : Nat) : Nat := (v >>> lo) % 2 ^ (hi + 1 - lo)

/-- Bit `i` of `v` as a truth value. -/
def bit (v i : Nat) : Bool := v.testBit i

/-- 1 for true, 0 for false: the encoding of BOOL (R72). -/
def b2n (b : Bool) : Nat := if b then 1 else 0

/-- `v` with bit `i` set to `b`. -/
def setBit (v i : Nat) (b : Bool) : Nat :=
  if b then v ||| 2 ^ i else v - v % 2 ^ (i + 1) + v % 2 ^ i

/-- `v` with bits `hi .. lo` replaced by the low bits of `x`. -/
def setBits (v hi lo x : Nat) : Nat :=
  v - (bits v hi lo) * 2 ^ lo + (x % 2 ^ (hi + 1 - lo)) * 2 ^ lo

/-- `a` with every bit of `m` cleared (a write of 1s to W1C bits). -/
def clearBits (a m : Nat) : Nat := a ^^^ (a &&& m)

/-- The numbers below `w` whose bit is set in `m`, ascending. -/
def bitList (m w : Nat) : List Nat := (List.range w).filter (fun i => m.testBit i)

/-- A saturating sum: an object of maximum `top` never wraps. -/
def satAdd (top a b : Nat) : Nat := min (a + b) top

/-! ## Byte strings, little-endian (R4) -/

/-- The `k` bytes of `v`, least significant first. -/
def toLE : Nat → Nat → List Byte
  | 0, _ => []
  | k + 1, v => BitVec.ofNat 8 v :: toLE k (v / 256)

/-- The number a byte string spells, least significant byte first. -/
def ofLE : List Byte → Nat
  | [] => 0
  | b :: bs => b.toNat + 256 * ofLE bs

/-- The `k` bytes of `v`, most significant first (network order, R4; Cinnabar's big-endian fields). -/
def toBE (k v : Nat) : List Byte := (toLE k v).reverse

/-- The number a big-endian byte string spells. -/
def ofBE (bs : List Byte) : Nat := ofLE bs.reverse

/-- `len` bytes of `bs` from offset `off`; short when `bs` ends earlier. -/
def slice (bs : List Byte) (off len : Nat) : List Byte := (bs.drop off).take len

/-- The unsigned little-endian field of `len` bytes at offset `off`. -/
def fieldLE (bs : List Byte) (off len : Nat) : Nat := ofLE (slice bs off len)

/-- The big-endian number at an offset. -/
def fieldBE (bs : List Byte) (off len : Nat) : Nat := ofBE (slice bs off len)

/-- Zero bytes. -/
def zeros (k : Nat) : List Byte := List.replicate k 0

/-- `bs` cut or zero-padded to exactly `k` bytes. -/
def padTo (k : Nat) (bs : List Byte) : List Byte := (bs ++ zeros (k - bs.length)).take k

/-- `bs` with the bytes at `off` replaced by `xs`, extended with zeros when it is too short. -/
def spliceAt (bs : List Byte) (off : Nat) (xs : List Byte) : List Byte :=
  padTo off bs ++ xs ++ bs.drop (off + xs.length)

/-! ## Two's complement (R72) -/

/-- The signed value of a `w`-bit pattern. -/
def toI (w v : Nat) : Int :=
  if 2 ^ (w - 1) ≤ v % 2 ^ w then (v % 2 ^ w : Nat) - (2 ^ w : Nat) else (v % 2 ^ w : Nat)

/-- The `w`-bit pattern of a signed value, wrapping. -/
def ofI (w : Nat) (i : Int) : Nat := (i % ((2 ^ w : Nat) : Int)).toNat

/-- A signed value saturated to `w` bits, as a pattern. -/
def satI (w : Nat) (i : Int) : Nat :=
  ofI w (max (-((2 ^ (w - 1) : Nat) : Int)) (min i (((2 ^ (w - 1) : Nat) : Int) - 1)))

/-! ## Rationals -/

/-- `2 ^ e` for a signed exponent. -/
def pow2 (e : Int) : Rat :=
  if 0 ≤ e then ((2 ^ e.toNat : Nat) : Rat) else 1 / ((2 ^ (-e).toNat : Nat) : Rat)

/-- Absolute value. -/
def rabs (q : Rat) : Rat := if q < 0 then -q else q

/-- Larger and smaller of two rationals. -/
def rmax (a b : Rat) : Rat := if a < b then b else a
def rmin (a b : Rat) : Rat := if b < a then b else a

/-- `q` held within `lo .. hi`. -/
def rclamp (q lo hi : Rat) : Rat := if q < lo then lo else if hi < q then hi else q

/-- The integer nearest to `q`, ties to even. -/
def roundEven (q : Rat) : Int :=
  let f := q.floor
  let r := q - f
  if r < (1 : Rat) / 2 then f
  else if (1 : Rat) / 2 < r then f + 1
  else if f % 2 = 0 then f else f + 1

/-- The integer nearest to `q`, ties away from zero. -/
def roundNear (q : Rat) : Int :=
  if q < 0 then -((-q + (1 : Rat) / 2).floor) else (q + (1 : Rat) / 2).floor

/-- A natural-number quotient as a rational. -/
def ratio (a b : Nat) : Rat := (a : Rat) / (b : Rat)

/-! ## IEEE 754 (R72): `eb` exponent bits and `mb` fraction bits -/

/-- The exponent of the greatest power of two at or below the positive rational `a`. -/
def ilog2 (a : Rat) : Int :=
  let k : Int := (Nat.log2 a.num.natAbs : Int) - (Nat.log2 a.den : Int)
  if pow2 k ≤ a then k else k - 1

/-- The pattern of `q` rounded to nearest, ties to even; beyond the largest finite number, infinity. -/
def fEnc (eb mb : Nat) (q : Rat) : Nat :=
  if q = 0 then 0 else
  let a := rabs q
  let emin : Int := 2 - ((2 ^ (eb - 1) : Nat) : Int)
  let e := max (ilog2 a) emin
  let m := (roundEven (a / pow2 (e - mb))).toNat
  let body := min ((e - emin).toNat * 2 ^ mb + m) ((2 ^ eb - 1) * 2 ^ mb)
  if q < 0 then body + 2 ^ (eb + mb) else body

/-- The biased exponent and the fraction of a pattern. -/
def fExp (eb mb v : Nat) : Nat := (v / 2 ^ mb) % 2 ^ eb
def fFrac (mb v : Nat) : Nat := v % 2 ^ mb

/-- Neither a NaN nor an infinity. -/
def fFinite (eb mb v : Nat) : Bool := fExp eb mb v != 2 ^ eb - 1
def fNaN (eb mb v : Nat) : Bool := !(fFinite eb mb v) && fFrac mb v != 0
def fInf (eb mb v : Nat) : Bool := !(fFinite eb mb v) && fFrac mb v == 0

/-- The rational a finite pattern stands for; 0 for a NaN or an infinity. -/
def fDec (eb mb v : Nat) : Rat :=
  if fFinite eb mb v then
    let bias : Int := ((2 ^ (eb - 1) : Nat) : Int) - 1
    let e := fExp eb mb v
    let q : Rat :=
      if e = 0 then (fFrac mb v : Rat) * pow2 (1 - bias - mb)
      else ((2 ^ mb + fFrac mb v : Nat) : Rat) * pow2 ((e : Int) - bias - mb)
    if (v / 2 ^ (eb + mb)) % 2 = 1 then -q else q
  else 0

/-- F32 of a rational, and the rational of an F32. -/
def r32 (q : Rat) : Nat := fEnc 8 23 q
def q32 (v : Nat) : Rat := fDec 8 23 v
/-- F64 of a rational, and the rational of an F64. -/
def r64 (q : Rat) : Nat := fEnc 11 52 q
def q64 (v : Nat) : Rat := fDec 11 52 v
/-- A rational rounded to the nearest F64, or F32, as a rational again. -/
def rnd64 (q : Rat) : Rat := q64 (r64 q)
def rnd32 (q : Rat) : Rat := q32 (r32 q)

def nan32 (v : Nat) : Bool := fNaN 8 23 v
def inf32 (v : Nat) : Bool := fInf 8 23 v
/-- A finite F32. -/
def fin32 (v : Nat) : Bool := fFinite 8 23 v
/-- The NaN this model writes where an object reads NaN (the spec fixes no payload; log 12). -/
def nanBits : Nat := 0x7FC00000

/-! ## Square root and logarithm, for R143 and R144 -/

/-- The integer square root by bisection of bits, from bit `k` down. -/
def isqrtFrom : Nat → Nat → Nat → Nat
  | 0, _, acc => acc
  | k + 1, n, acc =>
    let c := acc + 2 ^ k
    isqrtFrom k n (if c * c ≤ n then c else acc)

/-- The greatest natural number whose square is at most `n`. -/
def isqrt (n : Nat) : Nat := isqrtFrom (Nat.log2 n / 2 + 1) n 0

/-- The square root of a non-negative rational, rounded once to F64. -/
def sqrt64 (q : Rat) : Rat :=
  if q ≤ 0 then 0 else
  let n := (q * pow2 240).floor.toNat
  let s := isqrt n
  let sticky : Nat := if s * s = n then 0 else 1
  rnd64 (((2 * s + sticky : Nat) : Rat) * pow2 (-121))

/-- The tail of the series `2 (z + z^3/3 + z^5/5 + …)`, in units of `2^-96`. -/
def atanhSeries : Nat → Nat → Int → Int → Int
  | 0, _, _, _ => 0
  | k + 1, odd, term, zz =>
    2 * term / (odd : Int) + atanhSeries k (odd + 2) (term * zz / ((2 ^ 96 : Nat) : Int)) zz

/-- The natural logarithm of a positive rational, to about 90 bits, rounded to F64. -/
def ln64 (q : Rat) : Rat :=
  if q ≤ 0 then 0 else
  let k := ilog2 q
  let m := q * pow2 (-k)
  let lnOf (x : Rat) : Int :=
    let z := (((x - 1) / (x + 1)) * pow2 96).floor
    atanhSeries 60 1 z (z * z / ((2 ^ 96 : Nat) : Int))
  rnd64 (((lnOf m + k * lnOf 2 : Int) : Rat) * pow2 (-96))

/-! ## CRC-32 per IEEE 802.3, used by R88, R102, R402 and the archive -/

/-- One bit of the reflected CRC-32 register. -/
def crcBit (c : Nat) : Nat := if c % 2 = 1 then (c / 2) ^^^ 0xEDB88320 else c / 2

/-- The register after one byte. -/
def crcByte (c : Nat) (b : Byte) : Nat :=
  crcBit (crcBit (crcBit (crcBit (crcBit (crcBit (crcBit (crcBit (c ^^^ b.toNat))))))))

/-- CRC-32 of a byte string. -/
def crc32 (bs : List Byte) : Nat := (bs.foldl crcByte 0xFFFFFFFF) ^^^ 0xFFFFFFFF

/-! ## Sorted association lists: the one form of every sparse map of the model -/

/-- The value at key `k`, or `d` when the map lists none. -/
def mapGet {α : Type} (m : List (Nat × α)) (k : Nat) (d : α) : α :=
  match m with
  | [] => d
  | (j, v) :: r => if j = k then v else mapGet r k d

/-- Every entry but that of `k`. -/
def mapErase {α : Type} (m : List (Nat × α)) (k : Nat) : List (Nat × α) :=
  match m with
  | [] => []
  | (j, v) :: r => if j = k then mapErase r k else (j, v) :: mapErase r k

/-- `(k, v)` put before the first greater key. -/
def mapInsert {α : Type} (m : List (Nat × α)) (k : Nat) (v : α) : List (Nat × α) :=
  match m with
  | [] => [(k, v)]
  | (j, w) :: r => if k < j then (k, v) :: (j, w) :: r else (j, w) :: mapInsert r k v

/-- The map with `v` at key `k`. -/
def mapPut {α : Type} (m : List (Nat × α)) (k : Nat) (v : α) : List (Nat × α) :=
  mapInsert (mapErase m k) k v

/-- Keys strictly rising. -/
def mapSorted {α : Type} : List (Nat × α) → Bool
  | [] => true
  | [_] => true
  | (j, _) :: (k, w) :: r => j < k && mapSorted ((k, w) :: r)

end Sys2Proof.Machine
end

