-- ==== Sys2Proof/Machine/ObjTable.lean ====
section
/-!
DEFINITION. Machine/ObjTable.lean: the object dictionary's attributes (R70 to R74, R78): one table for
each object table of the spec, in the columns Type, Access, Default, Kept and the value range its
Meaning column gives. Objects repeated per channel (R78, Table 4-6) share one table under their
first index; `canonIdx` finds it. Where a default cell is a dash the value 0 stands: such an object is
write-only, or is read through `liveRead` and never through its default.
-/
namespace Sys2Proof.Machine

/-- The types of Table 4-2; sizes in bytes. -/
inductive Ty where
  | bool
  | u (size : Nat)
  | i (size : Nat)
  | f32
  | f64
  | time
  | str (len : Nat)
  | oct (len : Nat)
  | domain (max : Nat)
deriving DecidableEq, Repr

/-- The access classes of Table 4-3. -/
inductive Acc where
  | ro | rw | wo | rwc | const
deriving DecidableEq, Repr

/-- The value range an object's Meaning column states (R5, R76 step 6). -/
inductive Rng where
  | any
  | btw (lo hi : Nat)
  | sbtw (lo hi : Int)
  | zob (lo hi : Nat)
  | one (vs : List Nat)
  | mask (m : Nat)
  | step (lo hi k : Nat)
  | zstep (lo hi k : Nat)
  | oroff (lo hi off : Nat)
  | pow2 (lo hi : Nat) (zero : Bool)
  | fbtw (lo hi : Rat)
  | f0or (lo hi : Rat)
  | fge0
  | fne0
  | etype
  | prio

/-- One row of an object table. -/
structure Row where
  sub : Nat
  ty : Ty
  acc : Acc
  dflt : Nat
  kept : Bool
  rng : Rng
  nan : Bool

/-- Table 4-2: size in bytes of a value; a DOMAIN has none. -/
def Ty.size : Ty → Nat
  | .bool => 1
  | .u n => n
  | .i n => n
  | .f32 => 4
  | .f64 => 8
  | .time => 8
  | .str n => n
  | .oct n => n
  | .domain _ => 0

/-- Table 4-2: the type code. -/
def Ty.code : Ty → Nat
  | .bool => 1
  | .u 1 => 2
  | .u 2 => 3
  | .u 4 => 4
  | .u _ => 5
  | .i 1 => 6
  | .i 2 => 7
  | .i 4 => 8
  | .i _ => 9
  | .f32 => 10
  | .f64 => 11
  | .time => 12
  | .str _ => 13
  | .oct _ => 14
  | .domain _ => 15

/-- Table 4-5: the MAXLEN field. -/
def Ty.maxLen : Ty → Nat
  | .domain m => m
  | t => t.size

/-- Table 4-5: the ACCESS field. -/
def Acc.code : Acc → Nat
  | .ro => 0
  | .rw => 1
  | .wo => 2
  | .rwc => 3
  | .const => 4

/-- Does value `v` of type `t` lie in the range? `v` is the little-endian number of its bytes. -/
def Rng.ok (t : Ty) (v : Nat) : Rng → Bool
  | .any => true
  | .btw lo hi => lo ≤ v && v ≤ hi
  | .sbtw lo hi => lo ≤ toI (8 * t.size) v && toI (8 * t.size) v ≤ hi
  | .zob lo hi => v == 0 || (lo ≤ v && v ≤ hi)
  | .one vs => vs.contains v
  | .mask m => v &&& m == v
  | .step lo hi k => lo ≤ v && v ≤ hi && (v - lo) % k == 0
  | .zstep lo hi k => v == 0 || (lo ≤ v && v ≤ hi && v % k == 0)
  | .oroff lo hi off => v == off || (lo ≤ v && v ≤ hi)
  | .pow2 lo hi z => (z && v == 0) || (lo ≤ v && v ≤ hi && v == 2 ^ Nat.log2 v)
  | .fbtw lo hi => fin32 v && lo ≤ q32 v && q32 v ≤ hi
  | .f0or lo hi => fin32 v && (q32 v == 0 || (lo ≤ q32 v && q32 v ≤ hi))
  | .fge0 => fin32 v && (0 : Rat) ≤ q32 v
  | .fne0 => fin32 v && q32 v != 0
  | .etype => 0x0600 ≤ v && v ≤ 0xFFFF && !([0x0800, 0x86DD, 0x88F7, 0x88FB, 0x892F].contains v)
  | .prio => v < 0x8000 && bits v 2 0 ≤ 4 && bits v 5 3 ≤ 4 && bits v 8 6 ≤ 4 && bits v 11 9 ≤ 4 && bits v 14 12 ≤ 4

/-- R383, Table 13-6: an unused value slot has CONTROLLER 0xFF and every other byte 0. -/
def slotDefault : Nat := 0xFF <<< 0
/-- Table 13-5: 64 receive filters, each with DISABLE set in its identifier word. -/
def filtersDefault : Nat := ofLE ((List.replicate 64 (toLE 8 0x80000000)).flatten)


/-- Table 4-7, Identity objects (04_object_dictionary.md). -/
def tab1000 : List Row := [
  ⟨0x01, .str 8, .const, 0x6f6c6f726f4b, false, .any, false⟩, -- Vendor
  ⟨0x02, .str 8, .const, 0x303231394e4a48, false, .any, false⟩, -- Part
  ⟨0x03, .str 4, .const, 0x3142, false, .any, false⟩, -- Stepping
  ⟨0x04, .oct 16, .const, 0, false, .any, false⟩, -- Serial number
  ⟨0x05, .u 4, .ro, 0, false, .any, false⟩, -- Keeper firmware version
  ⟨0x06, .u 1, .ro, 0, false, .any, false⟩, -- Node identity
  ⟨0x07, .u 2, .const, 1, false, .any, false⟩ -- Dictionary layout
]

/-- Table 2-2, Mode objects (02_modes_power_and_reset.md). -/
def tab1010 : List Row := [
  ⟨0x01, .u 1, .ro, 2, false, .any, false⟩, -- Current mode
  ⟨0x02, .u 1, .rw, 0, false, .one [3, 4, 5, 7], false⟩, -- Requested mode
  ⟨0x03, .u 1, .ro, 0, false, .any, false⟩, -- Mode cause
  ⟨0x04, .u 4, .ro, 0, false, .any, false⟩, -- Stopped functions
  ⟨0x05, .bool, .rw, 0, false, .any, false⟩, -- Calls in COMMISSION
  ⟨0x06, .u 4, .wo, 0, false, .any, false⟩, -- Reset command
  ⟨0x07, .time, .ro, 0, false, .any, false⟩, -- Mode entry time
  ⟨0x08, .bool, .ro, 0, false, .any, false⟩, -- SAFE pending
  ⟨0x09, .u 4, .ro, 0, false, .any, false⟩ -- Dropped mode requests
]

/-- Table 4-12, Persistent store objects (04_object_dictionary.md). -/
def tab1020 : List Row := [
  ⟨0x01, .u 4, .wo, 0, false, .any, false⟩, -- Store command
  ⟨0x02, .u 4, .ro, 0, false, .any, false⟩, -- Store status
  ⟨0x03, .u 4, .ro, 0, false, .any, false⟩, -- Committed sequence
  ⟨0x04, .time, .ro, 0, false, .any, false⟩, -- Last commit time
  ⟨0x05, .u 4, .ro, 0, false, .any, false⟩, -- Image length
  ⟨0x06, .bool, .ro, 0, false, .any, false⟩, -- Uncommitted writes
  ⟨0x07, .u 4, .ro, 0, false, .any, false⟩, -- Recovered sectors
  ⟨0x08, .u 2, .ro, 0, false, .any, false⟩, -- Retired sectors
  ⟨0x09, .u 2, .ro, 222, false, .any, false⟩ -- Spares left
]

/-- Table 4-20, Configuration description objects (04_object_dictionary.md). -/
def tab1030 : List Row := [
  ⟨0x01, .domain 4194304, .rwc, 0, false, .any, false⟩, -- Description
  ⟨0x02, .u 1, .wo, 0, false, .one [1], false⟩, -- Apply
  ⟨0x03, .u 2, .ro, 0, false, .any, false⟩, -- Apply result
  ⟨0x04, .u 4, .ro, 0, false, .any, false⟩, -- Failing line
  ⟨0x05, .u 4, .ro, 0, false, .any, false⟩ -- Entries applied
]

/-- Table 16-6, Image objects, 0x1040 (16_cinnabar_trust_and_tag.md). -/
def tab1040 : List Row := [
  ⟨0x01, .u 1, .rw, 0, false, .any, false⟩, -- Image select
  ⟨0x02, .u 1, .rw, 0, false, .btw 0 1, false⟩, -- Slot select
  ⟨0x03, .domain 16777216, .rw, 0, false, .any, false⟩, -- Slot image
  ⟨0x04, .u 1, .rwc, 0, true, .btw 0 1, false⟩, -- Keeper active slot
  ⟨0x05, .oct 48, .ro, 0, false, .any, false⟩, -- Slot digest
  ⟨0x06, .u 1, .ro, 0, false, .any, false⟩ -- Slot state
]

/-- Table 3-6, Time objects (03_islands_clocks_and_time.md). -/
def tab1100 : List Row := [
  ⟨0x01, .time, .ro, 0, false, .any, false⟩, -- TAI now
  ⟨0x02, .i 2, .rw, 37, true, .sbtw (0) 1000, false⟩, -- Leap offset
  ⟨0x03, .u 1, .ro, 0, false, .any, false⟩, -- Time state
  ⟨0x04, .i 8, .ro, 0, false, .any, false⟩, -- PTP offset
  ⟨0x05, .i 4, .ro, 0, false, .any, false⟩, -- Rate adjustment
  ⟨0x06, .u 4, .rw, 0x3e8, true, .btw 1 1000000, false⟩, -- Step threshold
  ⟨0x07, .u 2, .rw, 100, true, .btw 1 500, false⟩, -- Maximum slew
  ⟨0x08, .u 1, .wo, 0, false, .one [1], false⟩, -- Capture command
  ⟨0x09, .u 4, .rw, 0xe10, true, .btw 10 86400, false⟩, -- Holdover limit
  ⟨0x0A, .u 4, .ro, 0, false, .any, false⟩, -- Step count
  ⟨0x0B, .time, .ro, 0, false, .any, false⟩, -- Captured TAI
  ⟨0x0C, .u 8, .ro, 0, false, .any, false⟩, -- Captured RTC
  ⟨0x0D, .u 4, .ro, 0, false, .any, false⟩, -- Captured UTC date
  ⟨0x0E, .u 8, .ro, 0, false, .any, false⟩ -- Captured UTC time
]

/-- Table 3-7, RTC objects (03_islands_clocks_and_time.md). -/
def tab1200 : List Row := [
  ⟨0x01, .u 8, .rw, 0, false, .any, false⟩, -- RTC seconds
  ⟨0x02, .u 2, .ro, 0, false, .any, false⟩, -- RTC sub-seconds
  ⟨0x03, .i 2, .rw, 0, true, .sbtw (-2048) 2047, false⟩, -- Trim
  ⟨0x04, .i 4, .wo, 0, false, .sbtw (-32768) 32768, false⟩, -- Shift
  ⟨0x05, .u 4, .rw, 0, true, .zob 1 67107840, false⟩, -- Wake period
  ⟨0x06, .u 1, .rw, 0, false, .mask 0xf, false⟩, -- RTC status
  ⟨0x07, .bool, .rw, 1, true, .any, false⟩, -- Auto discipline
  ⟨0x08, .u 2, .ro, 0, false, .any, false⟩ -- Wakes in KEEP
]

/-- Table 2-7, Line power objects (02_modes_power_and_reset.md). -/
def tab2000 : List Row := [
  ⟨0x01, .f32, .ro, 0, false, .any, false⟩, -- EAST line voltage
  ⟨0x02, .f32, .ro, 0, false, .any, false⟩, -- WEST line voltage
  ⟨0x03, .f32, .ro, 0, false, .any, false⟩, -- Input power
  ⟨0x04, .f32, .ro, 0, false, .any, false⟩, -- VBULK voltage
  ⟨0x05, .u 1, .ro, 0, false, .any, false⟩, -- Feeding inputs
  ⟨0x06, .u 4, .ro, 0, false, .any, false⟩, -- Dip count
  ⟨0x07, .u 4, .ro, 0, false, .any, false⟩, -- Line-loss count
  ⟨0x08, .time, .ro, 0, false, .any, false⟩, -- Last line-loss time
  ⟨0x09, .f32, .ro, 0, false, .any, false⟩, -- C_BULK estimate
  ⟨0x0A, .f32, .ro, 0, false, .any, false⟩, -- Backup source voltage
  ⟨0x0B, .u 1, .ro, 0, false, .any, false⟩ -- Last sequence result
]

/-- Table 3-9, Island objects (03_islands_clocks_and_time.md). -/
def tab2100 : List Row := [
  ⟨0x01, .u 1, .rw, 0, false, .btw 0 60, false⟩, -- Island select
  ⟨0x02, .u 1, .ro, 0, false, .any, false⟩, -- Island kind
  ⟨0x03, .u 1, .ro, 0, false, .any, false⟩, -- Clock state
  ⟨0x04, .u 4, .ro, 0, false, .any, false⟩, -- Nominal frequency
  ⟨0x05, .u 8, .rwc, 0x1ffff6, true, .mask 0x1ffff6, false⟩, -- Spread mask
  ⟨0x06, .bool, .ro, 0, false, .any, false⟩, -- Time-copy validity
  ⟨0x07, .u 4, .ro, 0, false, .any, false⟩, -- Token latency
  ⟨0x08, .u 4, .ro, 0, false, .any, false⟩, -- Lock-loss count
  ⟨0x09, .u 4, .ro, 0, false, .any, false⟩ -- Last broadcast time
]

/-- Table 15-12, Verdigris objects, 0x2200 (15_verdigris_faults.md). -/
def tab2200 : List Row := [
  ⟨0x01, .u 1, .rw, 0, false, .any, false⟩, -- Kind select
  ⟨0x02, .oct 8, .rwc, 0, true, .any, false⟩, -- Kind rule
  ⟨0x03, .domain 12288, .rwc, 0, true, .any, false⟩, -- Overrides
  ⟨0x04, .u 2, .rwc, 0, true, .btw 0 1024, false⟩, -- Override count
  ⟨0x05, .u 2, .rw, 0, false, .btw 0 4095, false⟩, -- Source select
  ⟨0x06, .u 1, .ro, 0, false, .any, false⟩, -- Pair class
  ⟨0x07, .u 2, .ro, 0, false, .any, false⟩, -- Pair window count
  ⟨0x08, .u 4, .ro, 0, false, .any, false⟩, -- Pair occurrences
  ⟨0x09, .time, .ro, 0, false, .any, false⟩, -- Pair last message
  ⟨0x0A, .u 1, .wo, 0, false, .one [1], false⟩, -- Clear latch
  ⟨0x0B, .u 2, .ro, 0, false, .any, false⟩, -- Severe pairs
  ⟨0x0C, .oct 8, .wo, 0, false, .any, false⟩, -- Raise
  ⟨0x0D, .domain 65536, .ro, 0, false, .any, false⟩, -- Log
  ⟨0x0E, .u 8, .ro, 0, false, .any, false⟩, -- Messages received
  ⟨0x0F, .u 4, .ro, 0, false, .any, false⟩, -- Messages lost
  ⟨0x10, .oct 32, .ro, 0, false, .any, false⟩, -- Node capture
  ⟨0x11, .u 2, .rw, 0, false, .mask 0x1f, false⟩, -- Node flags
  ⟨0x12, .u 1, .wo, 0, false, .one [1], false⟩, -- Clear node capture
  ⟨0x13, .u 2, .wo, 0, false, .any, false⟩, -- Isolation release
  ⟨0x14, .u 4, .ro, 0, false, .any, false⟩, -- Isolated lakes
  ⟨0x15, .u 8, .ro, 0, false, .any, false⟩, -- Isolated blocks
  ⟨0x16, .u 2, .ro, 0, false, .any, false⟩, -- Isolated vats
  ⟨0x17, .bool, .rwc, 1, true, .any, false⟩, -- Publish faults
  ⟨0x18, .u 2, .ro, 0, false, .any, false⟩, -- Tracked pairs
  ⟨0x20, .oct 32, .ro, 0, false, .any, false⟩, -- Vat capture
  ⟨0x21, .oct 32, .ro, 0, false, .any, false⟩, -- Vat capture
  ⟨0x22, .oct 32, .ro, 0, false, .any, false⟩, -- Vat capture
  ⟨0x23, .oct 32, .ro, 0, false, .any, false⟩, -- Vat capture
  ⟨0x24, .oct 32, .ro, 0, false, .any, false⟩, -- Vat capture
  ⟨0x25, .oct 32, .ro, 0, false, .any, false⟩, -- Vat capture
  ⟨0x26, .oct 32, .ro, 0, false, .any, false⟩, -- Vat capture
  ⟨0x27, .oct 32, .ro, 0, false, .any, false⟩, -- Vat capture
  ⟨0x28, .oct 32, .ro, 0, false, .any, false⟩, -- Vat capture
  ⟨0x29, .oct 32, .ro, 0, false, .any, false⟩, -- Vat capture
  ⟨0x2A, .oct 32, .ro, 0, false, .any, false⟩, -- Vat capture
  ⟨0x2B, .oct 32, .ro, 0, false, .any, false⟩, -- Vat capture
  ⟨0x2C, .oct 32, .ro, 0, false, .any, false⟩, -- Vat capture
  ⟨0x2D, .oct 32, .ro, 0, false, .any, false⟩, -- Vat capture
  ⟨0x2E, .oct 32, .ro, 0, false, .any, false⟩, -- Vat capture
  ⟨0x2F, .oct 32, .ro, 0, false, .any, false⟩, -- Vat capture
  ⟨0x30, .u 1, .wo, 0, false, .btw 0 15, false⟩, -- Clear vat capture
  ⟨0x40, .oct 16, .ro, 0, false, .any, false⟩, -- Last reaction
  ⟨0x41, .oct 16, .ro, 0, false, .any, false⟩, -- Last reaction
  ⟨0x42, .oct 16, .ro, 0, false, .any, false⟩, -- Last reaction
  ⟨0x43, .oct 16, .ro, 0, false, .any, false⟩, -- Last reaction
  ⟨0x44, .oct 16, .ro, 0, false, .any, false⟩, -- Last reaction
  ⟨0x45, .oct 16, .ro, 0, false, .any, false⟩, -- Last reaction
  ⟨0x46, .oct 16, .ro, 0, false, .any, false⟩, -- Last reaction
  ⟨0x47, .oct 16, .ro, 0, false, .any, false⟩, -- Last reaction
  ⟨0x48, .oct 16, .ro, 0, false, .any, false⟩, -- Last reaction
  ⟨0x49, .oct 16, .ro, 0, false, .any, false⟩, -- Last reaction
  ⟨0x4A, .oct 16, .ro, 0, false, .any, false⟩, -- Last reaction
  ⟨0x4B, .oct 16, .ro, 0, false, .any, false⟩, -- Last reaction
  ⟨0x4C, .oct 16, .ro, 0, false, .any, false⟩, -- Last reaction
  ⟨0x4D, .oct 16, .ro, 0, false, .any, false⟩, -- Last reaction
  ⟨0x4E, .oct 16, .ro, 0, false, .any, false⟩, -- Last reaction
  ⟨0x4F, .oct 16, .ro, 0, false, .any, false⟩ -- Last reaction
]

/-- Table 16-7, Cinnabar objects, 0x2300 (16_cinnabar_trust_and_tag.md). -/
def tab2300 : List Row := [
  ⟨0x01, .u 1, .rw, 0, false, .btw 0 23, false⟩, -- Register select
  ⟨0x02, .oct 36, .wo, 0, false, .any, false⟩, -- Quote request
  ⟨0x03, .oct 1328, .ro, 0, false, .any, false⟩, -- Quote
  ⟨0x04, .oct 48, .ro, 0, false, .any, false⟩, -- Register value
  ⟨0x05, .oct 81, .wo, 0, false, .any, false⟩, -- Extend
  ⟨0x06, .domain 393216, .ro, 0, false, .any, false⟩, -- Log
  ⟨0x07, .domain 16384, .const, 0, false, .any, false⟩, -- Certificate chain
  ⟨0x08, .u 4, .ro, 0, false, .any, false⟩, -- Log entries
  ⟨0x09, .u 4, .ro, 0, false, .any, false⟩, -- Boot count
  ⟨0x0A, .u 4, .ro, 0, false, .any, false⟩, -- Quotes issued
  ⟨0x0B, .u 4, .ro, 0, false, .any, false⟩ -- Quotes refused
]

/-- Table 11-12, Twin objects, 0x2400 (11_twin_operation.md). -/
def tab2400 : List Row := [
  ⟨0x01, .bool, .rwc, 0, true, .any, false⟩, -- Twin configured
  ⟨0x02, .bool, .ro, 0, false, .any, false⟩, -- Preferred
  ⟨0x03, .u 1, .ro, 0, false, .any, false⟩, -- Role
  ⟨0x04, .u 1, .rwc, 0, true, .btw 0 1, false⟩, -- Gap mode
  ⟨0x05, .bool, .rwc, 1, true, .any, false⟩, -- Revertive
  ⟨0x06, .u 2, .rwc, 60, true, .btw 1 3600, false⟩, -- Hold time
  ⟨0x07, .u 4, .ro, 0, false, .any, false⟩, -- Own health
  ⟨0x08, .u 4, .ro, 0, false, .any, false⟩, -- Twin health
  ⟨0x09, .u 1, .ro, 0, false, .any, false⟩, -- Link state
  ⟨0x0A, .u 1, .ro, 0, false, .any, false⟩, -- Sync state
  ⟨0x0B, .oct 8, .ro, 0, false, .any, false⟩, -- Configuration digest
  ⟨0x0C, .oct 8, .ro, 0, false, .any, false⟩, -- Twin configuration digest
  ⟨0x0D, .u 4, .ro, 0, false, .any, false⟩, -- Takeovers
  ⟨0x0E, .time, .ro, 0, false, .any, false⟩, -- Last takeover time
  ⟨0x0F, .u 1, .ro, 0, false, .any, false⟩, -- Last takeover cause
  ⟨0x10, .u 4, .ro, 0, false, .any, false⟩, -- Last enable delay
  ⟨0x11, .u 4, .ro, 0, false, .any, false⟩, -- FORCE assertions
  ⟨0x12, .u 4, .ro, 0, false, .any, false⟩, -- Link silences
  ⟨0x13, .u 4, .rwc, 600, true, .zob 60 86400, false⟩, -- Lake test interval
  ⟨0x14, .u 2, .rwc, 10, true, .btw 1 3600, false⟩, -- Loopback interval
  ⟨0x15, .u 2, .rwc, 24, true, .btw 1 168, false⟩, -- Scrub period
  ⟨0x16, .domain 64, .ro, 0, false, .any, false⟩, -- Health report
  ⟨0x17, .u 1, .wo, 0, false, .one [1], false⟩, -- Clone command
  ⟨0x18, .u 2, .ro, 0, false, .any, false⟩, -- Clone result
  ⟨0x19, .u 4, .ro, 0, false, .any, false⟩, -- Input disagreements
  ⟨0x1A, .f32, .rwc, 0x3ca3d70a, true, .fbtw (0) (1), false⟩, -- Disagreement tolerance
  ⟨0x1B, .u 4, .ro, 0, false, .any, false⟩, -- Takeback remaining
  ⟨0x1C, .u 1, .ro, 0, false, .any, false⟩ -- Interlock levels
]

/-- Table 10-16, Ring port objects, 0x3000 (10_woad_ring.md). -/
def tab3000 : List Row := [
  ⟨0x01, .u 1, .rw, 0, false, .btw 0 1, false⟩, -- Port select
  ⟨0x02, .u 1, .rwc, 0, true, .step 0 224 32, false⟩, -- Identity base
  ⟨0x03, .u 1, .ro, 0, false, .any, false⟩, -- Strap value
  ⟨0x04, .oct 6, .const, 0, false, .any, false⟩, -- MAC address
  ⟨0x05, .u 2, .rwc, 0x88b5, true, .etype, false⟩, -- Woad Ethertype
  ⟨0x06, .u 1, .rwc, 0, true, .btw 0 254, false⟩, -- Publication identity
  ⟨0x07, .u 2, .rwc, 10, true, .btw 1 1000, false⟩, -- Publication period
  ⟨0x08, .u 2, .rwc, 0x3e8, true, .btw 10 60000, false⟩, -- Refresh period
  ⟨0x09, .u 2, .rwc, 0x3e8, true, .btw 100 10000, false⟩, -- Node heartbeat period
  ⟨0x0A, .u 1, .rwc, 0, true, .btw 0 2, false⟩, -- Twin side
  ⟨0x0B, .u 2, .rwc, 50, true, .btw 1 200, false⟩, -- Vat traffic limit
  ⟨0x0C, .u 2, .rwc, 256, true, .btw 16 1024, false⟩, -- Port queue limit
  ⟨0x0D, .u 1, .ro, 0, false, .any, false⟩, -- Port state
  ⟨0x0E, .u 2, .rw, 0, false, .any, false⟩, -- Port status
  ⟨0x0F, .u 2, .ro, 0, false, .any, false⟩, -- Cable length
  ⟨0x10, .f32, .ro, 0, false, .any, false⟩, -- SNR margin
  ⟨0x11, .u 4, .ro, 0, false, .any, false⟩, -- Link changes
  ⟨0x12, .u 4, .ro, 0, false, .any, false⟩, -- Dropped frames
  ⟨0x13, .u 8, .ro, 0, false, .any, false⟩, -- Frames sent
  ⟨0x14, .u 8, .ro, 0, false, .any, false⟩, -- Frames received
  ⟨0x15, .u 4, .ro, 0, false, .any, false⟩, -- FCS errors
  ⟨0x16, .u 1, .ro, 0, false, .any, false⟩, -- Bypass state
  ⟨0x17, .u 1, .wo, 0, false, .btw 1 2, false⟩, -- Bypass command
  ⟨0x18, .oct 16, .wo, 0, false, .any, false⟩, -- Snapshot command
  ⟨0x19, .u 1, .ro, 0, false, .any, false⟩, -- Snapshot state
  ⟨0x1A, .u 4, .ro, 0, false, .any, false⟩, -- Snapshot identity
  ⟨0x1B, .u 4, .rwc, 0, true, .any, false⟩, -- Ring cable delay
  ⟨0x1C, .u 2, .ro, 0, false, .any, false⟩, -- Snapshot answers
  ⟨0x1D, .u 2, .ro, 0, false, .any, false⟩, -- Snapshot late or refused
  ⟨0x1E, .u 1, .ro, 0, false, .any, false⟩, -- Identity conflicts
  ⟨0x1F, .u 4, .ro, 0, false, .any, false⟩, -- Woad frames discarded
  ⟨0x20, .u 4, .ro, 0, false, .any, false⟩, -- Snapshots taken
  ⟨0x21, .f32, .rwc, 0x3a83126f, true, .fbtw (0) (1), false⟩ -- Publish deadband
]

/-- Table 10-18, PTP objects, 0x3100 (10_woad_ring.md). -/
def tab3100 : List Row := [
  ⟨0x01, .u 1, .rwc, 1, true, .btw 0 2, false⟩, -- Clock mode
  ⟨0x02, .u 1, .rwc, 0, true, .btw 0 127, false⟩, -- Domain
  ⟨0x03, .u 1, .rwc, 255, true, .any, false⟩, -- Priority1
  ⟨0x04, .u 1, .rwc, 255, true, .any, false⟩, -- Priority2
  ⟨0x05, .bool, .rwc, 1, true, .any, false⟩, -- Slave only
  ⟨0x06, .u 1, .rwc, 0, true, .btw 0 1, false⟩, -- Step mode
  ⟨0x07, .i 1, .rwc, 0, true, .sbtw (-1) 1, false⟩, -- Sync interval
  ⟨0x08, .i 1, .rwc, 1, true, .sbtw (0) 4, false⟩, -- Announce interval
  ⟨0x09, .u 1, .rwc, 3, true, .btw 2 10, false⟩, -- Announce timeout
  ⟨0x0A, .i 1, .rwc, 0, true, .sbtw (0) 5, false⟩, -- Pdelay interval
  ⟨0x0B, .u 1, .ro, 1, false, .any, false⟩, -- PTP port state
  ⟨0x0C, .u 4, .ro, 0, false, .any, false⟩, -- Mean link delay
  ⟨0x0D, .u 1, .ro, 255, false, .any, false⟩, -- Selected Sync port
  ⟨0x0E, .oct 8, .ro, 0, false, .any, false⟩, -- Grandmaster identity
  ⟨0x0F, .u 2, .ro, 0, false, .any, false⟩, -- Steps removed
  ⟨0x10, .u 4, .ro, 0, false, .any, false⟩, -- Largest residence
  ⟨0x11, .u 4, .ro, 0, false, .any, false⟩, -- Syncs received
  ⟨0x12, .u 1, .ro, 255, false, .any, false⟩, -- Announced clockClass
  ⟨0x13, .i 4, .ro, 0, false, .any, false⟩ -- Path difference
]

/-- Table 10-19, HSR objects, 0x3200 (10_woad_ring.md). -/
def tab3200 : List Row := [
  ⟨0x01, .u 2, .ro, 0, false, .any, false⟩, -- Node table entries
  ⟨0x02, .u 4, .ro, 0, false, .any, false⟩, -- Duplicates discarded
  ⟨0x03, .u 4, .ro, 0, false, .any, false⟩, -- Untagged or oversize dropped
  ⟨0x04, .u 4, .ro, 0, false, .any, false⟩, -- Own frames removed
  ⟨0x05, .u 2, .rwc, 0x7d0, true, .btw 500 10000, false⟩, -- Supervision interval
  ⟨0x06, .u 2, .rwc, 60, true, .btw 10 600, false⟩, -- Node forget time
  ⟨0x07, .u 2, .rwc, 400, true, .btw 100 2000, false⟩, -- Entry forget time
  ⟨0x08, .domain 8192, .ro, 0, false, .any, false⟩, -- Node table
  ⟨0x09, .u 2, .ro, 0, false, .any, false⟩, -- Sequence number
  ⟨0x0A, .u 1, .ro, 0, false, .any, false⟩ -- Ring status
]

/-- Table 13-9, CAN objects, 0x3400 (13_can_fd.md). -/
def tab3400 : List Row := [
  ⟨0x01, .u 1, .rw, 0, false, .btw 0 3, false⟩, -- Controller select
  ⟨0x02, .bool, .rwc, 0, true, .any, false⟩, -- Enable
  ⟨0x03, .u 1, .rwc, 1, true, .btw 0 1, false⟩, -- FD mode
  ⟨0x04, .u 2, .rwc, 1, true, .btw 1 512, false⟩, -- Nominal BRP
  ⟨0x05, .u 2, .rwc, 127, true, .btw 2 256, false⟩, -- Nominal TSEG1
  ⟨0x06, .u 1, .rwc, 32, true, .btw 1 128, false⟩, -- Nominal TSEG2
  ⟨0x07, .u 1, .rwc, 32, true, .btw 1 128, false⟩, -- Nominal SJW
  ⟨0x08, .u 1, .rwc, 1, true, .btw 1 32, false⟩, -- Data BRP
  ⟨0x09, .u 1, .rwc, 29, true, .btw 1 32, false⟩, -- Data TSEG1
  ⟨0x0A, .u 1, .rwc, 10, true, .btw 1 16, false⟩, -- Data TSEG2
  ⟨0x0B, .u 1, .rwc, 10, true, .btw 1 16, false⟩, -- Data SJW
  ⟨0x0C, .u 1, .rwc, 0, true, .btw 0 127, false⟩, -- TDC offset
  ⟨0x0D, .u 1, .rwc, 0, true, .btw 0 1, false⟩, -- Standby behaviour
  ⟨0x0E, .bool, .rwc, 1, true, .any, false⟩, -- Automatic retransmission
  ⟨0x0F, .u 1, .rwc, 0, true, .btw 0 1, false⟩, -- Bus-off recovery
  ⟨0x10, .u 4, .rwc, 0x80000000, true, .any, false⟩, -- Dictionary request identifier
  ⟨0x11, .u 4, .rwc, 0x80000000, true, .any, false⟩, -- Dictionary response identifier
  ⟨0x12, .u 1, .rw, 0, true, .btw 0 1, false⟩, -- Wake mode
  ⟨0x14, .oct 192, .rw, 0, true, .any, false⟩, -- Wake entries
  ⟨0x15, .u 1, .wo, 0, false, .btw 1 2, false⟩, -- Sleep command
  ⟨0x16, .u 1, .ro, 0, false, .any, false⟩, -- State
  ⟨0x17, .u 2, .rw, 0, false, .any, false⟩, -- Status
  ⟨0x18, .u 1, .ro, 0, false, .any, false⟩, -- TEC
  ⟨0x19, .u 1, .ro, 0, false, .any, false⟩, -- REC
  ⟨0x1A, .u 1, .wo, 0, false, .one [1], false⟩, -- Recover
  ⟨0x1B, .u 4, .ro, 0, false, .any, false⟩, -- Frames received
  ⟨0x1C, .u 4, .ro, 0, false, .any, false⟩, -- Frames sent
  ⟨0x1D, .u 4, .ro, 0, false, .any, false⟩, -- Bus-off count
  ⟨0x1E, .u 4, .ro, 0, false, .any, false⟩, -- Protocol exceptions
  ⟨0x1F, .u 4, .ro, 0, false, .any, false⟩, -- Unmatched frames
  ⟨0x20, .u 1, .rw, 0, false, .any, false⟩, -- Slot select
  ⟨0x21, .oct 24, .rwc, slotDefault, true, .any, false⟩, -- Slot definition
  ⟨0x22, .f32, .ro, 0x7fc00000, false, .any, true⟩, -- Slot value
  ⟨0x23, .u 1, .ro, 3, false, .any, false⟩, -- Slot quality
  ⟨0x24, .time, .ro, 0, false, .any, false⟩, -- Slot time
  ⟨0x25, .oct 512, .rwc, filtersDefault, true, .any, false⟩ -- Filters
]

/-- Table 4-19, Local port objects (04_object_dictionary.md). -/
def tab3600 : List Row := [
  ⟨0x01, .bool, .rwc, 1, true, .any, false⟩, -- Enable
  ⟨0x02, .u 4, .ro, 0, false, .any, false⟩, -- CRC errors
  ⟨0x03, .u 4, .ro, 0, false, .any, false⟩, -- Overruns
  ⟨0x04, .u 4, .ro, 0, false, .any, false⟩, -- Requests served
  ⟨0x05, .u 1, .rw, 8, true, .btw 1 8, false⟩ -- Outstanding limit
]

/-- Table 16-13, Tag objects, 0x3700 (16_cinnabar_trust_and_tag.md). -/
def tab3700 : List Row := [
  ⟨0x01, .u 1, .rw, 0, false, .btw 0 31, false⟩, -- Page select
  ⟨0x02, .oct 256, .rw, 0, false, .any, false⟩, -- Page
  ⟨0x03, .oct 8, .const, 0, false, .any, false⟩, -- UID
  ⟨0x04, .bool, .ro, 0, false, .any, false⟩, -- Field present
  ⟨0x05, .u 4, .ro, 0, false, .any, false⟩, -- Field commands
  ⟨0x06, .u 4, .ro, 0, false, .any, false⟩ -- Busy refusals
]

/-- Table 6-15, Lake control, index 0x4000 + 0x40 × n (06_lakes.md). -/
def tab4000 : List Row := [
  ⟨0x01, .u 1, .wo, 0, false, .btw 1 3, false⟩, -- Service command
  ⟨0x02, .u 1, .ro, 0, false, .any, false⟩, -- Service state
  ⟨0x03, .u 4, .ro, 0, false, .any, false⟩, -- Test result
  ⟨0x04, .time, .ro, 0, false, .any, false⟩, -- Test time
  ⟨0x05, .f32, .ro, 0x7fc00000, false, .any, false⟩, -- Cold-junction temperature
  ⟨0x06, .u 1, .ro, 3, false, .any, false⟩, -- Cold-junction quality
  ⟨0x07, .f32, .ro, 0, false, .any, false⟩, -- Reference deviation
  ⟨0x08, .u 4, .ro, 0, false, .any, false⟩ -- Discarded conversions
]

/-- Table 6-16, Converter k, index 0x4001 + 0x40 × n + k, k = 0–1 (06_lakes.md). -/
def tab4001 : List Row := [
  ⟨0x01, .oct 16, .rwc, 0xffffffffffffffffffffffffffffffff, true, .any, false⟩, -- Scan list
  ⟨0x02, .u 1, .rwc, 0, true, .btw 0 1, false⟩, -- Scan mode
  ⟨0x03, .u 4, .rwc, 0x186a0, true, .btw 1000 60000000, false⟩, -- Scan period
  ⟨0x04, .u 4, .rwc, 0, true, .any, false⟩, -- Scan phase
  ⟨0x05, .oct 16, .ro, 0, false, .any, false⟩, -- Active list
  ⟨0x06, .u 4, .ro, 0, false, .any, false⟩, -- Scan time
  ⟨0x07, .u 4, .ro, 0, false, .any, false⟩ -- Overruns
]

/-- Table 6-17, Pin p configuration, index 0x4004 + 0x40 × n + p (06_lakes.md). -/
def tab4004 : List Row := [
  ⟨0x01, .u 1, .rwc, 0, true, .btw 0 13, false⟩, -- Mode
  ⟨0x02, .u 1, .rwc, 2, true, .btw 0 13, false⟩, -- Rate code
  ⟨0x03, .bool, .rwc, 1, true, .any, false⟩, -- Mains filter
  ⟨0x04, .u 1, .rwc, 255, true, .oroff 0 7 255, false⟩, -- PGA gain
  ⟨0x05, .u 2, .rwc, 0, true, .zstep 10 2500 10, false⟩, -- Excitation
  ⟨0x06, .f32, .rwc, 0, true, .fge0, false⟩, -- R_max
  ⟨0x07, .f32, .rwc, 0x42c80000, true, .fbtw (10) (100000), false⟩, -- Nominal resistance
  ⟨0x08, .f32, .rwc, 0, true, .fbtw (0) (10000), false⟩, -- Lead resistance
  ⟨0x09, .f64, .rwc, 0x3f52803544856b0e, true, .any, false⟩, -- Steinhart a
  ⟨0x0A, .f64, .rwc, 0x3f2eaf6d965b769e, true, .any, false⟩, -- Steinhart b
  ⟨0x0B, .f64, .rwc, 0x3e778e7a494cc61b, true, .any, false⟩, -- Steinhart c
  ⟨0x0C, .u 1, .rwc, 0, true, .btw 0 6, false⟩, -- Thermocouple type
  ⟨0x0D, .u 1, .rwc, 0, true, .btw 0 9, false⟩, -- CJ source
  ⟨0x0E, .f32, .rwc, 0x41c80000, true, .any, false⟩, -- CJ fixed value
  ⟨0x0F, .u 1, .rwc, 0, true, .btw 0 1, false⟩, -- Voltage range
  ⟨0x10, .f32, .rwc, 0x40000000, true, .fbtw (1/10) (100), false⟩, -- Bridge span
  ⟨0x11, .f32, .rwc, 0, true, .any, false⟩, -- Scale low
  ⟨0x12, .f32, .rwc, 0, true, .any, false⟩, -- Scale high
  ⟨0x13, .bool, .rwc, 1, true, .any, false⟩, -- NE 43 checking
  ⟨0x14, .u 2, .rwc, 0, true, .btw 0 1000, false⟩, -- Debounce
  ⟨0x15, .bool, .rwc, 0, true, .any, false⟩, -- Invert
  ⟨0x16, .u 1, .rwc, 255, true, .one [0, 1, 255], false⟩, -- Pulse test
  ⟨0x17, .bool, .rwc, 1, true, .any, false⟩ -- Current swap
]

/-- Table 6-18, Pin p results, index 0x400C + 0x40 × n + p (06_lakes.md). -/
def tab400C : List Row := [
  ⟨0x01, .f32, .ro, 0x7fc00000, false, .any, true⟩, -- Value
  ⟨0x02, .u 1, .ro, 3, false, .any, false⟩, -- Quality
  ⟨0x03, .time, .ro, 0, false, .any, false⟩, -- Time
  ⟨0x04, .i 4, .ro, 0, false, .any, false⟩, -- Raw code
  ⟨0x05, .u 2, .ro, 0, false, .any, false⟩, -- Pin status
  ⟨0x06, .u 4, .ro, 0, false, .any, false⟩, -- Break count
  ⟨0x07, .u 4, .ro, 0, false, .any, false⟩, -- Change count
  ⟨0x08, .time, .ro, 0, false, .any, false⟩ -- Last break time
]

/-- Table 6-20, Lake common, index 0x4800 (06_lakes.md). -/
def tab4800 : List Row := [
  ⟨0x01, .f32, .rwc, 0x42480000, true, .fbtw (45) (65), false⟩, -- Nominal mains
  ⟨0x02, .bool, .rwc, 1, true, .any, false⟩, -- Mains tracking
  ⟨0x03, .f32, .ro, 0, false, .any, false⟩, -- Tracked frequency
  ⟨0x04, .u 1, .ro, 0, false, .any, false⟩, -- Mains state
  ⟨0x05, .u 4, .rwc, 0xffffffff, true, .any, false⟩, -- Lake enable
  ⟨0x06, .u 4, .ro, 0, false, .any, false⟩, -- In-service mask
  ⟨0x07, .u 2, .rw, 10, true, .btw 1 1000, false⟩ -- Stream flush time
]

/-- Table 7-16, DCn configuration, index 0x5000 + 0x20 × n (07_dynamic_channels_and_shafts.md). -/
def tab5000 : List Row := [
  ⟨0x01, .u 1, .rwc, 0, true, .btw 0 4, false⟩, -- Front end
  ⟨0x02, .u 1, .rwc, 3, true, .btw 0 9, false⟩, -- Charge feedback
  ⟨0x03, .u 1, .rwc, 2, true, .btw 0 2, false⟩, -- DC restore
  ⟨0x04, .u 1, .rwc, 0, true, .btw 0 4, false⟩, -- Transimpedance
  ⟨0x05, .u 1, .rwc, 1, true, .btw 0 3, false⟩, -- IEPE current
  ⟨0x06, .u 1, .rwc, 0, true, .btw 0 8, false⟩, -- Rate code
  ⟨0x07, .u 1, .rwc, 0, true, .btw 0 2, false⟩, -- Sampling
  ⟨0x08, .u 1, .rwc, 0, true, .btw 0 3, false⟩, -- Crank domain
  ⟨0x09, .u 1, .rwc, 1, true, .one [1, 2, 5, 10], false⟩, -- Angle step
  ⟨0x0A, .f32, .rwc, 0x3f800000, true, .fne0, false⟩, -- Sensitivity
  ⟨0x0B, .f32, .rwc, 0, true, .any, false⟩, -- Offset
  ⟨0x0C, .u 2, .rwc, 0x3e8, true, .btw 10 10000, false⟩, -- Statistics window
  ⟨0x0D, .f32, .rwc, 0x3f800000, true, .fge0, false⟩, -- Flat span
  ⟨0x0E, .u 1, .wo, 0, false, .one [1], false⟩ -- Integrator reset
]

/-- Table 7-17, DCn results, index 0x5001 + 0x20 × n (07_dynamic_channels_and_shafts.md). -/
def tab5001 : List Row := [
  ⟨0x01, .f32, .ro, 0x7fc00000, false, .any, true⟩, -- Value
  ⟨0x02, .u 1, .ro, 3, false, .any, false⟩, -- Quality
  ⟨0x03, .time, .ro, 0, false, .any, false⟩, -- Time
  ⟨0x04, .f32, .ro, 0x7fc00000, false, .any, true⟩, -- RMS
  ⟨0x05, .f32, .ro, 0x7fc00000, false, .any, true⟩, -- Peak
  ⟨0x06, .u 2, .ro, 0, false, .any, false⟩, -- Channel status
  ⟨0x07, .f32, .ro, 0, false, .any, false⟩, -- IEPE bias
  ⟨0x08, .u 4, .ro, 0, false, .any, false⟩ -- Overloads
]

/-- Table 7-19, DLk control, index 0x5002 + 0x80 × k (07_dynamic_channels_and_shafts.md). -/
def tab5002 : List Row := [
  ⟨0x01, .u 1, .wo, 0, false, .btw 1 3, false⟩, -- Service command
  ⟨0x02, .u 1, .ro, 0, false, .any, false⟩, -- Service state
  ⟨0x03, .u 4, .ro, 0, false, .any, false⟩, -- Test result
  ⟨0x04, .time, .ro, 0, false, .any, false⟩, -- Test time
  ⟨0x05, .u 4, .ro, 0, false, .any, false⟩, -- Discarded samples
  ⟨0x06, .bool, .rwc, 1, true, .any, false⟩ -- Enable
]

/-- Table 7-22, Crank domains, 0x5400 (07_dynamic_channels_and_shafts.md). -/
def tab5400 : List Row := [
  ⟨0x01, .u 1, .rw, 0, false, .btw 0 3, false⟩, -- Domain select
  ⟨0x02, .bool, .rwc, 0, true, .any, false⟩, -- Enable
  ⟨0x03, .u 1, .rwc, 1, true, .btw 0 1, false⟩, -- Cycle
  ⟨0x04, .u 1, .rwc, 0, true, .btw 0 15, false⟩, -- Encoder input
  ⟨0x05, .u 1, .rwc, 2, true, .btw 0 15, false⟩, -- Index input
  ⟨0x06, .u 1, .rwc, 3, true, .oroff 0 15 255, false⟩, -- Cam input
  ⟨0x07, .u 1, .rwc, 0, true, .btw 0 1, false⟩, -- Cam mode
  ⟨0x08, .bool, .rwc, 1, true, .any, false⟩, -- Cam level
  ⟨0x09, .u 2, .rwc, 0, true, .btw 0 7199, false⟩, -- TDC offset
  ⟨0x0A, .u 1, .rwc, 0, true, .btw 0 8, false⟩, -- Index tolerance
  ⟨0x0B, .u 1, .rwc, 1, true, .btw 1 20, false⟩, -- Cylinders
  ⟨0x0C, .domain 14400, .rwc, 0, true, .any, false⟩, -- Volume table
  ⟨0x0D, .domain 8192, .rw, 0, true, .any, false⟩, -- Compare table
  ⟨0x0E, .u 2, .rw, 0, true, .btw 0 1024, false⟩, -- Compare entries
  ⟨0x0F, .u 1, .rwc, 0, true, .btw 0 2, false⟩, -- Pegging source
  ⟨0x10, .f32, .rwc, 0x3f800000, true, .any, false⟩, -- Pegging value
  ⟨0x11, .u 1, .rwc, 0, true, .any, false⟩, -- Pegging pin
  ⟨0x12, .f32, .rwc, 0x3e99999a, true, .fbtw (0) (1), false⟩, -- Misfire fraction
  ⟨0x13, .u 1, .ro, 0, false, .any, false⟩, -- State
  ⟨0x14, .f32, .ro, 0, false, .any, false⟩, -- Speed
  ⟨0x15, .u 4, .ro, 0, false, .any, false⟩, -- Cycle count
  ⟨0x16, .u 4, .ro, 0, false, .any, false⟩, -- Sync losses
  ⟨0x17, .u 4, .ro, 0, false, .any, false⟩, -- Cam faults
  ⟨0x18, .domain 640, .ro, 0, false, .any, false⟩, -- Results
  ⟨0x19, .u 2, .ro, 0, false, .any, false⟩, -- Last compare event
  ⟨0x20, .u 1, .rw, 0, false, .btw 0 19, false⟩, -- Cylinder select
  ⟨0x21, .u 2, .rwc, 0, true, .any, false⟩, -- Firing offset
  ⟨0x22, .u 1, .rwc, 255, true, .oroff 0 31 255, false⟩, -- Pressure channel
  ⟨0x23, .f32, .ro, 0x7fc00000, false, .any, true⟩, -- Peak pressure
  ⟨0x24, .f32, .ro, 0x7fc00000, false, .any, true⟩, -- Angle of peak
  ⟨0x25, .f32, .ro, 0x7fc00000, false, .any, true⟩, -- Compression pressure
  ⟨0x26, .f32, .ro, 0x7fc00000, false, .any, true⟩, -- IMEP
  ⟨0x27, .u 2, .ro, 0, false, .any, false⟩ -- Result flags
]

/-- Table 7-20, Shaft inputs, 0x5500 (07_dynamic_channels_and_shafts.md). -/
def tab5500 : List Row := [
  ⟨0x01, .u 1, .rw, 0, false, .btw 0 15, false⟩, -- Input select
  ⟨0x02, .u 1, .rwc, 0, true, .btw 0 5, false⟩, -- Mode
  ⟨0x03, .u 1, .rwc, 0, true, .btw 0 2, false⟩, -- Threshold mode
  ⟨0x04, .f32, .rwc, 0x3e4ccccd, true, .fbtw (1/50) (10), false⟩, -- Threshold
  ⟨0x05, .f32, .rwc, 0x3d4ccccd, true, .fbtw (1/100) (2), false⟩, -- Hysteresis
  ⟨0x06, .u 2, .rwc, 100, true, .step 0 2500 25, false⟩, -- Glitch filter
  ⟨0x07, .u 1, .rwc, 0, true, .btw 0 1, false⟩, -- Speed class
  ⟨0x08, .u 2, .rwc, 1, true, .btw 1 65535, false⟩, -- Pulses or lines
  ⟨0x09, .u 2, .rwc, 1, true, .btw 1 4096, false⟩, -- Averaging edges
  ⟨0x0A, .u 4, .rwc, 0x7d0, true, .btw 50 60000, false⟩, -- Standstill timeout
  ⟨0x0B, .u 2, .rwc, 100, true, .btw 1 1000, false⟩, -- Window
  ⟨0x0C, .u 1, .rwc, 4, true, .btw 1 255, false⟩, -- Direction hysteresis
  ⟨0x0D, .u 1, .rwc, 0, true, .btw 0 1, false⟩, -- Positive sense
  ⟨0x0E, .bool, .rwc, 0, true, .any, false⟩, -- Open detection
  ⟨0x0F, .f32, .ro, 0, false, .any, false⟩, -- Speed
  ⟨0x10, .u 1, .ro, 3, false, .any, false⟩, -- Speed quality
  ⟨0x11, .time, .ro, 0, false, .any, false⟩, -- Speed time
  ⟨0x12, .u 2, .rw, 0, false, .mask 0x7f, false⟩, -- Shaft status
  ⟨0x13, .u 4, .ro, 0, false, .any, false⟩, -- Edge count
  ⟨0x14, .u 4, .ro, 0, false, .any, false⟩, -- Direction changes
  ⟨0x15, .u 4, .ro, 0, false, .any, false⟩, -- Count errors
  ⟨0x16, .time, .ro, 0, false, .any, false⟩ -- Last direction change
]

/-- Table 7-23, Serial ports, 0x5600 (07_dynamic_channels_and_shafts.md). -/
def tab5600 : List Row := [
  ⟨0x01, .u 1, .rw, 0, false, .btw 0 7, false⟩, -- Port select
  ⟨0x02, .bool, .rwc, 0, true, .any, false⟩, -- Enable
  ⟨0x03, .u 4, .rwc, 0xf4240, true, .btw 100000 4000000, false⟩, -- Clock rate
  ⟨0x04, .u 1, .rwc, 25, true, .btw 8 64, false⟩, -- Frame length
  ⟨0x05, .bool, .rwc, 0, true, .any, false⟩, -- End mark
  ⟨0x06, .u 1, .rwc, 0, true, .any, false⟩, -- Position offset
  ⟨0x07, .u 1, .rwc, 13, true, .btw 1 48, false⟩, -- Position width
  ⟨0x08, .u 1, .rwc, 1, true, .btw 0 1, false⟩, -- Coding
  ⟨0x09, .bool, .rwc, 0, true, .any, false⟩, -- Signed
  ⟨0x0A, .u 1, .rwc, 255, true, .any, false⟩, -- Error bit
  ⟨0x0B, .bool, .rwc, 1, true, .any, false⟩, -- Error polarity
  ⟨0x0C, .u 1, .rwc, 15, true, .btw 1 100, false⟩, -- Monotime minimum
  ⟨0x0D, .u 1, .rwc, 40, true, .any, false⟩, -- Monotime maximum
  ⟨0x0E, .u 4, .rwc, 0x3e8, true, .btw 50 1000000, false⟩, -- Period
  ⟨0x0F, .u 4, .rwc, 0, true, .any, false⟩, -- Phase
  ⟨0x10, .u 2, .rwc, 0, true, .btw 0 10000, false⟩, -- Latch delay
  ⟨0x11, .f32, .rwc, 0x3f800000, true, .any, false⟩, -- Scale
  ⟨0x12, .f32, .rwc, 0, true, .any, false⟩, -- Offset
  ⟨0x13, .f32, .ro, 0x7fc00000, false, .any, true⟩, -- Value
  ⟨0x14, .u 1, .ro, 3, false, .any, false⟩, -- Quality
  ⟨0x15, .time, .ro, 0, false, .any, false⟩, -- Time
  ⟨0x16, .u 8, .ro, 0, false, .any, false⟩, -- Raw frame
  ⟨0x17, .u 2, .ro, 0, false, .any, false⟩, -- Port status
  ⟨0x18, .u 4, .ro, 0, false, .any, false⟩, -- Frame errors
  ⟨0x19, .u 2, .ro, 0, false, .any, false⟩ -- Cable delay
]

/-- Table 8-21, Mordant global, 0x6000 (08_mordant_alarm_engine.md). -/
def tab6000 : List Row := [
  ⟨0x01, .u 1, .rwc, 2, true, .btw 0 3, false⟩, -- Frame period
  ⟨0x02, .u 2, .ro, 0, false, .any, false⟩, -- Point limit
  ⟨0x03, .u 8, .ro, 0, false, .any, false⟩, -- Frame number
  ⟨0x04, .u 4, .ro, 0, false, .any, false⟩, -- Evaluation time
  ⟨0x05, .u 4, .ro, 0, false, .any, false⟩, -- Longest evaluation
  ⟨0x06, .u 8, .ro, 0, false, .any, false⟩, -- Records produced
  ⟨0x07, .u 4, .ro, 0, false, .any, false⟩, -- Late actions
  ⟨0x08, .oct 16, .wo, 0, false, .any, false⟩, -- Operator command
  ⟨0x09, .domain 4096, .ro, 0, false, .any, false⟩, -- Schedule
  ⟨0x0A, .u 2, .ro, 0, false, .any, false⟩, -- Scheduled entries
  ⟨0x0B, .u 2, .wo, 0, false, .btw 0 255, false⟩, -- Cancel scheduled
  ⟨0x0C, .u 4, .ro, 0, false, .any, false⟩, -- Burst frames
  ⟨0x0D, .u 4, .ro, 0, false, .any, false⟩, -- Pulse captures
  ⟨0x0E, .u 4, .ro, 0, false, .any, false⟩ -- Missed frames
]

/-- Table 8-22, Point window, 0x6100, and point record of 0x6101.01 (08_mordant_alarm_engine.md). -/
def tab6100 : List Row := [
  ⟨0x01, .u 2, .rw, 0, false, .any, false⟩, -- Point select
  ⟨0x02, .u 1, .rw, 255, true, .one [0, 1, 2, 3, 4, 255], false⟩, -- Kind
  ⟨0x03, .u 1, .rw, 0, true, .btw 0 8, false⟩, -- Source kind
  ⟨0x04, .u 4, .rw, 0, true, .any, false⟩, -- Source reference
  ⟨0x05, .u 2, .rw, 0x2249, true, .prio, false⟩, -- Priorities
  ⟨0x06, .f32, .rw, 0x7fc00000, true, .any, true⟩, -- HH
  ⟨0x07, .f32, .rw, 0x7fc00000, true, .any, true⟩, -- H
  ⟨0x08, .f32, .rw, 0x7fc00000, true, .any, true⟩, -- L
  ⟨0x09, .f32, .rw, 0x7fc00000, true, .any, true⟩, -- LL
  ⟨0x0A, .f32, .rw, 0, true, .fge0, false⟩, -- Deadband
  ⟨0x0B, .u 2, .rw, 0, true, .any, false⟩, -- On-delay
  ⟨0x0C, .u 2, .rw, 0, true, .any, false⟩, -- Off-delay
  ⟨0x0D, .u 2, .rw, 0xffff, true, .any, false⟩, -- Suppression point
  ⟨0x0E, .u 2, .rw, 0, true, .any, false⟩, -- Release delay
  ⟨0x0F, .oct 8, .rw, 0xffffffffffffffff, true, .any, false⟩, -- Groups
  ⟨0x10, .u 2, .rw, 0xffff, true, .any, false⟩, -- Reference point
  ⟨0x11, .u 1, .rw, 0, true, .btw 0 7, false⟩, -- Area
  ⟨0x12, .u 1, .rw, 8, true, .mask 0xf, false⟩, -- Flags
  ⟨0x13, .u 4, .rw, 0, true, .any, false⟩, -- Stale limit
  ⟨0x14, .u 2, .rw, 10, true, .btw 1 6000, false⟩, -- Rate window
  ⟨0x15, .u 1, .rwc, 255, true, .oroff 0 15 255, false⟩, -- Owner
  ⟨0x16, .f32, .rw, 0, true, .any, false⟩, -- Substitute value
  ⟨0x20, .u 1, .ro, 0, false, .any, false⟩, -- State
  ⟨0x21, .u 1, .ro, 0, false, .any, false⟩, -- Condition
  ⟨0x22, .f32, .ro, 0x7fc00000, false, .any, true⟩, -- Value
  ⟨0x23, .u 1, .ro, 3, false, .any, false⟩, -- Quality
  ⟨0x24, .time, .ro, 0, false, .any, false⟩, -- Time
  ⟨0x25, .time, .ro, 0, false, .any, false⟩, -- Onset
  ⟨0x26, .u 4, .ro, 0, false, .any, false⟩, -- Age
  ⟨0x27, .u 4, .rw, 0, false, .any, false⟩, -- Occurrences
  ⟨0x28, .u 8, .rw, 0, false, .any, false⟩, -- Standing time
  ⟨0x29, .u 2, .ro, 0, false, .any, false⟩, -- Point status
  ⟨0x2A, .u 4, .ro, 0, false, .any, false⟩, -- Shelve remaining
  ⟨0x2B, .f32, .rw, 0, false, .any, false⟩, -- Simulate value
  ⟨0x2C, .bool, .rw, 0, false, .any, false⟩ -- Simulate
]

/-- Table 8-22, Point window, 0x6100, and point record of 0x6101.01 (08_mordant_alarm_engine.md). -/
def tab6101 : List Row := [
  ⟨0x01, .domain 1048576, .rw, 0, true, .any, false⟩ -- Point table
]

/-- Table 8-23, Group window, 0x6200 (08_mordant_alarm_engine.md). -/
def tab6200 : List Row := [
  ⟨0x01, .u 2, .rw, 0, false, .btw 0 1023, false⟩, -- Group select
  ⟨0x02, .u 1, .rwc, 0, true, .btw 0 7, false⟩, -- Area
  ⟨0x03, .u 2, .rwc, 0x7d0, true, .btw 0 60000, false⟩, -- First-out window
  ⟨0x04, .u 4, .rwc, 16, true, .btw 0 1000000, false⟩, -- Tie tolerance
  ⟨0x05, .domain 256, .rwc, 0, true, .any, false⟩, -- Remote members
  ⟨0x06, .u 1, .rwc, 0, true, .btw 0 64, false⟩, -- Remote member count
  ⟨0x07, .u 1, .ro, 0, false, .any, false⟩, -- Group state
  ⟨0x08, .u 4, .ro, 0, false, .any, false⟩, -- First-out
  ⟨0x09, .time, .ro, 0, false, .any, false⟩, -- First-out time
  ⟨0x0A, .u 1, .ro, 0, false, .any, false⟩, -- Tie count
  ⟨0x0B, .oct 16, .ro, 0, false, .any, false⟩, -- Tie list
  ⟨0x0C, .u 2, .ro, 0, false, .any, false⟩, -- Members in alarm
  ⟨0x0D, .u 2, .ro, 0, false, .any, false⟩, -- Members awaiting acknowledgement
  ⟨0x0E, .u 4, .ro, 0, false, .any, false⟩, -- Captures
  ⟨0x0F, .u 1, .ro, 0, false, .any, false⟩, -- Group flags
  ⟨0x10, .time, .ro, 0, false, .any, false⟩ -- Capture start
]

/-- Table 8-24, Calls and roster, 0x6300 (08_mordant_alarm_engine.md). -/
def tab6300 : List Row := [
  ⟨0x01, .u 1, .rw, 0, false, .btw 0 7, false⟩, -- Area select
  ⟨0x02, .u 1, .rwc, 0, true, .btw 0 254, false⟩, -- Area master
  ⟨0x03, .u 1, .rwc, 0, true, .any, false⟩, -- Default holder
  ⟨0x04, .u 1, .ro, 0, false, .any, false⟩, -- Holder
  ⟨0x05, .bool, .ro, 1, false, .any, false⟩, -- Attended
  ⟨0x06, .u 1, .ro, 255, false, .any, false⟩, -- Offer target
  ⟨0x07, .u 2, .rwc, 60, true, .btw 10 600, false⟩, -- Transfer timeout
  ⟨0x08, .u 2, .rw, 120, true, .btw 10 1800, false⟩, -- Attended escalation
  ⟨0x09, .u 2, .rw, 180, true, .btw 30 1800, false⟩, -- Level 1 timer
  ⟨0x0A, .u 2, .rw, 180, true, .btw 30 1800, false⟩, -- Level 2 timer
  ⟨0x0B, .u 2, .rw, 300, true, .btw 60 3600, false⟩, -- Answer timeout
  ⟨0x0C, .u 4, .rwc, 0, true, .mask 0xffffff, false⟩, -- Horn mask
  ⟨0x0D, .oct 16, .rwc, 0, true, .any, false⟩, -- Beacon masks
  ⟨0x0E, .u 1, .ro, 0, false, .any, false⟩, -- Call state
  ⟨0x0F, .u 1, .ro, 0, false, .any, false⟩, -- Call level
  ⟨0x10, .u 2, .ro, 0, false, .any, false⟩, -- Call sequence
  ⟨0x11, .u 2, .rw, 0x708, true, .btw 60 3600, false⟩, -- Engineer-safety period
  ⟨0x12, .u 2, .rw, 180, true, .btw 30 600, false⟩, -- Pre-warning time
  ⟨0x13, .u 1, .ro, 0, false, .any, false⟩, -- Engineer-safety state
  ⟨0x14, .u 4, .rwc, 0, true, .mask 0xffffff, false⟩, -- Engineer-safety mask
  ⟨0x15, .bool, .ro, 0, false, .any, false⟩, -- Silenced
  ⟨0x20, .domain 512, .rwc, 0, true, .any, false⟩, -- Locations
  ⟨0x21, .domain 232, .rw, 0, true, .any, false⟩, -- Roster
  ⟨0x22, .u 1, .rw, 255, true, .oroff 0 15 255, false⟩, -- Duty override
  ⟨0x23, .i 2, .rw, 0, true, .sbtw (-720) 840, false⟩, -- Local time offset
  ⟨0x24, .u 1, .ro, 255, false, .any, false⟩ -- Duty engineer
]

/-- Table 9-11, AOn, index 0x7000 + 0x10 × n (09_loop_and_annunciator_outputs.md). -/
def tab7000 : List Row := [
  ⟨0x01, .u 1, .rwc, 0, true, .btw 0 2, false⟩, -- Function
  ⟨0x02, .u 1, .rwc, 255, true, .oroff 0 15 255, false⟩, -- Owner
  ⟨0x03, .u 2, .rw, 0, false, .any, false⟩, -- Set-point
  ⟨0x04, .u 1, .rwc, 0, true, .btw 0 1, false⟩, -- Target source
  ⟨0x05, .u 2, .rwc, 0xffff, true, .any, false⟩, -- Source point
  ⟨0x06, .f32, .rwc, 0, true, .any, false⟩, -- Point low
  ⟨0x07, .f32, .rwc, 0x42c80000, true, .any, false⟩, -- Point high
  ⟨0x08, .bool, .rwc, 1, true, .any, false⟩, -- NE 43
  ⟨0x09, .u 1, .rwc, 0, true, .btw 0 2, false⟩, -- Fault direction
  ⟨0x0A, .f32, .rwc, 0, true, .f0or (1/100) (10000), false⟩, -- Up rate
  ⟨0x0B, .f32, .rwc, 0, true, .f0or (1/100) (10000), false⟩, -- Down rate
  ⟨0x0C, .u 2, .rwc, 0, true, .any, false⟩, -- Start value
  ⟨0x0D, .u 1, .rwc, 0, true, .btw 0 1, false⟩, -- Commission action
  ⟨0x0E, .u 2, .rwc, 0, true, .any, false⟩, -- Commission value
  ⟨0x0F, .u 1, .rwc, 0, true, .btw 0 1, false⟩, -- Safe action
  ⟨0x10, .u 2, .rwc, 0, true, .any, false⟩, -- Safe value
  ⟨0x11, .bool, .rwc, 0, true, .any, false⟩, -- FSK enable
  ⟨0x12, .u 2, .ro, 0, false, .any, false⟩, -- Present value
  ⟨0x13, .f32, .ro, 0, false, .any, false⟩, -- Measured current
  ⟨0x14, .f32, .ro, 0, false, .any, false⟩, -- Loop voltage
  ⟨0x15, .u 2, .ro, 0, false, .any, false⟩, -- Output status
  ⟨0x16, .u 4, .ro, 0, false, .any, false⟩, -- Open count
  ⟨0x17, .u 4, .ro, 0, false, .any, false⟩, -- Short count
  ⟨0x18, .f32, .ro, 0, false, .any, false⟩, -- Group supply
  ⟨0x19, .u 2, .ro, 0, false, .any, false⟩ -- Target
]

/-- Table 9-13, FSK, index 0x7001 + 0x10 × n (09_loop_and_annunciator_outputs.md). -/
def tab7001 : List Row := [
  ⟨0x01, .oct 258, .wo, 0, false, .any, false⟩, -- Transmit
  ⟨0x02, .oct 260, .ro, 0, false, .any, false⟩, -- Receive
  ⟨0x03, .u 2, .rw, 0, false, .any, false⟩, -- FSK status
  ⟨0x04, .u 4, .ro, 0, false, .any, false⟩, -- Characters sent
  ⟨0x05, .u 4, .ro, 0, false, .any, false⟩ -- Characters received
]

/-- Table 9-15, Annunciators, 0x7100 (09_loop_and_annunciator_outputs.md). -/
def tab7100 : List Row := [
  ⟨0x01, .u 1, .rw, 0, false, .btw 0 23, false⟩, -- Annunciator select
  ⟨0x02, .u 1, .rwc, 0, true, .btw 0 4, false⟩, -- Function
  ⟨0x03, .u 1, .rwc, 255, true, .oroff 0 15 255, false⟩, -- Owner
  ⟨0x04, .bool, .rw, 0, false, .any, false⟩, -- Control state
  ⟨0x05, .u 1, .rwc, 2, true, .btw 0 3, false⟩, -- Gate current
  ⟨0x06, .u 1, .rwc, 10, true, .btw 1 50, false⟩, -- Blanking
  ⟨0x07, .u 1, .rwc, 10, true, .btw 1 20, false⟩, -- Soft threshold
  ⟨0x08, .u 4, .rwc, 0x3e8, true, .btw 10 100000, false⟩, -- Soft filter
  ⟨0x09, .u 1, .rwc, 30, true, .btw 10 50, false⟩, -- Hard threshold
  ⟨0x0A, .u 2, .rwc, 0x3e8, true, .btw 10 10000, false⟩, -- Restart delay
  ⟨0x0B, .u 1, .rwc, 3, true, .btw 0 15, false⟩, -- Retry limit
  ⟨0x0C, .bool, .rwc, 0, true, .any, false⟩, -- Open-load detection
  ⟨0x0D, .u 1, .rwc, 0, true, .btw 0 2, false⟩, -- Commission state
  ⟨0x0E, .u 1, .rwc, 0, true, .btw 0 2, false⟩, -- Safe state
  ⟨0x0F, .u 1, .ro, 5, false, .any, false⟩, -- State
  ⟨0x10, .u 2, .rw, 0, false, .any, false⟩, -- Status
  ⟨0x11, .u 4, .ro, 0, false, .any, false⟩, -- Soft trips
  ⟨0x12, .u 4, .ro, 0, false, .any, false⟩, -- Hard shorts
  ⟨0x13, .time, .ro, 0, false, .any, false⟩, -- Last fault time
  ⟨0x20, .u 1, .rw, 0, false, .btw 0 2, false⟩, -- Group select
  ⟨0x21, .u 1, .ro, 0, false, .any, false⟩, -- Group state
  ⟨0x22, .u 1, .wo, 0, false, .one [1], false⟩, -- Group release
  ⟨0x23, .u 2, .rwc, 0, true, .zob 1 3600, false⟩, -- Automatic restart
  ⟨0x24, .f32, .ro, 0, false, .any, false⟩, -- Group supply
  ⟨0x25, .u 4, .ro, 0, false, .any, false⟩ -- Group latches
]

/-- Table 9-17, Repeat, 0x7200 (09_loop_and_annunciator_outputs.md). -/
def tab7200 : List Row := [
  ⟨0x01, .u 1, .rw, 0, false, .btw 0 23, false⟩, -- Annunciator select
  ⟨0x02, .u 2, .rwc, 0xffff, true, .any, false⟩, -- Source point
  ⟨0x03, .u 1, .rwc, 0, true, .btw 0 1, false⟩, -- Repeat mode
  ⟨0x04, .f32, .rwc, 0, true, .any, false⟩, -- Value low
  ⟨0x05, .f32, .rwc, 0x42c80000, true, .any, false⟩, -- Value high
  ⟨0x06, .f32, .rwc, 0x447a0000, true, .fbtw (1) (10000), false⟩, -- Full-scale frequency
  ⟨0x07, .f32, .rwc, 0x447a0000, true, .fbtw (100) (10000), false⟩, -- Carrier
  ⟨0x08, .f32, .rwc, 0, true, .fbtw (0) (1), false⟩, -- Duty low
  ⟨0x09, .f32, .rwc, 0x3f800000, true, .fbtw (0) (1), false⟩, -- Duty high
  ⟨0x0A, .u 1, .rwc, 0, true, .btw 0 2, false⟩, -- Fault action
  ⟨0x0B, .f32, .rwc, 0, true, .fbtw (0) (10000), false⟩, -- Fault frequency
  ⟨0x0C, .f32, .rwc, 0, true, .fbtw (0) (1), false⟩, -- Fault duty
  ⟨0x0D, .f32, .ro, 0, false, .any, false⟩, -- Present frequency
  ⟨0x0E, .f32, .ro, 0, false, .any, false⟩ -- Present duty
]

/-- Table 14-9, Umber objects, 0x7400 (14_umber_panel.md). -/
def tab7400 : List Row := [
  ⟨0x01, .bool, .rwc, 0, true, .any, false⟩, -- Enable
  ⟨0x02, .u 1, .rwc, 255, true, .oroff 0 15 255, false⟩, -- Owner
  ⟨0x03, .u 4, .rwc, 0x2580320, true, .any, false⟩, -- Panel size
  ⟨0x05, .u 1, .rwc, 20, true, .btw 20 200, false⟩, -- Clock divider
  ⟨0x06, .u 4, .rwc, 0x4e20, true, .any, false⟩, -- Frame period
  ⟨0x07, .u 2, .rwc, 0xffff, true, .any, false⟩, -- Temperature point
  ⟨0x08, .oct 28, .rwc, 0x42480000422000004200000041c00000418000004100000000000000, true, .any, false⟩, -- Band thresholds
  ⟨0x09, .u 1, .rwc, 3, true, .btw 0 7, false⟩, -- Fallback band
  ⟨0x0A, .oct 8, .rwc, 0, true, .any, false⟩, -- Phase counts
  ⟨0x0B, .u 1, .rwc, 96, true, .btw 64 127, false⟩, -- DC bound
  ⟨0x0C, .domain 104448, .rwc, 0, true, .any, false⟩, -- Waveforms
  ⟨0x0E, .u 2, .rwc, 0x3e8, true, .btw 100 10000, false⟩, -- Rail step delay
  ⟨0x0F, .u 2, .rwc, 0x3e8, true, .btw 0 60000, false⟩, -- Rail idle time
  ⟨0x10, .oct 48, .rwc, 0, true, .any, false⟩, -- Rail monitors
  ⟨0x11, .domain 2457600, .rw, 0, false, .any, false⟩, -- Image
  ⟨0x12, .oct 16, .wo, 0, false, .any, false⟩, -- Update request
  ⟨0x13, .u 1, .ro, 0, false, .any, false⟩, -- Rail state
  ⟨0x14, .oct 16, .ro, 0, false, .any, false⟩, -- Rail voltages
  ⟨0x15, .u 2, .rw, 0, false, .any, false⟩, -- Panel status
  ⟨0x16, .u 1, .ro, 0, false, .any, false⟩, -- In flight
  ⟨0x17, .u 1, .ro, 0, false, .any, false⟩, -- Pending
  ⟨0x18, .domain 1024, .ro, 0, false, .any, false⟩, -- Completion log
  ⟨0x19, .u 4, .ro, 0, false, .any, false⟩, -- Completions
  ⟨0x1A, .f32, .ro, 0x7fc00000, false, .any, true⟩, -- Crack resistance
  ⟨0x1B, .u 4, .ro, 0, false, .any, false⟩, -- Crack failures
  ⟨0x1C, .u 4, .ro, 0, false, .any, false⟩, -- CRC failures
  ⟨0x1D, .u 4, .ro, 0, false, .any, false⟩, -- Balancing substitutions
  ⟨0x1E, .u 1, .wo, 0, false, .one [1], false⟩, -- Rail command
  ⟨0x1F, .domain 2457600, .ro, 0, false, .any, false⟩, -- Current image
  ⟨0x20, .u 4, .ro, 0, false, .any, false⟩, -- Unknown pixels
  ⟨0x21, .u 1, .ro, 255, false, .any, false⟩, -- Last band
  ⟨0x22, .f32, .ro, 0x7fc00000, false, .any, false⟩ -- Panel temperature
]

/-- Table 12-10, Sepia objects, 0x8000 (12_sepia_archive.md). -/
def tab8000 : List Row := [
  ⟨0x01, .u 1, .ro, 0, false, .any, false⟩, -- Archive state
  ⟨0x02, .u 2, .ro, 0, false, .any, false⟩, -- Archive status
  ⟨0x03, .u 2, .rwc, 200, true, .btw 10 1000, false⟩, -- Seal age
  ⟨0x04, .u 4, .rwc, 0x10000, true, .step 4096 65536 4096, false⟩, -- Seal size
  ⟨0x05, .u 1, .rwc, 16, true, .btw 1 16, false⟩, -- Write-out budget
  ⟨0x06, .u 4, .ro, 0, false, .any, false⟩, -- Unwritten total
  ⟨0x07, .time, .ro, 0, false, .any, false⟩, -- Durable horizon
  ⟨0x08, .f32, .ro, 0, false, .any, false⟩, -- Coded write rate
  ⟨0x09, .f32, .ro, 0, false, .any, false⟩, -- Raw rate
  ⟨0x0A, .f32, .ro, 0, false, .any, false⟩, -- Compression ratio
  ⟨0x0B, .u 4, .ro, 0, false, .any, false⟩, -- Staging used
  ⟨0x0C, .u 8, .ro, 0, false, .any, false⟩, -- Dropped bytes
  ⟨0x0D, .u 8, .ro, 0, false, .any, false⟩, -- Records written
  ⟨0x0E, .u 4, .ro, 0, false, .any, false⟩, -- Torn records
  ⟨0x0F, .u 8, .ro, 0, false, .any, false⟩, -- Capacity
  ⟨0x10, .u 8, .ro, 0, false, .any, false⟩, -- Used
  ⟨0x11, .f32, .ro, 0, false, .any, false⟩, -- Years remaining
  ⟨0x12, .u 2, .rwc, 365, true, .zob 1 36500, false⟩, -- Thinning horizon
  ⟨0x13, .u 2, .rwc, 64, true, .pow2 2 1024 false, false⟩, -- Thinning factor
  ⟨0x14, .u 2, .rwc, 1, true, .btw 1 3600, false⟩, -- Frame-value interval
  ⟨0x15, .time, .ro, 0, false, .any, false⟩, -- Thinned up to
  ⟨0x16, .u 1, .ro, 0, false, .any, false⟩, -- Index copies
  ⟨0x17, .time, .ro, 0, false, .any, false⟩, -- Last checkpoint
  ⟨0x18, .time, .ro, 0, false, .any, false⟩, -- Horizon at last loss
  ⟨0x20, .u 1, .rw, 0, false, .btw 0 31, false⟩, -- Slot select
  ⟨0x21, .u 1, .ro, 0, false, .any, false⟩, -- Drive state
  ⟨0x22, .u 4, .ro, 0, false, .any, false⟩, -- Drive location
  ⟨0x23, .u 8, .ro, 0, false, .any, false⟩, -- Namespace size
  ⟨0x24, .u 8, .ro, 0, false, .any, false⟩, -- Slot used
  ⟨0x25, .str 20, .ro, 0, false, .any, false⟩, -- Drive serial
  ⟨0x26, .u 1, .ro, 0, false, .any, false⟩, -- Percentage used
  ⟨0x27, .u 1, .wo, 0, false, .btw 1 4, false⟩, -- Drive command
  ⟨0x28, .u 4, .ro, 0, false, .any, false⟩, -- Media errors
  ⟨0x30, .oct 24, .wo, 0, false, .any, false⟩, -- Query
  ⟨0x31, .domain 4503599627370496, .ro, 0, false, .any, false⟩, -- Interval
  ⟨0x32, .u 8, .ro, 0, false, .any, false⟩ -- Interval length
]

/-- Table 5-13, Vat objects, 0x9000 (05_vats_and_queues.md). -/
def tab9000 : List Row := [
  ⟨0x01, .u 1, .rw, 0, false, .btw 0 15, false⟩, -- Vat select
  ⟨0x02, .bool, .rwc, 0, true, .any, false⟩, -- Enable
  ⟨0x03, .u 4, .rwc, 0, true, .zstep 256 8192 2, false⟩, -- Allotment
  ⟨0x04, .u 8, .ro, 0, false, .any, false⟩, -- Allotment base
  ⟨0x05, .u 2, .rwc, 0, true, .btw 0 8191, false⟩, -- First queue
  ⟨0x06, .u 2, .rwc, 0, true, .btw 0 8192, false⟩, -- Queue count
  ⟨0x07, .u 1, .ro, 0, false, .any, false⟩, -- Vat state
  ⟨0x08, .u 4, .ro, 0, false, .any, false⟩, -- Reset count
  ⟨0x09, .u 1, .rwc, 0, true, .btw 0 1, false⟩, -- Image slot
  ⟨0x0A, .u 4, .ro, 0x6000, false, .any, false⟩, -- Pool free
  ⟨0x0B, .bool, .ro, 0, false, .any, false⟩, -- Change pending
  ⟨0x0C, .u 4, .rw, 0, true, .any, false⟩ -- Event routing
]

/-- Table 5-14, Queue window objects, 0x9100 (05_vats_and_queues.md). -/
def tab9100 : List Row := [
  ⟨0x01, .u 2, .rw, 0, false, .btw 0 8191, false⟩, -- Queue select
  ⟨0x02, .u 1, .ro, 0, false, .any, false⟩, -- Owner
  ⟨0x03, .u 1, .rw, 0, true, .btw 0 9, false⟩, -- Type
  ⟨0x04, .u 1, .rw, 4, true, .btw 4 16, false⟩, -- Depth exponent
  ⟨0x05, .u 8, .rw, 0, true, .any, false⟩, -- Base
  ⟨0x06, .u 8, .rw, 0, true, .any, false⟩, -- Write-back address
  ⟨0x07, .u 4, .rw, 0, true, .pow2 64 16384 true, false⟩, -- Slot size
  ⟨0x08, .u 8, .rw, 0, true, .any, false⟩, -- Data area base
  ⟨0x09, .u 1, .rw, 0, true, .zob 64 255, false⟩, -- Interrupt source
  ⟨0x0A, .bool, .rw, 0, false, .any, false⟩, -- Enable
  ⟨0x0B, .u 1, .ro, 0, false, .any, false⟩, -- State
  ⟨0x0C, .u 4, .ro, 0, false, .any, false⟩, -- Producer index
  ⟨0x0D, .u 4, .ro, 0, false, .any, false⟩, -- Consumer index
  ⟨0x0E, .u 4, .ro, 0, false, .any, false⟩, -- Dropped
  ⟨0x0F, .u 4, .rw, 0, true, .any, false⟩ -- Binding
]

/-- Table 5-12, Private control objects, index 0xA000 + 0x500 × v (05_vats_and_queues.md). -/
def tabA000 : List Row := [
  ⟨0x01, .domain 1048576, .rw, 0, true, .any, false⟩, -- Declaration
  ⟨0x02, .u 1, .wo, 0, false, .one [1], false⟩, -- Declare
  ⟨0x03, .u 2, .ro, 0, false, .any, false⟩, -- Declare result
  ⟨0x04, .u 4, .ro, 0, false, .any, false⟩, -- Failing line
  ⟨0x05, .u 4, .ro, 0, false, .any, false⟩, -- Last changed
  ⟨0x06, .u 4, .ro, 0, false, .any, false⟩, -- Change count
  ⟨0x07, .domain 16777216, .rw, 0, false, .any, false⟩ -- Bulk area
]

/-- Table 4-13, Data port objects, 0xF000 + p (04_object_dictionary.md). -/
def tabF000 : List Row := [
  ⟨0x01, .u 4, .rw, 0, false, .any, false⟩, -- Target
  ⟨0x02, .u 8, .rw, 0, false, .any, false⟩, -- Offset
  ⟨0x03, .u 8, .rw, 0, false, .any, false⟩, -- Length
  ⟨0x04, .oct 1408, .rw, 0, false, .any, false⟩, -- Data
  ⟨0x05, .u 4, .ro, 0, false, .any, false⟩, -- Status
  ⟨0x06, .u 8, .ro, 0, false, .any, false⟩, -- Transferred
  ⟨0x07, .u 2, .rw, 10, false, .btw 1 3600, false⟩ -- Hold timeout
]

/-- The tables by their (first) index. -/
def rowsOf : Nat → List Row
  | 0x1000 => tab1000
  | 0x1010 => tab1010
  | 0x1020 => tab1020
  | 0x1030 => tab1030
  | 0x1040 => tab1040
  | 0x1100 => tab1100
  | 0x1200 => tab1200
  | 0x2000 => tab2000
  | 0x2100 => tab2100
  | 0x2200 => tab2200
  | 0x2300 => tab2300
  | 0x2400 => tab2400
  | 0x3000 => tab3000
  | 0x3100 => tab3100
  | 0x3200 => tab3200
  | 0x3400 => tab3400
  | 0x3600 => tab3600
  | 0x3700 => tab3700
  | 0x4000 => tab4000
  | 0x4001 => tab4001
  | 0x4004 => tab4004
  | 0x400C => tab400C
  | 0x4800 => tab4800
  | 0x5000 => tab5000
  | 0x5001 => tab5001
  | 0x5002 => tab5002
  | 0x5400 => tab5400
  | 0x5500 => tab5500
  | 0x5600 => tab5600
  | 0x6000 => tab6000
  | 0x6100 => tab6100
  | 0x6101 => tab6101
  | 0x6200 => tab6200
  | 0x6300 => tab6300
  | 0x7000 => tab7000
  | 0x7001 => tab7001
  | 0x7100 => tab7100
  | 0x7200 => tab7200
  | 0x7400 => tab7400
  | 0x8000 => tab8000
  | 0x9000 => tab9000
  | 0x9100 => tab9100
  | 0xA000 => tabA000
  | 0xF000 => tabF000
  | _ => []

/-- The index under which an index's table stands: lakes, dynamic channels, loop outputs, private
control indices and data ports share one table each (R78, R210, Tables 6-15 to 6-18). -/
def canonIdx (idx : Nat) : Nat :=
  if 0x4000 ≤ idx ∧ idx < 0x4800 then
    let o := (idx - 0x4000) % 0x40
    if o = 0 then 0x4000 else if o ≤ 2 then 0x4001
    else if 4 ≤ o ∧ o < 12 then 0x4004 else if 12 ≤ o ∧ o < 20 then 0x400C else 0
  else if 0x5000 ≤ idx ∧ idx < 0x5400 then
    let o := (idx - 0x5000) % 0x20
    if o = 0 then 0x5000 else if o = 1 then 0x5001
    else if (idx - 0x5000) % 0x80 = 2 then 0x5002 else 0
  else if 0x7000 ≤ idx ∧ idx < 0x7100 then
    let o := (idx - 0x7000) % 0x10
    if o = 0 then 0x7000 else if o = 1 then 0x7001 else 0
  else if 0xA000 ≤ idx ∧ idx < 0xF000 then
    if (idx - 0xA000) % 0x500 = 0 then 0xA000 else 0
  else if 0xF000 ≤ idx ∧ idx < 0xF010 then 0xF000
  else idx

/-- The table of an index. -/
def tableOf (idx : Nat) : List Row := rowsOf (canonIdx idx)

/-- The row of an object. -/
def rowOf (idx sub : Nat) : Option Row := (tableOf idx).find? (fun r => r.sub == sub)

/-- R71: the highest subindex in use. -/
def highSub (idx : Nat) : Nat := (tableOf idx).foldl (fun m r => max m r.sub) 0

/-- The default a table gives an object, 0 where the object is in none. -/
def tableDefault (idx sub : Nat) : Nat :=
  match rowOf idx sub with
  | some r => r.dflt
  | none => 0

end Sys2Proof.Machine
end

