-- ==== Sys2Proof/Config.lean ====
section
/-!
DEFINITION. Config.lean: what the spec leaves to the part, to manufacture, or open. Every constant here
is opaque: no proof can see a value, so a claim that holds, holds whatever the value is.
-/
namespace Sys2Proof.Config

/-- The fresh free values: the `n`th value the spec leaves open, drawn by advancing `State.node.fresh`
(assumption log 3). -/
opaque freeValue : Nat → Nat

/-- 0x1000.04, set at manufacture. -/
opaque serialNumber : Nat
/-- 0x1000.05, the version of the keeper firmware in the part. -/
opaque keeperVersion : Nat
/-- 0x3000.04, the part's MAC address as a little-endian number of six bytes. -/
opaque macAddress : Nat
/-- 0x3700.03, the tag's UID as a little-endian number of eight bytes. -/
opaque tagUid : Nat

/-- R88: the bytes of the store image that holds these objects and DOMAINs, and R335 to R346: of the image a
clone copies; the spec gives no image format (assumption log 21). -/
opaque storeImage : List (Nat × Nat) → List (Nat × List Byte) → List Byte

/-- The image a flash slot left manufacture with, by 2 * image + slot (R429; assumption log 22). -/
opaque factoryImage : Nat → List Byte

/-- 0x2300.07, the certificate chain, set at manufacture (R440). -/
opaque certChain : List Byte

/-- R439: the ECDSA P-384 signature, as one number, that the part's key gives the bytes of a quote; the first
argument stands for the random number of the signature (assumption log 23). -/
opaque quoteSignature : Nat → List Byte → Nat

/-- R145: the IEC 60584-1 reference function E in mV of thermocouple type `t` at a temperature in °C.
The spec cites the standard and does not give its coefficients (assumption log 30). -/
opaque thermoE : Nat → Rat → Rat
/-- R145: the temperature that the node's Newton solution gives for an e in mV, or none where no
temperature of the type's range produces it (assumption log 30). -/
opaque thermoT : Nat → Rat → Option Rat
/-- R138: the largest absolute value of E of a type over its range in Table 6-5, in mV. -/
opaque thermoMax : Nat → Rat

/-- R358: the k that the encoder chooses for a block of values; only bits [5:0] count (assumption log 60). -/
opaque coderK : List Nat → Nat

/-- R67: the rate in ppb that the time island's discipline finds from the last PTP offsets, newest first, and
the rate in force. The spec gives its limits, not its filter (assumption log 61). -/
opaque servoRate : List Int → Int → Int

/-- The part's IEEE 1588 clockIdentity, and the offsetScaledLogVariance it announces (R301 gives neither). -/
opaque clockIdentity : Nat
opaque ptpVariance : Nat

end Sys2Proof.Config
end

