-- ==== Sys2Proof/Machine/State.lean ====
section
/-!
DEFINITION. Machine/State.lean: everything the spec gives the block, as plain data.

`od` holds every object of the dictionary (R70) that differs from its default, keyed by instance, index
and subindex; `dom` the DOMAINs; the structures hold what the spec gives the machine beside its objects.
`pending` is the queue of commands (first in, first out), `vmem` the vats' DRAM.
-/
namespace Sys2Proof.Machine

/-! ## Outputs of one command -/

/-- What a command sends out of the block, in order: the reply to a master, frames on the ring, the twin
link or a CAN bus, a local-port transaction's bytes, a tag response, an NVMe command, a pin event. -/
inductive Out where
  | reply (m : Master) (code : Nat) (data : List Byte)
  | spi (data : List Byte)
  | ring (ports : Nat) (data : List Byte)
  | twin (type : Nat) (data : List Byte)
  | canFrame (n : Nat) (ident : Nat) (data : List Byte)
  | tag (data : List Byte)
  | nvme (slot : Nat) (op : Nat) (addr len : Nat)
  | claim (v : Nat) (src : Nat)
  | pin (name : Nat) (level : Bool)
  | ptp (port kind seq : Nat) (corr : Int)
  | stateImage (frame : Nat)
deriving DecidableEq, Repr

/-! ## Power, reset and modes (chapter 02) -/

/-- What the node as a whole is doing: unpowered, on the backup source, started no further than its Boot ROM or
loader (R430), running (its mode is then 0x1010.01), in the line-loss sequence, or held in a node reset. -/
inductive PowerPhase where
  | off
  | keep
  | boot
  | on
  | lineLoss
  | inReset
deriving DecidableEq, Repr, Inhabited

/-- One line input: held off by its overvoltage lockout (R448), and since when it feeds (R26). -/
structure LineIn where
  held : Bool := false
  fedSince : Option Nat := none
deriving DecidableEq, Repr, Inhabited

/-- Line power, the KEEP domain's supply, a node reset in progress, the straps, a hold-up short still to be reported
(R37), and the flash sectors whose erase fails verification twice (what a start was told of them). -/
structure PowerSt where
  phase : PowerPhase := .on
  east : LineIn := { fedSince := some 0 }
  west : LineIn := {}
  lastFeedEnd : Nat := 0
  backup : Bool := false
  lossAt : Nat := 0
  resetOrigin : Nat := 0
  resetCause : Nat := 0
  nresetLow : Bool := false
  nresetRise : Nat := 0
  strap : Nat := 0
  prefStrap : Bool := true
  shortDue : Bool := false
  bad : List Nat := []
deriving DecidableEq, Repr, Inhabited

/-- A wait of the role decision (R32): when it began and the cause code the decision carries. -/
structure RoleWait where
  since : Nat
  cause : Nat
deriving DecidableEq, Repr, Inhabited

/-- Mode commands waiting for their frame boundary (R466), the role decision, whether the start read the tag's commission
flag as set (R443), reactions waiting for the
boundary (R22, R417), and a keeper reset in progress (R42). -/
structure ModeSt where
  cmds : List Nat := []
  startCause : Nat := 0x10
  tagFlag : Bool := false
  roleDue : Bool := true
  roleWait : Option RoleWait := none
  degradedReq : Bool := false
  safeReq : Bool := false
  handoverReq : Bool := false
  handoverDrop : Bool := false
  reactionFns : Nat := 0
  keeperReset : Option Nat := none
  keeperHandedOver : Bool := false
  standbyCause : Nat := 0
deriving DecidableEq, Repr, Inhabited

/-! ## Islands, broadcasts and the RTC (chapter 03) -/

/-- One island's time copy (R52): its value `base` at the instant `at`, the excess over its target that
half-rate running still has to make up, the tokens since its PLL locked (R55), and its last valid value (R108). -/
structure IslandSt where
  base : Nat := 0
  since : Nat := 0
  debt : Nat := 0
  tokens : Nat := 0
  target : Nat := 0
  held : Nat := 0
deriving DecidableEq, Repr, Inhabited

/-- What a broadcast asks every island to do (R56, R58). -/
inductive BcastKind where
  | timeStep (delta : Int)
  | capture
  | modeChange
  | snapshot (initiator : Nat) (ident : Nat)
  | action
deriving DecidableEq, Repr, Inhabited

/-- A broadcast: what it asks, its TAI time when it is timed, and whether it acts on arrival as LATE. -/
structure Bcast where
  kind : BcastKind := .modeChange
  time : Option Nat := none
  late : Bool := false
deriving DecidableEq, Repr, Inhabited

/-- A timed broadcast that has reached the islands: those still to act. -/
structure BcastArmed where
  b : Bcast := {}
  islands : List Nat := []
deriving DecidableEq, Repr, Inhabited

/-- The broadcast root (R57): the one in the chain with its issue time, those waiting, those armed. -/
structure BcastSt where
  chain : Option (Bcast × Nat) := none
  waiting : List Bcast := []
  armed : List BcastArmed := []
deriving DecidableEq, Repr, Inhabited

/-- The RTC (R59 to R64): 1/32,768 s ticks since the PTP epoch, the trim window in force, a pending
shift and capture, the tick at which the next wake falls, and the window's start for R68. -/
structure RtcSt where
  ticks : Nat := 0
  rem : Nat := 0
  trim : Int := 0
  trimLeft : Nat := 0
  shift : Option Int := none
  capture : Bool := false
  wakeDue : Option Nat := none
  winTicks : Nat := 0
  winTai : Nat := 0
  winValid : Bool := false
deriving DecidableEq, Repr, Inhabited

/-! ## The persistent store, data ports and the local port (chapter 04) -/

/-- One store bank (R88): whether it passes its check, whether it is blank, its sequence number, and the
image it holds; `left` counts sectors still to be erased before it can be programmed. -/
structure Bank where
  valid : Bool := false
  blank : Bool := true
  seq : Nat := 0
  objs : List (Nat × Nat) := []
  doms : List (Nat × List Byte) := []
  len : Nat := 0
  left : Nat := 0
deriving DecidableEq, Repr, Inhabited

/-- A commit that runs (R90): its snapshot, the bank it goes to, the master that commanded
it, and the service cycle that accepted it. -/
structure CommitJob where
  bankB : Bool := false
  objs : List (Nat × Nat) := []
  doms : List (Nat × List Byte) := []
  len : Nat := 0
  seq : Nat := 0
  master : Nat := 0
  cycle : Nat := 0
deriving DecidableEq, Repr, Inhabited

/-- The NOR flash as far as the spec gives it state: the banks, the commit and the bank whose erase runs, the
erase count and faults of sectors (R84 to R87), and the configuration description (R106). -/
structure StoreSt where
  bankA : Bank := {}
  bankB : Bank := {}
  job : Option CommitJob := none
  erasing : Option Bool := none
  eraseCounts : List (Nat × Nat) := []
  halfErased : List Nat := []
  retired : List Nat := []
  unusable : List Nat := []
  applied : Option (List Byte) := none
  stored : List Byte := []
deriving DecidableEq, Repr, Inhabited

/-- The states of a data port (Table 4-14). -/
inductive PortState where
  | idle
  | claimed
  | opened
  | hold
  | applying
  | done
  | abandoned
deriving DecidableEq, Repr, Inhabited

/-- One data port beside its objects: its holder, the last abort code, the staged bytes of a write or the
snapshot of a read, the last access (hold timeout), the instance the target was claimed for, and the offset at the
opening of the transfer. -/
structure PortSt where
  state : PortState := .idle
  holder : Option Master := none
  lastAbort : Nat := 0
  buf : List Byte := []
  lastAccess : Nat := 0
  inst : Nat := 0
  base : Nat := 0
deriving DecidableEq, Repr, Inhabited

/-- The transport a dictionary request came by, with what its answer carries: the local port's TAG and OP (Table
4-16); the ring request's source address, TOKEN and OP (Table 10-8); the CAN controller, frame size and TOGGLE (Table
13-7); the OD service descriptor (Table 5-9). `id` numbers a request that a RESYNC or a new INIT may overtake. -/
inductive Via where
  | direct
  | lp (id tag op : Nat)
  | ring (mac token op : Nat)
  | can (c size : Nat) (toggle : Bool) (id : Nat)
  | od (q pos : Nat)
deriving DecidableEq, Repr

/-- The local port (R100 to R103): whether it is enabled since start, requests served but not yet answered, responses
ready in order, the one of them that the ninth slot holds, and the two sticky flags. -/
structure LpSt where
  on : Bool := true
  serial : Nat := 0
  outstanding : List Nat := []
  ready : List (List Byte) := []
  ninth : Option (List Byte) := none
  overrun : Bool := false
  crcErr : Bool := false
deriving DecidableEq, Repr, Inhabited

/-! ## Vats and queues (chapter 05) -/

/-- One vat beside its objects: the core's restart state (pc and privilege), its control window
(Table 5-3), its interrupt controller (Table 5-5), and the configuration in force since start (R131). -/
structure VatSt where
  pc : Nat := 0x80000000
  priv : Nat := 3
  accessFault : Option (Nat × Nat) := none
  held : Bool := true
  mtimecmp : Nat := 0xFFFFFFFFFFFFFFFF
  stimecmp : Nat := 0xFFFFFFFFFFFFFFFF
  mtip : Bool := false
  stip : Bool := false
  prio : List (Nat × Nat) := []
  pend : List Nat := []
  claimed : List Nat := []
  mena : Nat := 0
  sena : Nat := 0
  mthresh : Nat := 0
  sthresh : Nat := 0
  allotMiB : Nat := 0
  base : Nat := 0
  firstQ : Nat := 0
  countQ : Nat := 0
  enabled : Bool := false
  slot : Nat := 0
deriving DecidableEq, Repr, Inhabited

/-- An entry waiting for delivery: its descriptor and the bytes of its data slot. -/
structure QEntry where
  desc : List Byte := []
  data : List Byte := []
deriving DecidableEq, Repr, Inhabited

/-- One queue beside its objects: the vat's last doorbell value is PI or CI in 0x9100.0C/.0D; here the
entries waiting for delivery, the slot being filled (its samples with their times), whether entries
were dropped since the last delivery, the descriptor sequence number, descriptors fetched and not
yet completed, those fetched before the queue was emptied or enabled anew (Table 5-11), the engine's fetch index, and
the requests whose disabling write is answered once all have completed (R124); `cut` marks a queue that its vat's reset
disabled: entries bound for it during the reset are counted as dropped (Table 5-11). -/
structure QueueSt where
  wait : List QEntry := []
  fill : List (Nat × List Byte) := []
  fillPrefix : List Byte := []
  fillGap : Bool := false
  dropped : Bool := false
  seq : Nat := 0
  inFlight : List Nat := []
  orphans : List Nat := []
  fetched : Nat := 0
  closing : List (Master × Via) := []
  written : Nat := 0
  cut : Bool := false
deriving DecidableEq, Repr, Inhabited

/-- A descriptor that completes (R119): its queue and position, STATUS, LEN where the engine writes it, and the
bytes it stores at ADDR first. -/
structure DescDone where
  q : Nat := 0
  pos : Nat := 0
  status : Nat := 0
  len : Option Nat := none
  data : List Byte := []
deriving DecidableEq, Repr, Inhabited

/-- The queue engines: the grant pointers of R123 (`vp` per engine, `qp` per engine and vat), and the
completions of this command that are still to be stored. -/
structure EngineSt where
  vp : List (Nat × Nat) := []
  qp : List (Nat × Nat) := []
  done : List DescDone := []
deriving DecidableEq, Repr, Inhabited

/-! ## Verdigris (chapter 15) -/

/-- A fault message (Table 15-1) and what its capture record would add (Table 15-7). -/
structure FaultMsg where
  word : Nat := 0
  addr : Nat := 0
  master : Nat := 0
  masterId : Nat := 0
  access : Nat := 0xFF
deriving DecidableEq, Repr, Inhabited

/-- One block's queue for the collector (R411). -/
structure BlockQ where
  msgs : List FaultMsg := []
  lost : Nat := 0
deriving DecidableEq, Repr, Inhabited

/-- One tracked pair (R415, R416). -/
structure PairSt where
  buckets : List Nat := List.replicate 16 0
  j : Nat := 0
  severe : Bool := false
  occ : Nat := 0
  last : Nat := 0
  unlatch : Bool := false
  lastPub : Option Nat := none
deriving DecidableEq, Repr, Inhabited

/-- An entry of the publication queue (Table 15-9). -/
structure PubEntry where
  word : Nat := 0
  time : Nat := 0
  severe : Bool := false
  reaction : Nat := 0xFF
  occ : Nat := 0
deriving DecidableEq, Repr, Inhabited

/-- The collector beside its objects. Pairs are keyed by 256 * source + kind. -/
structure VerSt where
  queues : List (Nat × BlockQ) := []
  pairs : List (Nat × PairSt) := []
  log : List (Nat × Nat) := []
  uncopied : Nat := 0
  pub : List PubEntry := []
  pubLost : Nat := 0
  lastFrame : Option Nat := none
deriving DecidableEq, Repr, Inhabited

/-! ## The frame island's input (R213, chapters 06 to 08) -/

/-- A value on its way to Mordant: F32 pattern, quality (Table 4-9) and stamp. -/
structure Reading where
  value : Nat := 0x7FC00000
  q : Nat := 3
  time : Nat := 0
deriving DecidableEq, Repr, Inhabited

/-! ## Lakes (chapter 06) -/

/-- A reading in its 250 µs hold (R157). -/
structure HeldReading where
  pin : Nat := 0
  r : Reading := {}
  raw : Nat := 0
  status : Nat := 0
  ready : Nat := 0
deriving DecidableEq, Repr, Inhabited

/-- One converter of a lake: the list in force, the slot it is at, when that slot began, the code of
phase A of a swapped pair, the mains frequency the conversion took, and the state of its reference
check. -/
structure ConvSt where
  list : List Nat := []
  pos : Nat := 0
  running : Bool := false
  slotStart : Nat := 0
  scanStart : Nat := 0
  late : Bool := false
  phaseA : Option (Int × Nat) := none
  freq : Nat := 0x42480000
  cfg : List (Nat × Nat) := []
  refBad : Bool := false
  discard : Bool := false
deriving DecidableEq, Repr, Inhabited

/-- One pin of a lake: its last valid value, a declared break, the last violation and the run of failing
pulses (R160 to R163), and the last reported contact band (R148, R149). -/
structure PinSt where
  lastGood : Nat := 0x7FC00000
  broken : Bool := false
  lastBad : Nat := 0
  failRun : Nat := 0
  failFirst : Nat := 0
  band : Option Nat := none
  sampled : Nat := 1
deriving DecidableEq, Repr, Inhabited

/-- One lake beside its objects. -/
structure LakeSt where
  c0 : ConvSt := {}
  c1 : ConvSt := {}
  pins : List (Nat × PinSt) := []
  held : List HeldReading := []
  toReturn : List Nat := []
  freq : Nat := 0x42480000
  refTest : List (Nat × Int) := []
deriving DecidableEq, Repr, Inhabited

/-- The mains frequency meter (R151): the last nine rising zero crossings, newest first. -/
structure MainsSt where
  cross : List Nat := []
  lastValid : Option Nat := none
  since : Nat := 0
deriving DecidableEq, Repr, Inhabited

/-! ## Time discipline (R65 to R69) -/

/-- The time island's discipline beside its objects: the rate in ppb it applies, the part of a ns left
over, the offset still to be slewed away and the slew limit, the last PTP offsets (newest first), when
the last Sync and Announce came, when HOLDOVER began, the leap flags of the grandmaster, and the leap offset in
force before the TAI second `offFrom`. -/
structure TimeSt where
  rate : Int := 0
  rem : Int := 0
  slewLeft : Int := 0
  slewPpm : Nat := 100
  offsets : List Int := []
  lastSync : Nat := 0
  lastAnnounce : Nat := 0
  holdSince : Nat := 0
  utcValid : Bool := false
  leap59 : Bool := false
  leap61 : Bool := false
  leapAt : Option Nat := none
  offOld : Nat := 0
  offFrom : Nat := 0
deriving DecidableEq, Repr, Inhabited

/-! ## Cinnabar and the tag (chapter 16) -/

/-- A quote request that waits (R438); once Cinnabar has started it, the contents it took (Table 16-5, without
SIG). -/
structure QuoteReq where
  master : Nat := 0
  nonce : List Byte := []
  mask : Nat := 0
  body : List Byte := []
deriving DecidableEq, Repr, Inhabited

/-- Cinnabar beside its objects: measurement registers (unlisted: 48 zero bytes), the event log and the entries
since start, quotes waiting, the finished quote and the last accepted request of each master, the log anchor
held in KEEP memory, the images in the flash slots (key 2 * image + slot), and the slots the running images
came from. -/
structure CinSt where
  regs : List (Nat × List Byte) := []
  log : List (List Byte) := []
  count : Nat := 0
  wrapped : Bool := false
  waiting : List QuoteReq := []
  ready : List (Nat × List Byte) := []
  lastReq : List (Nat × Nat) := []
  bootCount : Nat := 0
  anchorCount : Nat := 0
  anchor : List Byte := List.replicate 48 0
  images : List (Nat × List Byte) := []
  running : List Nat := []
  loaderFail : Bool := false
deriving DecidableEq, Repr, Inhabited

/-- The states of an ISO/IEC 15693 tag that is powered (R441). -/
inductive TagState where
  | ready
  | quiet
  | selected
deriving DecidableEq, Repr, Inhabited

/-- The commissioning tag: its nonvolatile bytes from page 9 on (an unlisted byte is 0), the identity of the last
start, whether a reader's field powers it, its protocol state, and the page each side holds with the instant
the hold ends (R444). -/
structure TagSt where
  mem : List Host.Cell := []
  fieldOn : Bool := false
  identNode : Nat := 0
  identBoot : Nat := 0
  state : TagState := .ready
  fieldHold : Option (Nat × Nat) := none
  wiredHold : Option (Nat × Nat) := none
deriving DecidableEq, Repr, Inhabited

/-! ## Archive records being filled (R356, R357, R359) -/

/-- The open record of one kind and source: its prefix, its entries as bytes, their number, first and last
stamp, when its first entry came, and whether entries were lost before it. -/
structure OpenRec where
  prefix_ : List Byte := []
  entries : List Byte := []
  count : Nat := 0
  first : Nat := 0
  last : Nat := 0
  since : Nat := 0
  gap : Bool := false
deriving DecidableEq, Repr, Inhabited

/-! ## Dynamic channels, shafts, crank domains, serial ports (chapter 07) -/

/-- A tenth of a statistics window (R178): samples, sum, sum of squares, smallest, largest, worst quality; `seen` counts samples
without a value too. -/
structure StatBlock where
  seen : Nat := 0
  count : Nat := 0
  sum : Rat := 0
  sumSq : Rat := 0
  lo : Rat := 0
  hi : Rat := 0
  q : Nat := 0
deriving DecidableEq, Repr, Inhabited

/-- One sample of a channel for the resampler. -/
structure DynSample where
  time : Nat := 0
  value : Nat := 0
  q : Nat := 0
deriving DecidableEq, Repr, Inhabited

/-- One angle sample of the cycle windows (R194). -/
structure AngleSample where
  angle : Nat := 0
  value : Nat := 0
  time : Nat := 0
  q : Nat := 0
deriving DecidableEq, Repr, Inhabited

/-- One dynamic channel beside its objects: whether the reset switch is closed, when its last BAD_SENSOR
condition held and when its comparator last tripped, quality and stamp of its RMS and peak, the last
samples (newest first), the statistics blocks, and the angle samples. -/
structure DynSt where
  resetting : Bool := false
  lastBad : Option Nat := none
  lastOver : Nat := 0
  rmsQ : Nat := 3
  rmsTime : Nat := 0
  samples : List DynSample := []
  block : StatBlock := {}
  blocks : List StatBlock := []
  angles : List AngleSample := []
deriving DecidableEq, Repr, Inhabited

/-- One shaft input beside its objects: the stamps of its history (newest first), the fast-class window
(its start, edges, first and last), the run of counts against DIRECTION with its first stamp, and until
when a count error makes the speed BAD_SENSOR. -/
structure ShaftSt where
  hist : List Nat := []
  winStart : Nat := 0
  winCount : Nat := 0
  winFirst : Nat := 0
  winLast : Nat := 0
  against : Nat := 0
  againstAt : Nat := 0
  errUntil : Nat := 0
  standstill : Bool := true
deriving DecidableEq, Repr, Inhabited

/-- One crank domain beside its objects: ahead counts since the index, counts since the previous index,
the revolution, the cam level and whether a rising cam edge came, indices without one, the last count
angles with their stamps (newest first), the compare table in force and the one waiting for θ = 0, the
entries that have acted this cycle, and the cylinders whose window began before an engine stop (R201). -/
structure CrankSt where
  c : Int := 0
  cIdx : Int := 0
  rev : Nat := 0
  camHigh : Bool := false
  camSeen : Bool := false
  noCam : Nat := 0
  counts : List (Rat × Nat) := []
  table : List Nat := []
  next : Option (List Nat) := none
  fired : List Nat := []
  stopped : List Nat := []
deriving DecidableEq, Repr, Inhabited

/-- One serial port beside its objects: the stamp of the frame in progress, whether the line was low at its
request (R203), and whether the port is in reset. -/
structure SerialSt where
  stamp : Option Nat := none
  notReady : Bool := false
  inReset : Bool := false
deriving DecidableEq, Repr, Inhabited

/-! ## Woad frames (chapter 10) and archive records (chapter 12) -/

/-- A frame of the node's own that is handed to the ports: TYPE, FLAGS, DST, SEQ, PART, PARTS and body. -/
structure WoadOut where
  type : Nat := 0
  flags : Nat := 0
  dst : Nat := 0
  seq : Nat := 0
  part : Nat := 0
  parts : Nat := 1
  body : List Byte := []
deriving DecidableEq, Repr, Inhabited

/-- A sealed record (Table 12-6): its header fields, the bytes of its prefix and entries before coding,
the payload as stored with its codec, when it was sealed, and its archive address once it has one. -/
structure ArchRec where
  kind : Nat := 0
  src : Nat := 0
  seq : Nat := 0
  count : Nat := 0
  first : Nat := 0
  last : Nat := 0
  flags : Nat := 0
  codec : Nat := 0
  raw : List Byte := []
  stored : List Byte := []
  sealedAt : Nat := 0
  addr : Option Nat := none
deriving DecidableEq, Repr, Inhabited

/-- A segment of a log (R355): its place, sequence number, the bytes used, and whether thinning wrote it. -/
structure Seg where
  slot : Nat := 0
  idx : Nat := 0
  log : Nat := 0
  seq : Nat := 0
  used : Nat := 4096
  thinned : Bool := false
deriving DecidableEq, Repr, Inhabited

/-- One slot beside its objects: its root port, whether its drive has an index namespace, the command
timeouts in a row. -/
structure DriveSt where
  port : Nat := 0
  index : Bool := false
  timeouts : Nat := 0
deriving DecidableEq, Repr, Inhabited

/-- An archive read in progress (R365): its queue and descriptor, and the result as it stood at the fetch. -/
structure ReadJob where
  q : Nat := 0
  pos : Nat := 0
  addr : Nat := 0
  code : Nat := 0
  result : List Byte := []
deriving DecidableEq, Repr, Inhabited

/-- Sepia beside its objects: sealed records that wait for a place, those being written, those on drives
with their journal entries; the segments with each log's current one and last sequence number; record
sequence numbers; the sources whose next record carries GAP; when writing began and stopped (newest
first); the slots that hold an index copy; journal entries since the last checkpoint and the superblock's
sequence number; the permanent log found no room; reads in progress; each master's query result and
whether it is ready; and the byte counts of the last seconds behind the rates (raw, coded; newest first). -/
structure SepSt where
  waiting : List ArchRec := []
  flight : List ArchRec := []
  done : List ArchRec := []
  segs : List Seg := []
  cur0 : Option (Nat × Nat) := none
  cur1 : Option (Nat × Nat) := none
  seq0 : Nat := 0
  seq1 : Nat := 0
  last0 : Nat := 31
  last1 : Nat := 31
  seqs : List (Nat × Nat) := []
  gaps : List Nat := []
  on : List (Nat × Bool) := []
  drives : List (Nat × DriveSt) := []
  copies : List Nat := []
  journal : List (List Byte) := []
  super : Nat := 0
  full : Bool := false
  reads : List ReadJob := []
  queries : List (Nat × List Byte) := []
  ready : List Nat := []
  rawSec : Nat := 0
  codedSec : Nat := 0
  rates : List (Nat × Nat) := []
  horizonLoss : Nat := 0
deriving DecidableEq, Repr, Inhabited
/-! ## Mordant (chapter 08) -/

/-- One point beside its configuration: `on[]` of R221, the raw condition, the delay counts of R224 with the
instants at which they began, the delayed condition, its onset and return with their values, suppression
(R225), shelving in frames still to go, out of service, FAULT_UNACK, the state, the input of the last
frame (value, quality, stamp, whether a SIMULATED value entered it, whether in fault or awaiting), what is published, the age (`aged` once the
point has been evaluated), the RATE window, the priority of the last condition, what the last command
or reconfiguration asks of the next frame, the two saturation bits, and what was last published
on the ring and archived as a frame value. -/
structure PointSt where
  onHH : Bool := false
  onH : Bool := false
  onL : Bool := false
  onLL : Bool := false
  raw : Nat := 0
  runOn : Nat := 0
  runOff : Nat := 0
  onAt : Nat := 0
  offAt : Nat := 0
  active : Bool := false
  cond : Nat := 0
  onset : Nat := 0
  onsetV : Nat := 0x7FC00000
  ret : Nat := 0
  retV : Nat := 0x7FC00000
  sup : Bool := false
  rel : Nat := 0
  relAt : Nat := 0
  shelve : Option Nat := none
  shelveAt : Nat := 0
  shelveFor : Nat := 0
  oos : Bool := false
  faultUnack : Bool := false
  st : Nat := 0
  fault : Bool := false
  await : Bool := false
  v : Nat := 0x7FC00000
  q : Nat := 3
  t : Nat := 0
  sim : Bool := false
  pubV : Nat := 0x7FC00000
  pubQ : Nat := 3
  age : Nat := 0
  aged : Bool := false
  ageAt : Nat := 0
  rate : Rat := 0
  rateV : Nat := 0
  rateT : Nat := 0
  rateCount : Nat := 0
  rateRun : Bool := false
  rateAt : Nat := 0
  prio : Nat := 4
  restart : Bool := false
  cause : Nat := 0
  late : Bool := false
  satOcc : Bool := false
  satStand : Bool := false
  sent : Option (Nat × Nat × Nat) := none
  kept : Option (Nat × Nat × Nat) := none
deriving DecidableEq, Repr, Inhabited

/-- A record of the frame (Table 8-5) before its FRAME and ARCHIVE fields. -/
structure Rec where
  point : Nat := 0
  state : Nat := 0
  prio : Nat := 4
  qf : Nat := 0
  detail : Nat := 0
  time : Nat := 0
  value : Nat := 0
  area : Nat := 0
  owner : Nat := 0xFF
deriving DecidableEq, Repr, Inhabited

/-- A candidate of a first-out capture (R234): onset, node identity, point. -/
structure Candidate where
  onset : Nat := 0
  ident : Nat := 0
  point : Nat := 0
deriving DecidableEq, Repr, Inhabited

/-- One group beside its objects: the capture's first close, and its candidates. -/
structure GroupSt where
  firstClose : Nat := 0
  cands : List Candidate := []
deriving DecidableEq, Repr, Inhabited

/-- One area (R239 to R251): holder, attendance, a pending offer with its frame count; the alarm call's
state, level, ceiling, timer, last raising point; the engineer-safety timer and its call; the messages
still to repeat; and when the area master was last heard. -/
structure AreaSt where
  holder : Nat := 0
  attended : Bool := true
  offer : Option Nat := none
  offerCount : Nat := 0
  offerAt : Nat := 0
  call : Nat := 0
  level : Nat := 0
  ceiling : Nat := 0
  count : Nat := 0
  since : Nat := 0
  point : Nat := 0xFFFF
  prio : Nat := 4
  seq : Nat := 0
  silenced : Bool := false
  changedAt : Nat := 0
  rep : Nat := 0
  repAt : Nat := 0
  clears : Nat := 0
  es : Nat := 0
  esCount : Nat := 0
  esAt : Nat := 0
  esCall : Option Nat := none
  esCallCount : Nat := 0
  esCallAt : Nat := 0
  esRep : Nat := 0
  esRepAt : Nat := 0
  esClears : Nat := 0
  esChangedAt : Nat := 0
  heardAt : Nat := 0
  remoteStale : Bool := false
deriving DecidableEq, Repr, Inhabited

/-- An operator command that has been accepted (R242) and waits for a close. -/
structure OpCmd where
  op : Nat := 0
  loc : Nat := 0
  target : Nat := 0
  param : Nat := 0
  when_ : Nat := 0
  late : Bool := false
deriving DecidableEq, Repr, Inhabited

/-- The frame engine: the period code in force since node start (R211), the frame number, the last close
with its instant, whether the time was stepped since (R212), closes missed in a row (R215), commands waiting for the close, the schedule,
the frame's records, entries of remote members since the last close with the states last heard, and the
records held in BOOT (R312). -/
structure FrameSt where
  code : Nat := 2
  num : Nat := 0
  started : Bool := false
  lastClose : Nat := 0
  lastAt : Nat := 0
  stepped : Bool := false
  missed : Nat := 0
  ops : List OpCmd := []
  sched : List (Nat × OpCmd) := []
  recs : List Rec := []
  entries : List Candidate := []
  remoteIn : List Candidate := []
  remote : List (Nat × Nat) := []
  calls : List (Nat × List Byte) := []
  held : List WoadOut := []
deriving DecidableEq, Repr, Inhabited

/-! ## Loop outputs and annunciators (chapter 09) -/

/-- One loop output beside its objects: the limiter's p with 32 bits below the code (R264), the target in
force, whether p holds (LOOPS stopped, or SAFE with hold), whether the first set-point was written or
the first frame with source 1 has come (R274), the characters being sent, and the receive FIFO. -/
structure LoopSt where
  p : Nat := 0
  target : Nat := 0
  hold : Bool := false
  begun : Bool := false
  clamped : Bool := false
  sending : Nat := 0
  fifo : List Byte := []
deriving DecidableEq, Repr, Inhabited

/-- One annunciator beside its objects: failures counted, when blanking, ON, the restart delay and the
last hard short began; the CALL demand of the last close; the state held in SAFE; and the repeat
waveform: values computed, the frequency and duty in force, the period's start, its on time and length. -/
structure AnnSt where
  fails : Nat := 0
  blankAt : Nat := 0
  onAt : Nat := 0
  waitAt : Nat := 0
  call : Bool := false
  safeHold : Bool := false
  nextFreq : Rat := 0
  nextDuty : Rat := 0
  waveAt : Nat := 0
  waveOn : Nat := 0
  waveLen : Nat := 0
deriving DecidableEq, Repr, Inhabited

/-- One annunciator supply group: the last hard short with its instant, when the group latched, and the
outputs whose restart slots are still to come; whether its supply is low. -/
structure AnnGroupSt where
  short : Option (Nat × Nat) := none
  latchedAt : Nat := 0
  slots : List Nat := []
  slotAt : Nat := 0
  low : Bool := false
deriving DecidableEq, Repr, Inhabited

/-! ## The Woad ring (chapter 10) -/

/-- One ring port beside its objects: the frames that wait in TRAINING, failed attempts in a row, whether it
advertises 100BASE-TX only (R284), when it entered TRAINING. -/
structure RingPort where
  queue : List (List Byte) := []
  fails : Nat := 0
  only100 : Bool := false
  trainAt : Nat := 0
deriving DecidableEq, Repr, Inhabited

/-- A frame that has been seen (R293): when, and the ports it came by, as a mask. -/
structure SeenFrame where
  at_ : Nat := 0
  ports : Nat := 0
deriving DecidableEq, Repr, Inhabited

/-- A node-table entry (R293): the identity heard from that address, when it was first seen, when a
supervision frame last came by EAST and by WEST, and the stamp of the last. -/
structure RingNode where
  ident : Nat := 0
  first : Nat := 0
  east : Option Nat := none
  west : Option Nat := none
  last : Nat := 0
  stamp : Nat := 0
deriving DecidableEq, Repr, Inhabited

/-- The address an identity is taken from (R303), and whether it was heard from two. -/
structure IdentEnt where
  mac : Nat := 0
  at_ : Nat := 0
  conflict : Bool := false
deriving DecidableEq, Repr, Inhabited

/-- A snapshot that this node initiated and that runs (R319): its identity and method, FIRE, the addresses
that answered TAKEN and not LATE, the ports the marker came back on, and when collecting ends. -/
structure SnapSt where
  id : Nat := 0
  scheduled : Bool := false
  fire : Nat := 0
  good : List Nat := []
  late : Bool := false
  back : Nat := 0
  endAt : Option Nat := none
deriving DecidableEq, Repr, Inhabited

/-- The ring block beside its objects. `seen` is keyed by 65536 * address + sequence number, `keys` holds the
keys of R306 with their times, `opened` says the ring step of start-up has been reached. -/
structure RingSt where
  ports : List (Nat × RingPort) := []
  opened : Bool := false
  forced : Bool := false
  etype : Nat := 0x88B5
  seen : List (Nat × SeenFrame) := []
  nodes : List (Nat × RingNode) := []
  idents : List (Nat × IdentEnt) := []
  keys : List (Nat × Nat) := []
  seqs : List (Nat × Nat) := []
  vatSeqs : List (Nat × Nat) := []
  hbAt : Nat := 0
  supAt : Nat := 0
  thbAt : Nat := 0
  lastPub : Nat := 0
  rot : Nat := 0
  archRot : Nat := 0
  snap : Option SnapSt := none
  snapCount : Nat := 0
deriving DecidableEq, Repr, Inhabited

/-! ## PTP (R296 to R301) -/

/-- An Announce data set (R301), as the best master clock algorithm compares it. -/
structure GmData where
  prio1 : Nat := 255
  cls : Nat := 255
  acc : Nat := 255
  var : Nat := 65535
  prio2 : Nat := 255
  ident : Nat := 0
  steps : Nat := 0
  at_ : Nat := 0
deriving DecidableEq, Repr, Inhabited

/-- One ring port's PTP: the Sync that waits for its Follow_Up (sequence number, t2, correction in 2^-16 ns,
residence), the last complete Sync (sequence number, path correction in ns), and the Pdelay exchange (its
sequence number, t1, and t2 with t4 once the response came). -/
structure PtpPort where
  sync : Option (Nat × Nat × Int × Nat) := none
  last : Option (Nat × Int) := none
  reqSeq : Nat := 0
  t1 : Nat := 0
  resp : Option (Nat × Nat × Int) := none
deriving DecidableEq, Repr, Inhabited

/-- The PTP engine beside its objects: the clocks heard, whether this node is grandmaster, the last eight path
differences (newest first), and when it last sent Sync and Announce. -/
structure PtpSt where
  ports : List (Nat × PtpPort) := []
  masters : List (Nat × GmData) := []
  mine : Bool := false
  paths : List Int := []
  syncAt : Nat := 0
  annAt : Nat := 0
  syncSeq : Nat := 0
deriving DecidableEq, Repr, Inhabited

/-! ## Twin operation (chapter 11) -/

/-- A Close message being assembled (Table 11-3) with the commands so far. -/
structure CloseMsg where
  num : Nat := 0
  tclose : Nat := 0
  sent : Nat := 0
  mode : Nat := 0
  ncmd : Nat := 0
  control : Nat := 0
  setpoint : List Nat := []
  cmds : List (List Byte) := []
deriving DecidableEq, Repr, Inhabited

/-- A planned handover that is proposed (R340, R342): its close, its cause, whether this node takes, whether it
follows a keeper reset, and whether both nodes agreed. -/
structure HandAgreed where
  close : Nat := 0
  cause : Nat := 0x23
  taker : Bool := false
  keeper : Bool := false
  acked : Bool := false
deriving DecidableEq, Repr, Inhabited

/-- A command passed to the owner (R333): its 16 bytes, its master and transport, and when. -/
structure PassedCmd where
  rec_ : List Byte := []
  master : Master := .localPort
  via : Via := .direct
  at_ : Nat := 0
deriving DecidableEq, Repr, Inhabited

/-- The twin logic beside its objects: OWN and FORCE as this node drives and sees them, with the instants of the
last changes; when the last valid heartbeats came on the link and on the ring and what they carried; of the last
fall of OWN_IN its TAI, whether the link was silent then, whether a link heartbeat with OWNING clear was sent since,
and what a ring heartbeat sent since showed (0 none, 1 OWNING clear, 2 set); the claim of R329; the agreed handover;
the mirror (readings of the frame now filling, the Close in assembly, frames to replay, the last CONTROL and
SETPOINT, and SENT); the node's own last readings while it mirrors; points whose own configuration differs from the
owner's; frames not yet sent by the owner; passed commands; when a state image was sent; commands for the next Close;
line tests and since when they are unreported; the self-tests' progress and the health report; the clone in progress; whether the heartbeats of R328
run; and whether a digest came. -/
structure TwinSt where
  own : Bool := false
  ownIn : Bool := false
  ownInAt : Nat := 0
  forceIn : Bool := false
  forceOut : Bool := false
  forceAt : Nat := 0
  claimAt : Option Nat := none
  claimCause : Nat := 0
  det : Bool := false
  hbAt : Nat := 0
  hbSent : Nat := 0
  hbSeen : Bool := false
  silent : Bool := true
  ringHbAt : Nat := 0
  hbTai : Nat := 0
  clearSeen : Bool := false
  fallTai : Nat := 0
  fellSilent : Bool := false
  ringAfter : Nat := 0
  peerIdent : Nat := 0
  peerMode : Nat := 0
  conflict : Bool := false
  seqIn : List (Nat × Nat) := []
  seqOut : List (Nat × Nat) := []
  agreed : Option HandAgreed := none
  loaded : Bool := false
  rx : List (Nat × Reading) := []
  rxFirst : List (Nat × Reading) := []
  close : Option CloseMsg := none
  replay : List (CloseMsg × List (Nat × Reading) × List (Nat × Reading)) := []
  control : Nat := 0
  setpoint : List Nat := []
  sent : Nat := 0
  ownLast : List (Nat × Reading) := []
  ownerCfg : List (Nat × List Byte) := []
  unsent : List (Nat × List WoadOut) := []
  passed : List PassedCmd := []
  imageSent : Bool := false
  imageAt : Nat := 0
  cmds : List (List Byte) := []
  ownOk : Bool := true
  forceOk : Bool := true
  ownFault : Bool := false
  testAt : Nat := 0
  ownWait : Option Nat := none
  forceWait : Option Nat := none
  lineTest : Nat := 0
  lakeAt : Nat := 0
  lakeNext : Nat := 0
  lakeTest : Option Nat := none
  loopAt : Nat := 0
  loopNext : Nat := 0
  scrubAt : Nat := 0
  updated : Nat := 0
  unitPass : Nat := 0
  unitFail : Nat := 0
  loopFail : Nat := 0
  scrubs : Nat := 0
  scrubFixed : Nat := 0
  scrubBad : Nat := 0
  digestAt : Nat := 0
  fitSince : Option Nat := none
  clone : Option Nat := none
  pipe : Bool := true
  digestSeen : Bool := false
deriving DecidableEq, Repr, Inhabited

/-! ## CAN FD controllers (chapter 13) -/

/-- A transmit buffer (R380): the queue and position of its descriptor, the descriptor's TAG, the identifier
word, FDF and BRS, the data; whether an attempt has begun its arbitration field; and the positions of the
cancel descriptors that wait for its fate (R381). -/
structure CanBuf where
  q : Nat := 0
  pos : Nat := 0
  tag : Nat := 0
  ident : Nat := 0
  fdf : Bool := false
  brs : Bool := false
  data : List Byte := []
  begun : Bool := false
  cancels : List Nat := []
deriving DecidableEq, Repr, Inhabited

/-- A dictionary session (R385, R386): frame size F, whether it writes, the object, the length in all, the bytes
taken so far or still to be sent, the TOGGLE of the next segment, and when the last request came. -/
structure CanSess where
  size : Nat := 8
  write : Bool := false
  idx : Nat := 0
  sub : Nat := 0
  len : Nat := 0
  buf : List Byte := []
  toggle : Bool := false
  last : Nat := 0
deriving DecidableEq, Repr, Inhabited

/-- One CAN controller beside its objects: the transmit buffers in fetch order, the dictionary responses in the
33rd buffer, the session, the bit timing in force (R374), whether recovery
from BUS_OFF was commanded, the number of a request served whose answer is still due, and whether a reset runs (R41). -/
structure CanSt where
  bufs : List CanBuf := []
  resp : List (List Byte) := []
  sess : Option CanSess := none
  timing : List Nat := []
  recover : Bool := false
  serial : Nat := 0
  waits : Option Nat := none
  inReset : Bool := false
deriving DecidableEq, Repr, Inhabited

/-! ## Umber (chapter 14) -/

/-- A pending update request (R399 to R402): its rectangle, INIT and TAG, the staged copy (none while it waits
for an image transfer to apply) as one level per pixel, when the copy and its CRC ended, DEFERRED, and the RESULT the checks
before the boundary gave it (0: none). -/
structure UmbReq where
  x : Nat := 0
  y : Nat := 0
  w : Nat := 0
  h : Nat := 0
  init : Bool := false
  tag : Nat := 0
  staged : Option (List Nat) := none
  crc : Nat := 0
  copied : Option Nat := none
  deferred : Bool := false
  verdict : Nat := 0
deriving DecidableEq, Repr, Inhabited

/-- A rectangle in flight (R403): its request, band, phases in all and driven, the waveform entry of each of its
pixels, and whether a balancing entry was used. -/
structure UmbFly where
  req : UmbReq := {}
  band : Nat := 0
  count : Nat := 0
  phase : Nat := 0
  entries : List Nat := []
  balanced : Bool := false
deriving DecidableEq, Repr, Inhabited

/-- One pixel (R394, R398): its level, whether it is known, and its accumulator. -/
structure UmbPix where
  level : Nat := 0
  known : Bool := false
  acc : Int := 0
deriving DecidableEq, Repr, Inhabited

/-- Umber beside its objects: pending requests in order of acceptance, rectangles in flight, the pixels that
differ from the start's (key 4096 * row + column), the rail enables (bit 0 VGL to bit 4 VCOM), the last step's
instant, since when nothing was in flight, and whether the discharge sequence began in FAULT. -/
structure UmbSt where
  pend : List UmbReq := []
  fly : List UmbFly := []
  pix : List (Nat × UmbPix) := []
  rails : Nat := 0
  stepAt : Nat := 0
  idleAt : Nat := 0
  fromFault : Bool := false
deriving DecidableEq, Repr, Inhabited

/-! ## The node and the machine -/

/-- Everything of the node but the command queue and the vats' DRAM. -/
structure Node where
  /-- elapsed nanoseconds since the model began: every timer measures by it -/
  now : Nat := 0
  /-- the time island's TAI count, 0x1100.01 (R65: it starts at 0 at reset release) -/
  tai : Nat := 0
  /-- what the last command sent -/
  out : List Out := []
  /-- the model's own counter of free values drawn (assumption log 3); not the spec's -/
  fresh : Nat := 0
  /-- the object values that differ from their defaults, by key -/
  od : List (Nat × Nat) := []
  /-- the DOMAINs that are not empty, by key -/
  dom : List (Nat × List Byte) := []
  pwr : PowerSt := {}
  mode : ModeSt := {}
  islands : List (Nat × IslandSt) := []
  bc : BcastSt := {}
  rtc : RtcSt := {}
  time : TimeSt := {}
  store : StoreSt := {}
  ports : List (Nat × PortSt) := []
  lp : LpSt := {}
  vats : List (Nat × VatSt) := []
  queues : List (Nat × QueueSt) := []
  eng : EngineSt := {}
  ver : VerSt := {}
  /-- the frame island's input buffer now filling, by source key (R213) -/
  input : List (Nat × Reading) := []
  lakes : List (Nat × LakeSt) := []
  mains : MainsSt := {}
  cin : CinSt := {}
  tag : TagSt := {}
  /-- records of the archive being filled, keyed 65536 * kind + source -/
  sepOpen : List (Nat × OpenRec) := []
  /-- the service state a lake (0–31) or dynamic lake (32–39) was in before TESTING or IN_RESET (Table 6-12) -/
  svcPrev : List (Nat × Nat) := []
  /-- the dynamic channels -/
  dyn : List (Nat × DynSt) := []
  shafts : List (Nat × ShaftSt) := []
  cranks : List (Nat × CrankSt) := []
  /-- annunciators that a compare PULSE drives, with the instant its WIDTH ends (R193) -/
  pulses : List (Nat × Nat) := []
  serial : List (Nat × SerialSt) := []
  /-- the last reading of each source, whichever frame it entered (R217) -/
  srcLast : List (Nat × Reading) := []
  /-- the first change of each source within the frame now filling (R218) -/
  inputFirst : List (Nat × Reading) := []
  /-- the points that have been evaluated or reconfigured, by number -/
  points : List (Nat × PointSt) := []
  groups : List (Nat × GroupSt) := []
  /-- the areas, 0 to 7 -/
  areas : List (Nat × AreaSt) := []
  frame : FrameSt := {}
  /-- REFRESH in ms of each ring source, as its publications carry it (R308) -/
  refresh : List (Nat × Nat) := []
  /-- the stage enables of R329 -/
  stages : Bool := false
  loops : List (Nat × LoopSt) := []
  anns : List (Nat × AnnSt) := []
  annGroups : List (Nat × AnnGroupSt) := []
  sep : SepSt := {}
  ring : RingSt := {}
  ptp : PtpSt := {}
  twin : TwinSt := {}
  can : List (Nat × CanSt) := []
  umb : UmbSt := {}
deriving DecidableEq, Repr, Inhabited

/-- The machine: the commands that wait (front first), the vats' DRAM in canonical form, and the node. -/
structure State where
  pending : List Instr := []
  vmem : List Host.Cell := []
  node : Node := {}
deriving DecidableEq, Repr

/-- Why a step stops with a fault. The block has no fault of its own: an error is reported to Verdigris
and the node goes on, so no meaning raises one; the constructor stands for completeness and is safe. -/
inductive Fault where
  /-- Raised by no command: an error of the block is a report to Verdigris, after which it goes on. Safe. -/
  | none
deriving DecidableEq, Repr

/-- Why a command is refused by the model. -/
inductive Refusal where
  /-- Raised by an arm of `exec` whose command has no meaning yet; safe, since nothing is claimed of it. -/
  | notModelled (mnemonic : String)
deriving DecidableEq, Repr

/-- The objects that do not stand at their defaults at reset: the RTC status with OSF set (Table 3-8),
0x1200.06 at key `0x120006`; it stands first because keys rise. -/
def resetObjects : List (Nat × Nat) := [(0x120006, 1)]

/-- The machine right after reset (R3, R45, R432): a part as it leaves manufacture, at the release of its
node reset, line power on EAST. Every object stands at its default: mode BOOT, an empty store, OSF set,
the count at 0 (UNSET), every island on its ring oscillator or in reset with its time copy invalid, the
measurement registers at 0, no command waiting (assumption log 2 names each value the spec leaves). -/
def State.reset : State :=
  { pending := [], vmem := [], node := { od := resetObjects } }

end Sys2Proof.Machine
end

