-- ==== Sys2Proof/Machine/Ops.lean ====
section
/-!
DEFINITION. Machine/Ops.lean: the operations every family shares. The object store and the DOMAIN store
(R70, R82), the vats' DRAM (R109 to R111), time (R52, R65), fault messages (R410, R411), routed events
and vat interrupts (R113), and the two forms every command's meaning takes.
-/
namespace Sys2Proof.Machine

/-! ## The vats' DRAM: bytes by address, an unlisted address reads 0 (Table 2-8 zeroes all of it) -/

/-- What an address that the list does not hold reads as. -/
def memDefault : Byte := 0

/-- The byte at an address. -/
def memRead (m : List Host.Cell) (a : Nat) : Byte := mapGet m a memDefault

/-- The memory with one byte stored, in canonical form. -/
def memWrite (m : List Host.Cell) (a : Nat) (b : Byte) : List Host.Cell :=
  if b = memDefault then mapErase m a else mapPut m a b

/-- The canonical form: addresses strictly rising, and no cell that equals what an unlisted one reads. -/
def memWf (m : List Host.Cell) : Bool := mapSorted m && m.all (fun c => c.2 != memDefault)

/-- Several bytes stored, in order. -/
def memWriteAll (m : List Host.Cell) (ws : List (Nat × Byte)) : List Host.Cell :=
  ws.foldl (fun m w => memWrite m w.1 w.2) m

/-- `len` bytes from an address. -/
def memReads (m : List Host.Cell) (a : Nat) : Nat → List Byte
  | 0 => []
  | k + 1 => memRead m a :: memReads m (a + 1) k

/-- The model's address of vat address `a` of vat `v`: each vat sees its own allotment (R111). -/
def vatAddr (v a : Nat) : Nat := v * 2 ^ 40 + a

/-- The writes that store `bs` at vat address `a` of vat `v`. -/
def vatStores (v a : Nat) : List Byte → List (Nat × Byte)
  | [] => []
  | b :: bs => (vatAddr v a, b) :: vatStores v (a + 1) bs

/-! ## The object store -/

/-- The key of an object: `inst` is the selected instance (queue, point, group …) or the master of a
per-master object (R130), 0 where the object has one value. -/
def key (inst idx sub : Nat) : Nat := (inst * 65536 + idx) * 256 + sub

/-- The parts of a key. -/
def keyInst (k : Nat) : Nat := k / 2 ^ 24
def keyIdx (k : Nat) : Nat := k / 256 % 65536
def keySub (k : Nat) : Nat := k % 256

/-- The master's number in keys of per-master objects. -/
def masterCode : Master → Nat
  | .localPort => 1
  | .can n => 2 + n.val
  | .vat v => 16 + v.val
  | .ring id => 256 + id.val

/-- Table 15-3: the default rule of a kind as the number of its eight bytes (Table 15-4): W, N, REACTION,
FUNCTIONS 0, FLAGS; 0 for a reserved kind (R414). -/
def ruleOf (w n reaction flags : Nat) : Nat := w + n * 2 ^ 32 + reaction * 2 ^ 40 + flags * 2 ^ 56

def hourMs : Nat := 3600000

/-- Table 16-14: the default rules of Cinnabar's and the tag's kinds. -/
def cinnabarRule (kind : Nat) : Nat :=
  if kind = 0xE0 then ruleOf (24 * hourMs) 1 0 6
  else if kind = 0xE2 then ruleOf (24 * hourMs) 1 0 5
  else if kind = 0xE1 ∨ kind = 0xE3 ∨ kind = 0xE4 then ruleOf (24 * hourMs) 1 0 4
  else 0

def defaultRule (kind : Nat) : Nat :=
  let log1h := ruleOf hourMs 1 0 4
  let log1d := ruleOf (24 * hourMs) 1 0 4
  let every := ruleOf 1 255 0 4
  if kind = 0x01 ∨ kind = 0x05 ∨ kind = 0x22 ∨ kind = 0x30 ∨ kind = 0x63 then every
  else if kind = 0x02 ∨ kind = 0x04 ∨ kind = 0x11 ∨ kind = 0x33 then log1h
  else if kind = 0x03 then ruleOf (24 * hourMs) 1 0 5
  else if kind = 0x06 then ruleOf hourMs 2 0 7
  else if kind = 0x07 then ruleOf hourMs 100 0 4
  else if kind = 0x08 then ruleOf (24 * hourMs) 1 2 7
  else if kind = 0x10 ∨ kind = 0x32 ∨ kind = 0x46 ∨ kind = 0x52 ∨ kind = 0x64 ∨ kind = 0x71 then log1d
  else if kind = 0x12 then ruleOf 1000 1 0 4
  else if kind = 0x20 then ruleOf 1000 4 2 6
  else if kind = 0x21 then ruleOf 1000 1 1 4
  else if kind = 0x31 ∨ kind = 0x68 ∨ kind = 0x70 then ruleOf hourMs 3 0 4
  else if kind = 0x38 ∨ kind = 0x3B then ruleOf 1000 10 0 4
  else if kind = 0x39 ∨ kind = 0x3A then ruleOf 60000 3 0 4
  else if kind = 0x42 ∨ kind = 0x43 then ruleOf 600000 3 0 4
  else if kind = 0x40 ∨ kind = 0x41 ∨ kind = 0x44 ∨ kind = 0x45 ∨ kind = 0x50 ∨ kind = 0x51 ∨ kind = 0x53
    ∨ kind = 0x58 ∨ kind = 0x59 ∨ kind = 0x61 ∨ kind = 0x62 ∨ kind = 0x69 ∨ kind = 0x72 ∨ kind = 0x73 then log1h
  else if kind = 0x5A then ruleOf (24 * hourMs) 1 0 6
  else if kind = 0x60 then ruleOf 1000 10 0 6
  else if 0xE0 ≤ kind ∧ kind ≤ 0xEF then cinnabarRule kind
  else if 0xF0 ≤ kind ∧ kind ≤ 0xFF then every
  else 0

/-- What an unlisted key reads as: the default of its object table; Table 15-3 for 0x2200.02. -/
def odDefault (k : Nat) : Nat :=
  if keyIdx k = 0x2200 ∧ keySub k = 0x02 then defaultRule (keyInst k) else tableDefault (keyIdx k) (keySub k)

/-- The value at a key. -/
def odGet (od : List (Nat × Nat)) (k : Nat) : Nat := mapGet od k (odDefault k)

/-- The store with `v` at a key, in canonical form: a value equal to the default is not listed. -/
def odPut (od : List (Nat × Nat)) (k v : Nat) : List (Nat × Nat) :=
  if v = odDefault k then mapErase od k else mapPut od k v

/-- The canonical form of the object store. -/
def odWf (od : List (Nat × Nat)) : Bool := mapSorted od && od.all (fun e => e.2 != odDefault e.1)

/-- Object `idx.sub` of instance `inst`. -/
def Node.oi (n : Node) (inst idx sub : Nat) : Nat := odGet n.od (key inst idx sub)
def Node.setI (n : Node) (inst idx sub v : Nat) : Node := { n with od := odPut n.od (key inst idx sub) v }

/-- Object `idx.sub` where it has one value. -/
def Node.o (n : Node) (idx sub : Nat) : Nat := n.oi 0 idx sub
def Node.set (n : Node) (idx sub v : Nat) : Node := n.setI 0 idx sub v

/-- A BOOL object as a truth value. -/
def Node.ob (n : Node) (idx sub : Nat) : Bool := n.o idx sub != 0
def Node.obi (n : Node) (inst idx sub : Nat) : Bool := n.oi inst idx sub != 0

/-- A signed object. -/
def Node.oint (n : Node) (w inst idx sub : Nat) : Int := toI w (n.oi inst idx sub)

/-- An F32 object as a rational. -/
def Node.of32 (n : Node) (inst idx sub : Nat) : Rat := q32 (n.oi inst idx sub)
def Node.setF (n : Node) (inst idx sub : Nat) (q : Rat) : Node := n.setI inst idx sub (r32 q)

/-- A counter that saturates at its type's maximum, and one that wraps; `w` is its width in bits. -/
def Node.incSatI (n : Node) (w inst idx sub : Nat) (by_ : Nat) : Node :=
  n.setI inst idx sub (satAdd (2 ^ w - 1) (n.oi inst idx sub) by_)
def Node.incWrapI (n : Node) (w inst idx sub : Nat) (by_ : Nat) : Node :=
  n.setI inst idx sub ((n.oi inst idx sub + by_) % 2 ^ w)
def Node.incSat (n : Node) (idx sub : Nat) : Node := n.incSatI 32 0 idx sub 1
def Node.incWrap (n : Node) (idx sub : Nat) : Node := n.incWrapI 32 0 idx sub 1

/-- One bit of a status object. -/
def Node.setBitI (n : Node) (inst idx sub i : Nat) (b : Bool) : Node :=
  n.setI inst idx sub (setBit (n.oi inst idx sub) i b)

/-- A DOMAIN's bytes, empty when none were written. -/
def Node.domI (n : Node) (inst idx sub : Nat) : List Byte := mapGet n.dom (key inst idx sub) []
def Node.setDomI (n : Node) (inst idx sub : Nat) (bs : List Byte) : Node :=
  { n with dom := if bs = [] then mapErase n.dom (key inst idx sub) else mapPut n.dom (key inst idx sub) bs }

/-! ## Free values (assumption log 3) -/

/-- The next value the spec leaves open, and the node with the counter advanced. -/
def Node.draw (n : Node) : Nat × Node := (Config.freeValue n.fresh, { n with fresh := n.fresh + 1 })

/-! ## Time -/

/-- Milliseconds and microseconds in nanoseconds. -/
def ms (k : Nat) : Nat := k * 1000000
def us (k : Nat) : Nat := k * 1000
def sec (k : Nat) : Nat := k * 1000000000

/-- Is the node powered from the line and out of reset? -/
def Node.up (n : Node) : Bool := n.pwr.phase == .on

/-- The ns of slewing that a step of `dt` applies (R65, R67). -/
def Node.slewStep (n : Node) (dt : Nat) : Int :=
  let most : Int := (dt * n.time.slewPpm / 1000000 : Nat)
  max (-most) (min n.time.slewLeft most)

/-- `dt` nanoseconds pass: the elapsed time, the TAI count with its rate and slew, and the RTC advance;
the outputs of the command before are gone, and it left no completion behind. The count runs while the time island is out of reset, the
RTC while the KEEP domain is powered (R40, R65). -/
def Node.begin (n : Node) (dt : Nat) : Node :=
  let alive := n.pwr.phase == .on || n.pwr.phase == .lineLoss || n.pwr.phase == .boot
  let slew := if alive then n.slewStep dt else 0
  let acc : Int := (dt : Int) * n.time.rate + n.time.rem
  let tai' : Int := (n.tai : Int) + dt + acc / 1000000000 + slew
  let r := n.rtc.rem + dt * 32768
  { n with
    now := n.now + dt
    tai := if alive then tai'.toNat else n.tai
    time := if alive then { n.time with rem := acc % 1000000000, slewLeft := n.time.slewLeft - slew } else n.time
    rtc := if n.pwr.phase = .off then n.rtc
      else { n.rtc with ticks := n.rtc.ticks + r / 1000000000, rem := r % 1000000000 }
    eng := { n.eng with done := [] }
    out := [] }

/-- The island's state record. -/
def Node.isl (n : Node) (i : Nat) : IslandSt := mapGet n.islands i {}
def Node.setIsl (n : Node) (i : Nat) (x : IslandSt) : Node := { n with islands := mapPut n.islands i x }

/-- R52: the value of island `i`'s time copy now. It advances at its nominal rate, and at half that rate
while it makes up an excess over its target. The time island's copy is the count itself. -/
def Node.copy (n : Node) (i : Nat) : Nat :=
  if i = 0 then n.tai else
  let x := n.isl i
  let d := n.now - x.since
  x.base + d - min x.debt (d / 2)

/-- R55: is island `i`'s time copy valid? The time island holds the count itself. -/
def Node.copyValid (n : Node) (i : Nat) : Bool := i == 0 || n.obi i 0x2100 0x06

/-- The islands of the blocks (Table 3-1). -/
def isleFrame : Nat := 1
def isleKeeper : Nat := 2
def isleRing : Nat := 3
def isleArchive : Nat := 4
def isleVat (v : Nat) : Nat := 5 + v
def isleLake (l : Nat) : Nat := 21 + l
def isleDyn (k : Nat) : Nat := 53 + k

/-- A stamp of island `i` for an instant `ago` ns back (R54). -/
def Node.stamp (n : Node) (i ago : Nat) : Nat := n.copy i - ago

/-! ## Outputs -/

/-- The node with one more output of this command. -/
def Node.emit (n : Node) (o : Out) : Node := { n with out := n.out ++ [o] }
/-- A reply to a master. -/
def Node.reply (n : Node) (m : Master) (code : Nat) : Node := n.emit (.reply m code [])

/-! ## Verdigris: raising a message (R410, R411) -/

/-- The 64-bit message of Table 15-1. -/
def faultWord (src kind vat detail addr : Nat) : Nat :=
  src % 4096 * 2 ^ 52 + kind % 256 * 2 ^ 44 + vat % 16 * 2 ^ 40 + detail % 256 * 2 ^ 32 + addr % 2 ^ 32

/-- Fields of a message. -/
def msgSource (w : Nat) : Nat := bits w 63 52
def msgKind (w : Nat) : Nat := bits w 51 44
def msgVat (w : Nat) : Nat := bits w 43 40
def msgDetail (w : Nat) : Nat := bits w 39 32
def msgAddr (w : Nat) : Nat := bits w 31 0

/-- A block hands a message to its queue; with 16 waiting it is counted as lost (R411). -/
def Node.raiseMsg (n : Node) (m : FaultMsg) : Node :=
  let s := msgSource m.word
  let q := mapGet n.ver.queues s {}
  let q' := if q.msgs.length < 16 then { q with msgs := q.msgs ++ [m] } else { q with lost := q.lost + 1 }
  { n with ver := { n.ver with queues := mapPut n.ver.queues s q' } }

/-- R418: the owner object of a source that has one: AOn, ANn, Umber; 0xFF for none. -/
def Node.ownerOfSource (n : Node) (src : Nat) : Nat :=
  if 0x070 ≤ src ∧ src < 0x080 then n.o (0x7000 + 0x10 * (src - 0x070)) 0x02
  else if 0x080 ≤ src ∧ src < 0x098 then n.oi (src - 0x080) 0x7100 0x03
  else if src = 0x00B then n.o 0x7400 0x02
  else 0xFF

/-- A message of kind `kind` from block `src`; VAT is its owning vat under R418. -/
def Node.fault (n : Node) (src kind detail addr : Nat) : Node :=
  let own := n.ownerOfSource src
  let vat := if 0x010 ≤ src ∧ src < 0x020 then src - 0x010 else if own < 16 then own else 0
  n.raiseMsg { word := faultWord src kind vat detail addr, addr := addr % 2 ^ 32 }

/-! ## Vat interrupts and routed events (R113, Table 5-6) -/

def Node.vat (n : Node) (v : Nat) : VatSt := mapGet n.vats v {}
def Node.setVat (n : Node) (v : Nat) (x : VatSt) : Node := { n with vats := mapPut n.vats v x }

/-- Source `s` of vat `v` becomes pending; a source claimed and not completed is not raised again. -/
def Node.irq (n : Node) (v s : Nat) : Node :=
  let x := n.vat v
  if s = 0 ∨ s ∈ x.claimed ∨ s ∈ x.pend then n else n.setVat v { x with pend := x.pend ++ [s] }

/-- A source raised at every vat. -/
def Node.irqAll (n : Node) (s : Nat) : Node := (List.range 16).foldl (fun n v => n.irq v s) n

/-- A routed hardware event: the source that 0x9000.0C binds its code to becomes pending (R113). The
binding of code `c` is kept at instance `c + 1` of 0x9000.0C, as the value written. -/
def Node.event (n : Node) (c : Nat) : Node :=
  let b := n.oi (c + 1) 0x9000 0x0C
  if bits b 7 0 = 0 then n else n.irq (bits b 11 8) (bits b 7 0)

/-! ## Queues -/

def Node.queue (n : Node) (q : Nat) : QueueSt := mapGet n.queues q {}
def Node.setQueue (n : Node) (q : Nat) (x : QueueSt) : Node := { n with queues := mapPut n.queues q x }

/-- The vat that owns queue `q` in the configuration in force, or 16 for none (R114). -/
def Node.queueOwner (n : Node) (q : Nat) : Nat :=
  (((List.range 16).find? (fun v =>
    (n.vat v).enabled && (n.vat v).firstQ ≤ q && q < (n.vat v).firstQ + (n.vat v).countQ)).getD 16)

/-- Was the queue cut off by its vat's reset, which still lasts (Table 5-11)? -/
def Node.queueCut (n : Node) (q : Nat) : Bool := (n.queue q).cut && n.oi (n.queueOwner q) 0x9000 0x07 == 3

/-- R122: an entry for delivery queue `q`: kept for the engine while a descriptor is free, else dropped
and counted. A queue that is not RUNNING takes nothing, and one whose vat is in reset counts (R125). -/
def Node.deliver (n : Node) (q : Nat) (e : QEntry) : Node :=
  let x := n.queue q
  let occ := (n.oi q 0x9100 0x0C + 2 ^ 32 - n.oi q 0x9100 0x0D) % 2 ^ 32
  if n.oi q 0x9100 0x0B = 1 then
    if occ + x.wait.length < 2 ^ (n.oi q 0x9100 0x04) then n.setQueue q { x with wait := x.wait ++ [e] }
    else (n.incSatI 32 q 0x9100 0x0E 1).setQueue q { x with dropped := true }
  else if n.queueCut q then (n.incSatI 32 q 0x9100 0x0E 1).setQueue q { x with dropped := true }
  else n

/-- The queues of a type that entries are bound for. -/
def Node.queuesOf (n : Node) (type : Nat) : List Nat :=
  (n.queues.map (·.1)).filter (fun q => n.oi q 0x9100 0x03 = type ∧ (n.oi q 0x9100 0x0B ≠ 0 ∨ n.queueCut q))

/-! ## The two forms of a meaning -/

/-- A command that leaves the vats' DRAM alone: time passes, then `f`. -/
def act (dt : Nat) (s : State) (f : Node → Node) : Host.Outcome State Fault Refusal :=
  .next { s with node := f (s.node.begin dt) }

/-- A command that reads the vats' DRAM and may store to it. -/
def actMem (dt : Nat) (s : State) (f : List Host.Cell → Node → Node × List (Nat × Byte)) :
    Host.Outcome State Fault Refusal :=
  let r := f s.vmem (s.node.begin dt)
  .next { s with node := r.1, vmem := memWriteAll s.vmem r.2 }

/-- A command after which the vats' DRAM reads zero (Table 2-8, Table 2-10: all DRAM cleared). -/
def actClear (dt : Nat) (s : State) (clears : Node → Bool) (f : Node → Node) :
    Host.Outcome State Fault Refusal :=
  let n := s.node.begin dt
  .next { s with node := f n, vmem := if clears n then [] else s.vmem }

/-- A part of a meaning that acts only while the node is powered and out of reset. -/
def Node.whenUp (n : Node) (f : Node → Node) : Node := if n.up then f n else n

/-- A part of a meaning that acts only under a condition. -/
def Node.when (n : Node) (c : Bool) (f : Node → Node) : Node := if c then f n else n

end Sys2Proof.Machine
end

