-- ==== Sys2Proof/Machine/Archive.lean ====
section
/-!
DEFINITION. Machine/Archive.lean: Sepia's writing side (chapter 12): open records, sealing, the coder,
placing in segments, writing, and what the drives hold. Its commands are in Sepia.lean.
-/
namespace Sys2Proof.Machine

/-! ## Record layouts and the coder (R357, R358) -/

/-- The key of an open record. -/
def recKey (kind src : Nat) : Nat := kind * 65536 + src

/-- The log of a kind (R355): 0 the stream log, 1 the permanent log. -/
def logOf (kind : Nat) : Nat := if kind ≤ 4 then 0 else 1

/-- Bytes of a kind's prefix (Table 12-7), and the widths of its columns in bits (Tables 6-9, 10-9, 8-5, 7-11). -/
def prefixBytes (kind : Nat) : Nat := if kind = 2 ∨ kind = 3 ∨ kind = 7 then 16 else 0
def columnsOf (kind : Nat) : List Nat :=
  if kind = 1 then [64, 32, 24, 8]
  else if kind = 2 then [24]
  else if kind = 3 then [32]
  else if kind = 4 then [16, 8, 8, 32, 64, 32]
  else if kind = 5 then [16, 8, 8, 8, 8, 16, 64, 32, 32, 48, 16]
  else if kind = 6 then [64, 32, 8, 8, 8, 8, 32, 32, 32, 32]
  else [16, 8, 8, 32, 64, 8, 56]
def entryBytes (kind : Nat) : Nat := (columnsOf kind).foldl (· + ·) 0 / 8

/-- R358: the differences of a column, sign-extended and zigzag-coded. -/
def zigzag (w d : Nat) : Nat :=
  let i := toI w (d % 2 ^ w)
  if i < 0 then 2 * i.natAbs - 1 else 2 * i.natAbs
def diffs (w : Nat) (second : Bool) : Nat → Nat → List Nat → List Nat
  | _, _, [] => []
  | prev, prev2, x :: xs =>
    let d := if second then x + 2 ^ (w + 1) - 2 * prev + prev2 else x + 2 ^ w - prev
    zigzag w d :: diffs w second x prev xs

/-- A bit stream, first bit lowest, and its length in bits. -/
def putBits (s : Nat × Nat) (v w : Nat) : Nat × Nat := (s.1 + v % 2 ^ w * 2 ^ s.2, s.2 + w)

/-- R358: one value of a block. -/
def putValue (k : Nat) (s : Nat × Nat) (v : Nat) : Nat × Nat :=
  let q := v / 2 ^ k
  if q < 32 then putBits (putBits s (2 ^ q - 1) (q + 1)) v k
  else putBits (putBits s (2 ^ 32 - 1) 32) v 64

/-- R358: blocks of 64 values; `fuel` bounds their number. -/
def putBlocks : Nat → Nat × Nat → List Nat → Nat × Nat
  | 0, s, _ => s
  | fuel + 1, s, us =>
    if us = [] then s else
    let b := us.take 64
    let k := Config.coderK b % 64
    putBlocks fuel (b.foldl (putValue k) (putBits s k 6)) (us.drop 64)

/-- The values of one column: `w` bits wide at bit offset `off` of entries of `size` bytes. -/
def columnAt (size off w : Nat) : Nat → List Byte → List Nat
  | 0, _ => []
  | k + 1, bs => fieldLE bs (off / 8) (w / 8) :: columnAt size off w k (bs.drop size)

/-- R358: the coded form of a payload. -/
def codePayload (kind count : Nat) (raw : List Byte) : List Byte :=
  let p := prefixBytes kind
  let es := raw.drop p
  let r := (columnsOf kind).foldl (fun (acc : Nat × (Nat × Nat)) w =>
    (acc.1 + w, putBlocks (count + 1) acc.2 (diffs w (kind == 2) 0 0 (columnAt (entryBytes kind) acc.1 w count es)))) (0, (0, 0))
  raw.take p ++ toLE ((r.2.2 + 7) / 8) r.2.1

/-- R358: what is stored, and its codec: the coded form only where it is shorter. -/
def storedForm (kind count : Nat) (raw : List Byte) : Nat × List Byte :=
  let c := codePayload kind count raw
  if c.length < raw.length then (1, c) else (0, raw)

/-! ## Records as bytes (R356, R367) -/

/-- The 48-byte header and the padded payload of a record. -/
def recordBytes (kind codec rawlen count first last src flags seq : Nat) (payload : List Byte) : List Byte :=
  let h := toLE 2 0x5352 ++ toLE 1 kind ++ toLE 1 codec ++ toLE 4 payload.length ++ toLE 4 rawlen ++ toLE 4 count
    ++ toLE 8 first ++ toLE 8 last ++ toLE 2 src ++ toLE 2 flags ++ toLE 4 seq ++ zeros 4
  h ++ toLE 4 (crc32 (h ++ payload)) ++ payload ++ zeros ((16 - payload.length % 16) % 16)

/-- A record as it is stored, and as it is returned decoded (R365). -/
def ArchRec.storedBytes (r : ArchRec) : List Byte :=
  recordBytes r.kind r.codec r.raw.length r.count r.first r.last r.src r.flags r.seq r.stored
def ArchRec.decodedBytes (r : ArchRec) : List Byte :=
  recordBytes r.kind 0 r.raw.length r.count r.first r.last r.src r.flags r.seq r.raw

/-- Bytes of a record in a segment. -/
def ArchRec.span (r : ArchRec) : Nat := 48 + (r.stored.length + 15) / 16 * 16

/-! ## Members and segments (R353 to R355, R369) -/

def Node.drive (n : Node) (s : Nat) : DriveSt := mapGet n.sep.drives s {}
def Node.driveState (n : Node) (s : Nat) : Nat := n.oi s 0x8000 0x21
/-- The members, in slot order. -/
def Node.members (n : Node) : List Nat := (List.range 32).filter (fun s => n.driveState s == 2)

/-- R354: whole segments of a slot, the first left out because it holds the volume header. -/
def Node.segCount (n : Node) (s : Nat) : Nat := min (n.oi s 0x8000 0x23) (2 ^ 47) / 2 ^ 26

/-- The lowest free segment of a slot. -/
def Node.freeSeg (n : Node) (s : Nat) : Option Nat :=
  let used := (n.sep.segs.filter (fun g => g.slot == s)).map (·.idx)
  ((List.range (used.length + 2)).map (· + 1)).find? (fun i => decide (i < n.segCount s) && !used.contains i)

/-- R355: the next member after the previous segment's, in slot order, that has a free segment. -/
def Node.nextMember (n : Node) (last : Nat) : Option Nat :=
  ((List.range 32).map (fun i => (last + 1 + i) % 32)).find? (fun s => n.members.contains s && (n.freeSeg s).isSome)

def segOf (addr : Nat) : Nat × Nat := (addr / 2 ^ 47, addr % 2 ^ 47 / 2 ^ 26)

/-- A segment is deallocated; what it held is gone from the index. -/
def Node.dropSeg (n : Node) (g : Seg) : Node :=
  ({ n with sep := { n.sep with
      segs := n.sep.segs.filter (fun x => !(x.slot == g.slot && x.idx == g.idx))
      done := n.sep.done.filter (fun r => r.addr.map segOf != some (g.slot, g.idx)) } }).emit (.nvme g.slot 9 (g.idx * 2 ^ 26) (2 ^ 26))

/-- R369: the oldest stream-log segment that may give way: thinned ones first, never a current one. -/
def Node.oldestStreamSeg (n : Node) : Option Seg :=
  let cs := n.sep.segs.filter (fun g => g.log == 0 && n.members.contains g.slot && n.sep.cur0 != some (g.slot, g.idx))
  let pick := fun (l : List Seg) => l.foldl (fun (b : Option Seg) g => match b with
    | some x => if g.seq < x.seq then some g else b
    | none => some g) none
  match pick (cs.filter (·.thinned)) with
  | some g => some g
  | none => pick cs

/-- R369: stream-log segments give way one at a time, each with its message, until a log can open a segment;
`fuel` bounds them by the segments there are. -/
def Node.makeRoom (n : Node) : Nat → Node
  | 0 => n
  | fuel + 1 =>
    if (n.nextMember 31).isSome then n
    else match n.oldestStreamSeg with
      | some g => ((n.dropSeg g).fault 0x00A 0x63 g.slot g.idx).makeRoom fuel
      | none => n

/-- R355: a log opens a segment. The permanent log without a free segment sets FULL (R369). -/
def Node.openSeg (n : Node) (log : Nat) : Node × Option Seg :=
  let n := n.makeRoom n.sep.segs.length
  match n.nextMember (if log = 0 then n.sep.last0 else n.sep.last1) with
  | none =>
    if log = 1 ∧ !n.sep.full ∧ n.members ≠ [] then
      ((({ n with sep := { n.sep with full := true } }).set 0x8000 0x01 4).fault 0x00A 0x64 0 0, none)
    else (n, none)
  | some s =>
    let idx := (n.freeSeg s).getD 1
    let q := (if log = 0 then n.sep.seq0 else n.sep.seq1) + 1
    let g : Seg := { slot := s, idx := idx, log := log, seq := q }
    let sep := { n.sep with segs := n.sep.segs ++ [g] }
    let sep := if log = 0 then { sep with cur0 := some (s, idx), seq0 := q, last0 := s } else { sep with cur1 := some (s, idx), seq1 := q, last1 := s }
    (({ n with sep := sep }).emit (.nvme s 1 (idx * 2 ^ 26) 4096), some g)

/-- The current segment of a log, while its slot is a member. -/
def Node.curSeg (n : Node) (log : Nat) : Option Seg :=
  match (if log = 0 then n.sep.cur0 else n.sep.cur1) with
  | some (s, i) => n.sep.segs.find? (fun g => g.slot == s && g.idx == i && n.members.contains s)
  | none => none

/-- A segment with room for `need` more bytes. -/
def Node.segFor (n : Node) (log need : Nat) : Node × Option Seg :=
  match n.curSeg log with
  | some g => if g.used + need ≤ 2 ^ 26 then (n, some g) else n.openSeg log
  | none => n.openSeg log

/-! ## Writing (R359, R360, R370) -/

/-- Does Sepia write: from BOOT on, with a member, its function not stopped and not full (R369, R370)? -/
def Node.sepWrites (n : Node) : Bool :=
  n.up && !bit (n.o 0x1010 0x04) 4 && !n.sep.full && n.members != []

/-- One sealed record gets its address and is written. -/
def Node.placeRec (n : Node) (r : ArchRec) : Node :=
  let (n, g) := n.segFor (logOf r.kind) r.span
  match g with
  | none => { n with sep := { n.sep with waiting := n.sep.waiting ++ [r] } }
  | some g =>
    let addr := g.slot * 2 ^ 47 + g.idx * 2 ^ 26 + g.used
    let r := { r with addr := some addr }
    let n := { n with sep := { n.sep with
      flight := n.sep.flight ++ [r]
      segs := n.sep.segs.map (fun (x : Seg) => if x.slot = g.slot ∧ x.idx = g.idx then { x with used := g.used + r.span } else x) } }
    n.emit (.nvme g.slot 1 (addr % 2 ^ 47) r.span)

/-- Every sealed record that waits is placed, in seal order. -/
def Node.placeAll (n : Node) : Node :=
  if n.sepWrites then
    n.sep.waiting.foldl (fun n r => n.placeRec r) { n with sep := { n.sep with waiting := [] } }
  else n

/-- 0x8000.01 and the history behind R364; FULL ends once a member has a free segment (assumption log 174). -/
def Node.sepRefresh (n : Node) : Node :=
  let n := if n.sep.full ∧ (n.nextMember 31).isSome then { n with sep := { n.sep with full := false } } else n
  let st := if bit (n.o 0x1010 0x04) 4 then 3 else if n.sep.full then 4 else if n.members = [] then 2 else 1
  let on := n.sepWrites
  let n := n.set 0x8000 0x01 st
  let was := match n.sep.on with
    | (_, b) :: _ => b
    | [] => false
  let n := if on = was then n else { n with sep := { n.sep with on := (n.copy isleArchive, on) :: n.sep.on } }
  n.placeAll

/-- Raw and stored bytes that wait for a drive: the open records, and the sealed ones not yet written. -/
def Node.openBytes (n : Node) : Nat := n.sepOpen.foldl (fun t e => t + e.2.prefix_.length + e.2.entries.length) 0
def Node.sealedRaw (n : Node) : Nat := (n.sep.waiting ++ n.sep.flight).foldl (fun t r => t + r.raw.length) 0
def Node.sealedBytes (n : Node) : Nat := (n.sep.waiting ++ n.sep.flight).foldl (fun t r => t + r.stored.length) 0
def Node.openCoded (n : Node) : Nat :=
  n.sepOpen.foldl (fun t e => t + (storedForm (e.1 / 65536) e.2.count (e.2.prefix_ ++ e.2.entries)).2.length) 0
/-- R359: the unwritten total. -/
def Node.unwritten (n : Node) : Nat := n.openCoded + n.sealedBytes
/-- The write-out budget in bytes. -/
def Node.budget (n : Node) : Nat := n.o 0x8000 0x05 * 2 ^ 20

/-- BACKLOG follows the sealed records; its rise is reported. A stored form is never longer than the raw
one, so raw bytes within the budget settle the question. -/
def Node.backlogCheck (n : Node) : Node :=
  let exceeds := if n.sealedRaw ≤ n.budget then false else decide (n.budget < n.sealedBytes)
  if exceeds = bit (n.o 0x8000 0x02) 0 then n
  else
    let n := n.setBitI 0 0x8000 0x02 0 exceeds
    if exceeds then n.fault 0x00A 0x62 0 (n.unwritten / 1024) else n

/-- R359: a record of key `k` is sealed, coded and placed; its open record is gone. -/
def Node.pushRec (n : Node) (k : Nat) (x : OpenRec) : Node :=
  let kind := k / 65536
  let raw := x.prefix_ ++ x.entries
  let f := storedForm kind x.count raw
  let q := mapGet n.sep.seqs k 0
  let r : ArchRec := {
    kind := kind
    src := k % 65536
    seq := q
    count := x.count
    first := x.first
    last := x.last
    flags := b2n x.gap
    codec := f.1
    raw := raw
    stored := f.2
    sealedAt := n.copy isleArchive }
  let n := { n with
    sepOpen := mapErase n.sepOpen k,
    sep := { n.sep with waiting := n.sep.waiting ++ [r], seqs := mapPut n.sep.seqs k ((q + 1) % 2 ^ 32) } }
  n.placeAll.backlogCheck

def Node.sealRec (n : Node) (k : Nat) : Node :=
  let x := mapGet n.sepOpen k {}
  if x.count = 0 then n else n.pushRec k x

/-- The key of the open record whose first entry is oldest. -/
def Node.oldestOpen (n : Node) : Option Nat :=
  (n.sepOpen.foldl (fun (b : Option (Nat × Nat)) e => match b with
    | some x => if e.2.since < x.2 then some (e.1, e.2.since) else b
    | none => some (e.1, e.2.since)) none).map (·.1)

/-- R359: while the unwritten total is above the budget, the oldest open records are sealed. -/
def Node.keepBudget (n : Node) : Nat → Node
  | 0 => n
  | fuel + 1 =>
    if n.openBytes + n.sealedRaw ≤ n.budget then n
    else if n.unwritten ≤ n.budget then n
    else match n.oldestOpen with
      | some k => (n.sealRec k).keepBudget fuel
      | none => n

/-- R360: is the 2 GiB staging ring full for `more` bytes? -/
def Node.stagingFull (n : Node) (more : Nat) : Bool :=
  if n.openBytes + n.sealedRaw + more ≤ 2 ^ 31 then false else decide (2 ^ 31 < n.openBytes + n.sealedBytes + more)

/-- The prefix of a record with the worst quality of its entries: byte 12 of kind 2, byte 5 of kind 3. -/
def mergePrefix (kind : Nat) (a b : List Byte) : List Byte :=
  let i := if kind = 2 then 12 else 5
  if kind = 2 ∨ kind = 3 then spliceAt a i (toLE 1 (max (fieldLE a i 1) (fieldLE b i 1))) else a

/-- A GAP arises for a kind and source (R357, R359): the open record is sealed, the next carries GAP. -/
def Node.archiveGap (n : Node) (kind src : Nat) : Node :=
  let k := recKey kind src
  let n := n.sealRec k
  if n.sep.gaps.contains k then n else { n with sep := { n.sep with gaps := n.sep.gaps ++ [k] } }

/-- R357, R359, R360: an entry for the archive's record of a kind and source; `pre` is the prefix that a new
record starts with. -/
def Node.archive (n : Node) (kind src time : Nat) (pre bytes : List Byte) : Node :=
  let k := recKey kind src
  if n.stagingFull bytes.length then
    let n := n.incSatI 64 0 0x8000 0x0C bytes.length
    if n.sep.gaps.contains k then n else { n with sep := { n.sep with gaps := n.sep.gaps ++ [k] } }
  else
    let size := n.o 0x8000 0x04
    let x := mapGet n.sepOpen k {}
    let n := if x.count ≠ 0 ∧ size < x.prefix_.length + x.entries.length + bytes.length then n.sealRec k else n
    let x := mapGet n.sepOpen k {}
    let x :=
      if x.count = 0 then
        { x with prefix_ := pre, entries := bytes, count := 1, first := time, last := time, since := n.now, gap := n.sep.gaps.contains k }
      else
        { x with prefix_ := mergePrefix kind x.prefix_ pre, entries := x.entries ++ bytes, count := x.count + 1, last := time }
    let n := { n with
      sepOpen := mapPut n.sepOpen k x,
      sep := { n.sep with gaps := n.sep.gaps.filter (· != k), rawSec := n.sep.rawSec + bytes.length } }
    let n := if size ≤ x.prefix_.length + x.entries.length then n.sealRec k else n
    (n.keepBudget (n.sepOpen.length + 1))

/-- One record on its own, such as a snapshot: sealed at once. -/
def Node.archiveWhole (n : Node) (kind src first last count : Nat) (pre entries : List Byte) : Node :=
  (n.sealRec (recKey kind src)).pushRec (recKey kind src)
    { prefix_ := pre, entries := entries, count := count, first := first, last := last, since := n.now }

/-! ## Completion, loss and the way back (R360 to R363) -/

/-- R360: the durable horizon. -/
def Node.durable (n : Node) : Nat :=
  let pend := (n.sep.waiting ++ n.sep.flight).filter (fun r => r.kind ≤ 4)
  let opens := n.sepOpen.filter (fun e => e.1 / 65536 ≤ 4)
  let m := (pend.map (·.last) ++ opens.map (·.2.last)).foldl min (n.copy isleArchive + 1)
  m - 1

/-- R362: the journal entry of a record. -/
def journalEntry (r : ArchRec) : List Byte :=
  let b := r.storedBytes
  toLE 8 (r.addr.getD 0) ++ toLE 8 r.first ++ toLE 8 r.last ++ toLE 1 r.kind ++ zeros 1 ++ toLE 2 r.src ++ slice b 44 4

/-- A record's write completes: it is indexed, with its journal entry (R362). -/
def Node.recDone (n : Node) (r : ArchRec) : Node :=
  let n := { n with sep := { n.sep with
    flight := n.sep.flight.filter (fun x => x != r)
    done := n.sep.done ++ [r]
    journal := n.sep.journal ++ [journalEntry r]
    codedSec := n.sep.codedSec + r.stored.length } }
  (n.incWrapI 64 0 0x8000 0x0D 1).backlogCheck

/-- The archive pointer to the stream log's write position at `time` (R364). -/
def Node.archPointer (n : Node) (time : Nat) : Nat :=
  let none_ := 2 ^ 48 - 1
  let wrote := match n.sep.on.find? (fun e => decide (e.1 ≤ time)) with
    | some (_, b) => b
    | none => false
  if !wrote || decide (time + 8388608000000 < n.copy isleArchive) then none_
  else
    let recs := (n.sep.done ++ n.sep.flight).filter (fun r => r.kind ≤ 4 && decide (time < r.sealedAt))
    match recs with
    | r :: _ => (recs.foldl (fun b x => if x.sealedAt < b.sealedAt then x else b) r).addr.getD 0 / 16
    | [] => match n.curSeg 0 with
      | some g => (g.slot * 2 ^ 47 + g.idx * 2 ^ 26 + g.used) / 16
      | none => (match n.nextMember n.sep.last0 with
        | some s => (s * 2 ^ 47 + (n.freeSeg s).getD 1 * 2 ^ 26 + 4096) / 16
        | none => none_)

/-- R359, R361: at line loss and at a node reset every open record is sealed and written out; with BACKLOG
set the oldest only, as many as the time allows, which the spec leaves to the drives. -/
def Node.writeOut (n : Node) : Node :=
  let backlog := bit (n.o 0x8000 0x02) 0
  let n := (n.sepOpen.map (·.1)).foldl (fun n k => n.sealRec k) n
  if backlog then
    let (k, n) := n.draw
    let n := (n.sep.flight.take (k % (n.sep.flight.length + 1))).foldl (fun n r => n.recDone r) n
    { n with sep := { n.sep with horizonLoss := n.durable } }
  else
    let n := n.sep.flight.foldl (fun n r => n.recDone r) n
    { n with sep := { n.sep with horizonLoss := 0 } }

/-- What a loss of power without the sequence leaves (R363): every journalled record, and of the records being
written those that landed, which the spec leaves open. -/
def Node.cutOff (n : Node) : Node :=
  let (k, n) := n.draw
  let landed := n.sep.flight.take (k % (n.sep.flight.length + 1))
  { n with sep := { n.sep with done := n.sep.done ++ landed } }

/-- Sepia at a start (R363): only what is on drives is left; every slot is EMPTY until its port links up. -/
def Node.sepStart (n : Node) : Node :=
  let s := n.sep
  let n := { n with
    sepOpen := []
    sep := {
      done := s.done
      segs := s.segs
      seq0 := s.seq0
      seq1 := s.seq1
      seqs := s.seqs
      copies := s.copies
      cur0 := s.cur0
      cur1 := s.cur1
      last0 := s.last0
      last1 := s.last1
      super := s.super } }
  n.set 0x8000 0x18 s.horizonLoss

end Sys2Proof.Machine
end

