-- ==== Sys2Proof/Machine/RingSend.lean ====
section
/-!
DEFINITION. Machine/RingSend.lean: how the node sends a frame of its own on the ring (R287, R292, R305): the ports'
queues, the HSR tag, the Woad header.
-/
namespace Sys2Proof.Machine

/-- The own node's identity (0x1000.06), 0 when invalid (R302). -/
def Node.ident (n : Node) : Nat := n.o 0x1000 0x06
/-- R304: the publication identity. -/
def Node.pubIdent (n : Node) : Nat := if n.o 0x3000 0x06 = 0 then n.ident else n.o 0x3000 0x06
/-- The present mode's code (Table 2-1). -/
def Node.curMode (n : Node) : Nat := n.o 0x1010 0x01

/-! ## Ports (R283 to R287) -/

def Node.rport (n : Node) (p : Nat) : RingPort := mapGet n.ring.ports p {}
def Node.setRport (n : Node) (p : Nat) (x : RingPort) : Node := { n with ring := { n.ring with ports := mapPut n.ring.ports p x } }
/-- Port state (Table 10-1): 0 DISABLED, 1 TRAINING, 2 UP_1000, 3 UP_100, 4 DOWN, 5 STOPPED. -/
def Node.portState (n : Node) (p : Nat) : Nat := n.oi p 0x3000 0x0D
def Node.portUp (n : Node) (p : Nat) : Bool := n.portState p == 2 || n.portState p == 3
/-- Is some port UP (Table 11-4, R312)? -/
def Node.ringUp (n : Node) : Bool := n.portUp 0 || n.portUp 1
def Node.setPortBit (n : Node) (p i : Nat) (b : Bool) : Node := n.setBitI p 0x3000 0x0E i b

/-- Frames that are dropped (R287). -/
def Node.portDrop (n : Node) (p k : Nat) : Node := if k = 0 then n else (n.incSatI 32 p 0x3000 0x12 k).setPortBit p 1 true

/-- A frame is handed to a port (Table 10-1). -/
def Node.handTo (n : Node) (p : Nat) (frame : List Byte) : Node :=
  if n.portUp p then (n.incWrapI 64 p 0x3000 0x13 1).emit (.ring (2 ^ p) frame)
  else if n.portState p = 1 ∧ (n.rport p).queue.length < n.oi p 0x3000 0x0C then
    n.setRport p { n.rport p with queue := (n.rport p).queue ++ [frame] }
  else n.portDrop p 1

/-! ## Frames of the node's own (R292, R305, R314) -/

/-- A MAC address as it stands in a frame, from the number 0x3000.04 holds. -/
def macBytes (a : Nat) : List Byte := toLE 6 a
/-- The group addresses 03-4B-52-57-00-01, 03-4B-52-57-00-02 and 01-15-4E-00-01-00. -/
def macAll : List Byte := toBE 6 0x034B52570001
def macTwin : List Byte := toBE 6 0x034B52570002
def macSup : List Byte := toBE 6 0x01154E000100

/-- A tagged frame on both ports under one sequence number (R292). The LSDU size counts the tag's six bytes
and the payload (IEC 62439-3, assumption log 65). -/
def Node.sendTagged (n : Node) (dst : List Byte) (etype : Nat) (payload : List Byte) : Node :=
  let q := n.o 0x3200 0x09
  let size := payload.length + 6
  let frame := fun (path : Nat) =>
    let f := dst ++ macBytes Config.macAddress ++ toBE 2 0x892F ++ toBE 2 (path * 4096 + size % 4096) ++ toBE 2 q ++ toBE 2 etype ++ payload
    f ++ toLE 4 (crc32 f)
  ((n.set 0x3200 0x09 ((q + 1) % 65536)).handTo 0 (frame 0)).handTo 1 (frame 1)

/-- The next sequence number of a frame type (Table 10-7). -/
def Node.nextSeq (n : Node) (type : Nat) : Nat × Node :=
  let q := mapGet n.ring.seqs type 0
  (q, { n with ring := { n.ring with seqs := mapPut n.ring.seqs type ((q + 1) % 2 ^ 32) } })

/-- The bytes of a Woad frame from its header on (Table 10-6). -/
def Node.woadBytes (n : Node) (w : WoadOut) : List Byte :=
  let pub := if w.type = 3 ∨ w.type = 4 ∨ w.type = 5 then n.pubIdent else n.ident
  let fl := setBit w.flags 0 (n.curMode == 5)
  toLE 1 1 ++ toLE 1 w.type ++ toLE 1 n.ident ++ toLE 1 pub ++ toLE 1 w.dst ++ toLE 1 fl ++ toLE 2 w.body.length
    ++ toLE 4 w.seq ++ toLE 2 w.part ++ toLE 2 w.parts ++ w.body

/-- A Woad frame to all, or to the MAC address given. -/
def Node.sendWoadTo (n : Node) (mac : List Byte) (w : WoadOut) : Node := n.sendTagged mac n.ring.etype (n.woadBytes w)
def Node.sendWoad (n : Node) (w : WoadOut) : Node := n.sendWoadTo macAll w

end Sys2Proof.Machine
end

