-- ==== Sys2Proof/Machine/Reply.lean ====
section
/-!
DEFINITION. Machine/Reply.lean: how a dictionary request is answered on the transport it came by (R79, R101, R119,
R307, R385). An answer may come later than its request: a queue's disabling write (R124), and a command passed to the
owner (R333).
-/
namespace Sys2Proof.Machine

/-- A fetched descriptor of a submission queue completes; its bytes are stored when the command settles. -/
def Node.complete (n : Node) (d : DescDone) : Node := { n with eng := { n.eng with done := n.eng.done ++ [d] } }

/-- A frame with its CRC-32 behind it (Table 4-17). -/
def withCrc (bs : List Byte) : List Byte := bs ++ toLE 4 (crc32 bs)

/-- Table 4-17: a response of the local port. -/
def lpResponse (tag op code : Nat) (data : List Byte) : List Byte :=
  withCrc (toLE 1 tag ++ toLE 1 op ++ toLE 2 code ++ toLE 2 data.length ++ toLE 2 0 ++ data)

/-- A request of the local port that is still outstanding becomes a ready response; one that RESYNC discarded has
none. -/
def Node.lpRespond (n : Node) (id tag op code : Nat) (data : List Byte) : Node :=
  if n.lp.outstanding.contains id then
    { n with lp := { n.lp with outstanding := n.lp.outstanding.filter (· != id), ready := n.lp.ready ++ [lpResponse tag op code data] } }
  else n

/-- Table 10-8: the response to a ring request, to the address the request came from; none in BOOT (Table 10-12). -/
def Node.ringRespond (n : Node) (mac token op dst code : Nat) (data : List Byte) : Node :=
  if n.curMode = 2 then n else
  let q := n.nextSeq 2
  q.2.sendWoadTo (toBE 6 mac)
    { type := 2, dst := dst, seq := q.1, body := toLE 4 token ++ toLE 1 op ++ toLE 1 0 ++ toLE 2 code ++ toLE 2 data.length ++ toLE 2 0 ++ data }

/-- An answer frame on CAN, padded to the session's frame size (Table 13-7); the 33rd buffer sends it. -/
def Node.canAnswer (n : Node) (c size : Nat) (bs : List Byte) : Node :=
  let x := mapGet n.can c {}
  { n with can := mapPut n.can c { x with resp := x.resp ++ [padTo size bs] } }

/-- Byte 0 of a dictionary frame over CAN (R385). -/
def canHead (cmd : Nat) (toggle : Bool) : List Byte := toLE 1 (32 * cmd + 16 * b2n toggle)

/-- The answer to a write or to a read, on the transport of the request. -/
def Node.respond (n : Node) (m : Master) (via : Via) (code : Nat) (data : List Byte) : Node :=
  match via with
  | .direct => n.emit (.reply m code data)
  | .lp id tag op => n.lpRespond id tag op code data
  | .ring mac token op => n.ringRespond mac token op (match m with | .ring id => id.val | _ => 0) code data
  | .can c size toggle id =>
    if (mapGet n.can c {}).waits = some id then
      let x := mapGet n.can c {}
      ({ n with can := mapPut n.can c { x with sess := none, waits := none } }).canAnswer c size (canHead 6 toggle ++ toLE 2 code)
    else n
  | .od q pos => n.complete { q := q, pos := pos, status := code, len := none, data := data }

/-- A reply with nothing but its code. -/
def Node.answerTo (n : Node) (r : Master × Via) (code : Nat) : Node := n.respond r.1 r.2 code []

end Sys2Proof.Machine
end

