-- ==== Sys2Proof/Machine/Vats.lean ====
section
/-!
DEFINITION. Machine/Vats.lean: the vats (chapter 05): their address map and firewall, the interrupt
controller, doorbells, enabling and stopping queues, vat reset and restart. The engines' grants are in
Engines.lean, which needs what each engine does.
-/
namespace Sys2Proof.Machine

/-! ## The address map (R109, R111) -/

/-- Do `len` bytes from `a` lie inside vat `v`'s allotment? -/
def Node.inAllot (n : Node) (v a len : Nat) : Bool :=
  0x80000000 ≤ a && a + len ≤ 0x80000000 + (n.vat v).allotMiB * 2 ^ 20

/-- Table 5-2: is the address inside the vat's map, and, for a write, not a read-only register? -/
def Node.vatMayAccess (n : Node) (v a : Nat) (write : Bool) : Bool :=
  if 0x02000000 ≤ a ∧ a < 0x02001000 then !(write && (0x02000010 ≤ a && a < 0x02000030))
  else if 0x0C000000 ≤ a ∧ a < 0x0C004000 then !(write && (0x0C000800 ≤ a && a < 0x0C000820))
  else if 0x10000000 ≤ a ∧ a < 0x10010000 then true
  else n.inAllot v a 1

/-- ACCESS of a capture record (Table 15-7). -/
def accessCode : AccessKind → Nat
  | .read => 0
  | .write => 1
  | .fetch => 2
  | .atomic => 3

/-- R109, R119: a refused access: the message of kind vat access fault, with the full address. `master`
is 1 for the core and 2 for a queue engine, whose `masterId` is its queue type. -/
def Node.accessFault (n : Node) (v a access master masterId : Nat) : Node :=
  n.raiseMsg { word := faultWord (0x010 + v) 0x20 v access (a % 2 ^ 32), addr := a,
               master := master, masterId := masterId, access := access }

/-- R109: the core's own refused access also raises its access-fault exception. -/
def Node.coreFault (n : Node) (v a access : Nat) : Node :=
  (n.setVat v { n.vat v with accessFault := some (a, access) }).accessFault v a access 1 v

/-- R108: the time CSR: the vat island's copy, or its last valid value while it is invalid. -/
def Node.vatTime (n : Node) (v : Nat) : Nat := if n.copyValid (isleVat v) then n.copy (isleVat v) else (n.isl (isleVat v)).held

/-- A store to the control window or the interrupt controller (Tables 5-3, 5-5). STIMECMP and SENA are
written from M mode only. -/
def Node.windowStore (n : Node) (v : Nat) (st : VatStore) : Node :=
  let x := n.vat v
  let a := st.addr.toNat
  let w := st.value.toNat
  let w4 := w % 2 ^ 32
  if a = 0x02000000 then n.setVat v { x with mtimecmp := w, mtip := false }
  else if a = 0x02000008 then if st.inM then n.setVat v { x with stimecmp := w, stip := false } else n
  else if 0x0C000000 ≤ a ∧ a < 0x0C000400 then
    n.setVat v { x with prio := mapPut x.prio ((a - 0x0C000000) / 4) (w4 % 8) }
  else if 0x0C001000 ≤ a ∧ a < 0x0C001020 then
    let lo := (a - 0x0C001000) / 4 * 32
    n.setVat v { x with mena := setBits x.mena (lo + 31) lo w4 }
  else if 0x0C001100 ≤ a ∧ a < 0x0C001120 then
    let lo := (a - 0x0C001100) / 4 * 32
    if st.inM then n.setVat v { x with sena := setBits x.sena (lo + 31) lo w4 } else n
  else if a = 0x0C002000 then n.setVat v { x with mthresh := w4 % 8 }
  else if a = 0x0C003000 then n.setVat v { x with sthresh := w4 % 8 }
  else n

/-- The stores of a vat's core: those to its allotment reach DRAM, those to its windows act there, and
any other raises the exception and the message of R109. -/
def Node.vatStoresAll (n : Node) (v : Nat) : List VatStore → Node × List (Nat × Byte)
  | [] => (n, [])
  | st :: rest =>
    let a := st.addr.toNat
    let n1 :=
      if n.vatMayAccess v a true && (decide (a < 0x80000000) || n.inAllot v a st.size.val) then (if a < 0x80000000 then n.windowStore v st else n)
      else n.coreFault v a 1
    let ws := if n.inAllot v a st.size.val then vatStores v a (toLE st.size.val st.value.toNat) else []
    let r := n1.vatStoresAll v rest
    (r.1, ws ++ r.2)

/-! ## The interrupt controller (R113) -/

/-- Does the cause of a source still hold? WAKE for source 1, a queue in ERROR for source 6; the other
sources are raised by events (assumption log 16). -/
def Node.causeHolds (n : Node) (v s : Nat) : Bool :=
  if s = 1 then bit (n.o 0x1200 0x06) 2
  else if s = 6 then (n.queues.map (·.1)).any (fun q => n.queueOwner q == v && n.oi q 0x9100 0x0B == 2)
  else false

/-- The priority, the enables and the threshold a context applies. -/
def prioOf (x : VatSt) (s : Nat) : Nat := mapGet x.prio s 0
def enabledIn (x : VatSt) (c : IrqContext) (s : Nat) : Bool :=
  match c with
  | .machine => x.mena.testBit s
  | .supervisor => x.sena.testBit s
def threshOf (x : VatSt) : IrqContext → Nat
  | .machine => x.mthresh
  | .supervisor => x.sthresh

/-- The better of two sources: higher priority, then lower number. -/
def betterSource (x : VatSt) (a b : Nat) : Nat :=
  if prioOf x a < prioOf x b ∨ (prioOf x a = prioOf x b ∧ b < a) then b else a

/-- R113: the source that a claim returns, 0 with nothing pending above the threshold. -/
def claimSource (x : VatSt) (c : IrqContext) : Nat :=
  match x.pend.filter (fun s => enabledIn x c s && decide (threshOf x c < prioOf x s)) with
  | [] => 0
  | s :: rest => rest.foldl (betterSource x) s

/-- R113: a claim takes the source out of pending until it is completed. -/
def Node.claimIrq (n : Node) (v : Nat) (c : IrqContext) : Node :=
  let x := n.vat v
  let s := claimSource x c
  let n := n.emit (.claim v s)
  if s = 0 then n
  else n.setVat v { x with pend := x.pend.filter (· != s), claimed := x.claimed ++ [s] }

/-- R113: completion; the source becomes pending again if its cause still holds. -/
def Node.completeIrq (n : Node) (v s : Nat) : Node :=
  let x := n.vat v
  if s ∈ x.claimed then
    let n := n.setVat v { x with claimed := x.claimed.filter (· != s) }
    if n.causeHolds v s then n.irq v s else n
  else n

/-! ## Queues (R114 to R118, R124) -/

/-- Submission types of Table 5-7. -/
def isSubmission (type : Nat) : Bool := [1, 3, 5, 6, 9].contains type
/-- Delivery types, and those of them with a data area (R121). -/
def isDelivery (type : Nat) : Bool := [2, 4, 7, 8].contains type
def hasDataArea (type : Nat) : Bool := [2, 4, 8].contains type

def Node.pi (n : Node) (q : Nat) : Nat := n.oi q 0x9100 0x0C
def Node.ci (n : Node) (q : Nat) : Nat := n.oi q 0x9100 0x0D
/-- The occupancy (R117). -/
def occupancy (pi ci : Nat) : Nat := (pi + 2 ^ 32 - ci) % 2 ^ 32
def Node.depth (n : Node) (q : Nat) : Nat := 2 ^ n.oi q 0x9100 0x04

/-- R118: the queue stops in ERROR, source 6 is raised and the error is reported. -/
def Node.queueError (n : Node) (v q : Nat) : Node :=
  ((n.setI q 0x9100 0x0B 2).irq v 6).fault (0x010 + v) 0x21 0 q

/-- R117, R118: the vat writes a doorbell of its block. -/
def Node.doorbell (n : Node) (v q value : Nat) : Node :=
  let run := n.oi q 0x9100 0x0B = 1
  let n := n.setQueue q { n.queue q with written := value }
  if run then
    let old := occupancy (n.pi q) (n.ci q)
    if isSubmission (n.oi q 0x9100 0x03) then
      let new := occupancy value (n.ci q)
      if old ≤ new ∧ new ≤ n.depth q then n.setI q 0x9100 0x0C value else n.queueError v q
    else
      let new := occupancy (n.pi q) value
      if new ≤ old then n.setI q 0x9100 0x0D value else n.queueError v q
  else n

/-- R115, R124: the parts of the enable check that every type has; the binding is judged by type. -/
def Node.queueShapeOk (n : Node) (q : Nat) : Bool :=
  let v := n.queueOwner q
  let t := n.oi q 0x9100 0x03
  let base := n.oi q 0x9100 0x05
  let size := 32 * n.depth q
  let wb := n.oi q 0x9100 0x06
  let slot := n.oi q 0x9100 0x07
  let area := n.oi q 0x9100 0x08
  v < 16 && t != 0 && n.inAllot v base size && base % size == 0 && n.inAllot v wb 8 && wb % 8 == 0
    && (if hasDataArea t then 64 ≤ slot && n.inAllot v area (n.depth q * slot) && area % (n.depth q * slot) == 0
        else slot == 0)

/-- R124: the queue is enabled with PI and CI at 0; the drop count restarts (Table 5-14). -/
def Node.enableQueue (n : Node) (q : Nat) : Node :=
  ((((((n.setI q 0x9100 0x0A 1).setI q 0x9100 0x0B (if (n.vat (n.queueOwner q)).held && n.oi (n.queueOwner q) 0x9000 0x07 == 4 then 3 else 1)).setI q 0x9100 0x0C 0).setI q 0x9100 0x0D 0).setI q 0x9100 0x0E 0)).setQueue q
    { orphans := (n.queue q).orphans ++ (n.queue q).inFlight, closing := (n.queue q).closing }

/-- R124: the queue is disabled; what waited for it is gone. -/
def Node.disableQueue (n : Node) (q : Nat) : Node :=
  ((n.setI q 0x9100 0x0A 0).setI q 0x9100 0x0B 0).setQueue q { n.queue q with wait := [], fill := [], dropped := false }

/-- The queues of a vat's block that have been enabled since start. -/
def Node.queuesOfVat (n : Node) (v : Nat) : List Nat := (n.queues.map (·.1)).filter (fun q => n.queueOwner q == v)

/-! ## Completions of submission descriptors (R117, R119) -/

/-- The vat address of descriptor `pos` of queue `q`. -/
def Node.descAddr (n : Node) (q pos : Nat) : Nat := n.oi q 0x9100 0x05 + 32 * (pos % n.depth q)

/-- R111: stores of an engine for vat `v`: passed only where every byte lies inside the allotment. -/
def Node.guarded (n : Node) (v a : Nat) (bs : List Byte) : List (Nat × Byte) :=
  if n.inAllot v a bs.length then vatStores v a bs else []

/-- An engine's index is written back (R117). -/
def Node.writeBack (n : Node) (q i : Nat) : List (Nat × Byte) :=
  n.guarded (n.queueOwner q) (n.oi q 0x9100 0x06) (toLE 8 i)

/-- The engine's index moves past every completed descriptor, in order; a disabling write that waited for the last of
them is answered. One of a queue emptied or enabled since moves no index. -/
def Node.passDone (n : Node) (q pos : Nat) : Node × List (Nat × Byte) :=
  let x := n.queue q
  let live := x.inFlight.contains pos
  let left := if live then x.inFlight.filter (· != pos) else x.inFlight
  let orphans := if live then x.orphans else x.orphans.filter (· != pos)
  let ended := left == [] && orphans == []
  let n1 := n.setQueue q { x with inFlight := left, orphans := orphans, closing := if ended then [] else x.closing }
  let n1 := if ended then x.closing.foldl (fun n r => n.answerTo r 0) n1 else n1
  let ci := left.headD x.fetched
  if !live ∨ ci = n.ci q then (n1, []) else (n1.setI q 0x9100 0x0D ci, n.writeBack q ci)

/-- R117, R119: one completion is stored: the data, LEN, STATUS, then DONE, then the index write-back; IRQ
raises the queue's source. A descriptor fetched before a vat reset completes into the allotment (Table 5-11). -/
def settleOne (mem : List Host.Cell) (n : Node) (d : DescDone) : List Host.Cell × Node :=
  let v := n.queueOwner d.q
  let a := n.descAddr d.q d.pos
  let buf := ofLE (memReads mem (vatAddr v (a + 8)) 8)
  let flags := (memRead mem (vatAddr v (a + 1))).toNat
  if (n.queue d.q).inFlight.contains d.pos || (n.queue d.q).orphans.contains d.pos then
    let own := n.guarded v buf d.data ++ (match d.len with | some l => n.guarded v (a + 16) (toLE 4 l) | none => [])
      ++ n.guarded v (a + 2) (toLE 2 d.status) ++ n.guarded v (a + 1) (toLE 1 (setBit flags 1 true))
    let r := n.passDone d.q d.pos
    (memWriteAll mem (own ++ r.2), if bit flags 0 then r.1.irq v (n.oi d.q 0x9100 0x09) else r.1)
  else (mem, n)

/-- Every completion of a command, in order. -/
def settleAll : List Host.Cell → Node → List DescDone → List Host.Cell × Node
  | mem, n, [] => (mem, n)
  | mem, n, d :: rest => let r := settleOne mem n d; settleAll r.1 r.2 rest

def settle (s : State) : State :=
  let r := settleAll s.vmem { s.node with eng := { s.node.eng with done := [] } } s.node.eng.done
  { s with vmem := r.1, node := r.2 }

/-- A command that may complete descriptors: time passes, `f`, then the completions are stored. -/
def actDone (dt : Nat) (s : State) (f : Node → Node) : Host.Outcome State Fault Refusal :=
  .next (settle { s with node := f (s.node.begin dt) })

/-! ## Vat reset, halt and restart (R41, R125) -/

def Node.port (n : Node) (p : Nat) : PortSt := mapGet n.ports p {}
def Node.setPort (n : Node) (p : Nat) (x : PortSt) : Node := { n with ports := mapPut n.ports p x }

/-- R97: every port whose holder satisfies `f` is released; a transfer ends ABANDONED. -/
def Node.abandonPorts (n : Node) (f : Master → Bool) (code : Nat) : Node :=
  (List.range 16).foldl (fun n p =>
    let x := n.port p
    match x.holder with
    | some m =>
      if f m && [PortState.claimed, .opened, .hold, .applying].contains x.state then
        n.setPort p { x with state := if x.state = .claimed then .idle else .abandoned, buf := [], lastAbort := if code = 0 then x.lastAbort else code }
      else n
    | none => n) n

/-- Table 2-10, Table 5-11: a vat reset begins. `detail` says who asked (kind 0x22). A vat that is
disabled or already in reset is left alone. -/
def Node.resetVat (n : Node) (v detail : Nat) : Node :=
  let st := n.oi v 0x9000 0x07
  if st = 0 ∨ st = 3 then n else
  let x := n.vat v
  let n := n.setVat v { x with
    held := true, pc := 0x80000000, priv := 3, accessFault := none,
    mtimecmp := 0xFFFFFFFFFFFFFFFF, stimecmp := 0xFFFFFFFFFFFFFFFF, mtip := false, stip := false,
    prio := [], pend := [], claimed := [],
    mena := 0, sena := 0, mthresh := 0, sthresh := 0 }
  let n := (n.setI v 0x9000 0x07 3).incSatI 32 v 0x9000 0x08 1
  let n := (n.queuesOfVat v).foldl (fun n q =>
    let on := n.obi q 0x9100 0x0A
    let n := (n.queue q).closing.foldl (fun n r => n.answerTo r 0) (n.disableQueue q)
    ((n.setQueue q { orphans := (n.queue q).orphans ++ (n.queue q).inFlight, cut := on }).setI q 0x9100 0x0C 0).setI q 0x9100 0x0D 0) n
  let n := n.abandonPorts (fun m => match m with | .vat w => w.val == v | _ => false) 0
  n.fault (0x010 + v) 0x22 detail 0

/-- R125: the vat is released and restarts in M mode at 0x8000_0000, unless it is isolated (R419). -/
def Node.restartVat (n : Node) (v : Nat) : Node :=
  if n.oi v 0x9000 0x07 = 3 ∧ !bit (n.o 0x2200 0x16) v ∧ (n.vat v).slot < 2 then
    let halted := bit (n.o 0x1010 0x04) 7
    let n := n.setVat v { n.vat v with held := halted, pc := 0x80000000, priv := 3 }
    let n := n.setI v 0x9000 0x07 (if halted then 4 else 2)
    if n.causeHolds v 1 then n.irq v 1 else n
  else n

/-- R34, Table 2-5 VATS: all vats halted and their queues FROZEN. -/
def Node.haltVats (n : Node) : Node :=
  let n := (List.range 16).foldl (fun n v =>
    if n.oi v 0x9000 0x07 = 2 then (n.setI v 0x9000 0x07 4).setVat v { n.vat v with held := true } else n) n
  (n.queues.map (·.1)).foldl (fun n q => if n.oi q 0x9100 0x0B = 1 then n.setI q 0x9100 0x0B 3 else n) n

/-- R21: the VATS function restarts. -/
def Node.resumeVats (n : Node) : Node :=
  let n := (List.range 16).foldl (fun n v =>
    if n.oi v 0x9000 0x07 = 4 then (n.setI v 0x9000 0x07 2).setVat v { n.vat v with held := false } else n) n
  (n.queues.map (·.1)).foldl (fun n q => if n.oi q 0x9100 0x0B = 3 then n.setI q 0x9100 0x0B 1 else n) n

/-! ## Commands -/

/-- Is vat `v`'s core running? -/
def Node.vatRuns (n : Node) (v : Nat) : Bool := n.up && n.oi v 0x9000 0x07 == 2

/-- VAT_ACCESS_FAULT (R109): an access of the core outside its map. -/
def execVatAccessFault (dt : Nat) (v : Fin 16) (addr : BitVec 64) (kind : AccessKind) (s : State) :=
  act dt s fun n => n.when (n.vatRuns v && !n.vatMayAccess v addr.toNat (kind == .write || kind == .atomic)) fun n =>
    n.coreFault v addr.toNat (accessCode kind)

/-- TIMER_INTERRUPT (R109, Table 5-3): time has reached MTIMECMP or STIMECMP. -/
def execTimerInterrupt (dt : Nat) (v : Fin 16) (stores : List VatStore) (s : State) :=
  actMem dt s fun _ n =>
    if n.vatRuns v then
      let r := n.vatStoresAll v stores
      let x := r.1.vat v
      let t := r.1.vatTime v
      (r.1.setVat v { x with mtip := x.mtip || decide (x.mtimecmp ≤ t), stip := x.stip || decide (x.stimecmp ≤ t) }, r.2)
    else (n, [])

/-- INTERRUPT_CLAIM (R113). -/
def execInterruptClaim (dt : Nat) (v : Fin 16) (ctx : IrqContext) (stores : List VatStore) (s : State) :=
  actMem dt s fun _ n =>
    if n.vatRuns v then
      let r := n.vatStoresAll v stores
      (r.1.claimIrq v ctx, r.2)
    else (n, [])

/-- INTERRUPT_COMPLETE (R113). -/
def execInterruptComplete (dt : Nat) (v : Fin 16) (ctx : IrqContext) (src : Byte) (stores : List VatStore) (s : State) :=
  actMem dt s fun _ n =>
    if n.vatRuns v then
      let r := n.vatStoresAll v stores
      (if enabledIn (r.1.vat v) ctx src.toNat then r.1.completeIrq v src.toNat else r.1, r.2)
    else (n, [])

/-- DOORBELL_WRITE (R117, R118): `slot` is the queue's place in the vat's block. -/
def execDoorbellWrite (dt : Nat) (v : Fin 16) (slot : Fin 8192) (value : BitVec 32) (stores : List VatStore) (s : State) :=
  actMem dt s fun _ n =>
    if n.vatRuns v then
      let r := n.vatStoresAll v stores
      let x := r.1.vat v
      (if slot.val < x.countQ then r.1.doorbell v (x.firstQ + slot.val) value.toNat else r.1, r.2)
    else (n, [])

/-- VAT_RESTART (R125). -/
def execVatRestart (dt : Nat) (v : Fin 16) (s : State) := act dt s fun n => n.whenUp fun n => n.restartVat v

end Sys2Proof.Machine
end

