-- ==== Sys2Proof/Machine/Streams.lean ====
section
/-!
DEFINITION. Machine/Streams.lean: where converted values go (R12, R165, R166, R207): the frame island's
input buffer and the sample-stream queues with their slots.
-/
namespace Sys2Proof.Machine

/-- The key of a point source (Table 8-1): its kind and its reference. -/
def srcKey (kind ref : Nat) : Nat := kind * 2 ^ 32 + ref

/-- R331: does the node build its frames from the owner's messages? In STANDBY, but in sync state NONE. -/
def Node.mirrors (n : Node) : Bool := (n.o 0x1010 0x01 == 5 || n.mode.keeperHandedOver) && [1, 2, 3].contains (n.o 0x2400 0x0A)

/-- Is the twin link up: configured (R322), with at least one lane? -/
def Node.linkUp (n : Node) : Bool := n.ob 0x2400 0x01 && decide (2 ≤ n.o 0x2400 0x09)

/-- R325: a message for the twin: header, body and CRC-32, with the type's next sequence number. -/
def Node.twinSend (n : Node) (type : Nat) (body : List Byte) : Node :=
  if n.linkUp then
    let q := mapGet n.twin.seqOut type 0
    let m := toLE 1 type ++ zeros 1 ++ toLE 2 body.length ++ toLE 4 q ++ body
    ({ n with twin := { n.twin with seqOut := mapPut n.twin.seqOut type ((q + 1) % 2 ^ 32) } }).emit (.twin type (m ++ toLE 4 (crc32 m)))
  else n

/-- Does some point use the source (R331)? -/
def Node.sourceUsed (n : Node) (kind ref : Nat) : Bool :=
  n.od.any (fun e => keyIdx e.1 == 0x6100 && keySub e.1 == 2 &&
    (let p := keyInst e.1
     n.oi p 0x6100 0x03 == kind && (if kind = 8 then p == ref else n.oi p 0x6100 0x04 == ref)))

/-- A reading as a Readings message carries it (Table 11-2). -/
def readingBytes (kind ref : Nat) (first : Bool) (r : Reading) : List Byte :=
  toLE 1 kind ++ toLE 1 (b2n first) ++ zeros 2 ++ toLE 4 ref ++ toLE 4 r.value ++ toLE 1 r.q ++ zeros 3 ++ toLE 8 r.time

/-- A reading enters the frame island's buffer; the last one of a frame stands (R217), and the first one
of the frame that differs from the reading before it is kept beside it (R218). A node that mirrors keeps its
own last readings apart (R334); an owner forwards what enters (R331). -/
def Node.toFrame (n : Node) (kind ref : Nat) (r : Reading) : Node :=
  let k := srcKey kind ref
  let before : Reading := mapGet (if n.mirrors then n.twin.ownLast else n.srcLast) k {}
  let moved := before.value != r.value
  let change := moved && !n.inputFirst.any (fun e => e.1 == k)
  let n1 := { n with
    input := mapPut n.input k r
    inputFirst := if change then mapPut n.inputFirst k r else n.inputFirst }
  if n.mirrors then { n1 with twin := { n.twin with ownLast := mapPut n.twin.ownLast k r } }
  else
    let n1 := { n1 with srcLast := mapPut n.srcLast k r }
    if n.twin.own && n.linkUp && n.sourceUsed kind ref then
      n1.twinSend 0x02 (toLE 4 (n.frame.num + 1) ++ readingBytes kind ref change r)
    else n1

/-! ## Sample-stream queues (R166, R207) -/

/-- Fields of a binding 0x9100.0F of type 8. -/
def bindKind (b : Nat) : Nat := bits b 31 24
def bindSource (b : Nat) : Nat := bits b 23 16
def bindStream (b : Nat) : Nat := bits b 15 8

/-- Bytes of one entry of a slot, by binding: 16 for lake samples, 3 for time samples, 4 for angle
samples, 32 for indicator records. -/
def entrySize (b : Nat) : Nat :=
  if bindKind b = 1 then 16 else if bindStream b = 0 then 3 else if bindStream b = 1 then 4 else 32

/-- The descriptor of a filled slot: Table 6-10 or Table 7-13. `pre` is PERIOD, ANGLE
and the worst quality for kind 0x02. -/
def slotDesc (b seq : Nat) (dropped gap : Bool) (pre : List Byte) (entries : List (Nat × List Byte)) : List Byte :=
  let first := (entries.head?.map (·.1)).getD 0
  let last := (entries.getLast?.map (·.1)).getD 0
  let head := toLE 2 entries.length ++ toLE 4 seq ++ toLE 8 first
  if bindKind b = 1 then
    toLE 1 1 ++ toLE 1 (b2n dropped) ++ head ++ toLE 8 last ++ toLE 1 (bindSource b) ++ zeros 7
  else
    let fl := b2n dropped + 2 * b2n gap + (if bindStream b = 1 then 4 else 0) + (if bindStream b = 2 then 8 else 0)
    let per := if bindStream b = 0 ∧ 1 < entries.length then toLE 4 ((last - first) * 1000 / (entries.length - 1)) ++ zeros 2 else padTo 6 pre
    toLE 1 2 ++ toLE 1 fl ++ head ++ per ++ toLE 1 (bindSource b) ++ padTo 1 (pre.drop 6) ++ zeros 8

/-- R166: the slot being filled is handed to the engine; R122 drops it where no descriptor is free. -/
def Node.flushSlot (n : Node) (q : Nat) : Node :=
  let x := n.queue q
  if x.fill = [] then n else
  let b := n.oi q 0x9100 0x0F
  let e : QEntry := { desc := padTo 32 (slotDesc b x.seq x.dropped x.fillGap x.fillPrefix x.fill),
                      data := (x.fill.map (·.2)).flatten }
  let before := n.oi q 0x9100 0x0E
  let n1 := (n.setQueue q { x with fill := [], fillPrefix := [], fillGap := false }).deliver q e
  if n1.oi q 0x9100 0x0E = before then
    n1.setQueue q { n1.queue q with seq := (x.seq + 1) % 2 ^ 32, dropped := false }
  else n1

/-- The slot's prefix with the worse of two qualities (its seventh byte). -/
def worsePrefix (a b : List Byte) : List Byte :=
  padTo 6 a ++ toLE 1 (max (ofLE (slice a 6 1)) (ofLE (slice b 6 1)))

/-- One entry for a queue's slot; a full slot is delivered at once. -/
def Node.slotAdd (n : Node) (q time : Nat) (pre bytes : List Byte) : Node :=
  let x := n.queue q
  let x' := { x with fill := x.fill ++ [(time, bytes)], fillPrefix := if x.fill = [] then pre else worsePrefix x.fillPrefix pre }
  let n := n.setQueue q x'
  if n.oi q 0x9100 0x07 < (x'.fill.length + 1) * entrySize (n.oi q 0x9100 0x0F) then n.flushSlot q else n

/-- An entry for every running sample-stream queue whose binding `f` accepts. -/
def Node.toStreams (n : Node) (f : Nat → Bool) (time : Nat) (pre bytes : List Byte) : Node :=
  ((n.queuesOf 8).filter (fun q => f (n.oi q 0x9100 0x0F))).foldl (fun n q => n.slotAdd q time pre bytes) n

/-- A missing sample ends the slot of every such queue, and the next carries GAP (R207). -/
def Node.gapStreams (n : Node) (f : Nat → Bool) : Node :=
  ((n.queuesOf 8).filter (fun q => f (n.oi q 0x9100 0x0F))).foldl (fun n q =>
    let n := n.flushSlot q
    n.setQueue q { n.queue q with fillGap := true }) n

/-- R166, R207: is a binding of type 8 one the spec allows? -/
def streamBindingOk (b : Nat) : Bool :=
  (bindKind b == 1 && bindSource b < 32 && bits b 7 0 == 0)
  || (bindKind b == 2 && bits b 7 0 == 0 &&
      ((bindSource b < 32 && bindStream b < 2) || (0x80 ≤ bindSource b && bindSource b < 0x84 && bindStream b == 2)))

/-- SAMPLE_SLOT_DELIVERY (R166, R207): the slot's oldest entry is older than 0x4800.07. -/
def execSampleSlotDelivery (dt : Nat) (q : Fin 8192) (s : State) := act dt s fun n => n.whenUp fun n =>
  match (n.queue q).fill with
  | [] => n
  | e :: _ => if n.oi q 0x9100 0x03 = 8 ∧ e.1 + ms (n.o 0x4800 0x07) < n.copy isleArchive then n.flushSlot q else n

end Sys2Proof.Machine
end

