-- ==== Sys2Proof/Machine/Time.lean ====
section
/-!
DEFINITION. Machine/Time.lean: clock islands and time (chapter 03): PLL locks, time tokens and copies,
the in-node broadcast, the real-time clock, and the states of the time island. The commands that are
writes of an object (RTC_SHIFT, RTC_SET_TIME, TIME_STAMP_CAPTURE) are applied in Serve.lean by the
operations that stand here.
-/
namespace Sys2Proof.Machine

/-! ## The RTC (R59 to R64) -/

/-- The oscillator-stopped flag and the other bits of 0x1200.06 (Table 3-8). -/
def Node.osf (n : Node) : Bool := bit (n.o 0x1200 0x06) 0
def Node.setRtcBit (n : Node) (i : Nat) (b : Bool) : Node := n.setBitI 0 0x1200 0x06 i b

/-- The RTC's time in ns since the PTP epoch, and its seconds and sub-seconds (0x1200.01, .02). -/
def Node.rtcNs (n : Node) : Nat := n.rtc.ticks * 1000000000 / 32768
def Node.rtcSeconds (n : Node) : Nat := n.rtc.ticks / 32768
def Node.rtcSub (n : Node) : Nat := n.rtc.ticks % 32768

/-- One periodic wake (R61): with line valid it sets WAKE and raises source 1 at every vat; in KEEP it
counts in 0x1200.08. The next falls one period later. -/
def Node.wake (n : Node) : Node :=
  let period := n.o 0x1200 0x05 * 32
  let n := { n with rtc := { n.rtc with wakeDue := n.rtc.wakeDue.map (· + period) } }
  if n.up then (n.setRtcBit 2 true).irqAll 1
  else if n.pwr.phase = .keep then n.incSatI 16 0 0x1200 0x08 1 else n

/-- A wake whose due time has come (R60, R61). -/
def Node.wakeIfDue (n : Node) : Node :=
  match n.rtc.wakeDue with
  | some d => if d ≤ n.rtc.ticks ∧ n.o 0x1200 0x05 ≠ 0 then n.wake else n
  | none => n

/-- R61: a write of the wake period; zero disables it, else the first wake falls one period later. -/
def Node.setWakePeriod (n : Node) (p : Nat) : Node :=
  { n with rtc := { n.rtc with wakeDue := if p = 0 then none else some (n.rtc.ticks + p * 32) } }

/-- R60: a write of 0x1200.04 asks for a shift of `S`/32,768 s. -/
def Node.askShift (n : Node) (sh : Int) : Node :=
  ({ n with rtc := { n.rtc with shift := some sh } }).setRtcBit 3 true

/-- The next due time of the periodic wake lies ahead of the count. -/
def Node.wakeAhead (n : Node) : Node :=
  let p := n.o 0x1200 0x05 * 32
  { n with rtc := { n.rtc with wakeDue := n.rtc.wakeDue.map (fun d => if n.rtc.ticks < d then d else d + p * ((n.rtc.ticks - d) / p + 1)) } }

/-- R60: the pending shift moves the RTC at one crystal edge; a wake it passes fires once. -/
def Node.applyShift (n : Node) : Node :=
  match n.rtc.shift with
  | none => n
  | some d =>
    let n := { n with rtc := { n.rtc with ticks := ((n.rtc.ticks : Int) + d).toNat, shift := none, winValid := false } }
    (n.setRtcBit 3 false).wakeIfDue.wakeAhead

/-- R62, R64: a write of 0x1200.01 sets the time, zeroes the sub-seconds, cancels a pending shift and
clears OSF. The next wake keeps its distance (assumption log 14). -/
def Node.setRtc (n : Node) (ticks : Nat) : Node :=
  let due := n.rtc.wakeDue.map (fun d => ticks + (d - n.rtc.ticks))
  let n := { n with rtc := { n.rtc with ticks := ticks, rem := 0, shift := none, wakeDue := due, winValid := false } }
  (n.setRtcBit 3 false).setRtcBit 0 false

/-- R63: a write of 1 to 0x1100.08 asks for a capture. -/
def Node.askCapture (n : Node) : Node :=
  ({ n with rtc := { n.rtc with capture := true } }).setRtcBit 1 true

/-- The civil date of a day number since 1970-01-01: year, month, day. -/
def civilDate (days : Nat) : Nat × Nat × Nat :=
  let z := days + 719468
  let era := z / 146097
  let doe := z % 146097
  let yoe := (doe - doe / 1460 + doe / 36524 - doe / 146096) / 365
  let doy := doe - (365 * yoe + yoe / 4 - yoe / 100)
  let mp := (5 * doy + 2) / 153
  let d := doy - (153 * mp + 2) / 5 + 1
  let m := if mp < 10 then mp + 3 else mp - 9
  (yoe + era * 400 + (if m ≤ 2 then 1 else 0), m, d)

/-- The leap offset in force: a value written takes effect at the next second boundary (Table 3-6). -/
def Node.leapOffset (n : Node) : Nat :=
  if n.tai / sec 1 < n.time.offFrom then n.time.offOld else (n.oint 16 0 0x1100 0x02).toNat

/-- A write of 0x1100.02. -/
def Node.setLeapOffset (n : Node) (v : Nat) : Node :=
  ({ n with time := { n.time with offOld := n.leapOffset, offFrom := n.tai / sec 1 + 1 } }).set 0x1100 0x02 v

/-- R69, R63: the UTC calendar of the count, as seconds of UTC since 1970, the ns, and whether this is
an inserted leap second, in which the calendar second reads 60. -/
def Node.utc (n : Node) : Nat × Nat × Bool :=
  let off := n.leapOffset
  let leap := match n.time.leapAt with
    | some t => t ≤ n.tai && n.tai < t + sec 1
    | none => false
  if leap then (n.tai / sec 1 - off, n.tai % sec 1, true)
  else (n.tai / sec 1 - off, n.tai % sec 1, false)

/-- 0x1100.0D from a UTC second count. -/
def utcDateWord (s : Nat) (leap : Bool) : Nat :=
  let s := if leap then s - 1 else s
  let (y, m, d) := civilDate (s / 86400)
  y * 65536 + m * 256 + d

/-- 0x1100.0E from a UTC second count and its ns. -/
def utcTimeWord (s ns : Nat) (leap : Bool) : Nat :=
  let s' := if leap then s - 1 else s
  let t := s' % 86400
  t / 3600 * 2 ^ 56 + t / 60 % 60 * 2 ^ 48 + (if leap then 60 else t % 60) * 2 ^ 40 + ns

/-- R63: at one crystal edge the RTC, the TAI count and its UTC fields are latched. -/
def Node.latchCapture (n : Node) : Node :=
  if n.rtc.capture then
    let (s, ns, leap) := n.utc
    let n' := (((n.set 0x1100 0x0B n.tai).set 0x1100 0x0C (n.rtc.ticks % 2 ^ 63)).set 0x1100 0x0D
      (utcDateWord s leap)).set 0x1100 0x0E (utcTimeWord s ns leap)
    ({ n' with rtc := { n'.rtc with capture := false } }).setRtcBit 1 false
  else n

/-- R68: the offset of the RTC from the count, in ns. -/
def Node.rtcPhase (n : Node) : Int := (n.rtcNs : Int) - n.tai

/-- R68: what the node does to the RTC at the end of a trim window in LOCKED with auto discipline: T is
set to cancel the rate error of that window; a phase error above 1 ms is shifted away, one above 1 s or a
set OSF is written away (assumption log 13: at once, in phase with the TAI second). -/
def Node.disciplineRtc (n : Node) : Node :=
  if n.o 0x1100 0x03 = 2 ∧ n.ob 0x1200 0x07 then
    let n :=
      if n.rtc.winValid then
        let got : Int := (n.rtc.ticks : Int) - n.rtc.winTicks
        let want : Rat := (((n.tai : Int) - n.rtc.winTai : Int) : Rat) * 32768 / 1000000000
        let t := roundNear ((n.rtc.trim : Rat) - ((got : Rat) - want))
        n.set 0x1200 0x03 (ofI 16 (max (-2048) (min t 2047)))
      else n
    let ph := n.rtcPhase
    if 1000000000 < ph.natAbs ∨ n.osf then n.setRtc (n.tai * 32768 / 1000000000)
    else if 1000000 < ph.natAbs ∧ n.rtc.shift = none then
      n.askShift (roundNear (-(ph : Rat) * 32768 / 1000000000))
    else n
  else n

/-- R59, R68: a trim window ends and the next begins with the T then written. -/
def Node.trimWindow (n : Node) : Node :=
  let n := n.disciplineRtc
  let t := n.oint 16 0 0x1200 0x03
  { n with rtc := { n.rtc with trim := t, trimLeft := t.natAbs, winTicks := n.rtc.ticks, winTai := n.tai, winValid := true } }

/-- R59: one correction of the window: an extra tick for a positive T, a skipped tick for a negative. -/
def Node.trimPulse (n : Node) : Node :=
  if n.rtc.trimLeft = 0 then n
  else { n with rtc := { n.rtc with
    trimLeft := n.rtc.trimLeft - 1
    ticks := if 0 < n.rtc.trim then n.rtc.ticks + 1 else n.rtc.ticks - 1 } }

/-- R62: the crystal stopped for `dur` ns: its ticks are missing; OSF is set from 4 ms on, never below
2 ms, and the spec leaves open which in between. -/
def Node.oscStop (n : Node) (dur : Nat) : Node :=
  let n := { n with rtc := { n.rtc with ticks := n.rtc.ticks - dur * 32768 / 1000000000, winValid := false } }
  if ms 4 ≤ dur then n.setRtcBit 0 true
  else if dur < ms 2 then n
  else
    let (x, n) := n.draw
    if x % 2 = 1 then n.setRtcBit 0 true else n

/-! ## Time states (R65 to R69) -/

/-- The time island enters a state (Table 3-4); 0x1100.04 reads 0 outside LOCKED. Out of HOLDOVER and
LOCKED the count runs at the crystal's rate. -/
def Node.enterTimeState (n : Node) (st : Nat) : Node :=
  let n := n.set 0x1100 0x03 st
  let n := if st = 2 then n else n.set 0x1100 0x04 0
  { n with time := { n.time with
      rate := if st ≤ 1 then 0 else n.time.rate
      slewLeft := 0
      offsets := []
      holdSince := if st = 3 then n.now else n.time.holdSince } }

/-- Table 3-5, the first rows: the state at reset release, and the count loaded from the RTC. -/
def Node.startTime (n : Node) : Node :=
  let n := { n with time := {} }
  if n.osf then ({ n with tai := 0 }).enterTimeState 0 else ({ n with tai := n.rtcNs }).enterTimeState 1

/-- LOCKED ends in HOLDOVER, whatever the cause (Table 3-5). -/
def Node.toHoldover (n : Node) : Node := if n.o 0x1100 0x03 = 2 then n.enterTimeState 3 else n

/-- R67, 0x1100.05: the rate adjustment that applies now, in ppb. -/
def Node.rateNow (n : Node) : Int :=
  let s : Int := if n.time.slewLeft = 0 then 0 else if 0 < n.time.slewLeft then n.time.slewPpm * 1000 else -(n.time.slewPpm * 1000 : Int)
  max (-500000) (min 500000 (n.time.rate + s))

/-! ## Broadcasts (R56 to R58) -/

/-- R58: does a timed broadcast for time `t` come too late to be accepted without LATE_OK? -/
def Node.bcastLate (n : Node) (t : Nat) : Bool := t < n.tai + 3400

/-- A broadcast asked of the time island: it waits its turn (R57). -/
def Node.bcast (n : Node) (b : Bcast) : Node := { n with bc := { n.bc with waiting := n.bc.waiting ++ [b] } }

/-- R57, R58: the oldest waiting broadcast enters the chain. One that is issued with less than 3.4 µs to
its time acts on arrival and is marked LATE. An untimed one acts as it passes. -/
def Node.issueBcast (n : Node) : Node :=
  match n.bc.chain, n.bc.waiting with
  | none, b :: rest =>
    let late := match b.time with
      | some t => b.late || n.bcastLate t
      | none => true
    let b := { b with late := late }
    { n with bc := { chain := some (b, n.now), waiting := rest,
                     armed := n.bc.armed ++ [{ b := b, islands := List.range 61 }] } }
  | _, _ => n

/-- R56, R57: the acknowledgement of island 60 comes back. -/
def Node.ackBcast (n : Node) : Node :=
  match n.bc.chain with
  | some (_, t) => ({ n with bc := { n.bc with chain := none } }).set 0x2100 0x09 ((n.now - t) % 2 ^ 32)
  | none => n

/-- R67: a time step acts at an island; at the time island it moves the count, is counted and reported,
and raises source 5 at the vats. The frame pacing goes on with the step left out (R212); a scheduled
action that a forward step carries the time past runs late (R244), and after a backward step publication goes on with
the multiples of its period to come (R308). -/
def Node.stepIsland (n : Node) (i : Nat) (delta : Int) : Node :=
  if i = 0 then
    let n := { n with tai := ((n.tai : Int) + delta).toNat }
    ((n.incSat 0x1100 0x0A).fault 0x001 0x05 0 (satI 32 (delta / 1000))).irqAll 5
  else
    let x := n.isl i
    let c := n.copy i
    let n := n.setIsl i { x with base := ((c : Int) + delta).toNat, since := n.now, debt := 0 }
    if i = isleFrame then
      let passed := fun (e : Nat × OpCmd) => decide (c ≤ e.2.when_) && decide ((e.2.when_ : Int) < (c : Int) + delta)
      { n with ring := { n.ring with lastPub := min n.ring.lastPub ((c : Int) + delta).toNat }, frame := { n.frame with
        lastClose := ((n.frame.lastClose : Int) + delta).toNat
        stepped := true
        sched := n.frame.sched.map (fun e => (e.1, { e.2 with late := e.2.late || passed e })) } }
    else n

/-! ## Islands (R49, R52, R55) -/

/-- R49: the PLL of island `i` locks; the copy becomes valid at the fourth token after. -/
def Node.lockPll (n : Node) (i : Nat) : Node :=
  if n.oi i 0x2100 0x03 = 2 then n
  else (n.setIsl i { n.isl i with tokens := 0 }).setI i 0x2100 0x03 2

/-- R49, R55: the island falls back to its ring oscillator; a lake or dynamic lake discards its
conversions of that time. -/
def Node.unlockPll (n : Node) (i : Nat) : Node :=
  if n.oi i 0x2100 0x03 = 2 then
    let valid := n.copyValid i
    let c := n.copy i
    let n := ((n.setI i 0x2100 0x03 3).setI i 0x2100 0x06 0).incSatI 32 i 0x2100 0x08 1
    let n := (n.setIsl i { n.isl i with tokens := 0, held := if valid then c else (n.isl i).held }).fault (0x100 + i) 0x04 0 0
    if 21 ≤ i ∧ i ≤ 52 then
      let l := mapGet n.lakes (i - 21) {}
      { n with lakes := mapPut n.lakes (i - 21) { l with c0 := { l.c0 with discard := true }, c1 := { l.c1 with discard := true } } }
    else n
  else n

/-- R52, R55: a token with value `tv` arrives at island `i`: the target becomes `tv` plus the calibrated
latency. A copy behind it catches up at once, a valid copy ahead of it is made up at half rate and never
set back. The fourth token after lock makes the copy valid. -/
def Node.token (n : Node) (i tv : Nat) : Node :=
  if i = 0 then n else
  let x := n.isl i
  let target := tv + n.oi i 0x2100 0x07 / 1000
  let c := n.copy i
  let base := if n.copyValid i ∧ target ≤ c then c else target
  let locked := n.oi i 0x2100 0x03 = 2
  let n := n.setIsl i { x with base := base, since := n.now, debt := base - target, tokens := if locked then x.tokens + 1 else 0, target := target }
  if locked ∧ x.tokens + 1 = 4 then n.setI i 0x2100 0x06 1 else n

/-- R52: the calibration of a channel: half the mean of 64 round trips, in ps. -/
def Node.calibrate (n : Node) (i sumPs : Nat) : Node := n.setI i 0x2100 0x07 (sumPs / 128 % 2 ^ 32)

/-! ## Commands -/

/-- PLL_LOCK (R49). -/
def execPllLock (dt : Nat) (i : Fin 61) (s : State) := act dt s fun n => n.whenUp fun n => n.lockPll i
/-- PLL_LOCK_LOST (R49, R55). -/
def execPllLockLost (dt : Nat) (i : Fin 61) (s : State) := act dt s fun n => n.whenUp fun n => n.unlockPll i
/-- LATENCY_CALIBRATION (R52). -/
def execLatencyCalibration (dt : Nat) (i : Fin 61) (sumPs : Nat) (s : State) :=
  act dt s fun n => n.whenUp fun n => n.calibrate i sumPs
/-- BROADCAST_ISSUE (R57, R58). -/
def execBroadcastIssue (dt : Nat) (s : State) := act dt s fun n => n.whenUp Node.issueBcast
/-- BROADCAST_ACK (R57). -/
def execBroadcastAck (dt : Nat) (s : State) := act dt s fun n => n.whenUp Node.ackBcast
/-- RTC_TRIM_WINDOW (R59, R68). -/
def execRtcTrimWindow (dt : Nat) (s : State) := act dt s fun n => n.when (n.pwr.phase != .off) Node.trimWindow
/-- RTC_TRIM_PULSE (R59). -/
def execRtcTrimPulse (dt : Nat) (s : State) := act dt s fun n => n.when (n.pwr.phase != .off) Node.trimPulse
/-- RTC_SECOND (R65): in state RTC the count is compared with the RTC and slewed at up to 100 ppm. -/
def execRtcSecond (dt : Nat) (s : State) := act dt s fun n =>
  n.when (n.up && n.o 0x1100 0x03 == 1) fun n =>
    { n with time := { n.time with slewLeft := n.rtcPhase, slewPpm := 100 } }
/-- RTC_SHIFT_APPLY (R60). -/
def execRtcShiftApply (dt : Nat) (s : State) := act dt s fun n => n.when (n.pwr.phase != .off) Node.applyShift
/-- PERIODIC_WAKE (R61). -/
def execPeriodicWake (dt : Nat) (s : State) := act dt s fun n => n.when (n.pwr.phase != .off) Node.wakeIfDue
/-- OSCILLATOR_STOPPED (R62). -/
def execOscillatorStopped (dt : Nat) (durNs : Nat) (s : State) := act dt s fun n =>
  n.when (n.pwr.phase != .off) fun n => n.oscStop durNs
/-- CAPTURE_LATCH (R63). -/
def execCaptureLatch (dt : Nat) (s : State) := act dt s fun n => n.whenUp Node.latchCapture
/-- SYNC_TIMEOUT (R66): no Sync for 3 s in LOCKED. -/
def execSyncTimeout (dt : Nat) (s : State) := act dt s fun n =>
  n.when (n.up && n.time.lastSync + sec 3 ≤ n.now) Node.toHoldover
/-- HOLDOVER_LIMIT (R66): HOLDOVER lasted longer than 0x1100.09. -/
def execHoldoverLimit (dt : Nat) (s : State) := act dt s fun n =>
  n.when (n.up && n.o 0x1100 0x03 == 3 && n.time.holdSince + sec (n.o 0x1100 0x09) < n.now) fun n =>
    n.enterTimeState (if n.osf then 0 else 1)
/-- LEAP_SECOND (R69): at the end of the UTC day, in LOCKED, the leap second announced is applied. -/
def execLeapSecond (dt : Nat) (s : State) := act dt s fun n =>
  n.when (n.up && n.o 0x1100 0x03 == 2 && n.time.utcValid && (n.time.leap59 || n.time.leap61)) fun n =>
    let d : Int := if n.time.leap61 then 1 else -1
    let n := n.set 0x1100 0x02 (ofI 16 (max 0 (min 1000 (n.oint 16 0 0x1100 0x02 + d))))
    { n with time := { n.time with leap59 := false, leap61 := false, leapAt := if 0 < d then some n.tai else none } }

end Sys2Proof.Machine
end

