-- ==== Sys2Proof/Machine/Lakes.lean ====
section
/-!
DEFINITION. Machine/Lakes.lean: the universal analogue front end (chapter 06): pin sets and ranges, the
conversion of a code to a value with its quality, the scan sequencer, contacts, wire break, the mains
frequency meter, and lake resets and tests. Service commands are judged in Service.lean, for lakes and
dynamic lakes alike.
-/
namespace Sys2Proof.Machine

/-! ## Objects of a lake (Tables 6-15 to 6-18) -/

def lakeIdx (l : Nat) : Nat := 0x4000 + 0x40 * l
def convIdx (l k : Nat) : Nat := lakeIdx l + 1 + k
def pinIdx (l p : Nat) : Nat := lakeIdx l + 4 + p
def pinRes (l p : Nat) : Nat := lakeIdx l + 12 + p

def Node.lake (n : Node) (l : Nat) : LakeSt := mapGet n.lakes l {}
def Node.setLake (n : Node) (l : Nat) (x : LakeSt) : Node := { n with lakes := mapPut n.lakes l x }
def Node.conv (n : Node) (l k : Nat) : ConvSt := if k = 0 then (n.lake l).c0 else (n.lake l).c1
def Node.setConv (n : Node) (l k : Nat) (c : ConvSt) : Node :=
  let x := n.lake l
  n.setLake l (if k = 0 then { x with c0 := c } else { x with c1 := c })
def Node.pin (n : Node) (l p : Nat) : PinSt := mapGet (n.lake l).pins p {}
def Node.setPin (n : Node) (l p : Nat) (x : PinSt) : Node :=
  let y := n.lake l
  n.setLake l { y with pins := mapPut y.pins p x }
def Node.lakeState (n : Node) (l : Nat) : Nat := n.o (lakeIdx l) 0x02

/-! ## Pin sets (R139) -/

/-- A configuration value of pin `p` as the object entries `cfg` give it. -/
def pinCfg (cfg : List (Nat × Nat)) (l p sub : Nat) : Nat := odGet cfg (key 0 (pinIdx l p) sub)
def pinCfgF (cfg : List (Nat × Nat)) (l p sub : Nat) : Rat := q32 (pinCfg cfg l p sub)

/-- Modes that convert (Table 6-3 codes 1 to 9), and contact modes (10 to 12). -/
def convMode (m : Nat) : Bool := 1 ≤ m && m ≤ 9
def contactMode (m : Nat) : Bool := 10 ≤ m && m ≤ 12

/-- How many pins a mode's set has. -/
def setSize (m : Nat) : Nat :=
  if m = 2 ∨ m = 5 ∨ m = 6 ∨ m = 7 then 2 else if m = 3 ∨ m = 9 then 3 else if m = 4 ∨ m = 8 then 4 else 1

/-- R139: the set lies in the lake, its other pins are COMPANION, and a CURRENT primary is even. -/
def setOk (cfg : List (Nat × Nat)) (l p : Nat) : Bool :=
  let m := pinCfg cfg l p 0x01
  p + setSize m ≤ 8 && (List.range (setSize m - 1)).all (fun i => pinCfg cfg l (p + 1 + i) 0x01 == 13)
    && (m != 7 || p % 2 == 0)

/-- The primary whose set holds pin `p` (itself when it is no companion). -/
def primaryOf (cfg : List (Nat × Nat)) (l p : Nat) : Nat :=
  if pinCfg cfg l p 0x01 = 13 then
    ((List.range p).reverse.find? (fun k => pinCfg cfg l k 0x01 != 13 && p < k + setSize (pinCfg cfg l k 0x01))).getD p
  else p

/-! ## Excitation, reference and gain (R138, Table 6-3) -/

/-- The largest resistance of an intact set, Ω. -/
def rMax (cfg : List (Nat × Nat)) (l p : Nat) : Rat :=
  let x := pinCfgF cfg l p 0x06
  let rnom := pinCfgF cfg l p 0x07
  if x ≠ 0 then x else
  let m := pinCfg cfg l p 0x01
  if m = 2 ∨ m = 3 ∨ m = 4 then 4 * rnom + 40
  else if m = 5 then 90000 else if m = 8 ∨ m = 9 then rnom + 40 else 200

/-- The excitation current in µA; 0 in a mode without a source. -/
def excUa (cfg : List (Nat × Nat)) (l p : Nat) : Nat :=
  let m := pinCfg cfg l p 0x01
  let x := pinCfg cfg l p 0x05
  if m = 2 ∨ m = 3 ∨ m = 4 then
    if x ≠ 0 then x
    else (max 10 (min 2500 (10 * roundNear (100000 / pinCfgF cfg l p 0x07 / 10)))).toNat
  else if m = 5 then (if x ≠ 0 then x else 10)
  else if m = 8 then (if x ≠ 0 then x else 2500)
  else if m = 9 then (if x ≠ 0 then x else 1000)
  else 0

/-- The current in the return path: both sources in RTD3. -/
def retAmp (cfg : List (Nat × Nat)) (l p : Nat) : Rat :=
  let i := ratio (excUa cfg l p) 1000000
  if pinCfg cfg l p 0x01 = 3 then 2 * i else i

/-- R138: the largest reference resistor that the return current allows. -/
def refRes (cfg : List (Nat × Nat)) (l p : Nat) : Option Rat :=
  ([100000, 10000, 1000] : List Rat).find? (fun r => retAmp cfg l p * r ≤ 5 / 2)

/-- R138: V_REF of the set's mode; none where no resistor fits. -/
def vRef (cfg : List (Nat × Nat)) (l p : Nat) : Option Rat :=
  let m := pinCfg cfg l p 0x01
  if m = 2 ∨ m = 3 ∨ m = 4 ∨ m = 5 then (refRes cfg l p).map (fun r => retAmp cfg l p * r)
  else if m = 8 ∨ m = 9 then some (ratio (excUa cfg l p) 1000000 * pinCfgF cfg l p 0x07)
  else some (5 / 2)

/-- R138: the largest expected signal; none where the mode has none. -/
def largestSignal (cfg : List (Nat × Nat)) (l p : Nat) (vr : Rat) : Option Rat :=
  let m := pinCfg cfg l p 0x01
  if m = 2 ∨ m = 3 ∨ m = 4 ∨ m = 5 then some (ratio (excUa cfg l p) 1000000 * rMax cfg l p)
  else if m = 6 then some (Config.thermoMax (pinCfg cfg l p 0x0C) / 1000)
  else if m = 8 then some (pinCfgF cfg l p 0x10 * vr / 1000)
  else if m = 9 then some vr
  else none

/-- R138, R146: the gain exponent; none where no gain fits. -/
def gainExp (cfg : List (Nat × Nat)) (l p : Nat) (vr : Rat) : Option Nat :=
  let m := pinCfg cfg l p 0x01
  let g := pinCfg cfg l p 0x04
  if m = 7 ∨ (m = 1 ∧ pinCfg cfg l p 0x0F = 0) then some 0
  else if g ≠ 0xFF then some g
  else match largestSignal cfg l p vr with
    | none => some 0
    | some s => (List.range 8).reverse.find? (fun g => s ≤ (9 : Rat) / 10 * vr / ((2 ^ g : Nat) : Rat))

/-- R138: the sources stay within their compliance of 10.5 V over the set and the reference resistor. -/
def complianceOk (cfg : List (Nat × Nat)) (l p : Nat) : Bool :=
  let i := ratio (excUa cfg l p) 1000000
  excUa cfg l p == 0 || decide (i * rMax cfg l p + retAmp cfg l p * (refRes cfg l p).getD 0 ≤ 21 / 2)

/-! ## Timing (R137, R152) -/

/-- The rate of a code in tenths of a sample per second (Table 6-2). -/
def rateTenths (c : Nat) : Nat :=
  ([25, 50, 100, 200, 500, 1000, 2000, 5000, 10000, 20000, 40000, 80000, 160000, 320000] : List Nat).getD c 100

/-- Settling time of a mode in ns. -/
def settleNs (m : Nat) : Nat := if m = 1 ∨ m = 6 ∨ m = 7 then us 20 else us 100

/-- The integration window in ns, after settling: 3 / rate, or 2W with the mains filter at frequency `f`. -/
def windowNs (code : Nat) (mains : Bool) (mode : Nat) (f : Rat) : Nat :=
  if mains && f != 0 then
    let t := 1000000000 / f
    let pr := (10000000000 : Rat) / (rateTenths code : Rat)
    let m := ((pr - (settleNs mode : Rat)) / (2 * t)).floor
    (2 * (m : Rat) * t).floor.toNat
  else 30000000000 / rateTenths code

/-! ## From a code to a value (R141 to R147) -/

/-- A value with its quality and the status bits of Table 6-19 that the conversion decides. -/
structure Formed where
  value : Option Rat
  q : Nat
  status : Nat

/-- Which of two qualities stands higher in Table 6-8. -/
def worseQ (a b : Nat) : Nat := max a b

/-- Coefficients of the IEC 60751 curve (R143), as F64. -/
def pt_a : Rat := rnd64 (39083 / 10000000)
def pt_b : Rat := rnd64 (-5775 / 10000000000)
def pt_c : Rat := rnd64 (-4183 / 1000000000000000)

/-- The quadratic's root, the Newton start value (R143). -/
def ptRoot (x : Rat) : Rat :=
  let d := rnd64 (rnd64 (pt_a * pt_a) - rnd64 (rnd64 (4 * pt_b) * rnd64 (1 - x)))
  rnd64 (rnd64 (-pt_a + sqrt64 d) / rnd64 (2 * pt_b))

/-- Newton on the full curve, until a step is below 0.000 01. -/
def ptNewton : Nat → Rat → Rat → Rat
  | 0, _, t => t
  | k + 1, x, t =>
    let t2 := rnd64 (t * t)
    let t3 := rnd64 (t2 * t)
    let f := rnd64 (1 + rnd64 (pt_a * t) + rnd64 (pt_b * t2) + rnd64 (rnd64 (pt_c * rnd64 (t - 100)) * t3) - x)
    let df := rnd64 (pt_a + rnd64 (2 * pt_b * t) + rnd64 (pt_c * rnd64 (4 * t3 - 300 * t2)))
    if df = 0 then t else
    let s := rnd64 (f / df)
    let t' := rnd64 (t - s)
    if rabs s < 1 / 100000 then t' else ptNewton k x t'

/-- R143: °C of a resistance ratio x; none above the quadratic's range. -/
def ptTemp (x : Rat) : Option Rat :=
  if pt_a * pt_a - 4 * pt_b * (1 - x) < 0 then none
  else if 1 ≤ x then some (ptRoot x) else some (ptNewton 100 x (ptRoot x))

/-- The ratio at the curve's end points, −200 °C and 850 °C. -/
def ptLow : Rat := 1 + pt_a * (-200) + pt_b * 40000 + pt_c * (-300) * (-8000000)
def ptHigh : Rat := 1 + pt_a * 850 + pt_b * 722500

/-- R143: an RTD's resistance over Rnom. Below the curve by more than 10 % of Rnom is a short (R163). -/
def formRtd (r rnom : Rat) : Formed :=
  let x := rnd64 (r / rnom)
  let v := ptTemp x
  if x < ptLow - 1 / 10 then { value := v, q := 2, status := 8 }
  else if ptHigh + 1 / 10 < x then { value := v, q := 2, status := 0 }
  else
    let good := match v with
      | some t => decide (-200 ≤ t) && decide (t ≤ 850)
      | none => false
    { value := v, q := if good then 0 else 1, status := 0 }

/-- R144: a thermistor's resistance by the Steinhart–Hart equation. -/
def formThermistor (r a b c : Rat) : Formed :=
  if r < 10 then { value := none, q := 2, status := 8 }
  else if 90000 < r then { value := none, q := 2, status := 0 }
  else
    let x := ln64 r
    let d := rnd64 (a + rnd64 (b * x) + rnd64 (c * rnd64 (rnd64 (x * x) * x)))
    if d = 0 then { value := none, q := 1, status := 0 }
    else
      let t := rnd64 (rnd64 (1 / d) - rnd64 (5463 / 20))
      { value := some t, q := if decide (-55 ≤ t) && decide (t ≤ 150) then 0 else 1, status := 0 }

/-- R146: the scaled value; `lo = hi` leaves x as it is. -/
def scaled (x xa xb lo hi : Rat) : Rat := if lo = hi then x else lo + (x - xa) / (xb - xa) * (hi - lo)

/-- R147: quality and status of a loop current x in mA. -/
def currentQuality (ne43 : Bool) (x : Rat) : Nat × Nat :=
  let exceeds := decide (25 < rabs x)
  if ne43 then
    let lowB := b2n (decide (x < 19 / 5)) * 64
    let highB := b2n (decide (41 / 2 < x)) * 32
    let q := if x < 18 / 5 ∨ 21 < x then 2 else if x < 19 / 5 ∨ 41 / 2 < x then 1 else 0
    (if exceeds then 2 else q, lowB + highB + b2n exceeds * 16)
  else
    let q := if x < -1 / 10 then 2 else if 24 < x then 1 else 0
    (if exceeds then 2 else q, b2n exceeds * 16)

/-- R145: the cold-junction temperature that a pin's CJ source gives, with its quality (3 for a bad
configuration, 2 or 1 as the source's reading earns). -/
def Node.coldJunction (n : Node) (cfg : List (Nat × Nat)) (l p : Nat) : Rat × Nat :=
  let src := pinCfg cfg l p 0x0D
  if src = 0 then (n.of32 0 (lakeIdx l) 0x05, if n.o (lakeIdx l) 0x06 = 0 then 0 else if n.o (lakeIdx l) 0x06 = 1 then 1 else 2)
  else if src = 1 then (pinCfgF cfg l p 0x0E, 0)
  else
    let k := src - 2
    let m := pinCfg cfg l k 0x01
    if (m = 2 ∨ m = 3 ∨ m = 4 ∨ m = 5) ∧ setOk cfg l k then
      let q := n.o (pinRes l k) 0x02
      let old := decide (n.o (pinRes l k) 0x03 + sec 10 < n.copy (isleLake l))
      (n.of32 0 (pinRes l k) 0x01, if q = 2 ∨ q = 3 then 2 else if q = 1 ∨ old then 1 else 0)
    else (0, 3)

/-- R154: the list that a converter works through: the one written, or the automatic one. -/
def activeList (cfg : List (Nat × Nat)) (l k : Nat) : List Nat :=
  let w := odGet cfg (key 0 (convIdx l k) 0x01)
  let slots := (List.range 16).map (fun i => bits w (8 * i + 7) (8 * i))
  if slots.all (· == 0xFF) then
    let mine := (List.range 4).map (· + 4 * k)
    let prim := mine.filter (fun p => convMode (pinCfg cfg l p 0x01))
    let cj := k == 0 && (List.range 8).any (fun p => pinCfg cfg l p 0x01 == 6 && pinCfg cfg l p 0x0D == 0)
    prim ++ (if cj then [0x10] else []) ++ [0x11]
  else slots.filter (· != 0xFF)

/-- R154: a primary that both active lists hold is BAD_CONFIG. -/
def inBothLists (cfg : List (Nat × Nat)) (l p : Nat) : Bool := (activeList cfg l 0).contains p && (activeList cfg l 1).contains p

/-- R138 to R147: value, quality and status of a set from its code, or from both codes of a swapped pair.
`codeA` is the code of phase A. The full-scale code stands for V_REF over the gain (assumption log 31). -/
def Node.formReading (n : Node) (cfg : List (Nat × Nat)) (l p : Nat) (codeA : Option Int) (code : Int) (refBad : Bool) : Formed :=
  let m := pinCfg cfg l p 0x01
  let bad : Formed := { value := none, q := 3, status := 2 }
  if !setOk cfg l p || (pinCfg cfg l p 0x03 == 1 && 3 ≤ pinCfg cfg l p 0x02) || inBothLists cfg l p then bad else
  match vRef cfg l p with
  | none => bad
  | some vr =>
    match gainExp cfg l p vr with
    | none => bad
    | some g =>
      if !complianceOk cfg l p then bad else
      let full := fun (c : Int) => decide (8388607 ≤ c) || decide (c ≤ -8388608)
      let exceeds := full code || (match codeA with | some c => full c | none => false)
      let mean : Rat := match codeA with
        | some c => ((c + code : Int) : Rat) / 2
        | none => (code : Rat)
      let v := mean / 8388608 * vr / ((2 ^ g : Nat) : Rat)
      let lo := pinCfgF cfg l p 0x11
      let hi := pinCfgF cfg l p 0x12
      let f : Formed :=
        if m = 1 then
          let x := if pinCfg cfg l p 0x0F = 0 then 4 * v else v
          let xb := if pinCfg cfg l p 0x0F = 0 then 10 else vr / ((2 ^ g : Nat) : Rat)
          { value := some (scaled x 0 xb lo hi), q := 0, status := 0 }
        else if m = 2 ∨ m = 3 ∨ m = 4 then
          let rr := (refRes cfg l p).getD 0
          let r := (if m = 3 then 2 * rr * v / vr else rr * v / vr) - (if m = 2 then pinCfgF cfg l p 0x08 else 0)
          formRtd (rnd64 r) (pinCfgF cfg l p 0x07)
        else if m = 5 then
          let r := (refRes cfg l p).getD 0 * v / vr - pinCfgF cfg l p 0x08
          formThermistor (rnd64 r) (q64 (pinCfg cfg l p 0x09)) (q64 (pinCfg cfg l p 0x0A)) (q64 (pinCfg cfg l p 0x0B))
        else if m = 6 then
          let (tcj, cq) := n.coldJunction cfg l p
          let ty := pinCfg cfg l p 0x0C
          if cq = 3 then { value := none, q := 3, status := 2 + 128 }
          else match Config.thermoT ty (rnd64 (v * 1000 + Config.thermoE ty tcj)) with
            | none => { value := none, q := 2, status := if cq = 0 then 0 else 128 }
            | some t => { value := some t, q := worseQ cq (if ty = 6 ∧ t < 250 then 1 else 0), status := if cq = 0 then 0 else 128 }
        else if m = 7 then
          let x := v / 50 * 1000
          let (q, st) := currentQuality (pinCfg cfg l p 0x13 == 1) x
          { value := some (scaled x 4 20 lo hi), q := q, status := st }
        else if m = 8 then
          { value := some (scaled (v / vr * 1000) 0 (pinCfgF cfg l p 0x10) lo hi), q := 0, status := 0 }
        else
          { value := some (scaled (v / vr) 0 1 lo hi), q := 0, status := 0 }
      let f := if exceeds then { f with q := worseQ f.q 2, status := f.status ||| 16 } else f
      if refBad then { f with q := worseQ f.q 1 } else f

/-! ## Sending readings (R157, R165) -/

/-- A lake sample (Table 6-9). -/
def lakeSample (time value raw pin : Nat) (phaseA : Bool) (q : Nat) : List Byte :=
  toLE 8 time ++ toLE 4 value ++ toLE 3 raw ++ toLE 1 (pin * 32 + b2n phaseA * 16 + q)

/-- The raw stream of a lake: to the archive, and to sample-stream queues bound to the pin (R165, R166). -/
def Node.sendSample (n : Node) (l p time value raw : Nat) (phaseA : Bool) (q : Nat) : Node :=
  let bs := lakeSample time value raw p phaseA q
  let n := n.archive 1 l time [] bs
  n.toStreams (fun b => bindKind b == 1 && bindSource b == l && bit b (8 + p)) time [] bs

/-- R157, R164: a reading leaves the lake: its results objects and the frame island. A reading whose quality is GOOD or
UNCERTAIN is the pin's last valid value; a lake in RETURNING waits for the pin no more (Table 6-12). -/
def Node.sendReading (n : Node) (l p : Nat) (r : Reading) (raw status : Nat) : Node :=
  let x := pinRes l p
  let n := ((((n.set x 0x01 r.value).set x 0x02 r.q).set x 0x03 r.time).set x 0x04 (if raw < 0x800000 then raw else raw + 0xFF000000)).set x 0x05 status
  let n := if r.q ≤ 1 then n.setPin l p { n.pin l p with lastGood := r.value } else n
  let y := n.lake l
  (n.setLake l { y with toReturn := y.toReturn.filter (· != p) }).toFrame 1 (8 * l + p) r

/-- R165: the reading of a conversion or of a reported contact change, with its lake sample. -/
def Node.sendSampled (n : Node) (l p : Nat) (r : Reading) (raw status : Nat) : Node :=
  (n.sendReading l p r raw status).sendSample l p r.time r.value raw false r.q

/-- R165: the sample of phase A or of a discarded result: VALUE is a NaN, and its quality is left open (log 3). -/
def Node.sendNan (n : Node) (l p time raw : Nat) (phaseA : Bool) : Node :=
  let (v, n) := n.draw
  n.sendSample l p time nanBits raw phaseA (v % 4)

/-- R162: the BAD_SENSOR reading of a broken set, stamped now. -/
def Node.sendBroken (n : Node) (l p stamp : Nat) : Node :=
  n.sendReading l p { value := (n.pin l p).lastGood, q := 2, time := stamp } (n.o (pinRes l p) 0x04 % 2 ^ 24) 4

/-! ## The scan sequencer (R154 to R156) -/

/-- Does a slot take time? A pin slot does when its pin is a converter-mode primary with no break. -/
def Node.slotTakesTime (n : Node) (cfg : List (Nat × Nat)) (l c : Nat) : Bool :=
  if c < 8 then convMode (pinCfg cfg l c 0x01) && !(n.pin l c).broken else c == 0x10 || c == 0x11

/-- The configuration entries of a lake, as a scan takes them at its start (R140). -/
def Node.lakeCfg (n : Node) (l : Nat) : List (Nat × Nat) :=
  n.od.filter (fun e => lakeIdx l ≤ keyIdx e.1 && keyIdx e.1 < lakeIdx l + 12 && keyInst e.1 == 0)

/-- The list as the object .05 shows it. -/
def listObject (slots : List Nat) : Nat := ofLE (((slots.map (BitVec.ofNat 8)) ++ List.replicate (16 - slots.length) 0xFF).take 16)

/-- From slot `pos` on: broken sets send their BAD_SENSOR reading and take no time; the position of the
next slot that takes time, or the list's length. -/
def Node.seekSlot (n : Node) (l : Nat) (cfg : List (Nat × Nat)) : Nat → List Nat → Node × Nat
  | pos, [] => (n, pos)
  | pos, c :: rest =>
    if n.slotTakesTime cfg l c then (n, pos)
    else if c < 8 ∧ convMode (pinCfg cfg l c 0x01) ∧ (n.pin l c).broken then
      (n.sendBroken l c (n.copy (isleLake l))).seekSlot l cfg (pos + 1) rest
    else n.seekSlot l cfg (pos + 1) rest

/-- The mains frequency that a lake uses (R151). -/
def Node.lakeFreq (n : Node) (l : Nat) : Nat := (n.lake l).freq

/-- R154: a primary that no active list holds is BAD_CONFIG. -/
def Node.markUnscanned (n : Node) (l : Nat) (cfg : List (Nat × Nat)) : Node :=
  let a := activeList cfg l 0
  let b := activeList cfg l 1
  (List.range 8).foldl (fun n p =>
    if convMode (pinCfg cfg l p 0x01) && !a.contains p && !b.contains p then
      n.sendReading l p { value := (n.pin l p).lastGood, q := 3, time := n.copy (isleLake l) } 0 2
    else n) n

/-- A scan starts (R140, R155): it takes the lake's configuration, makes its list, and begins its first
slot that takes time. A list without one idles, and the scan time reads 0. -/
def Node.startScan (n : Node) (l k : Nat) : Node :=
  let cfg := n.lakeCfg l
  let lst := activeList cfg l k
  let n := n.set (convIdx l k) 0x05 (listObject lst)
  let n := if k = 0 then n.markUnscanned l cfg else n
  let (n, pos) := n.seekSlot l cfg 0 lst
  let c := n.conv l k
  if pos < lst.length then
    n.setConv l k { c with
      list := lst, pos := pos, running := true, slotStart := n.now, scanStart := n.now, late := false
      phaseA := none, freq := n.lakeFreq l, cfg := cfg, discard := false }
  else (n.setConv l k { c with list := lst, pos := pos, running := false, late := false, cfg := cfg }).set (convIdx l k) 0x06 0

/-- The slot at which a converter stands is done: the next begins, or the scan ends; a scan that fell due
meanwhile starts as it ends (R155). A lake in TAKING_OUT begins none (Table 6-12). -/
def Node.nextSlot (n : Node) (l k : Nat) : Node :=
  let c := n.conv l k
  if n.lakeState l = 1 then n.setConv l k { c with running := false, late := false, phaseA := none, discard := false } else
  let (n, pos) := n.seekSlot l c.cfg (c.pos + 1) (c.list.drop (c.pos + 1))
  if pos < c.list.length then
    n.setConv l k { n.conv l k with pos := pos, slotStart := n.now, phaseA := none, freq := n.lakeFreq l, discard := false }
  else
    let n := n.set (convIdx l k) 0x06 ((n.now - c.scanStart) / 1000 % 2 ^ 32)
    let n := n.setConv l k { n.conv l k with running := false, phaseA := none, discard := false }
    if c.late then n.startScan l k else n

/-- May the lake convert (Table 6-11)? -/
def Node.lakeConverts (n : Node) (l : Nat) : Bool := [0, 1, 4].contains (n.lakeState l)

/-- SCAN_START (R155). In periodic mode a scan that falls due while one runs counts an overrun. -/
def Node.scanDue (n : Node) (l k : Nat) : Node :=
  if !([0, 4].contains (n.lakeState l)) then n
  else if (n.conv l k).running then
    if n.o (convIdx l k) 0x02 = 1 then
      (n.incSatI 32 0 (convIdx l k) 0x07 1).setConv l k { n.conv l k with late := true }
    else n
  else n.startScan l k

/-- R154: a reference check compares with the value taken at test; the first one stands for it. -/
def Node.refCheck (n : Node) (l k : Nat) (code : Int) : Node :=
  let x := n.lake l
  match x.refTest.find? (fun e => e.1 == k) with
  | none => n.setLake l { x with refTest := mapPut x.refTest k code }
  | some (_, t) =>
    let ppm : Rat := if t = 0 then 0 else ((code - t : Int) : Rat) / (t : Rat) * 1000000
    let n := n.setF 0 (lakeIdx l) 0x07 ppm
    let bad := decide (500 < rabs ppm)
    let n := n.setConv l k { n.conv l k with refBad := bad }
    if bad then n.fault (0x020 + l) 0x31 k (satI 32 (roundNear ppm)) else n

/-- A reading formed goes into its hold of 250 µs (R157). -/
def Node.holdReading (n : Node) (l p stamp raw : Nat) (f : Formed) : Node :=
  let v := match f.value with
    | some q => r32 q
    | none => (n.pin l p).lastGood
  let h : HeldReading := { pin := p, r := { value := v, q := f.q, time := stamp }, raw := raw, status := f.status, ready := n.now + us 250 }
  let x := n.lake l
  n.setLake l { x with held := x.held ++ [h] }

/-- R157: a conversion ends. One made on the ring oscillator or of a set whose configuration changed is
discarded and counted (R49, R140). Phase A of a swapped pair waits for phase B (R142). -/
def Node.conversionEnd (n : Node) (l k : Nat) (code : Int) (raw cjTemp : Nat) : Node :=
  let c := n.conv l k
  if !(c.running && n.lakeConverts l) then n else
  let slot := c.list.getD c.pos 0xFF
  let m := pinCfg c.cfg l slot 0x01
  let w := windowNs (pinCfg c.cfg l slot 0x02) (pinCfg c.cfg l slot 0x03 == 1) m (q32 c.freq)
  let centre := n.copy (isleLake l) - w / 2
  if c.discard || !n.copyValid (isleLake l) then
    let n := n.incSatI 32 0 (lakeIdx l) 0x08 1
    let n := n.when (slot < 8 && n.copyValid (isleLake l)) fun n => n.sendNan l slot centre raw false
    n.nextSlot l k
  else if slot = 0x10 then
    ((n.set (lakeIdx l) 0x05 cjTemp).set (lakeIdx l) 0x06 (b2n c.refBad)).nextSlot l k
  else if slot = 0x11 then (n.refCheck l k code).nextSlot l k
  else
    let swap := m == 3 && pinCfg c.cfg l slot 0x17 == 1
    if swap && c.phaseA.isNone then
      let n := n.sendNan l slot centre raw true
      n.setConv l k { n.conv l k with phaseA := some (code, centre), slotStart := n.now }
    else
      let f := n.formReading c.cfg l slot (if swap then c.phaseA.map (·.1) else none) code c.refBad
      let stamp := match c.phaseA with
        | some (_, a) => (a + centre) / 2
        | none => centre
      (n.holdReading l slot stamp raw f).nextSlot l k

/-- R157: the oldest held reading of a pin is sent when its hold has run. -/
def Node.releaseReading (n : Node) (l p : Nat) : Node :=
  let x := n.lake l
  match x.held.find? (fun h => h.pin == p) with
  | some h =>
    if h.ready ≤ n.now ∧ n.lakeConverts l then
      (n.setLake l { x with held := x.held.erase h }).sendSampled l p h.r h.raw h.status
    else n
  | none => n

/-- R140: configuration of pin `p` was written: a conversion of its set in progress is discarded, its
contact band is forgotten (R148). -/
def Node.pinChanged (n : Node) (l p : Nat) : Node :=
  let touch := fun (n : Node) (k : Nat) =>
    let c := n.conv l k
    if c.running && primaryOf c.cfg l p == c.list.getD c.pos 0xFF then n.setConv l k { c with discard := true } else n
  let n := touch (touch n 0) 1
  n.setPin l p { n.pin l p with band := none }

/-! ## Contacts (R148 to R150) -/

/-- Is a band one the mode detects (Table 6-6)? -/
def bandOk (m b : Nat) : Bool := if m = 10 then b < 2 else b < 4

/-- R149, R150: a band is reported: BAND and STATE, the value, and the change counted. SHORT and BREAK
carry BAD_SENSOR with the last valid value; a first report is UNCERTAIN when `first`. -/
def Node.reportBand (n : Node) (l p band stamp : Nat) (first : Bool) : Node :=
  let inv := n.ob (pinIdx l p) 0x15
  let closed := (band == 0) != inv
  let v := if band < 2 then (if closed then r32 1 else r32 0) else (n.pin l p).lastGood
  let q := if band < 2 then (if first then 1 else 0) else 2
  let st := band * 256 + (if band = 2 then 8 else 0) + (if band = 3 then 4 else 0) + (if band < 2 then b2n closed else n.o (pinRes l p) 0x05 % 2)
  let n := n.setPin l p { n.pin l p with band := some band }
  let n := n.incWrapI 32 0 (pinRes l p) 0x07 1
  let n := if band = 3 then
      (((n.incSatI 32 0 (pinRes l p) 0x06 1).set (pinRes l p) 0x08 stamp).setPin l p { n.pin l p with broken := true, lastBad := n.now }).fault (0x020 + l) 0x30 p 0
    else n.setPin l p { n.pin l p with broken := false }
  n.sendSampled l p { value := v, q := q, time := stamp } band st

/-- CONTACT_BAND_CHANGE (R149): the pin has held the band for its qualification count; `ago` is the age
of the first sample away from the last reported band. While the time copy is invalid nothing is
reported, and the band is kept for the report that R150 makes. -/
def Node.bandChange (n : Node) (l p band ago : Nat) : Node :=
  let m := n.o (pinIdx l p) 0x01
  if contactMode m && bandOk m band && n.lakeConverts l then
    let n := n.setPin l p { n.pin l p with sampled := band }
    let need := if band < 2 then us 20 + ms (n.o (pinIdx l p) 0x14) else us 20
    if n.copyValid (isleLake l) && (n.pin l p).band != some band && decide (need ≤ ago + us 1) then
      n.reportBand l p band (n.stamp (isleLake l) ago) false
    else n
  else n

/-- R150: the lake's time copy became valid: each contact pin's present band is reported once, UNCERTAIN. -/
def Node.reportAllBands (n : Node) (l : Nat) : Node :=
  (List.range 8).foldl (fun n p =>
    if contactMode (n.o (pinIdx l p) 0x01) && n.lakeConverts l then
      n.reportBand l p (n.pin l p).sampled (n.copy (isleLake l)) true
    else n) n

/-! ## Wire break (R158 to R163) -/

/-- Is the pulse test on for a set (Table 6-7, R160)? -/
def pulseOn (cfg : List (Nat × Nat)) (l p : Nat) : Bool :=
  let m := pinCfg cfg l p 0x01
  let w := pinCfg cfg l p 0x16
  (m == 1 && w == 1) || ((m == 4 || m == 6 || m == 8 || m == 9) && w != 0)

/-- Does the window detector watch the set (Table 6-7)? -/
def windowWatched (m : Nat) : Bool := [2, 3, 4, 5, 7, 8, 9].contains m

/-- Which pins of a set it watches: the primary, in RTD3 the second as well, in CURRENT the pair. -/
def windowPin (m d : Nat) : Bool := d == 0 || ((m == 3 || m == 7) && d == 1)

/-- R162: a break is declared on the set of primary `p`, stamped `stamp`: its conversion in progress or in
hold is discarded, the BAD_SENSOR reading is sent, and it is counted and reported. A result in hold was formed, and its
sample goes out as a discarded one (R165); a conversion that is cut off has none. -/
def Node.declareBreak (n : Node) (l p stamp : Nat) : Node :=
  if (n.pin l p).broken then n.setPin l p { n.pin l p with lastBad := n.now } else
  let cut := fun (n : Node) (k : Nat) =>
    let c := n.conv l k
    if c.running && c.list.getD c.pos 0xFF == p then
      ((n.incSatI 32 0 (lakeIdx l) 0x08 1).setConv l k { c with phaseA := none }).nextSlot l k
    else n
  let n := n.setPin l p { n.pin l p with broken := true, lastBad := n.now }
  let x := n.lake l
  let gone := x.held.filter (fun h => h.pin == p)
  let n := (n.setLake l { x with held := x.held.filter (fun h => h.pin != p) }).incSatI 32 0 (lakeIdx l) 0x08 gone.length
  let n := gone.foldl (fun n h => n.sendNan l p h.r.time h.raw false) n
  let n := n.sendBroken l p stamp
  let n := ((n.incSatI 32 0 (pinRes l p) 0x06 1).set (pinRes l p) 0x08 stamp).fault (0x020 + l) 0x30 p 0
  cut (cut n 0) 1

/-- WIRE_BREAK (R158, R162): the pin stayed outside its window for 32 samples; `ago` is the age of the
first of them. -/
def Node.windowBreak (n : Node) (l p ago : Nat) : Node :=
  let cfg := n.lakeCfg l
  let q := primaryOf cfg l p
  if n.lakeConverts l && n.copyValid (isleLake l) && setOk cfg l q && windowWatched (pinCfg cfg l q 0x01)
      && windowPin (pinCfg cfg l q 0x01) (p - q) && decide (us 31 ≤ ago) then
    n.declareBreak l q (n.stamp (isleLake l) ago)
  else n

/-- R160: V_th of the pulse test in µV. -/
def pulseLimitUv (cfg : List (Nat × Nat)) (l p : Nat) : Rat := 250 * rMax cfg l p + 20000

/-- PULSE_TEST (R160): one pulse, with the pair's voltage at its end; two failing pulses in a row declare a
break, stamped at the first. -/
def Node.pulse (n : Node) (l p : Nat) (uv : Int) : Node :=
  let cfg := n.lakeCfg l
  if n.lakeConverts l && n.copyValid (isleLake l) && pulseOn cfg l p && setOk cfg l p then
    let x := n.pin l p
    if pulseLimitUv cfg l p < (uv : Rat) then
      let first := if x.failRun = 0 then n.copy (isleLake l) else x.failFirst
      let n := n.setPin l p { x with failRun := x.failRun + 1, failFirst := first, lastBad := n.now }
      if 1 ≤ x.failRun then n.declareBreak l p first else n
    else n.setPin l p { x with failRun := 0 }
  else n

/-- BREAK_CLEAR (R163): after 100 ms without a violation or a failing pulse the break clears. -/
def Node.clearBreak (n : Node) (l p : Nat) : Node :=
  let x := n.pin l p
  if x.broken && convMode (n.o (pinIdx l p) 0x01) && decide (x.lastBad + ms 100 ≤ n.now) then
    (n.setPin l p { x with broken := false, failRun := 0 }).setBitI 0 (pinRes l p) 0x05 2 false
  else n

/-! ## The mains frequency meter (R151) -/

/-- R151: f from nine crossings, newest first: 8 / (t_k − t_{k−8}); valid within 45–65 Hz with no period
more than 2 % from their mean. -/
def mainsFreq (cs : List Nat) : Option Rat :=
  match cs with
  | [c0, c1, c2, c3, c4, c5, c6, c7, c8] =>
    let ps : List Rat := [(c0 - c1 : Nat), (c1 - c2 : Nat), (c2 - c3 : Nat), (c3 - c4 : Nat), (c4 - c5 : Nat), (c5 - c6 : Nat), (c6 - c7 : Nat), (c7 - c8 : Nat)]
    if c0 ≤ c8 then none else
    let mean := (c0 - c8 : Nat) / (8 : Rat)
    let f := 1000000000 / mean
    if 45 ≤ f ∧ f ≤ 65 ∧ ps.all (fun p => rabs (p - mean) ≤ mean / 50) then some f else none
  | _ => none

/-- A rising zero crossing at MREF: it is stamped, and f computed. -/
def Node.mainsCross (n : Node) : Node :=
  let cs := (n.copy isleKeeper :: n.mains.cross).take 9
  let n := { n with mains := { n.mains with cross := cs } }
  match mainsFreq cs with
  | some f =>
    let n := { n with mains := { n.mains with lastValid := some (r32 f), since := n.now } }
    if n.ob 0x4800 0x02 then (n.setF 0 0x4800 0x03 f).set 0x4800 0x04 1 else n.setF 0 0x4800 0x03 f
  | none => n

/-- Every 20 ms the keeper sends the valid f to every lake; none is sent while the keeper resets. -/
def Node.sendMains (n : Node) : Node :=
  match n.mains.lastValid with
  | some f =>
    if n.ob 0x4800 0x02 && n.mode.keeperReset.isNone && decide (n.now < n.mains.since + ms 100) then
      (List.range 32).foldl (fun n l => n.setLake l { n.lake l with freq := f }) n
    else n
  | none => n

/-- The lakes fall back to the nominal frequency. -/
def Node.nominalMains (n : Node) : Node :=
  (List.range 32).foldl (fun n l => n.setLake l { n.lake l with freq := n.o 0x4800 0x01 }) n

/-- With tracking on and no valid f for 100 ms, the nominal frequency is used and the loss reported once. -/
def Node.mainsLost (n : Node) : Node :=
  if n.ob 0x4800 0x02 && n.o 0x4800 0x04 != 2 && decide (n.mains.since + ms 100 ≤ n.now) then
    (((n.set 0x4800 0x04 2).nominalMains).fault 0x005 0x33 0 0)
  else n

/-- R151: a write of the nominal frequency or of tracking, and each start: off reads state 0 and uses the nominal
frequency, without a message; so do the lakes while there is no valid f. -/
def Node.mainsTrackingWritten (n : Node) : Node :=
  if n.ob 0x4800 0x02 then (if n.o 0x4800 0x04 = 1 then n else n.nominalMains) else (n.set 0x4800 0x04 0).nominalMains

/-! ## Commands -/

/-- SCAN_START (R155). -/
def execScanStart (dt : Nat) (lake : Fin 32) (conv : Fin 2) (s : State) := act dt s fun n =>
  n.whenUp fun n => n.scanDue lake conv
/-- CONVERSION_END (R157): `code` is the converter's signed code; `cjTemp` the lake sensor's temperature
when the slot is the cold junction's. -/
def execConversionEnd (dt : Nat) (lake : Fin 32) (conv : Fin 2) (code : BitVec 24) (cjTemp : BitVec 32) (s : State) :=
  act dt s fun n => n.whenUp fun n => n.conversionEnd lake conv code.toInt code.toNat cjTemp.toNat
/-- LAKE_READING_RELEASE (R157). -/
def execLakeReadingRelease (dt : Nat) (lake : Fin 32) (pin : Fin 8) (s : State) := act dt s fun n =>
  n.whenUp fun n => n.releaseReading lake pin
/-- CONTACT_BAND_CHANGE (R149). -/
def execContactBandChange (dt : Nat) (lake : Fin 32) (pin : Fin 8) (band : Fin 4) (agoNs : Nat) (s : State) :=
  act dt s fun n => n.whenUp fun n => n.bandChange lake pin band agoNs
/-- WIRE_BREAK (R158, R162). -/
def execWireBreak (dt : Nat) (lake : Fin 32) (pin : Fin 8) (agoNs : Nat) (s : State) := act dt s fun n =>
  n.whenUp fun n => n.windowBreak lake pin agoNs
/-- PULSE_TEST (R160). -/
def execPulseTest (dt : Nat) (lake : Fin 32) (pin : Fin 8) (pairUv : Int) (s : State) := act dt s fun n =>
  n.whenUp fun n => n.pulse lake pin pairUv
/-- BREAK_CLEAR (R163). -/
def execBreakClear (dt : Nat) (lake : Fin 32) (pin : Fin 8) (s : State) := act dt s fun n =>
  n.whenUp fun n => n.clearBreak lake pin
/-- MAINS_ZERO_CROSSING (R151). -/
def execMainsZeroCrossing (dt : Nat) (s : State) := act dt s fun n => n.whenUp Node.mainsCross
/-- MAINS_FREQUENCY_SEND (R151). -/
def execMainsFrequencySend (dt : Nat) (s : State) := act dt s fun n => n.whenUp Node.sendMains
/-- MAINS_REFERENCE_LOST (R151). -/
def execMainsReferenceLost (dt : Nat) (s : State) := act dt s fun n => n.whenUp Node.mainsLost
/-- TIME_TOKEN (R52, R55): and at a lake whose copy becomes valid, the contact bands (R150). -/
def execTimeToken (dt : Nat) (i : Fin 61) (tv : Nat) (s : State) := act dt s fun n => n.whenUp fun n =>
  let n' := n.token i tv
  if 21 ≤ i.val ∧ i.val ≤ 52 ∧ !n.copyValid i ∧ n'.copyValid i then n'.reportAllBands (i.val - 21) else n'

end Sys2Proof.Machine
end

