-- ==== Sys2Proof/Machine/Service.lean ====
section
/-!
DEFINITION. Machine/Service.lean: taking a lake or dynamic lake out of service, testing, returning,
resetting and isolating it (R169 to R171, R179, R419). Units 0–31 are lakes, 32–39 dynamic lakes.
-/
namespace Sys2Proof.Machine

/-- The control index of a unit, and its fault source. -/
def unitIdx (u : Nat) : Nat := if u < 32 then lakeIdx u else 0x5002 + 0x80 * (u - 32)
def unitSource (u : Nat) : Nat := if u < 32 then 0x020 + u else 0x040 + (u - 32)
def Node.unitState (n : Node) (u : Nat) : Nat := n.o (unitIdx u) 0x02
def Node.setUnitState (n : Node) (u st : Nat) : Node := n.set (unitIdx u) 0x02 st

/-- The bit that says ABORTED in the test result (Tables 6-13, 7-4). -/
def abortedBit (u : Nat) : Nat := if u < 32 then 9 else 7

/-- Is the unit in the isolation maps 0x2200.14 and .15 (R419)? -/
def Node.unitIsolated (n : Node) (u : Nat) : Bool :=
  if u < 32 then bit (n.o 0x2200 0x14) u else bit (n.o 0x2200 0x15) (u - 32)

def Node.setUnitIsolated (n : Node) (u : Nat) (b : Bool) : Node :=
  if u < 32 then n.setBitI 0 0x2200 0x14 u b else n.setBitI 0 0x2200 0x15 (u - 32) b

/-- R419: a release is refused while a pair of that source whose reaction is ISOLATE counts as SEVERE.
`reactionOf` gives a pair's reaction under the rule in force. -/
def Node.isolateSevere (n : Node) (src : Nat) (reactionOf : Nat → Nat → Nat) : Bool :=
  n.ver.pairs.any (fun e => e.1 / 256 == src && e.2.severe && reactionOf (e.1 / 256) (e.1 % 256) == 3)

/-- The override entry of a pair, among the first 0x2200.04 (R414). -/
def overrideRule : Nat → List Byte → Nat → Nat → Option Nat
  | 0, _, _, _ => none
  | k + 1, bs, src, kind =>
    if fieldLE bs 0 2 = src ∧ fieldLE bs 2 1 = kind then some (fieldLE bs 4 8)
    else overrideRule k (bs.drop 12) src kind

/-- R414: the rule of a source and kind pair. -/
def Node.ruleFor (n : Node) (src kind : Nat) : Nat :=
  match overrideRule (n.o 0x2200 0x04) (n.domI 0 0x2200 0x03) src kind with
  | some r => r
  | none => n.oi kind 0x2200 0x02

/-- Fields of a rule (Table 15-4). -/
def ruleW (r : Nat) : Nat := bits r 31 0
def ruleN (r : Nat) : Nat := bits r 39 32
def ruleReaction (r : Nat) : Nat := bits r 47 40
def ruleFns (r : Nat) : Nat := bits r 55 48
def ruleLatch (r : Nat) : Bool := bit r 56
def ruleCapture (r : Nat) : Bool := bit r 57
def rulePublish (r : Nat) : Bool := bit r 58

/-- R419: may an isolated source be released now? -/
def Node.releaseBlocked (n : Node) (src : Nat) : Bool :=
  n.isolateSevere src (fun s k => ruleReaction (n.ruleFor s k))

/-- R170, R419: the code of a service command, 0 when it is accepted. -/
def Node.serviceCode (n : Node) (u cmd : Nat) : Nat :=
  let st := n.unitState u
  if st = 1 ∨ st = 3 ∨ st = 4 ∨ st = 5 then 0x0608
  else if st = 6 then 0x0606
  else if cmd = 1 then (if st = 0 then 0 else 0x0606)
  else if st ≠ 2 ∧ st ≠ 7 then 0x0606
  else if cmd = 3 ∧ n.unitIsolated u ∧ n.releaseBlocked (unitSource u) then 0x0608
  else 0

/-- R21: LAKES and DYNAMIC follow the isolated blocks; DYNAMIC also a reaction that stopped it. -/
def Node.refreshIsolation (n : Node) : Node :=
  let n := n.setBitI 0 0x1010 0x04 0 ((List.range 32).any (fun u => n.unitIsolated u && n.unitState u == 7))
  n.setBitI 0 0x1010 0x04 1 (bit n.mode.reactionFns 1 || (List.range 8).any (fun k => n.unitIsolated (32 + k) && n.unitState (32 + k) == 7))

/-- The sets a lake still has to read before it is back in service (Table 6-12, RETURNING). -/
def Node.configuredSets (n : Node) (l : Nat) : List Nat :=
  let cfg := n.lakeCfg l
  (List.range 8).filter (fun p => convMode (pinCfg cfg l p 0x01) && (activeList cfg l 0 ++ activeList cfg l 1).contains p)

/-- R169: an accepted service command. -/
def Node.serviceApply (n : Node) (u cmd : Nat) : Node :=
  let st := n.unitState u
  if cmd = 1 then n.setUnitState u 1
  else if cmd = 2 then ({ n with svcPrev := mapPut n.svcPrev u st }).setUnitState u 3
  else
    let n := (n.setUnitState u 4).setUnitIsolated u false
    let n := if u < 32 then n.setLake u { n.lake u with toReturn := n.configuredSets u } else n
    n.refreshIsolation

/-- The lake's conversions end where they are. -/
def Node.stopConverters (n : Node) (u : Nat) : Node :=
  if u < 32 then
    let x := n.lake u
    n.setLake u { x with
      c0 := { x.c0 with running := false, phaseA := none, late := false }
      c1 := { x.c1 with running := false, phaseA := none, late := false }
      held := [] }
  else n

/-- Table 6-12: conversions in progress ended. -/
def Node.takenOut (n : Node) (u : Nat) : Node :=
  if n.unitState u = 1 then
    let n := (n.stopConverters u).setUnitState u 2
    if n.twin.lakeTest = some u then n.serviceApply u 2 else n
  else n

/-- R171: the test ends: its result and time; a message for each failed item; back to the state before.
The reference value taken at test stands for later checks (R154). A standby's own test returns the unit (R344). -/
def Node.testDone (n : Node) (u failed : Nat) : Node :=
  if n.unitState u = 3 then
    let items := failed % 2 ^ abortedBit u
    let n := (n.set (unitIdx u) 0x03 items).set (unitIdx u) 0x04 (n.copy (if u < 32 then isleLake u else isleDyn (u - 32)))
    let n := (bitList items (abortedBit u)).foldl (fun n _ => n.fault (unitSource u) 0x32 0 items) n
    let n := if u < 32 then n.setLake u { n.lake u with refTest := [] } else n
    let n := n.setUnitState u (mapGet n.svcPrev u 2)
    let bad := items != 0
    let self := n.twin.lakeTest == some u
    let n := { n with twin := { n.twin with
      unitPass := setBit n.twin.unitPass u (!bad)
      unitFail := setBit n.twin.unitFail u bad
      updated := n.tai
      lakeTest := if self then none else n.twin.lakeTest } }
    if self then n.serviceApply u 3 else n
  else n

/-- Table 6-12: the first reading of every configured set has been sent. -/
def Node.returned (n : Node) (u : Nat) : Node :=
  if n.unitState u = 4 && (32 ≤ u || (n.lake u).toReturn.isEmpty) then n.setUnitState u 0 else n

/-- Table 2-10, Table 6-12: a reset of the unit begins; a test it cuts off is marked ABORTED (R171). -/
def Node.resetUnit (n : Node) (u : Nat) : Node :=
  let st := n.unitState u
  if st = 5 ∨ st = 6 then n else
  let n :=
    if st = 3 then
      let r := setBit (n.o (unitIdx u) 0x03) (abortedBit u) true
      (n.set (unitIdx u) 0x03 r).fault (unitSource u) 0x32 0 r
    else n
  let back := if st = 3 then mapGet n.svcPrev u 2 else st
  let n := (n.stopConverters u).setUnitState u 5
  { n with svcPrev := mapPut n.svcPrev u back }

/-- Table 6-12: the reset is done. -/
def Node.resetUnitDone (n : Node) (u : Nat) : Node :=
  if n.unitState u = 5 then
    let b := mapGet n.svcPrev u 0
    let st := if b = 0 ∨ b = 1 ∨ b = 4 then 0 else if b = 7 then 7 else 2
    (n.setUnitState u st).refreshIsolation
  else n

/-- R419, Table 6-12: ISOLATE: at once from IN_SERVICE, TAKING_OUT and RETURNING; otherwise the unit is
marked in the maps. -/
def Node.isolateUnit (n : Node) (u : Nat) : Node :=
  let st := n.unitState u
  let n := n.setUnitIsolated u true
  if st = 0 ∨ st = 1 ∨ st = 4 then ((n.stopConverters u).setUnitState u 7).refreshIsolation else n

/-- TAKING_OUT_END (R169). -/
def execTakingOutEnd (dt : Nat) (unit : Fin 40) (s : State) := act dt s fun n => n.whenUp fun n => n.takenOut unit
/-- TEST_DONE (R171). -/
def execTestDone (dt : Nat) (unit : Fin 40) (failed : BitVec 10) (s : State) := act dt s fun n =>
  n.whenUp fun n => n.testDone unit failed.toNat
/-- RETURNING_END (R169). -/
def execReturningEnd (dt : Nat) (unit : Fin 40) (s : State) := act dt s fun n => n.whenUp fun n => n.returned unit
/-- LAKE_RESET_DONE (R169). -/
def execLakeResetDone (dt : Nat) (unit : Fin 40) (s : State) := act dt s fun n => n.whenUp fun n => n.resetUnitDone unit

end Sys2Proof.Machine
end

