-- ==== Sys2Proof/Machine/Dynamic.lean ====
section
/-!
DEFINITION. Machine/Dynamic.lean: the dynamic channels (chapter 07, R174 to R180): a sample's value and
quality, the conditions of Table 7-3, RMS and peak, and the summary of every 100 µs.
-/
namespace Sys2Proof.Machine

/-- Indices of a channel's configuration and results, and of its dynamic lake's control (Tables 7-16 to 7-19). -/
def dynIdx (c : Nat) : Nat := 0x5000 + 0x20 * c
def dynRes (c : Nat) : Nat := 0x5001 + 0x20 * c
def dlIdx (k : Nat) : Nat := 0x5002 + 0x80 * k

def Node.dynCh (n : Node) (c : Nat) : DynSt := mapGet n.dyn c {}
def Node.setDyn (n : Node) (c : Nat) (x : DynSt) : Node := { n with dyn := mapPut n.dyn c x }

/-- Does dynamic lake `k` convert: in service, going out or coming back (Table 6-11), with DYNAMIC not
stopped by a reaction (Table 7-15)? -/
def Node.dynRuns (n : Node) (k : Nat) : Bool :=
  [0, 1, 4].contains (n.o (dlIdx k) 0x02) && !bit n.mode.reactionFns 1

/-- Table 7-2: the rate of a channel in S/s, and D in ns. -/
def dynRateOf (code : Nat) : Nat :=
  ([256000, 128000, 64000, 32000, 16000, 8000, 4000, 2000, 1000] : List Nat).getD code 256000
def dynDelay (code : Nat) : Nat := 24000000000 / dynRateOf code

/-- Table 7-16: C_f in pF and R_f in Ω. -/
def chargeCap (c : Nat) : Nat := ([100, 220, 470, 1000, 2200, 4700, 10000, 22000, 47000, 100000] : List Nat).getD c 1000
def transRes (c : Nat) : Nat := 1000 * 10 ^ c

/-- R175, R207: the input quantity of a code in the unit of Table 7-1. -/
def Node.dynQuantity (n : Node) (c : Nat) (code : Int) : Rat :=
  let v : Rat := (code : Rat) * 10 / 8388608
  let m := n.o (dynIdx c) 0x01
  if m = 1 then v * (chargeCap (n.o (dynIdx c) 0x02) : Rat)
  else if m = 2 then v / (transRes (n.o (dynIdx c) 0x04) : Rat) * 1000000
  else v * 1000

/-- R175: the engineering value q / S + O. -/
def Node.dynValue (n : Node) (c : Nat) (code : Int) : Rat :=
  n.dynQuantity c code / n.of32 0 (dynIdx c) 0x0A + n.of32 0 (dynIdx c) 0x0B

/-- Table 7-3, last row: a mode, step, domain or sensitivity that cannot produce a value. With angle
sampling the domain must not be OFF (assumption log 40). -/
def Node.dynConfigBad (n : Node) (c : Nat) : Bool :=
  let s := n.o (dynIdx c) 0x07
  4 < n.o (dynIdx c) 0x01 || n.of32 0 (dynIdx c) 0x0A == 0 || 8 < n.o (dynIdx c) 0x06
    || (s == 1 && !([1, 2, 5, 10].contains (n.o (dynIdx c) 0x09)))
    || (s != 0 && n.oi (n.o (dynIdx c) 0x08) 0x5400 0x13 == 0)

/-- A channel status bit of Table 7-18. -/
def Node.dynBit (n : Node) (c i : Nat) : Bool := bit (n.o (dynRes c) 0x06) i
def Node.setDynBit (n : Node) (c i : Nat) (b : Bool) : Node := n.setBitI 0 (dynRes c) 0x06 i b

/-- Does a BAD_SENSOR condition of Table 7-3 hold now? -/
def Node.dynBadNow (n : Node) (c : Nat) : Bool :=
  n.dynBit c 1 || n.dynBit c 2 || n.dynBit c 3 || n.dynBit c 5

/-- A condition of Table 7-3 is set: status bit `i`, the instant for R177, and the routed event of the
dynamic lake where the bit was clear. -/
def Node.dynCondition (n : Node) (c i : Nat) : Node :=
  let was := n.dynBit c i
  let n := (n.setDyn c { n.dynCh c with lastBad := some n.now }).setDynBit c i true
  if was then n else n.event (0x0138 + c / 4)

/-- A status bit of Table 7-3 clears; the window of R177 still reaches back to this instant. -/
def Node.dynConditionEnds (n : Node) (c i : Nat) : Node :=
  if n.dynBit c i then (n.setDyn c { n.dynCh c with lastBad := some n.now }).setDynBit c i false else n

/-- R177: the quality of a sample whose filter window, 2 D long, ends now. -/
def Node.dynQuality (n : Node) (c : Nat) : Nat :=
  let overlap := match (n.dynCh c).lastBad with
    | some t => decide (n.now ≤ t + 2 * dynDelay (n.o (dynIdx c) 0x06))
    | none => false
  if n.dynConfigBad c then 3 else if n.dynBadNow c || overlap then 2 else if n.dynBit c 4 then 1 else 0

/-- A sample enters the tenth of the window now filling (R178). -/
def blockAdd (b : StatBlock) (v : Option Rat) (q : Nat) : StatBlock :=
  match v with
  | some x =>
    { seen := b.seen + 1
      count := b.count + 1
      sum := b.sum + x
      sumSq := b.sumSq + x * x
      lo := if b.count = 0 then x else rmin b.lo x
      hi := if b.count = 0 then x else rmax b.hi x
      q := max b.q q }
  | none => { b with seen := b.seen + 1, q := max b.q q }

/-- Two parts of a window together. -/
def blockJoin (a b : StatBlock) : StatBlock :=
  { seen := a.seen + b.seen
    count := a.count + b.count
    sum := a.sum + b.sum
    sumSq := a.sumSq + b.sumSq
    lo := if a.count = 0 then b.lo else if b.count = 0 then a.lo else rmin a.lo b.lo
    hi := if a.count = 0 then b.hi else if b.count = 0 then a.hi else rmax a.hi b.hi
    q := max a.q b.q }

/-- R176, R177: a sample leaves the filter of channel `c` now; its stamp lies D earlier. It goes to the
channel's results, to the archive and the sample-stream queues, and, for an angle-sampled channel, to the
resampler. A sample taken with an invalid time copy is discarded and counted (R49, R55). -/
def Node.dynSample (n : Node) (c : Nat) (code : Int) (raw : Nat) : Node :=
  let k := c / 4
  let rc := n.o (dynIdx c) 0x06
  let bound := fun b => bindKind b == 2 && bindSource b == c && bindStream b == 0
  if !n.dynRuns k || n.o (dynIdx c) 0x01 == 0 then n
  else if !n.copyValid (isleDyn k) then ((n.incSatI 32 0 (dlIdx k) 0x05 1).gapStreams bound).archiveGap 2 c
  else
    let n := if n.dynBit c 1 && !(n.dynCh c).resetting && decide ((n.dynCh c).lastOver + us 1 < n.now) then n.dynConditionEnds c 1 else n
    let n := if n.dynConfigBad c && !n.dynBit c 0 then n.event (0x0138 + k) else n
    let n := n.setDynBit c 0 (n.dynConfigBad c)
    let t := n.stamp (isleDyn k) (dynDelay rc)
    let q := n.dynQuality c
    let v : Option Rat := if q = 3 then none else some (n.dynValue c code)
    let vb := match v with
      | some x => r32 x
      | none => n.o (dynRes c) 0x01
    let n := ((n.set (dynRes c) 0x01 vb).set (dynRes c) 0x02 q).set (dynRes c) 0x03 t
    let x := n.dynCh c
    let x := { x with block := blockAdd x.block v q }
    let x := if n.o (dynIdx c) 0x07 = 0 then x
      else { x with samples := ({ time := t, value := vb, q := q } : DynSample) :: x.samples.take 4095 }
    let n := n.setDyn c x
    let bs := toLE 3 raw
    let pre := toLE 4 (1000000000000 / dynRateOf rc) ++ toLE 2 0 ++ toLE 1 q
    let apre := toLE 4 (1000000000000 / dynRateOf rc) ++ toLE 4 (n.o (dynIdx c) 0x0A) ++ toLE 4 (n.o (dynIdx c) 0x0B) ++ toLE 1 q
      ++ toLE 1 (n.o (dynIdx c) 0x01) ++ zeros 2
    (n.archive 2 c t apre bs).toStreams bound t pre bs

/-- DYNAMIC_SUMMARY (R176): the latest value, RMS and peak of each channel of the lake. -/
def Node.dynSummary (n : Node) (k : Nat) : Node :=
  if !n.dynRuns k then n else
  (List.range 4).foldl (fun n i =>
    let c := 4 * k + i
    if n.o (dynIdx c) 0x01 = 0 then n else
    let x := n.dynCh c
    let n := if n.o (dynRes c) 0x03 = 0 then n
      else n.toFrame 2 (4 * c) { value := n.o (dynRes c) 0x01, q := n.o (dynRes c) 0x02, time := n.o (dynRes c) 0x03 }
    if x.rmsTime = 0 then n
    else (n.toFrame 2 (4 * c + 1) { value := n.o (dynRes c) 0x04, q := x.rmsQ, time := x.rmsTime }).toFrame 2 (4 * c + 2)
      { value := n.o (dynRes c) 0x05, q := x.rmsQ, time := x.rmsTime }) n

/-- RMS_PEAK_UPDATE (R178): a tenth of the window has passed; RMS and peak over the last ten. -/
def Node.dynStats (n : Node) (c : Nat) : Node :=
  let x := n.dynCh c
  let blocks := (x.block :: x.blocks).take 10
  let w := blocks.foldl blockJoin {}
  let n := n.setDyn c { x with block := {}, blocks := blocks }
  if w.seen = 0 || !n.dynRuns (c / 4) then n else
  let n := n.setDyn c { n.dynCh c with rmsQ := w.q, rmsTime := n.copy (isleDyn (c / 4)) }
  if w.count = 0 then n else
  let mean := w.sum / (w.count : Rat)
  let ms := w.sumSq / (w.count : Rat) - mean * mean
  (n.setF 0 (dynRes c) 0x04 (sqrt64 ms)).setF 0 (dynRes c) 0x05 (rmax (w.hi - mean) (mean - w.lo))

/-- OVERLOAD (Table 7-3): the comparator trips; in CHARGE the reset switch closes across C_f. -/
def Node.dynOverload (n : Node) (c : Nat) : Node :=
  if !n.dynRuns (c / 4) || n.o (dynIdx c) 0x01 == 0 then n else
  let n := if n.dynBit c 1 then n else n.incSat (dynRes c) 0x08
  let n := n.dynCondition c 1
  n.setDyn c { n.dynCh c with lastOver := n.now, resetting := n.o (dynIdx c) 0x01 == 1 }

/-- A write of 1 to the integrator-reset object: 100 µs of reset across C_f in CHARGE (R177). -/
def Node.integratorReset (n : Node) (c : Nat) : Node :=
  if n.o (dynIdx c) 0x01 = 1 ∧ n.dynRuns (c / 4) then
    let n := n.dynCondition c 1
    n.setDyn c { n.dynCh c with resetting := true }
  else n

/-- CHARGE_RESET_END: the reset switch opens again. -/
def Node.chargeResetEnd (n : Node) (c : Nat) : Node :=
  let x := n.dynCh c
  if x.resetting then (n.setDyn c { x with resetting := false }).dynConditionEnds c 1 else n

/-- IEPE_BIAS_FAULT: the bias monitor's reading in mV; OPEN above 24 V, SHORT below 2 V (Table 7-3). -/
def Node.iepeBias (n : Node) (c mv : Nat) : Node :=
  if n.o (dynIdx c) 0x01 = 3 ∧ n.dynRuns (c / 4) then
    let n := n.setF 0 (dynRes c) 0x07 (ratio mv 1000)
    let n := if 24000 < mv then n.dynCondition c 3 else n.dynConditionEnds c 3
    if mv < 2000 then n.dynCondition c 2 else n.dynConditionEnds c 2
  else n

/-- DYNAMIC_REFERENCE_CHECK (Table 7-3): more than 0.05 % off its value at test is REF on every channel
of the lake until a check passes. -/
def Node.dynRefCheck (n : Node) (k : Nat) (ppm : Int) : Node :=
  if !n.dynRuns k then n else
  let bad := decide (500 < ppm.natAbs)
  let was := (List.range 4).any (fun i => n.dynBit (4 * k + i) 4)
  let n := (List.range 4).foldl (fun n i => n.setDynBit (4 * k + i) 4 bad) n
  if bad && !was then n.event (0x0138 + k) else n

/-! ## Commands -/

/-- DYNAMIC_SAMPLE (R175 to R177). -/
def execDynamicSample (dt : Nat) (ch : Fin 32) (code : BitVec 24) (s : State) := act dt s fun n =>
  n.whenUp fun n => n.dynSample ch code.toInt code.toNat
/-- DYNAMIC_SUMMARY (R176). -/
def execDynamicSummary (dt : Nat) (k : Fin 8) (s : State) := act dt s fun n => n.whenUp fun n => n.dynSummary k
/-- RMS_PEAK_UPDATE (R178). -/
def execRmsPeakUpdate (dt : Nat) (ch : Fin 32) (s : State) := act dt s fun n => n.whenUp fun n => n.dynStats ch
/-- OVERLOAD (R177). -/
def execOverload (dt : Nat) (ch : Fin 32) (s : State) := act dt s fun n => n.whenUp fun n => n.dynOverload ch
/-- CHARGE_RESET_END (R177). -/
def execChargeResetEnd (dt : Nat) (ch : Fin 32) (s : State) := act dt s fun n => n.whenUp fun n => n.chargeResetEnd ch
/-- IEPE_BIAS_FAULT (R177). -/
def execIepeBiasFault (dt : Nat) (ch : Fin 32) (mv : Nat) (s : State) := act dt s fun n => n.whenUp fun n => n.iepeBias ch mv
/-- DYNAMIC_REFERENCE_CHECK (R177). -/
def execDynamicReferenceCheck (dt : Nat) (k : Fin 8) (ppm : Int) (s : State) := act dt s fun n =>
  n.whenUp fun n => n.dynRefCheck k ppm

end Sys2Proof.Machine
end

