-- ==== Sys2Proof/Machine/Shafts.lean ====
section
/-!
DEFINITION. Machine/Shafts.lean: shaft inputs, crank domains, position compare, crank-angle sampling and
the indicator engine (chapter 07, R181 to R201, R209).
-/
namespace Sys2Proof.Machine

def Node.shaft (n : Node) (i : Nat) : ShaftSt := mapGet n.shafts i {}
def Node.setShaft (n : Node) (i : Nat) (x : ShaftSt) : Node := { n with shafts := mapPut n.shafts i x }
def Node.crank (n : Node) (d : Nat) : CrankSt := mapGet n.cranks d {}
def Node.setCrank (n : Node) (d : Nat) (x : CrankSt) : Node := { n with cranks := mapPut n.cranks d x }
/-- Objects of a shaft input, and of a crank domain. -/
def Node.sh (n : Node) (i sub : Nat) : Nat := n.oi i 0x5500 sub
def Node.cd (n : Node) (d sub : Nat) : Nat := n.oi d 0x5400 sub
def Node.setShBit (n : Node) (i b : Nat) (v : Bool) : Node := n.setBitI i 0x5500 0x12 b v
/-- DIRECTION astern. -/
def Node.astern (n : Node) (i : Nat) : Bool := bit (n.sh i 0x12) 3

/-! ## Configuration (R181) -/

/-- Does a domain that is enabled name input `i` in a place its mode does not match? -/
def Node.domainMismatch (n : Node) (i : Nat) : Bool :=
  (List.range 4).any (fun d => n.obi d 0x5400 0x02 &&
    ((n.cd d 0x04 == i && n.sh i 0x02 != 2) || (n.cd d 0x05 == i && n.sh i 0x02 != 4) || (n.cd d 0x06 == i && n.sh i 0x02 != 5)))

/-- R181: is the mode of input `i` invalid? -/
def Node.shaftConfigBad (n : Node) (i : Nat) : Bool :=
  let m := n.sh i 0x02
  (m == 2 && (i % 2 == 1 || n.sh (i + 1) 0x02 != 3)) || (m == 3 && (i % 2 == 0 || n.sh (i - 1) 0x02 != 2)) || n.domainMismatch i

/-- The engine cycle in tenths of a degree, and counts per revolution (R187). -/
def Node.cycleTenths (n : Node) (d : Nat) : Nat := if n.cd d 0x03 = 1 then 7200 else 3600
def Node.countsPerRev (n : Node) (d : Nat) : Nat := 4 * n.sh (n.cd d 0x04) 0x08

/-- Table 7-9: has the domain a valid configuration under R181? -/
def Node.crankValid (n : Node) (d : Nat) : Bool :=
  let e := n.cd d 0x04
  let cam := n.cd d 0x06
  n.obi d 0x5400 0x02 && n.sh e 0x02 == 2 && !n.shaftConfigBad e && 60 ≤ n.sh e 0x08 && n.sh e 0x08 ≤ 16384
    && n.sh (n.cd d 0x05) 0x02 == 4 && !n.shaftConfigBad (n.cd d 0x05)
    && (if cam = 0xFF then n.cd d 0x03 == 0 else n.sh cam 0x02 == 5 && !n.shaftConfigBad cam)

/-! ## Crank domain states (R189, Tables 7-8 and 7-9) -/

def Node.crankState (n : Node) (d : Nat) : Nat := n.cd d 0x13
/-- The domain leaves SYNCHRONISED or has its angle made unknown: the angle samples so far belong to no
whole window (R199). -/
def Node.dropAngles (n : Node) (d : Nat) : Node :=
  (List.range 32).foldl (fun n c => if n.o (dynIdx c) 0x08 = d then n.setDyn c { n.dynCh c with angles := [] } else n) n
def Node.setCrankState (n : Node) (d st : Nat) : Node :=
  let n := if n.crankState d = 4 ∧ st ≠ 4 then n.dropAngles d else n
  n.setI d 0x5400 0x13 st

/-- R189: SYNCHRONISED to SEEKING_INDEX: the sync-loss count, the routed event and the message. -/
def Node.syncLost (n : Node) (d : Nat) : Node :=
  if n.crankState d = 4 then
    let cidx := ofI 32 (n.crank d).cIdx
    (((n.setCrankState d 2).incSatI 32 d 0x5400 0x16 1).event (0x0120 + d)).fault (0x068 + d) 0x39 0 cidx
  else n

/-- Any but OFF to STOPPED. -/
def Node.crankStop (n : Node) (d : Nat) : Node := if n.crankState d = 0 then n else n.setCrankState d 1

/-- Every domain against its configuration: OFF where it is invalid or disabled, STOPPED out of OFF. -/
def Node.crankRecheck (n : Node) : Node :=
  (List.range 4).foldl (fun n d =>
    if n.crankValid d then (if n.crankState d = 0 then n.setCrankState d 1 else n)
    else if n.crankState d = 0 then n else n.setCrankState d 0) n

/-- A change to an RWC object of the domain (Table 7-9, R209). -/
def Node.crankConfigWritten (n : Node) (d : Nat) : Node := (n.crankStop d).crankRecheck

/-- The angle reached: θ in tenths (R187). -/
def Node.theta (n : Node) (d : Nat) (x : CrankSt) : Rat :=
  ((3600 * x.rev : Nat) : Rat) + (x.c : Rat) * 3600 / ((n.countsPerRev d : Nat) : Rat)

/-- θ crosses 0: a waiting compare table takes effect and every entry may act again (R192). -/
def crossZero (x : CrankSt) : CrankSt :=
  { x with table := x.next.getD x.table, next := none, fired := [] }

/-- An index in a seek (Table 7-9): SYNCHRONISED for a two-stroke domain or a LEVEL cam, else SEEKING_CAM. -/
def Node.seekIndex (n : Node) (d : Nat) : Node :=
  let x := n.crank d
  let four := n.cd d 0x03 == 1
  if four && n.cd d 0x07 == 1 then
    (n.setCrank d { x with c := 0, cIdx := 0, camSeen := false, noCam := 0 }).setCrankState d 3
  else
    let rev := if four && x.camHigh != n.obi d 0x5400 0x08 then 1 else 0
    let x := { x with c := 0, cIdx := 0, rev := rev, camSeen := false, counts := [], fired := [] }
    (n.setCrank d (if rev = 0 then crossZero x else x)).setCrankState d 4

/-- R190: the index check and the cam check in SYNCHRONISED. -/
def Node.indexChecks (n : Node) (d : Nat) (x : CrankSt) : Bool :=
  let four := n.cd d 0x03 == 1
  let rev' := if four then 1 - x.rev else 0
  decide ((x.cIdx - (n.countsPerRev d : Int)).natAbs ≤ n.cd d 0x0A)
    && (!four || (if n.cd d 0x07 = 0 then (if x.camHigh == n.obi d 0x5400 0x08 then rev' == 0 else rev' == 1)
        else rev' == 1 || x.camSeen))

/-- An index edge at domain `d` (R189, R190). -/
def Node.crankIndex (n : Node) (d : Nat) : Node :=
  let x := n.crank d
  let st := n.crankState d
  if st = 2 then n.seekIndex d
  else if st = 3 then
    if x.camSeen then
      (n.setCrank d (crossZero { x with c := 0, cIdx := 0, rev := 0, camSeen := false, counts := [] })).setCrankState d 4
    else if x.noCam = 1 then
      ((n.setCrank d { x with c := 0, cIdx := 0, noCam := 0 }).incSatI 32 d 0x5400 0x17 1).fault (0x068 + d) 0x3A 0 0
    else n.setCrank d { x with c := 0, cIdx := 0, noCam := x.noCam + 1 }
  else if st = 4 then
    if n.indexChecks d x then
      let rev' := if n.cd d 0x03 = 1 then 1 - x.rev else 0
      let x := { x with c := 0, cIdx := 0, rev := rev', camSeen := false }
      n.setCrank d (if rev' = 0 then crossZero x else x)
    else (n.syncLost d).seekIndex d
  else n

/-- A cam edge at domain `d` (R188, R190): in PULSE mode a rising edge in revolution 0 fails the check. -/
def Node.camEdge (n : Node) (d : Nat) (rising : Bool) : Node :=
  let x := n.crank d
  let n := n.setCrank d { x with camHigh := rising, camSeen := x.camSeen || rising }
  if rising && n.crankState d == 4 && n.cd d 0x03 == 1 && n.cd d 0x07 == 1 && x.rev == 0 then n.syncLost d else n

/-- A count of the domain's encoder at stamp `t`; `ahead` is the sense of this count (R187, Table 7-9). -/
def Node.crankCount (n : Node) (d : Nat) (ahead : Bool) (t : Nat) : Node :=
  let st := n.crankState d
  let back := n.astern (n.cd d 0x04)
  if st = 0 then n
  else if st = 1 then
    (n.setCrank d { n.crank d with c := 0, cIdx := 0, counts := [] }).setCrankState d (if back then 5 else 2)
  else if st = 5 then (if back then n else n.setCrankState d 2)
  else if back then n.setCrankState d 5
  else
    let x := n.crank d
    let step : Int := if ahead then 1 else -1
    let x := { x with c := x.c + step, cIdx := x.cIdx + step }
    n.setCrank d { x with counts := (n.theta d x, t) :: x.counts.take 65535 }

/-- The domains whose encoder, index or cam input is `i`. -/
def Node.domainsBy (n : Node) (sub i : Nat) : List Nat := (List.range 4).filter (fun d => n.crankState d != 0 && n.cd d sub == i)

/-! ## Shaft speed and direction (R182 to R185) -/

/-- ppr of R183. -/
def Node.ppr (n : Node) (i : Nat) : Nat := if n.sh i 0x02 = 2 then 4 * n.sh i 0x08 else n.sh i 0x08

/-- The speed object from a magnitude in rpm: negative while DIRECTION is astern. -/
def Node.setSpeed (n : Node) (i : Nat) (rpm : Rat) (t : Nat) : Node :=
  (n.setF i 0x5500 0x0F (if n.astern i then -rpm else rpm)).setI i 0x5500 0x11 t

/-- 60 k / (ppr Δ) with Δ in ns. -/
def rpmOf (k ppr dt : Nat) : Rat := if ppr = 0 ∨ dt = 0 then 0 else ratio (60000000000 * k) (ppr * dt)

/-- A counted edge enters the speed method of its class (Table 7-7). -/
def Node.speedEdge (n : Node) (i t : Nat) (turned : Bool) : Node :=
  let x := n.shaft i
  if n.sh i 0x07 = 1 then
    n.setShaft i { x with winCount := x.winCount + 1, winFirst := if x.winCount = 0 then t else x.winFirst, winLast := t }
  else
    let m := n.sh i 0x09
    let h := (t :: (if turned then [] else x.hist)).take (m + 1)
    let k := min m (h.length - 1)
    let n := n.setShaft i { x with hist := h }
    if 1 ≤ k then
      (n.setShaft i { n.shaft i with standstill := false }).setSpeed i (rpmOf k (n.ppr i) (t - h.getD k 0)) t
    else n

/-- R184: one count of a QUAD_A input; the direction flips after h consecutive counts against it. The
answer tells whether it flipped. -/
def Node.directionCount (n : Node) (i : Nat) (ahead : Bool) (t : Nat) : Node × Bool :=
  let x := n.shaft i
  if ahead == n.astern i then
    let at0 := if x.against = 0 then t else x.againstAt
    if n.sh i 0x0C ≤ x.against + 1 then
      let n := n.setShaft i { x with against := 0, againstAt := at0 }
      let n := (n.setShBit i 3 ahead.not).setShBit i 4 true
      let n := ((n.setI i 0x5500 0x16 at0).incWrapI 32 i 0x5500 0x14 1).event (0x0100 + i)
      (n.setF i 0x5500 0x0F (let v := rabs (n.of32 i 0x5500 0x0F); if ahead then v else -v), true)
    else (n.setShaft i { x with against := x.against + 1, againstAt := at0 }, false)
  else (n.setShaft i { x with against := 0 }, false)

/-- R182: a count error of the pair whose A input is `i`. -/
def Node.countError (n : Node) (i : Nat) : Node :=
  let n := ((n.setShBit i 6 true).incSatI 32 i 0x5500 0x15 1).setShaft i { n.shaft i with errUntil := n.now + sec 1 }
  let n := n.fault (0x050 + i) 0x38 0 (n.sh i 0x13)
  (n.domainsBy 0x04 i).foldl (fun n d => n.syncLost d) n

/-- SHAFT_EDGE (R182 to R190). `aLeads` is the sense of a quadrature count, `both` a change of A and B
within 25 ns. -/
def Node.shaftEdge (n : Node) (i : Nat) (rising aLeads both : Bool) (ago : Nat) : Node :=
  let t := n.stamp isleFrame ago
  let m := n.sh i 0x02
  let n := n.setShBit i 0 rising
  if m = 1 then
    let n := n.incWrapI 32 i 0x5500 0x13 1
    if rising then n.speedEdge i t false else n
  else if m = 2 ∨ m = 3 then
    let a := if m = 2 then i else i - 1
    if n.shaftConfigBad a then n
    else if both then n.countError a
    else
      let ahead := aLeads == (n.sh a 0x0D == 0)
      let n := n.incWrapI 32 a 0x5500 0x13 1
      let (n, turned) := n.directionCount a ahead t
      let n := n.speedEdge a t turned
      (n.domainsBy 0x04 a).foldl (fun n d => n.crankCount d ahead t) n
  else if m = 4 then
    let n := n.incWrapI 32 i 0x5500 0x13 1
    if rising then (n.domainsBy 0x05 i).foldl (fun n d => n.crankIndex d) n else n
  else if m = 5 then (n.domainsBy 0x06 i).foldl (fun n d => n.camEdge d rising) (n.incWrapI 32 i 0x5500 0x13 1)
  else n

/-- R201, R209: the engine of domain `d` stops: the windows in progress give no result. -/
def Node.engineStop (n : Node) (d : Nat) : Node :=
  let n := if 2 ≤ n.crankState d then n.setCrank d { n.crank d with stopped := List.range 20 } else n
  n.crankStop d

/-- R183: an input enters STANDSTILL; so does a domain whose encoder it is. -/
def Node.standstill (n : Node) (i : Nat) : Node :=
  let was := (n.shaft i).standstill
  let n := n.setShaft i { n.shaft i with hist := [], standstill := true }
  let n := n.setSpeed i 0 (n.copy isleFrame)
  if was then n
  else (n.domainsBy 0x04 i).foldl (fun n d => n.engineStop d) (n.event (0x0110 + i))

/-- The time since the last counted edge has reached the timeout. -/
def Node.standstillDue (n : Node) (i : Nat) : Bool :=
  match (n.shaft i).hist with
  | t :: _ => n.sh i 0x07 == 0 && decide (t + ms (n.sh i 0x0A) ≤ n.copy isleFrame)
  | [] => false

/-- R185: quality of a speed; an invalid mode is BAD_CONFIG, as R181 gives it (assumption log 41). -/
def Node.speedQuality (n : Node) (i : Nat) : Nat :=
  if n.shaftConfigBad i then 3
  else if bit (n.sh i 0x12) 5 ∨ n.now < (n.shaft i).errUntil then 2 else 0

/-- A flag as the reading Table 8-1 gives it. -/
def flagValue (b : Bool) : Nat := if b then r32 1 else r32 0

/-- R183, Table 8-1: at a frame boundary a slow-class speed may fall, and speed, DIRECTION and STANDSTILL
enter the frame. -/
def Node.shaftFrame (n : Node) : Node :=
  (List.range 16).foldl (fun n i =>
    let m := n.sh i 0x02
    let n := n.setShBit i 1 (n.shaftConfigBad i)
    if m ≠ 1 ∧ m ≠ 2 then n else
    let now := n.copy isleFrame
    let n :=
      if n.sh i 0x07 = 1 then n
      else if n.standstillDue i then n.standstill i
      else match (n.shaft i).hist with
        | t0 :: t1 :: _ =>
          if t0 - t1 < now - t0 then
            let cap := rpmOf 1 (n.ppr i) (now - t0)
            if cap < rabs (n.of32 i 0x5500 0x0F) then n.setSpeed i cap now else n
          else n
        | _ => n
    let q := n.speedQuality i
    let n := n.setI i 0x5500 0x10 q
    let t := n.sh i 0x11
    let n := n.toFrame 4 (4 * i) { value := n.sh i 0x0F, q := q, time := t }
    let n := n.toFrame 4 (4 * i + 1) { value := flagValue (n.astern i), q := q, time := now }
    n.toFrame 4 (4 * i + 2) { value := flagValue (n.sh i 0x07 == 0 && (n.shaft i).standstill), q := q, time := now }) n

/-- SPEED_WINDOW_END (Table 7-7, class 1). -/
def Node.speedWindow (n : Node) (i : Nat) : Node :=
  if n.sh i 0x07 = 1 ∧ (n.sh i 0x02 = 1 ∨ n.sh i 0x02 = 2) then
    let x := n.shaft i
    let n := n.setSpeed i (if 2 ≤ x.winCount then rpmOf (x.winCount - 1) (n.ppr i) (x.winLast - x.winFirst) else 0) (n.copy isleFrame)
    n.setShaft i { x with winCount := 0, winStart := n.copy isleFrame }
  else n

/-- R185: open detection; `mv` is the DC differential held for 100 ms. -/
def Node.shaftOpen (n : Node) (i mv : Nat) : Node :=
  if n.obi i 0x5500 0x0E && n.sh i 0x02 == 1 && decide (n.sh i 0x03 < 2) then n.setShBit i 5 (decide (3000 < mv)) else n

/-! ## Position compare (R192, R193) -/

/-- Fields of a compare entry (Table 7-10). -/
def entryAngle (e : Nat) : Nat := bits e 63 51
def entryAction (e : Nat) : Nat := bits e 50 48
def entryWidth (e : Nat) : Nat := bits e 47 32
def entryTarget (e : Nat) : Nat := bits e 31 0

/-- The first `k` entries of a table's bytes. -/
def tableEntries : Nat → List Byte → List Nat
  | 0, _ => []
  | k + 1, bs => fieldLE bs 0 8 :: tableEntries k (bs.drop 8)

/-- One entry against Table 7-10; a PULSE entry names an annunciator set to the compare function. -/
def Node.entryOk (n : Node) (cycle e : Nat) : Bool :=
  let act := entryAction e
  let tgt := entryTarget e
  entryAngle e < cycle && act ≤ 3
    && (if act = 2 then 10 ≤ entryWidth e && tgt < 24 && n.oi tgt 0x7100 0x02 == 4 else entryWidth e == 0 && (act == 1 || tgt == 0))

/-- Angles ascending, equal ones allowed. -/
def ascending : List Nat → Bool
  | [] => true
  | [_] => true
  | a :: b :: r => entryAngle a ≤ entryAngle b && ascending (b :: r)

/-- R192: does the table pass its checks with `count` entries? -/
def Node.compareOk (n : Node) (d count : Nat) : Bool :=
  let es := tableEntries count (n.domI d 0x5400 0x0D)
  8 * count ≤ (n.domI d 0x5400 0x0D).length && es.all (n.entryOk (n.cycleTenths d)) && ascending es

/-- An accepted entry count (R192). -/
def Node.compareAccept (n : Node) (d count : Nat) : Node :=
  (n.setI d 0x5400 0x0E count).setCrank d { n.crank d with next := some (tableEntries count (n.domI d 0x5400 0x0D)) }

/-- A count restored at a start, or reset with the store: the table it names is taken where it passes the checks. -/
def Node.compareTake (n : Node) (d : Nat) : Node :=
  let count := n.cd d 0x0E
  if n.compareOk d count then n.setCrank d { n.crank d with next := some (tableEntries count (n.domI d 0x5400 0x0D)) } else n

/-- R193: θ passes the angle of entry `e` of the table in force. A PULSE that falls while the annunciator
is still high extends it to the later end. -/
def Node.compareAct (n : Node) (d e : Nat) : Node :=
  let x := n.crank d
  match x.table[e]? with
  | none => n
  | some w =>
    if n.crankState d ≠ 4 ∨ e ∈ x.fired then n else
    let n := n.setCrank d { x with fired := x.fired ++ [e] }
    if entryAction w = 2 then
      let a := entryTarget w
      { n with pulses := mapPut n.pulses a (max (mapGet n.pulses a 0) (n.now + us (entryWidth w))) }
    else if entryAction w = 3 then (n.setI d 0x5400 0x19 e).event (0x0128 + d)
    else n

/-! ## Crank-angle sampling (R194) -/

/-- The counts that bracket angle `a` (tenths), newest first in the list: t_a. -/
def bracket (cycle : Nat) (a : Rat) : List (Rat × Nat) → Option Rat
  | (th1, t1) :: (th0, t0) :: r =>
    let th1' := if th1 < th0 then th1 + (cycle : Rat) else th1
    let a' := if a < th0 then a + (cycle : Rat) else a
    if th0 ≤ a' ∧ a' < th1' then some ((t0 : Rat) + (a' - th0) / (th1' - th0) * ((t1 : Rat) - (t0 : Rat)))
    else bracket cycle a ((th0, t0) :: r)
  | _ => none

/-- The Catmull–Rom value at `t` from the samples, newest first, with the worst quality of the four. -/
def resample (t : Rat) : List DynSample → Option (Rat × Nat)
  | x2 :: x1 :: x0 :: xm :: r =>
    if (x0.time : Rat) ≤ t ∧ t < (x1.time : Rat) then
      let u := (t - (x0.time : Rat)) / ((x1.time : Rat) - (x0.time : Rat))
      let vm := q32 xm.value
      let v0 := q32 x0.value
      let v1 := q32 x1.value
      let v2 := q32 x2.value
      let y := v0 + u * (v1 - vm) / 2 + u * u * (vm - 5 / 2 * v0 + 2 * v1 - v2 / 2)
        + u * u * u * (3 / 2 * (v0 - v1) + (v2 - vm) / 2)
      some (y, max (max xm.q x0.q) (max x1.q x2.q))
    else resample t (x1 :: x0 :: xm :: r)
  | _ => none

/-- Must channel `c` take a sample at angle `a`? -/
def Node.samplesAt (n : Node) (c a : Nat) : Bool :=
  let d := n.o (dynIdx c) 0x08
  let s := n.o (dynIdx c) 0x07
  let step := n.o (dynIdx c) 0x09
  a < n.cycleTenths d &&
    (if s = 1 then step != 0 && a % step == 0
     else s == 2 && (n.crank d).table.any (fun e => entryAction e == 1 && entryAngle e == a && bit (entryTarget e) c))

/-- ANGLE_SAMPLE (R194): only in SYNCHRONISED, from the counts and time samples that have arrived. -/
def Node.angleSample (n : Node) (c a : Nat) : Node :=
  let d := n.o (dynIdx c) 0x08
  let bound := fun b => bindKind b == 2 && bindSource b == c && bindStream b == 1
  if !n.dynRuns (c / 4) || n.crankState d != 4 || !n.samplesAt c a then n
  else match bracket (n.cycleTenths d) (a : Rat) (n.crank d).counts with
    | none => (n.gapStreams bound).archiveGap 3 c
    | some t =>
      match resample t (n.dynCh c).samples with
      | none => (n.gapStreams bound).archiveGap 3 c
      | some (y, q) =>
        let v := r32 y
        let ta := t.floor.toNat
        let x := n.dynCh c
        let n := n.setDyn c { x with angles := ({ angle := a, value := v, time := ta, q := q } : AngleSample) :: x.angles.take 14399 }
        let bs := toLE 4 v
        let pre := toLE 4 (n.o (dynIdx c) 0x09) ++ toLE 2 a ++ toLE 1 q
        let apre := toLE 2 (n.o (dynIdx c) 0x09) ++ toLE 2 a ++ toLE 1 d ++ toLE 1 q ++ zeros 10
        (n.archive 3 c ta apre bs).toStreams bound ta pre bs

/-! ## The indicator engine (R196 to R201) -/

/-- The instance of the per-cylinder objects .21 to .27 of 0x5400. -/
def cylInst (d c : Nat) : Nat := 32 * d + c

/-- R196: φ in tenths, wrapped to half a cycle on each side. -/
def phiOf (cycle tdc firing theta : Nat) : Int :=
  let x : Int := ((theta : Int) - tdc - firing + 2 * cycle) % (cycle : Int)
  if (cycle : Int) / 2 ≤ x then x - cycle else x

/-- The volume table as rationals, one per tenth of a degree. -/
def volumes (bs : List Byte) : List Rat := (List.range 3600).map (fun i => q32 (fieldLE bs (4 * i) 4))

/-- Position of the first largest element. -/
def argMax : Nat → Nat → Rat → List Rat → Nat
  | _, best, _, [] => best
  | i, best, v, x :: r => if v < x then argMax (i + 1) i x r else argMax (i + 1) best v r

/-- The sum of R197 over consecutive samples, closed by the first one. -/
def imepSum (vol : Int → Rat) (first : Int × Rat) : List (Int × Rat) → Rat
  | [] => 0
  | [(f, p)] => (p + first.2) / 2 * (vol first.1 - vol f)
  | (f, p) :: (g, q) :: r => (p + q) / 2 * (vol g - vol f) + imepSum vol first ((g, q) :: r)

/-- The figures of one window (R197): `ps` holds (φ, p) in rising φ, p pegged. The peak is none where the largest sample
is the first or the last and so has one neighbour, p_comp where the window has no sample at φ = 0, IMEP where V_d is 0:
the spec states no value there (log 44). `low` is the smallest sample. -/
structure Figures where
  pMax : Option Rat
  phiPeak : Option Rat
  pComp : Option Rat
  imep : Option Rat
  low : Rat

def figures (step : Nat) (vols : List Rat) (ps : List (Int × Rat)) : Figures :=
  let p := ps.map (·.2)
  let m := argMax 0 0 (p.headD 0) p
  let pm := p.getD m 0
  let edge := m == 0 || m + 1 == p.length
  let a := p.getD (m - 1) 0
  let b := p.getD (m + 1) 0
  let dv := 2 * (a - 2 * pm + b)
  let d : Rat := if dv == 0 then 0 else (a - b) / dv
  let phi := (ps.getD m (0, 0)).1
  let vol := fun (f : Int) => vols.getD ((f + 3600) % 3600).toNat 0
  let vmax := vols.foldl rmax (vols.headD 0)
  let vmin := vols.foldl rmin (vols.headD 0)
  { pMax := if edge then none else some (pm - d * (a - b) / 4)
    phiPeak := if edge then none else some ((phi : Rat) / 10 + d * (step : Rat) / 10)
    pComp := (ps.find? (fun e => e.1 == 0)).map (·.2)
    imep := if vmax - vmin = 0 then none else some (imepSum vol (ps.headD (0, 0)) ps / (vmax - vmin))
    low := p.foldl rmin (p.headD 0) }

/-- A figure as an F32, or a free value where there is none. -/
def Node.figure (n : Node) : Option Rat → Nat × Node
  | some v => (r32 v, n)
  | none => let (x, n) := n.draw; (x % 2 ^ 32, n)

/-- The median of a sorted list. -/
def median (xs : List Rat) : Rat :=
  let k := xs.length
  if k % 2 = 1 then xs.getD (k / 2) 0 else (xs.getD (k / 2 - 1) 0 + xs.getD (k / 2) 0) / 2

/-- A list of rationals with one more, in rising order. -/
def insertRat (x : Rat) : List Rat → List Rat
  | [] => [x]
  | y :: r => if x ≤ y then x :: y :: r else y :: insertRat x r

/-- R198: MISFIRE and MISFIRE_NA of cylinder `c` with quality `q` and IMEP `im`. -/
def Node.misfire (n : Node) (d c q : Nat) (im : Rat) : Nat :=
  let others := ((List.range (n.cd d 0x0B)).filter (fun k => k != c && n.oi (cylInst d k) 0x5400 0x27 / 4096 == 0
      && !nan32 (n.oi (cylInst d k) 0x5400 0x26))).map (fun k => n.of32 (cylInst d k) 0x5400 0x26)
  let g := (others ++ (if q = 0 then [im] else [])).foldr insertRat []
  if g.length < 3 then 2 else if im < n.of32 d 0x5400 0x12 * median g then 1 else 0

/-- R201, Table 7-11: a result goes to its objects, the results DOMAIN, Mordant, the archive and the
sample-stream queues. -/
def Node.putResult (n : Node) (d c time pmax phi pcomp imep flags q : Nat) : Node :=
  let i := cylInst d c
  let n := ((((n.setI i 0x5400 0x23 pmax).setI i 0x5400 0x24 phi).setI i 0x5400 0x25 pcomp).setI i 0x5400 0x26 imep).setI i 0x5400 0x27 (q * 4096 + flags)
  let rec_ := toLE 8 time ++ toLE 4 (n.cd d 0x15) ++ toLE 1 d ++ toLE 1 c ++ toLE 1 flags ++ toLE 1 q
    ++ toLE 4 pmax ++ toLE 4 phi ++ toLE 4 pcomp ++ toLE 4 imep
  let n := n.setDomI d 0x5400 0x18 (padTo 640 (spliceAt (n.domI d 0x5400 0x18) (32 * c) rec_))
  let send := fun (n : Node) (f v : Nat) => n.toFrame 3 (256 * d + 8 * c + f) { value := v, q := q, time := time }
  let n := send (send (send (send (send n 0 pmax) 1 phi) 2 pcomp) 3 imep) 4 (flagValue (flags % 2 == 1))
  (n.archive 6 d time [] rec_).toStreams (fun b => bindKind b == 2 && bindSource b == 0x80 + d && bindStream b == 2)
    time (zeros 6 ++ toLE 1 q) rec_

/-- A result without a whole window (R199): the previous values with quality `q`. -/
def Node.repeatResult (n : Node) (d c q : Nat) : Node :=
  let i := cylInst d c
  n.putResult d c (n.copy isleFrame) (n.oi i 0x5400 0x23) (n.oi i 0x5400 0x24) (n.oi i 0x5400 0x25) (n.oi i 0x5400 0x26)
    (n.oi i 0x5400 0x27 % 256) q

/-- Do the samples, oldest first, cover the window: angles rise by one step, φ from its first to its last? -/
def wholeWindow (cycle step : Nat) : List (Int × AngleSample) → Bool
  | [] => false
  | [(f, _)] => f + (step : Int) ≥ (cycle : Int) / 2
  | (f, _) :: (g, x) :: r => g == f + (step : Int) && wholeWindow cycle step ((g, x) :: r)

/-- R197 to R200 for cylinder `c` from its channel `ch`. -/
def Node.windowResult (n : Node) (d c ch : Nat) : Node :=
  let i := cylInst d c
  let cycle := n.cycleTenths d
  let step := n.o (dynIdx ch) 0x09
  let vt := n.domI d 0x5400 0x0C
  if n.o (dynIdx ch) 0x07 ≠ 1 ∨ n.o (dynIdx ch) 0x08 ≠ d ∨ vt.length ≠ 14400 ∨ step = 0 then n.repeatResult d c 3 else
  let as := ((n.dynCh ch).angles.take (cycle / step)).reverse
  let xs := as.map (fun a => (phiOf cycle (n.cd d 0x09) (n.oi i 0x5400 0x21) a.angle, a))
  if n.crankState d ≠ 4 ∨ as.length ≠ cycle / step ∨ !wholeWindow cycle step xs then n.repeatResult d c 2 else
  let raw := xs.map (fun e => (e.1, q32 e.2.value))
  let src := n.cd d 0x0F
  let pegIn := fun (f : Int) => if cycle = 7200 then -1850 ≤ f && f ≤ -1750 else f ≤ -1750 || 1750 ≤ f
  let peg := (raw.filter (fun e => pegIn e.1)).map (·.2)
  let pin := n.cd d 0x11
  let pref := if src = 1 then n.of32 d 0x5400 0x10 else n.of32 0 (0x4000 + 0x40 * (pin / 8) + 12 + pin % 8) 0x01
  let pegQ := if src = 2 then n.o (0x4000 + 0x40 * (pin / 8) + 12 + pin % 8) 0x02 else 0
  let off : Rat := if src = 0 ∨ peg = [] then 0 else pref - peg.foldl (· + ·) 0 / ((peg.length : Nat) : Rat)
  let f := figures step (volumes vt) (raw.map (fun e => (e.1, e.2 + off)))
  let (pm, n) := n.figure f.pMax
  let (pp, n) := n.figure f.phiPeak
  let (pc, n) := n.figure f.pComp
  let (im, n) := n.figure f.imep
  let span := (f.pMax.getD (q32 pm)) - f.low
  let flat := n.of32 0 (dynIdx ch) 0x0D != 0 && decide (span < n.of32 0 (dynIdx ch) 0x0D)
  let n := if flat then n.dynCondition ch 5 else n.setDynBit ch 5 false
  let q := max (as.foldl (fun q a => max q a.q) pegQ) (if flat then 2 else 0)
  let flags := n.misfire d c q (q32 im) + (if src = 0 then 0 else 4)
  n.putResult d c ((as.getLast?.map (·.time)).getD 0) pm pp pc im flags q

/-- CYCLE_WINDOW_END (R196 to R201, R209). A domain that is STOPPED or OFF gives no result. The engine
cycle completes with the window of cylinder 0 (assumption log 42). -/
def Node.windowEnd (n : Node) (d c : Nat) : Node :=
  let st := n.crankState d
  if st ≤ 1 ∨ n.cd d 0x0B ≤ c ∨ bit n.mode.reactionFns 1 then n else
  let ch := n.oi (cylInst d c) 0x5400 0x22
  let x := n.crank d
  let n := if x.stopped.contains c then n.setCrank d { x with stopped := x.stopped.filter (· != c) }
    else if ch < 32 then n.windowResult d c ch else n
  if c = 0 ∧ st = 4 then (n.incWrapI 32 d 0x5400 0x15 1).event (0x0124 + d) else n

/-! ## Commands -/

/-- SHAFT_EDGE (R182 to R190). -/
def execShaftEdge (dt : Nat) (sh : Fin 16) (rising aLeads both : Bool) (agoNs : Nat) (s : State) := act dt s fun n =>
  n.whenUp fun n => n.shaftEdge sh rising aLeads both agoNs
/-- STANDSTILL_TIMEOUT (R183). -/
def execStandstillTimeout (dt : Nat) (sh : Fin 16) (s : State) := act dt s fun n => n.whenUp fun n =>
  if n.standstillDue sh then n.standstill sh else n
/-- SPEED_WINDOW_END (R183). -/
def execSpeedWindowEnd (dt : Nat) (sh : Fin 16) (s : State) := act dt s fun n => n.whenUp fun n => n.speedWindow sh
/-- SHAFT_OPEN (R185). -/
def execShaftOpen (dt : Nat) (sh : Fin 16) (mv : Nat) (s : State) := act dt s fun n => n.whenUp fun n => n.shaftOpen sh mv
/-- ANGLE_SAMPLE (R194). -/
def execAngleSample (dt : Nat) (ch : Fin 32) (angle : Fin 7200) (s : State) := act dt s fun n =>
  n.whenUp fun n => n.angleSample ch angle
/-- CYCLE_WINDOW_END (R196 to R201). -/
def execCycleWindowEnd (dt : Nat) (d : Fin 4) (cyl : Fin 20) (s : State) := act dt s fun n =>
  n.whenUp fun n => n.windowEnd d cyl

end Sys2Proof.Machine
end

