-- ==== Sys2Proof/Machine/Serial.lean ====
section
/-!
DEFINITION. Machine/Serial.lean: the serial position ports (chapter 07, R202 to R206).
-/
namespace Sys2Proof.Machine

def Node.serialPort (n : Node) (p : Nat) : SerialSt := mapGet n.serial p {}
def Node.setSerial (n : Node) (p : Nat) (x : SerialSt) : Node := { n with serial := mapPut n.serial p x }
def Node.sp (n : Node) (p sub : Nat) : Nat := n.oi p 0x5600 sub

/-- R202: the clock rate in Hz, 800 MHz / (2 k) for the least k whose rate is not above the rate object. -/
def clockDiv (rate : Nat) : Nat := if rate = 0 then 1 else (400000000 + rate - 1) / rate
/-- The clock periods of a request: 2 + L + E + T (R205). -/
def requestClocks (len : Nat) (mark : Bool) : Nat := if mark then 67 else len + 4

/-- R205, Table 7-23: is the port's configuration one that cannot give a value? -/
def Node.serialConfigBad (n : Node) (p : Nat) : Bool :=
  let len := n.sp p 0x04
  let clocks := requestClocks len (n.obi p 0x5600 0x05)
  -- a clock period is 2 k / 800 MHz, that is 5 k / 2 ns
  let need := clocks * (5 * clockDiv (n.sp p 0x03)) / 2 + us (n.sp p 0x0D)
  decide (us (n.sp p 0x0E) < need) || decide (len < n.sp p 0x06 + n.sp p 0x07) || decide (n.sp p 0x0D ≤ n.sp p 0x0C)
    || decide (n.sp p 0x0E ≤ n.sp p 0x0F)

/-- The port's value on its way to Mordant. -/
def Node.sendSerial (n : Node) (p : Nat) : Node :=
  n.toFrame 5 p { value := n.sp p 0x13, q := n.sp p 0x14, time := n.sp p 0x15 }

/-- R204: a failed frame with the status bits of its failing checks. -/
def Node.serialFail (n : Node) (p status : Nat) : Node :=
  let n := (((n.setI p 0x5600 0x17 status).setI p 0x5600 0x14 2).incSatI 32 p 0x5600 0x18 1).event (0x0130 + p)
  (n.fault (0x060 + p) 0x3B 0 status).sendSerial p

/-- SERIAL_REQUEST (R202, R204, R205): a request that falls due during a frame is skipped and counted as
NOT_READY; a configuration that cannot work gives BAD_CONFIG; else the first falling edge is driven. -/
def Node.serialRequest (n : Node) (p : Nat) (lineHigh : Bool) : Node :=
  let x := n.serialPort p
  if !n.obi p 0x5600 0x02 || x.inReset then n
  else if x.stamp.isSome then (n.incSatI 32 p 0x5600 0x18 1).setBitI p 0x5600 0x17 2 true
  else if n.serialConfigBad p then
    (((n.setI p 0x5600 0x17 2).setI p 0x5600 0x14 3).setI p 0x5600 0x15 (n.copy isleFrame)).sendSerial p
  else n.setSerial p { x with stamp := some (n.copy isleFrame + n.sp p 0x10), notReady := !lineHigh }

/-- A Gray code of `w` bits as binary. -/
def grayToBin : Nat → Nat → Nat
  | 0, _ => 0
  | w + 1, g => g ^^^ grayToBin w (g / 2)

/-- R205: the position code of a frame. -/
def Node.serialCode (n : Node) (p frame : Nat) : Int :=
  let off := n.sp p 0x06
  let w := n.sp p 0x07
  let f := (frame / 2 ^ off) % 2 ^ w
  let b := if n.sp p 0x08 = 1 then grayToBin w f % 2 ^ w else f
  if n.obi p 0x5600 0x09 then toI w b else b

/-- The status bits of the checks of Table 7-12 that a frame fails. -/
def Node.serialChecks (n : Node) (p : Nat) (notReady : Bool) (start : Option Nat) (endMark trailerZero low : Bool)
    (mono : Option Nat) : Nat :=
  let startOk := match start with
    | some d => decide (d ≤ 1500)
    | none => false
  let monoOk := low && (match mono with
    | some m => decide (us (n.sp p 0x0C) ≤ m) && decide (m ≤ us (n.sp p 0x0D))
    | none => false)
  b2n notReady * 4 + b2n (!startOk) * 8 + b2n (n.obi p 0x5600 0x05 && !endMark) * 16 + b2n (!trailerZero) * 32 + b2n (!monoOk) * 64

/-- SERIAL_FRAME_END (R203 to R205): the frame and its monotime are over. -/
def Node.serialFrameEnd (n : Node) (p : Nat) (start : Option Nat) (frame : Nat) (endMark trailerZero low : Bool)
    (mono : Option Nat) : Node :=
  let x := n.serialPort p
  match x.stamp with
  | none => n
  | some t =>
    let n := (n.setSerial p { x with stamp := none, notReady := false }).setI p 0x5600 0x15 t
    let n := match start with
      | some d => n.setI p 0x5600 0x19 (min d 65535)
      | none => n
    let bad := n.serialChecks p x.notReady start endMark trailerZero low mono
    if bad ≠ 0 then n.serialFail p bad else
    let f := frame % 2 ^ n.sp p 0x04
    let v : Rat := n.of32 p 0x5600 0x12 + (n.serialCode p f : Rat) * n.of32 p 0x5600 0x11
    let eb := n.sp p 0x0A
    let err := eb < 64 && bit f eb == n.obi p 0x5600 0x0B
    let n := ((n.setI p 0x5600 0x16 f).setI p 0x5600 0x13 (r32 v)).setI p 0x5600 0x14 (if err then 2 else 0)
    (n.setI p 0x5600 0x17 (if err then 128 else 0)).sendSerial p

/-- R206, Table 2-10: a port reset holds the last good position with quality STALE. -/
def Node.serialReset (n : Node) (p : Nat) : Node :=
  ((n.setSerial p { inReset := true }).setI p 0x5600 0x14 4).sendSerial p

/-- SERIAL_REQUEST (R202). -/
def execSerialRequest (dt : Nat) (p : Fin 8) (lineHigh : Bool) (s : State) := act dt s fun n =>
  n.whenUp fun n => n.serialRequest p lineHigh
/-- SERIAL_FRAME_END (R203 to R205). -/
def execSerialFrameEnd (dt : Nat) (p : Fin 8) (startNs : Option Nat) (frame : BitVec 64) (endMark trailerZero lowAtEnd : Bool)
    (monoNs : Option Nat) (s : State) := act dt s fun n =>
  n.whenUp fun n => n.serialFrameEnd p startNs frame.toNat endMark trailerZero lowAtEnd monoNs
/-- SERIAL_PORT_READY (R41): the reset of a serial port is done. -/
def execSerialPortReady (dt : Nat) (p : Fin 8) (s : State) := act dt s fun n =>
  n.whenUp fun n => n.setSerial p { n.serialPort p with inReset := false }

end Sys2Proof.Machine
end

