-- ==== Sys2Proof/Machine/Points.lean ====
section
/-!
DEFINITION. Machine/Points.lean: Mordant's points and groups (chapter 08): inputs and their age, raw
conditions, delays, suppression, states, records, and first-out capture.
-/
namespace Sys2Proof.Machine

def Node.pt (n : Node) (p : Nat) : PointSt := mapGet n.points p {}
def Node.setPt (n : Node) (p : Nat) (x : PointSt) : Node := { n with points := mapPut n.points p x }
/-- A configuration or counter object of a point (Table 8-22). -/
def Node.po (n : Node) (p sub : Nat) : Nat := n.oi p 0x6100 sub
def Node.pof (n : Node) (p sub : Nat) : Rat := n.of32 p 0x6100 sub


/-! ## The frame period (R211, R212) -/

/-- P in ns and the point limit, by the period code. -/
def periodNs (code : Nat) : Nat := ([250000, 500000, 1000000, 2000000] : List Nat).getD code 1000000
def pointLimit (code : Nat) : Nat := ([4096, 8192, 16384, 16384] : List Nat).getD code 16384
def Node.framePeriod (n : Node) : Nat := periodNs n.frame.code
def Node.limit (n : Node) : Nat := pointLimit n.frame.code
/-- Frames of a delay in 0.1 s, and of one in seconds. -/
def Node.tenths (n : Node) (d : Nat) : Nat := d * 100000000 / n.framePeriod
def Node.seconds (n : Node) (d : Nat) : Nat := d * 1000000000 / n.framePeriod

/-- The points whose kind is not unused, ascending. -/
def Node.pointsInUse (n : Node) : List Nat :=
  n.od.filterMap (fun e => if keyIdx e.1 = 0x6100 ∧ keySub e.1 = 2 ∧ keyInst e.1 < n.limit then some (keyInst e.1) else none)

def Node.pointUsed (n : Node) (p : Nat) : Bool := p < n.limit && n.po p 0x02 != 0xFF

/-! ## Sources (R216, R217, Table 8-1) -/

/-- Is a reference one that Table 8-1 gives for its kind? -/
def srcRefOk (kind ref : Nat) : Bool :=
  if kind = 0 ∨ kind = 8 then ref == 0
  else if kind = 1 then ref < 256
  else if kind = 2 then ref < 128 && ref % 4 ≤ 2
  else if kind = 3 then ref < 1024 && ref % 256 / 8 < 20 && ref % 8 ≤ 4
  else if kind = 4 then ref < 64 && ref % 4 ≤ 2
  else if kind = 5 then ref < 8
  else if kind = 6 then ref < 2 ^ 24 && bits ref 15 14 == 0 && 1 ≤ ref / 65536 && ref / 65536 ≤ 254
  else kind == 7 && ref < 1024

/-- The source of a point in the frame island's buffers; vat-written values are kept by point. -/
def Node.pointKey (n : Node) (p : Nat) : Nat :=
  srcKey (n.po p 0x03) (if n.po p 0x03 = 8 then p else n.po p 0x04)

/-- The revolutions of an engine cycle. -/
def Node.cycleRevs (n : Node) (d : Nat) : Nat := if n.cd d 0x03 = 1 then 2 else 1

/-- U of a source in ns; none where the source has no interval to count by (log 50). -/
def Node.updateNs (n : Node) (kind ref : Nat) : Option Nat :=
  if kind = 0 then some 0
  else if kind = 1 then
    let l := ref / 8
    let p := ref % 8
    if contactMode (n.o (pinIdx l p) 0x01) then none else
    let k := if (n.conv l 0).list.contains p then 0 else if (n.conv l 1).list.contains p then 1 else p / 4
    let u := if n.o (convIdx l k) 0x02 = 1 then n.o (convIdx l k) 0x03 else n.o (convIdx l k) 0x06
    if u = 0 then none else some (us u)
  else if kind = 2 then some (if ref % 4 = 0 then us 100 else ms (n.o (dynIdx (ref / 4)) 0x0C) / 10)
  else if kind = 3 then
    let d := ref / 256
    let rpm := rabs (n.of32 (n.cd d 0x04) 0x5500 0x0F)
    if rpm = 0 then none else some (60000000000 * (n.cycleRevs d : Rat) / rpm).floor.toNat
  else if kind = 4 then some n.framePeriod
  else if kind = 5 then some (us (n.sp ref 0x0E))
  else if kind = 6 then (let r := mapGet n.refresh (ref / 65536) 0; if r = 0 then none else some (ms r))
  else some (sec 1)

/-- R217: the stale limit in frames, or none. -/
def Node.staleLimit (n : Node) (p : Nat) : Option Nat :=
  if n.po p 0x13 ≠ 0 then some (n.po p 0x13)
  else (n.updateNs (n.po p 0x03) (n.po p 0x04)).map (fun u => max 2 ((3 * u + n.framePeriod - 1) / n.framePeriod))

/-- What a close works on: the closed buffer with the first changes, the states of the frame before, t_k. -/
structure FrameIn where
  closed : List (Nat × Reading) := []
  firsts : List (Nat × Reading) := []
  prev : List (Nat × PointSt) := []
  tk : Nat := 0

/-- A point's input of a frame: value, quality, stamp, age, whether it is awaiting, whether a reading
entered, whether a SIMULATED value entered it (R219), and v_ref of a DEVIATION point. -/
structure PIn where
  v : Nat := 0x7FC00000
  q : Nat := 3
  t : Nat := 0
  age : Nat := 0
  await : Bool := false
  entered : Bool := false
  sim : Bool := false
  vref : Rat := 0

/-- R220: the qualities that put a point in fault. -/
def faultQ (q : Nat) : Bool := q == 2 || q == 3 || q == 4
def PIn.fault (i : PIn) : Bool := faultQ i.q && !i.await

/-- Causes of BAD_CONFIG besides the source (R219, R221, R225). -/
def Node.pointConfigBad (n : Node) (p : Nat) : Bool :=
  let s := n.po p 0x0D
  let r := n.po p 0x10
  (s != 0xFFFF && (s == p || !n.pointUsed s)) || (n.po p 0x02 == 2 && (r == p || !n.pointUsed r))

/-- The age in this frame (R217). -/
def Node.nextAge (n : Node) (p : Nat) (x : PointSt) (entered : Bool) : Nat :=
  if entered || !x.aged then 0
  else if n.po p 0x03 = 3 ∧ n.crankState (n.po p 0x04 / 256) = 1 then x.age
  else min (x.age + 1) 0xFFFFFFFF

/-- R216 to R219: the input from the point's own source or its simulation. -/
def Node.ownInput (n : Node) (f : FrameIn) (p : Nat) : PIn :=
  let x := mapGet f.prev p {}
  let key := n.pointKey p
  let entered := f.closed.any (fun e => e.1 == key)
  let age := n.nextAge p x entered
  let last := (n.srcLast.find? (fun e => e.1 == key)).map (·.2)
  let r := (f.closed.find? (fun e => e.1 == key)).map (·.2) |>.orElse (fun _ => last)
  let simulated := n.obi p 0x6100 0x2C
  if n.pointConfigBad p || (!simulated && !srcRefOk (n.po p 0x03) (n.po p 0x04)) then
    { v := x.v, q := 3, t := f.tk, age := age }
  else if simulated then { v := n.po p 0x2B, q := 6, t := f.tk, age := age, entered := true, sim := true }
  else
    let exceeds := match n.staleLimit p with
      | some l => decide (l < age)
      | none => false
    match r with
    | none => if exceeds then { q := 4, t := f.tk, age := age } else { q := 4, t := f.tk, age := age, await := true }
    | some r => if exceeds then { v := r.value, q := 4, t := f.tk, age := age }
      else { v := r.value, q := r.q, t := r.time, age := age, entered := entered, sim := r.q == 6 }

/-- R218: a contact that changed into the alarm level and back within the frame shows its alarm level. -/
def Node.pulseSeen (n : Node) (f : FrameIn) (p : Nat) (i : PIn) : Option Reading :=
  let r := n.po p 0x04
  if n.po p 0x02 == 3 && n.po p 0x03 == 1 && contactMode (n.o (pinIdx (r / 8) (r % 8)) 0x01) && i.entered && !i.fault
      && !n.obi p 0x6100 0x2C then
    let al := bit (n.po p 0x12) 1
    let lev := fun v => decide ((1 : Rat) / 2 ≤ q32 v)
    match f.firsts.find? (fun e => e.1 == n.pointKey p) with
    | some (_, x) => if lev x.value == al && lev i.v != al then some x else none
    | none => none
  else none

/-- R221: the input with a DEVIATION point's reference taken in. A chain of references is followed for
`fuel` steps. -/
def Node.frameInput (n : Node) (f : FrameIn) : Nat → Nat → PIn
  | 0, p => n.ownInput f p
  | fuel + 1, p =>
    let i := n.ownInput f p
    if n.po p 0x02 ≠ 2 ∨ i.q = 3 then i else
    let r := n.po p 0x10
    let j := n.frameInput f fuel r
    if j.await then (if i.fault then i else { i with q := 4, await := true })
    else if j.fault then
      if bit (n.po r 0x12) 2 then { i with vref := n.pof r 0x16, q := if i.fault || i.await then i.q else 5 }
      else if i.fault then i else { i with q := j.q, t := if j.q = 4 then f.tk else i.t, await := false }
    else { i with vref := q32 j.v, sim := i.sim || j.sim }

/-! ## Conditions (R221 to R223) -/

/-- Conditions: 0 NONE, 1 H, 2 HH, 3 L, 4 LL, 5 BIN (Table 8-5). -/
def condRank (c : Nat) : Nat := if c = 2 ∨ c = 4 then 2 else if c = 0 then 0 else 1

/-- The priority of a condition (R223). -/
def Node.condPrio (n : Node) (p c : Nat) : Nat :=
  let w := n.po p 0x05
  if c = 2 then bits w 11 9 else if c = 1 then bits w 8 6 else if c = 3 then bits w 5 3 else if c = 4 then bits w 2 0
  else if n.po p 0x02 = 4 then bits w 14 12 else bits w 8 6
def Node.faultPrio (n : Node) (p : Nat) : Nat := bits (n.po p 0x05) 14 12

/-- R223: is condition `b` more severe than `a`? -/
def Node.moreSevere (n : Node) (p a b : Nat) : Bool :=
  decide (condRank a < condRank b) || (condRank a == condRank b && decide (n.condPrio p b < n.condPrio p a))

/-- R222: the order of the enabled limits, and the deadband. -/
def risingF32 : List Nat → Bool
  | a :: b :: r => decide (q32 a < q32 b) && risingF32 (b :: r)
  | _ => true
def limitsOk (hh h l ll db : Nat) : Bool :=
  let lims := [ll, l, h, hh].filter (fun v => !nan32 v)
  risingF32 lims && lims.all fin32 && fin32 db && decide (0 ≤ q32 db)

/-- One high limit, and one low limit, with its deadband. -/
def hiOn (lim : Nat) (db x : Rat) (was : Bool) : Bool := !nan32 lim && (decide (q32 lim ≤ x) || (was && decide (q32 lim - db < x)))
def loOn (lim : Nat) (db x : Rat) (was : Bool) : Bool := !nan32 lim && (decide (x ≤ q32 lim) || (was && decide (x < q32 lim + db)))

/-- R221: the four limits tested with x. -/
def Node.limitStep (n : Node) (p : Nat) (x : Rat) (s : PointSt) : PointSt :=
  let db := n.pof p 0x0A
  let s := { s with
    onHH := hiOn (n.po p 0x06) db x s.onHH
    onH := hiOn (n.po p 0x07) db x s.onH
    onL := loOn (n.po p 0x08) db x s.onL
    onLL := loOn (n.po p 0x09) db x s.onLL }
  { s with raw := if s.onHH then 2 else if s.onLL then 4 else if s.onH then 1 else if s.onL then 3 else 0 }

/-- The RATE window (R221): r is computed at its end; it starts at the first valid input. -/
def rateEnd (s : PointSt) (v t : Nat) : PointSt :=
  let r : Rat := if t ≤ s.rateT then s.rate else (q32 v - q32 s.rateV) * 1000000000 / ((t - s.rateT : Nat) : Rat)
  { s with rate := r, rateV := v, rateT := t, rateCount := 0 }

def Node.rateStep (n : Node) (p v t : Nat) (s : PointSt) : PointSt :=
  if !s.rateRun then { s with rateRun := true, rate := 0, rateV := v, rateT := t, rateCount := 0, rateAt := n.now }
  else if n.tenths (n.po p 0x14) ≤ s.rateCount + 1 then { rateEnd s v t with rateAt := n.now }
  else { s with rateCount := s.rateCount + 1 }

/-- R221: the raw condition of this frame. -/
def Node.rawStep (n : Node) (p : Nat) (i : PIn) (s : PointSt) : PointSt :=
  let k := n.po p 0x02
  if k = 4 then { s with raw := if i.fault then 5 else 0 }
  else if i.fault then { s with onHH := false, onH := false, onL := false, onLL := false, raw := 0, rateRun := false }
  else if i.await || nan32 i.v then { s with raw := 0 }
  else if k = 3 then { s with raw := if decide ((1 : Rat) / 2 ≤ q32 i.v) == bit (n.po p 0x12) 1 then 5 else 0 }
  else if k = 1 then
    let s := n.rateStep p i.v i.t s
    n.limitStep p s.rate s
  else if k = 2 then n.limitStep p (q32 i.v - i.vref) s
  else n.limitStep p (q32 i.v) s

/-! ## Delays and suppression (R224, R225) -/

/-- R224: the delayed condition, onset and return from the raw condition. -/
def Node.delayStep (n : Node) (p : Nat) (i : PIn) (s : PointSt) : PointSt :=
  if i.fault && n.po p 0x02 != 4 then { s with runOn := 0, runOff := 0, active := false, cond := 0 }
  else if s.raw ≠ 0 then
    let s := if s.runOn = 0 then { s with onset := i.t, onsetV := i.v, onAt := n.now } else s
    let s := { s with runOn := s.runOn + 1, runOff := 0 }
    let s := if !s.active && decide (n.tenths (n.po p 0x0B) < s.runOn) then { s with active := true } else s
    if s.active then { s with cond := s.raw } else s
  else
    let s := if 0 < s.runOn then { s with ret := i.t, retV := i.v } else s
    let s := { s with runOn := 0 }
    if s.active then
      let s := { s with runOff := s.runOff + 1, offAt := if s.runOff = 0 then n.now else s.offAt }
      if n.tenths (n.po p 0x0C) < s.runOff then { s with active := false, cond := 0 } else s
    else s

/-- R225: suppression from the source's state at the end of the frame before. -/
def Node.suppressStep (n : Node) (f : FrameIn) (p : Nat) (s : PointSt) : PointSt :=
  let src := n.po p 0x0D
  if src = 0xFFFF ∨ n.pointConfigBad p then { s with sup := false, rel := 0 } else
  let y := mapGet f.prev src {}
  let on := !y.fault && ((y.cond != 0) != bit (n.po p 0x12) 0)
  if on then { s with sup := true, rel := 0 }
  else if s.sup then
    let r := s.rel + 1
    { s with rel := r, sup := !decide (n.tenths (n.po p 0x0E) < r), relAt := if s.rel = 0 then n.now else s.relAt }
  else s

/-! ## Records (R230, Table 8-5) -/

/-- A record of point `p` with the state in `s`. -/
def Node.pointRec (n : Node) (p : Nat) (s : PointSt) (cause time value extra : Nat) : Rec :=
  { point := p, state := s.st
    prio := if s.st = 7 then n.faultPrio p else if s.cond = 0 then s.prio else n.condPrio p s.cond
    qf := s.pubQ + extra + (if s.sim then 128 else 0)
    detail := cause * 16 + s.cond, time := time, value := value, area := n.po p 0x11, owner := n.po p 0x15 }

def Node.addRec (n : Node) (r : Rec) : Node := { n with frame := { n.frame with recs := n.frame.recs ++ [r] } }

/-- LATE and FIRST_OUT and SAT in QF. -/
def qfLate : Nat := 16
def qfSat : Nat := 32
def qfFirst : Nat := 64

/-! ## States (R227, R228) -/

/-- `entry` of R228. -/
def Node.entryState (n : Node) (p c : Nat) : Nat := if n.condPrio p c = 4 then 2 else 1

/-- R228 and Table 8-4: the state that follows `s.st` from the delayed condition (`was` before this frame)
and the overlays. -/
def Node.nextState (n : Node) (p : Nat) (s : PointSt) (was : Nat) : Nat :=
  if s.oos then 6
  else if s.shelve.isSome then 4
  else if s.fault && n.po p 0x02 != 4 then 7
  else if s.sup then 5
  else if s.st = 6 ∨ s.st = 4 ∨ s.st = 5 then (if s.cond = 0 then 0 else n.entryState p s.cond)
  else if s.st = 7 then (if s.cond ≠ 0 then n.entryState p s.cond else if s.faultUnack then 3 else 0)
  else if s.st = 0 then (if s.cond = 0 then 0 else n.entryState p s.cond)
  else if s.st = 1 then (if s.cond = 0 then 3 else 1)
  else if s.st = 2 then
    if s.cond = 0 then 0
    else if n.moreSevere p was s.cond && n.condPrio p s.cond != 4 then 1 else 2
  else (if s.cond = 0 then 3 else 1)

/-- The TIME and VALUE of a state change (Table 8-4). -/
def stateTime (tk : Nat) (old new : Nat) (s : PointSt) : Nat × Nat :=
  let overlay := old == 4 || old == 5 || old == 6 || old == 7
  if new = 4 ∨ new = 5 ∨ new = 6 then (tk, s.v)
  else if new = 7 then (if s.q = 4 ∨ old = 4 ∨ old = 6 then tk else s.t, s.v)
  else if overlay then
    if new = 1 ∨ new = 2 then (if tk < s.onset then (s.onset, s.onsetV) else (tk, s.v)) else (tk, s.v)
  else if old = 2 ∧ new = 1 then (s.t, s.v)
  else if new = 1 ∨ new = 2 then (s.onset, s.onsetV)
  else (s.ret, s.retV)

/-- R253: the counters of the frame; a counter that reaches its end sets its bit and gives a record. -/
def Node.pointCounters (n : Node) (p : Nat) (s : PointSt) (was : Nat) (tk : Nat) : Node :=
  if s.st = 6 then n.setPt p s else
  let n := n.setPt p s
  let n :=
    if was = 0 ∧ s.cond ≠ 0 then
      let n := n.incSatI 32 p 0x6100 0x27 1
      if n.po p 0x27 = 0xFFFFFFFF ∧ !s.satOcc then
        (n.setPt p { n.pt p with satOcc := true }).addRec (n.pointRec p s 3 tk s.v qfSat)
      else n
    else n
  if s.cond ≠ 0 then
    let n := n.incSatI 64 p 0x6100 0x28 n.framePeriod
    if n.po p 0x28 = 2 ^ 64 - 1 ∧ !(n.pt p).satStand then
      (n.setPt p { n.pt p with satStand := true }).addRec (n.pointRec p s 3 tk s.v qfSat)
    else n
  else n

/-- The state of `s` against its condition `was` before: the new state, its record, an entry for the
groups, FAULT_UNACK, and the counters. -/
def Node.settle (n : Node) (p : Nat) (s : PointSt) (was tk : Nat) : Node :=
  let old := s.st
  let new := n.nextState p s was
  let cause := if s.cause ≠ 0 ∧ (new = 4 ∨ new = 6 ∨ old = 4 ∨ old = 6) then s.cause else 0
  let late := if s.late then qfLate else 0
  let s := { s with
    st := new
    faultUnack := if new = 7 ∧ old ≠ 7 then n.faultPrio p != 4 else s.faultUnack
    prio := if s.cond = 0 then s.prio else n.condPrio p s.cond
    cause := 0
    late := false }
  let n :=
    if new ≠ old then
      let (t, v) := stateTime tk old new s
      let n := n.addRec (n.pointRec p s cause t v (if cause = 0 then 0 else late))
      if new = 1 then { n with frame := { n.frame with entries := n.frame.entries ++ [{ onset := t, ident := n.ident, point := p }] } } else n
    else if (new = 1 ∨ new = 2) ∧ s.cond ≠ was then n.addRec (n.pointRec p s 1 s.t s.v 0)
    else n
  n.pointCounters p s was tk

/-- One frame of shelving: the time runs out after its frames (R226); the frame of the command is counted in
`shelvePoint`. -/
def shelveStep (s : PointSt) : PointSt :=
  match s.shelve with
  | none => s
  | some 0 => { s with shelve := none }
  | some (k + 1) => { s with shelve := if k = 0 then none else some k }

/-- R228: one point of a frame. -/
def Node.evalPoint (n : Node) (f : FrameIn) (p : Nat) : Node :=
  let s := n.pt p
  let i := n.frameInput f 16384 p
  let (i, n) := match n.pulseSeen f p i with
    | some r => ({ i with v := r.value, q := r.q, t := r.time }, n.incWrap 0x6000 0x0D)
    | none => (i, n)
  let was := s.cond
  let sub := i.fault && bit (n.po p 0x12) 2
  let s := { s with
    v := i.v
    q := i.q
    t := i.t
    sim := i.sim
    age := i.age
    aged := true
    ageAt := if i.entered then n.now else s.ageAt
    fault := i.fault
    await := i.await
    pubV := if sub then n.po p 0x16 else i.v
    pubQ := if sub then 5 else i.q }
  let s := n.delayStep p i (n.rawStep p i s)
  n.settle p (n.suppressStep f p (shelveStep s)) was f.tk

/-- R256: a reconfigured point starts again from NORMAL; the record with CAUSE 7 precedes the frame's. -/
def Node.restartPoint (n : Node) (p : Nat) (tk : Nat) : Node :=
  let s := n.pt p
  if !s.restart then n else
  let s' : PointSt := {
    v := s.v
    q := s.q
    t := s.t
    sim := s.sim
    onset := s.onset
    onsetV := s.onsetV
    pubV := s.pubV
    pubQ := s.pubQ
    age := s.age
    aged := s.aged
    ageAt := s.ageAt
    satOcc := s.satOcc
    satStand := s.satStand
    sent := s.sent }
  let n := n.setPt p s'
  if s.st = 0 then n else n.addRec (n.pointRec p s' 7 tk s.v 0)

/-! ## Expiries as steps of their own: each is what the close at which it falls due does for that point -/

/-- ON_DELAY_EXPIRY (R224): the raw condition has held for more than the on-delay, by the frames counted
or by the time since it came (assumption log 51). -/
def Node.onDelayExpiry (n : Node) (p : Nat) : Node :=
  let s := n.pt p
  let k := n.tenths (n.po p 0x0B)
  if n.pointUsed p && s.raw != 0 && 0 < s.runOn && !s.active && (decide (k < s.runOn) || decide (s.onAt + k * n.framePeriod ≤ n.now)) then
    n.settle p { s with active := true, cond := s.raw, runOn := max s.runOn (k + 1) } s.cond (n.copy isleFrame)
  else n

/-- OFF_DELAY_EXPIRY (R224). -/
def Node.offDelayExpiry (n : Node) (p : Nat) : Node :=
  let s := n.pt p
  let k := n.tenths (n.po p 0x0C)
  if n.pointUsed p && s.raw == 0 && s.active && 0 < s.runOff && (decide (k < s.runOff) || decide (s.offAt + k * n.framePeriod ≤ n.now)) then
    n.settle p { s with active := false, cond := 0, runOff := max s.runOff (k + 1) } s.cond (n.copy isleFrame)
  else n

/-- SUPPRESSION_RELEASE (R225). -/
def Node.suppressionRelease (n : Node) (p : Nat) : Node :=
  let s := n.pt p
  let k := n.tenths (n.po p 0x0E)
  if n.pointUsed p && s.sup && 0 < s.rel && (decide (k < s.rel) || decide (s.relAt + k * n.framePeriod ≤ n.now)) then
    n.settle p { s with sup := false, rel := max s.rel (k + 1) } s.cond (n.copy isleFrame)
  else n

/-- STALE (R217): the age passes the stale limit; the point is in fault with quality STALE. -/
def Node.staleExpiry (n : Node) (p : Nat) : Node :=
  let s := n.pt p
  match n.staleLimit p with
  | none => n
  | some l =>
    if n.pointUsed p && s.aged && !n.obi p 0x6100 0x2C && s.q != 3 && (s.q != 4 || s.await)
        && (decide (l < s.age) || decide (s.ageAt + (l + 1) * n.framePeriod ≤ n.now)) then
      let tk := n.copy isleFrame
      let sub := bit (n.po p 0x12) 2
      let i : PIn := { v := s.v, q := 4, t := tk, age := max s.age (l + 1) }
      let s := { s with
        q := 4
        t := tk
        sim := false
        age := i.age
        fault := true
        await := false
        pubV := if sub then n.po p 0x16 else s.v
        pubQ := if sub then 5 else 4 }
      n.settle p (n.delayStep p i (n.rawStep p i s)) (n.pt p).cond tk
    else n

/-- RATE_WINDOW_END (R221). -/
def Node.rateWindowEnd (n : Node) (p : Nat) : Node :=
  let s := n.pt p
  let k := n.tenths (n.po p 0x14)
  if n.pointUsed p && n.po p 0x02 == 1 && s.rateRun && !s.fault && (decide (k ≤ s.rateCount) || decide (s.rateAt + k * n.framePeriod ≤ n.now)) then
    let i : PIn := { v := s.v, q := s.q, t := s.t, age := s.age }
    let s := { rateEnd s s.v s.t with rateAt := n.now }
    n.settle p (n.delayStep p i (n.limitStep p s.rate s)) s.cond (n.copy isleFrame)
  else n

/-- SHELVE_EXPIRY (R226). -/
def Node.shelveExpiry (n : Node) (p : Nat) : Node :=
  let s := n.pt p
  if n.pointUsed p && s.shelve.isSome && (s.shelve == some 0 || decide (s.shelveAt + s.shelveFor ≤ n.now)) then
    n.settle p { s with shelve := none } s.cond (n.copy isleFrame)
  else n

/-! ## Acknowledgement and the other point commands at a close (R229, R226) -/

/-- Does a point await acknowledgement (Table 8-3)? -/
def awaitsAck (s : PointSt) : Bool := s.st == 1 || s.st == 3 || (s.st == 7 && s.faultUnack)

/-- R229. -/
def Node.ackPoint (n : Node) (p tk : Nat) : Node :=
  let s := n.pt p
  if awaitsAck s then
    let s := { s with st := if s.st = 1 then 2 else if s.st = 3 then 0 else s.st, faultUnack := false }
    (n.setPt p s).addRec (n.pointRec p s 2 tk s.v 0)
  else n

/-- R226: shelve, unshelve, out of service and in service set what the frame's evaluation reads. -/
def Node.shelvePoint (n : Node) (p secs cause : Nat) (late : Bool) : Node :=
  let s := n.pt p
  n.setPt p { s with shelve := some (n.seconds secs + 1), shelveAt := n.now, shelveFor := sec secs, cause := cause, late := late }
def Node.unshelvePoint (n : Node) (p cause : Nat) (late : Bool) : Node :=
  let s := n.pt p
  if s.shelve.isSome then n.setPt p { s with shelve := none, cause := cause, late := late } else n
def Node.setOos (n : Node) (p : Nat) (on : Bool) (cause : Nat) (late : Bool) : Node :=
  let s := n.pt p
  if s.oos = on then n else n.setPt p { s with oos := on, cause := cause, late := late }

/-! ## Groups (R233 to R236) -/

def Node.grp (n : Node) (g : Nat) : GroupSt := mapGet n.groups g {}
def Node.setGrp (n : Node) (g : Nat) (x : GroupSt) : Node := { n with groups := mapPut n.groups g x }
def Node.go (n : Node) (g sub : Nat) : Nat := n.oi g 0x6200 sub

/-- The group numbers of a point. -/
def Node.pointGroups (n : Node) (p : Nat) : List Nat :=
  ((List.range 4).map (fun i => bits (n.po p 0x0F) (16 * i + 15) (16 * i))).filter (· < 1024)

def Node.localMembers (n : Node) (g : Nat) : List Nat := n.pointsInUse.filter (fun p => (n.pointGroups p).contains g)

/-- The remote members in the first .06 entries of .05, as 65536 * node + point. -/
def Node.remoteMembers (n : Node) (g : Nat) : List Nat :=
  (List.range (n.go g 0x06)).map (fun i =>
    let bs := n.domI g 0x6200 0x05
    fieldLE bs (4 * i) 1 * 65536 + fieldLE bs (4 * i + 2) 2)

/-- Does a state count as in alarm (R233)? -/
def inAlarm (st : Nat) : Bool := st == 1 || st == 2 || st == 3 || st == 7

/-- The groups that can change: those with members, and those not ARMED. -/
def Node.groupsInUse (n : Node) : List Nat :=
  let used := n.pointsInUse.foldl (fun gs p => (n.pointGroups p).foldl (fun gs g => if gs.contains g then gs else gs ++ [g]) gs) []
  let more := n.od.filterMap (fun e => if keyIdx e.1 = 0x6200 ∧ (keySub e.1 = 6 ∨ keySub e.1 = 7) then some (keyInst e.1) else none)
  (List.range 1024).filter (fun g => used.contains g || more.contains g)

/-- The entries into ACTIVE_UNACK of a group's members. -/
def Node.groupEntries (n : Node) (g : Nat) : List Candidate :=
  n.frame.entries.filter (fun c => (n.pointGroups c.point).contains g)
    ++ n.frame.remoteIn.filter (fun c => (n.remoteMembers g).contains (c.ident * 65536 + c.point))

/-- Order of R234: onset, then node identity, then point. -/
def candBefore (a b : Candidate) : Bool :=
  decide (a.onset < b.onset) || (a.onset == b.onset && (decide (a.ident < b.ident) || (a.ident == b.ident && decide (a.point ≤ b.point))))
def insertCand (c : Candidate) : List Candidate → List Candidate
  | [] => [c]
  | d :: r => if candBefore c d then c :: d :: r else d :: insertCand c r

/-- R234: the first ones of a capture; a tolerance of 0 still finds the earliest onset (assumption log 52). -/
def firstOnes (tol : Nat) (cs : List Candidate) : List Candidate :=
  match cs.foldr insertCand [] with
  | [] => []
  | c :: r => c :: r.filter (fun d => decide (d.onset < c.onset + tol) || d.onset == c.onset)

/-- A candidate joins a capture; of two entries of one member the earlier onset counts (R234). -/
def joinCands (cs : List Candidate) : List Candidate → List Candidate
  | [] => cs
  | e :: es =>
    let same := fun (c : Candidate) => c.ident == e.ident && c.point == e.point
    if cs.any same then joinCands (cs.map (fun c => if same c && decide (e.onset < c.onset) then e else c)) es
    else joinCands (cs ++ [e]) es

/-- One entry of the tie list. -/
def tieEntry (c : Candidate) : List Byte := toLE 1 c.ident ++ toLE 1 0 ++ toLE 2 c.point

/-- The capture of group `g` ends: first-out, tie list, flags and the records of R234. -/
def Node.captureEnd (n : Node) (g : Nat) : Node :=
  let fs := firstOnes (n.go g 0x04) (n.grp g).cands
  let c := fs.headD {}
  let n := ((n.setI g 0x6200 0x07 2).setI g 0x6200 0x08 (c.ident * 65536 + c.point)).setI g 0x6200 0x09 c.onset
  let n := ((n.setI g 0x6200 0x0A (min fs.length 255)).setI g 0x6200 0x0B (ofLE ((fs.take 4).map tieEntry).flatten)).incWrapI 32 g 0x6200 0x0E 1
  let n := n.setI g 0x6200 0x0F (b2n (decide (1 < fs.length)))
  let n := n.setGrp g { n.grp g with cands := [] }
  (fs.filter (fun c => c.ident == n.ident && (n.pointGroups c.point).contains g)).foldl (fun n c =>
    let s := n.pt c.point
    n.addRec (n.pointRec c.point s 6 c.onset s.onsetV qfFirst)) n

/-- R233: one group in a frame. `tk` is the close. -/
def Node.groupStep (n : Node) (tk g : Nat) : Node :=
  let es := n.groupEntries g
  let mem := n.localMembers g
  let rem := n.remoteMembers g
  let n := (n.setI g 0x6200 0x0C ((mem.filter (fun p => inAlarm (n.pt p).st)).length
      + (rem.filter (fun k => inAlarm (mapGet n.frame.remote k 0))).length)).setI g 0x6200 0x0D
      ((mem.filter (fun p => awaitsAck (n.pt p))).length
      + (rem.filter (fun k => mapGet n.frame.remote k 0 == 1 || mapGet n.frame.remote k 0 == 3)).length)
  let n :=
    if n.go g 0x07 = 0 ∧ es ≠ [] then
      ((n.setGrp g { firstClose := tk, cands := joinCands [] es }).setI g 0x6200 0x07 1).setI g 0x6200 0x10 tk
    else if n.go g 0x07 = 1 then n.setGrp g { n.grp g with cands := joinCands (n.grp g).cands es }
    else if n.go g 0x07 = 2 ∧ es.any (fun c => decide (c.onset < n.go g 0x09)) then n.setBitI g 0x6200 0x0F 1 true
    else n
  let n := if n.go g 0x07 = 1 ∧ (n.grp g).firstClose + ms (n.go g 0x03) ≤ tk then n.captureEnd g else n
  if n.go g 0x07 = 2 ∧ n.go g 0x0C = 0 then n.setI g 0x6200 0x07 0 else n

/-- FIRST_OUT_WINDOW_END (R234) of one group. -/
def Node.firstOutEnd (n : Node) (g : Nat) : Node :=
  if n.go g 0x07 = 1 ∧ (n.grp g).firstClose + ms (n.go g 0x03) ≤ n.copy isleFrame then
    let n := n.captureEnd g
    if n.go g 0x0C = 0 then n.setI g 0x6200 0x07 0 else n
  else n

/-- R233: REARM. -/
def Node.rearm (n : Node) (g : Nat) : Node := if n.go g 0x07 = 2 then n.setI g 0x6200 0x07 0 else n

end Sys2Proof.Machine
end

