-- ==== Sys2Proof/Machine/Calls.lean ====
section
/-!
DEFINITION. Machine/Calls.lean: locations, areas and responsibility, operator commands, alarm calls and
the engineer-safety timer (chapter 08, R237 to R252).
-/
namespace Sys2Proof.Machine

def Node.area (n : Node) (a : Nat) : AreaSt := mapGet n.areas a {}
def Node.setArea (n : Node) (a : Nat) (x : AreaSt) : Node := { n with areas := mapPut n.areas a x }
def Node.ao (n : Node) (a sub : Nat) : Nat := n.oi a 0x6300 sub

/-! ## Locations and the roster (R237, R250) -/

/-- Fields of a location entry (Table 8-9). -/
def Node.locKind (n : Node) (l : Nat) : Nat := fieldLE (n.domI 0 0x6300 0x20) (8 * l) 1
def Node.locHost (n : Node) (l : Nat) : Nat := fieldLE (n.domI 0 0x6300 0x20) (8 * l + 1) 1
def Node.locMasters (n : Node) (l : Nat) : Nat := fieldLE (n.domI 0 0x6300 0x20) (8 * l + 4) 4

/-- R237: does a table of 512 bytes keep Table 8-9? -/
def locEntryOk (bs : List Byte) (l : Nat) : Bool :=
  let host := fieldLE bs (8 * l + 1) 1
  let masters := fieldLE bs (8 * l + 4) 4
  fieldLE bs (8 * l) 1 ≤ 5 && host ≤ 254 && fieldLE bs (8 * l + 2) 2 == 0 && masters < 2 ^ 21 && (host == 0 || masters == 0)
    && (l != 63 || fieldLE bs (8 * l) 1 == 0)
def locTableOk (bs : List Byte) : Bool := (List.range 64).all (locEntryOk bs)

/-- R238: may master `m` speak for location `l`? -/
def Node.speaksFor (n : Node) (m : Master) (l : Nat) : Bool :=
  let h := n.locHost l
  match m with
  | .ring i => h != 0 && i.val == h
  | .vat v => h == 0 && bit (n.locMasters l) v.val
  | .localPort => h == 0 && bit (n.locMasters l) 16
  | .can c => h == 0 && bit (n.locMasters l) (17 + c.val)

/-- A byte of the roster, whose default is all 0xFF. -/
def Node.rosterByte (n : Node) (i : Nat) : Nat :=
  let bs := n.domI 0 0x6300 0x21
  if bs = [] then 0xFF else fieldLE bs i 1

/-- The call units of an engineer. -/
def Node.units (n : Node) (e : Nat) : List Nat := ((List.range 4).map (fun i => n.rosterByte (4 * e + i))).filter (· < 64)

/-- R250: the hourly slot of the present ship's local time. -/
def Node.dutySlot (n : Node) : Nat :=
  let s : Int := (n.utc.1 : Int) + n.oint 16 0 0x6300 0x23 * 60
  let s := s.toNat
  24 * ((s / 86400 + 3) % 7) + s / 3600 % 24

/-- R250: the duty engineer, 0xFF for none. -/
def Node.dutyEngineer (n : Node) : Nat :=
  let e := if n.o 0x6300 0x22 ≠ 0xFF then n.o 0x6300 0x22 else n.rosterByte (64 + n.dutySlot)
  if e < 16 ∧ n.units e ≠ [] then e else 0xFF

/-- A bit per location of a list. -/
def locBits (ls : List Nat) : Nat := ls.foldl (fun m l => m ||| 2 ^ l) 0

/-- R247, Table 8-14: the locations that a call at a level reaches. -/
def Node.reached (n : Node) (level : Nat) : Nat :=
  let kind := fun k => locBits ((List.range 63).filter (fun l => n.locKind l == k))
  let duty := n.dutyEngineer
  (if 1 ≤ level then (if duty < 16 then locBits (n.units duty) else 0) ||| kind 4 else 0)
    ||| (if 2 ≤ level then locBits ((List.range 16).map n.units).flatten else 0)
    ||| (if 3 ≤ level then kind 2 else 0)

/-! ## System records and call messages (R230, R248, R310) -/

/-- A record of Table 8-7. -/
def Node.sysRec (n : Node) (point state prio value tk : Nat) : Node :=
  n.addRec { point := point, state := state, prio := prio, qf := 0, detail := 8 * 16, time := tk, value := value, area := point % 16 }

/-- The HOST of each location, as Table 10-10 carries it. -/
def Node.hosts (n : Node) : List Byte := ((List.range 64).map (fun l => toLE 1 (n.locHost l))).flatten

/-- A call message of area `a` (Table 10-10), queued for the ring. -/
def Node.callMessage (n : Node) (a kind state level prio rep point tk : Nat) : Node :=
  let seq := (n.area a).seq
  let body := toLE 1 a ++ toLE 1 kind ++ toLE 1 state ++ toLE 1 level ++ toLE 1 prio ++ toLE 1 rep ++ toLE 2 seq ++ toLE 2 point
    ++ zeros 6 ++ toLE 8 tk ++ toLE 8 (n.reached level) ++ n.hosts
  { n with frame := { n.frame with calls := n.frame.calls ++ [(seq + 65536 * a, body)] } }

/-- The raising points of an area: those that raise or hold its call (R246, Table 8-3), with priorities. -/
def Node.raising (n : Node) (a : Nat) : List (Nat × Nat) :=
  n.pointsInUse.filterMap (fun p =>
    let s := n.pt p
    let pr := if s.st = 7 then n.faultPrio p else if s.cond = 0 then s.prio else n.condPrio p s.cond
    if n.po p 0x11 = a ∧ (s.st = 1 ∨ (s.st = 7 ∧ s.faultUnack)) ∧ pr ≤ 2 then some (p, pr) else none)

/-- The highest priority that raises the call, or the last one that did. -/
def Node.callPrio (n : Node) (a : Nat) : Nat :=
  match n.raising a with
  | [] => (n.area a).prio
  | l => l.foldl (fun m e => min m e.2) 4

/-- A change of the alarm call: its sequence number, its system record and its message (R248). -/
def Node.callChanged (n : Node) (a tk : Nat) : Node :=
  let x := n.area a
  let x := { x with seq := (x.seq + 1) % 65536, prio := n.callPrio a, rep := 0, repAt := n.now, changedAt := tk }
  let n := n.setArea a x
  let st := if x.call = 0 then 0xFF else if x.call = 2 then 4 + x.level else x.level
  let n := n.sysRec (0x8000 + a) st x.prio (r32 (x.point : Rat)) tk
  n.callMessage a 0 (if x.call = 0 then 2 else x.call - 1) x.level x.prio 0 x.point tk

/-- The engineer-safety call has no raising point: what its message carries as PRIORITY and POINT is not
stated, so both are free values (assumption log 53). -/
def Node.esMessage (n : Node) (a state level rep tk : Nat) : Node :=
  let (p, n) := n.draw
  let (q, n) := n.draw
  n.callMessage a 1 state level (p % 256) rep (q % 65536) tk

/-- A change of the engineer-safety call. -/
def Node.esCallChanged (n : Node) (a state level tk : Nat) : Node :=
  let x := n.area a
  (n.setArea a { x with seq := (x.seq + 1) % 65536, esRep := 0, esRepAt := n.now, esChangedAt := tk }).esMessage a state level 0 tk

/-! ## Responsibility (R239 to R241) -/

/-- Does this node decide the area's responsibility (R240)? -/
def Node.isAreaMaster (n : Node) (a : Nat) : Bool :=
  n.ao a 0x02 == 0 || n.ao a 0x02 == n.ident || n.ao a 0x02 == n.pubIdent

/-- The record of a change of holder or attendance. -/
def Node.respRec (n : Node) (a tk : Nat) : Node :=
  n.sysRec (0x8010 + a) (n.area a).holder 4 (if (n.area a).attended then r32 1 else r32 0) tk

/-- Seconds left of the engineer-safety period. -/
def Node.esLeft (n : Node) (a : Nat) : Nat :=
  n.ao a 0x11 - (n.area a).esCount * n.framePeriod / 1000000000

/-- The engineer-safety timer enters a state (Table 8-17) with its record; a call in progress ends
unless the state is EXPIRED. -/
def Node.enterEs (n : Node) (a st tk : Nat) : Node :=
  let x := n.area a
  let x := if st ≤ 1 then { x with esCount := 0, esAt := n.now } else x
  let n := n.setArea a { x with es := st }
  let n := n.sysRec (0x8020 + a) st 4 (r32 (if st = 0 then 0 else (n.esLeft a : Rat))) tk
  if st = 3 then
    (n.setArea a { n.area a with esCall := some 2, esCallCount := 0, esCallAt := n.now }).esCallChanged a 0 2 tk
  else match (n.area a).esCall with
    | some l => (n.setArea a { n.area a with esCall := none, esClears := 2 }).esCallChanged a 2 l tk
    | none => n

/-! ## Judging an operator command (R238 to R244) -/

/-- What a waiting command does to an area's responsibility and calls, for judging the ones after it:
each request sees the effect of those served before it (R81). -/
def respEffect (a : Nat) (x : AreaSt) (c : OpCmd) : AreaSt :=
  if c.when_ ≠ 0 ∨ c.target ≠ a then x
  else if c.op = 9 then { x with offer := some c.param }
  else if c.op = 10 then { x with holder := x.offer.getD x.holder, offer := none }
  else if c.op = 11 then { x with offer := none }
  else if c.op = 12 then { x with holder := c.loc, offer := none }
  else if c.op = 13 then { x with attended := true }
  else if c.op = 14 then { x with attended := false, es := 0 }
  else if c.op = 15 then { x with call := if x.call = 1 then 2 else x.call }
  else if c.op = 16 ∨ c.op = 17 then { x with es := 1 }
  else if c.op = 18 then { x with es := 0 }
  else x

/-- The area as the commands already served will leave it. -/
def Node.areaView (n : Node) (a : Nat) : AreaSt := n.frame.ops.foldl (respEffect a) (n.area a)

/-- Is point `p` acknowledged by a command that waits for the close? -/
def Node.ackWaits (n : Node) (p : Nat) : Bool :=
  n.frame.ops.any (fun c => (c.op == 1 && c.target == p) || (c.op == 2 && (n.pointGroups p).contains c.target)
    || (c.op == 3 && c.target == n.po p 0x11))

/-- Is point `p` out of service, as the commands that wait will leave it? -/
def Node.oosView (n : Node) (p : Nat) : Bool :=
  n.frame.ops.foldl (fun o c => if c.target = p ∧ c.op = 7 then true else if c.target = p ∧ c.op = 8 then false else o) (n.pt p).oos

def opOnPoint (op : Nat) : Bool := [1, 5, 6, 7, 8].contains op
def opOnGroup (op : Nat) : Bool := op == 2 || op == 0x13
def opScheduled (op : Nat) : Bool := [5, 6, 7, 8, 0x13].contains op

/-- The area that decides who may issue a command. -/
def Node.opArea (n : Node) (op target : Nat) : Nat :=
  if opOnPoint op then n.po target 0x11 else if opOnGroup op then n.go target 0x02 else target

/-- Is the target in range? -/
def Node.opTargetOk (n : Node) (op target : Nat) : Bool :=
  if opOnPoint op then target < n.limit else if opOnGroup op then target < 1024 else target < 8

/-- R238 to R241, Table 8-12: may location `l` issue the command? -/
def Node.opMayIssue (n : Node) (op l target : Nat) : Bool :=
  let a := n.opArea op target
  let x := n.areaView a
  let held := l == x.holder
  let kind := n.locKind l
  (if 9 ≤ op ∧ op ≤ 14 then n.isAreaMaster a else true) &&
  (if op = 4 then held || kind == 5
   else if op = 10 then x.offer.isNone || x.offer == some l
   else if op = 11 then x.offer.isNone || x.offer == some l || held
   else if op = 12 then kind == 1
   else if op = 13 ∨ op = 14 ∨ op = 16 ∨ op = 18 then held && kind == 1
   else if op = 15 then held || (x.call != 0 && bit (n.reached x.level) l)
   else if op = 17 then kind == 1 || kind == 5
   else held)

/-- The range of PARAM (Table 8-12). -/
def Node.opParamOk (n : Node) (op target param : Nat) : Bool :=
  if op = 5 then 1 ≤ param && param ≤ 86400 && !n.oosView target
  else if op = 9 then
    let k := n.locKind param
    param < 63 && 1 ≤ k && k ≤ 3 && param != (n.areaView target).holder
  else param == 0

/-- R243: is the command in the right state? -/
def Node.opStateOk (n : Node) (op target : Nat) : Bool :=
  let x := n.areaView target
  if op = 9 then x.offer.isNone
  else if op = 10 ∨ op = 11 then x.offer.isSome
  else if op = 14 then !n.pointsInUse.any (fun p => n.po p 0x11 == target && awaitsAck (n.pt p) && !n.ackWaits p)
  else if op = 15 then x.call != 0
  else if op = 16 then x.attended && x.es == 0
  else if op = 17 then x.es != 0
  else if op = 0x13 then n.go target 0x07 == 2
  else true

/-- R212: the length of the frame now filling. Right after a time step it is P; while the closes are off the
multiples of P it is longer or shorter by at most P/100. -/
def Node.frameLength (n : Node) : Nat :=
  let p := n.framePeriod
  let r := n.frame.lastClose % p
  if n.frame.stepped ∨ r = 0 then p else if r ≤ p / 2 then p - min r (p / 100) else p + min (p - r) (p / 100)

/-- The next close, in TAI. -/
def Node.nextClose (n : Node) : Nat := if n.frame.started then n.frame.lastClose + n.frameLength else n.copy isleFrame

/-- The code that an operator command gets (R238 to R244, in the order of Table 4-4). -/
def Node.opCode (n : Node) (m : Master) (op locByte target param when_ : Nat) : Nat :=
  let l := locByte % 64
  let lateOk := bit locByte 7
  let isVat := match m with
    | .vat _ => true
    | _ => false
  let owns := match m with
    | .vat v => n.po target 0x15 == v.val
    | _ => false
  if op = 0 ∨ 0x13 < op ∨ bit locByte 6 then 0x0606
  else if l = 63 ∧ op ≠ 7 ∧ op ≠ 8 then 0x0606
  else if l ≠ 63 ∧ !n.speaksFor m l then 0x0604
  else if !n.opTargetOk op target then 0x0606
  else if l = 63 ∧ !(owns || (!isVat && n.curMode == 3)) then 0x0604
  else if l ≠ 63 ∧ !n.opMayIssue op l target then 0x0604
  else if !n.opParamOk op target param then 0x0606
  else if when_ ≠ 0 ∧ !opScheduled op then 0x0606
  else if when_ ≠ 0 ∧ when_ < n.nextClose ∧ !lateOk then 0x0609
  else if when_ ≠ 0 ∧ 256 ≤ n.frame.sched.length then 0x060A
  else if !n.opStateOk op target then 0x0608
  else 0

/-- The lowest free entry of the schedule. -/
def Node.freeEntry (n : Node) : Nat :=
  ((List.range 256).find? (fun i => !n.frame.sched.any (fun e => e.1 == i))).getD 0

/-- An accepted command waits for the close, or enters the schedule (R244). -/
def Node.opAccept (n : Node) (op locByte target param when_ : Nat) : Node :=
  let c : OpCmd := { op := op, loc := locByte, target := target, param := param, when_ := when_, late := when_ ≠ 0 && when_ < n.nextClose }
  if when_ = 0 then { n with frame := { n.frame with ops := n.frame.ops ++ [{ c with loc := locByte % 64 }] } }
  else { n with frame := { n.frame with sched := mapPut n.frame.sched n.freeEntry c } }

/-! ## Applying a command at the close (R213, R229, R236) -/

/-- The alarm call is answered. -/
def Node.answer (n : Node) (a tk : Nat) : Node :=
  let x := n.area a
  if x.call = 1 then (n.setArea a { x with call := 2, count := 0, since := n.now }).callChanged a tk else n

/-- A change of holder or attendance that a command makes. -/
def Node.setHolder (n : Node) (a l tk : Nat) : Node :=
  let x := n.area a
  let n := n.setArea a { x with holder := l, offer := none }
  if x.holder = l then n else n.respRec a tk
def Node.setAttended (n : Node) (a : Nat) (on : Bool) (tk : Nat) : Node :=
  let x := n.area a
  let n := n.setArea a { x with attended := on }
  let n := if x.attended = on then n else n.respRec a tk
  if !on && (n.area a).es != 0 then n.enterEs a 0 tk else n

/-- One operator command at the close `tk`; `cause` is 4, or 5 for a scheduled action. -/
def Node.opApply (n : Node) (tk cause : Nat) (late : Bool) (c : OpCmd) : Node :=
  let t := c.target
  if c.op = 1 then n.ackPoint t tk
  else if c.op = 2 then (n.localMembers t).foldl (fun n p => n.ackPoint p tk) n
  else if c.op = 3 then (n.pointsInUse.filter (fun p => n.po p 0x11 == t)).foldl (fun n p => n.ackPoint p tk) n
  else if c.op = 4 then n.setArea t { n.area t with silenced := true }
  else if c.op = 5 then (if n.pointUsed t then n.shelvePoint t c.param cause late else n)
  else if c.op = 6 then n.unshelvePoint t cause late
  else if c.op = 7 then (if n.pointUsed t then n.setOos t true cause late else n)
  else if c.op = 8 then n.setOos t false cause late
  else if c.op = 9 then n.setArea t { n.area t with offer := some c.param, offerCount := 0, offerAt := n.now }
  else if c.op = 10 then
    match (n.area t).offer with
    | some r => n.setHolder t r tk
    | none => n
  else if c.op = 11 then n.setArea t { n.area t with offer := none }
  else if c.op = 12 then n.setHolder t c.loc tk
  else if c.op = 13 then n.setAttended t true tk
  else if c.op = 14 then n.setAttended t false tk
  else if c.op = 15 then n.answer t tk
  else if c.op = 16 ∨ c.op = 17 then n.enterEs t 1 tk
  else if c.op = 18 then (if (n.area t).es = 0 then n else n.enterEs t 0 tk)
  else if c.op = 0x13 then n.rearm t
  else n

/-- The scheduled actions due at or before the close, by time, then by entry number (R213). -/
def insertDue (e : Nat × OpCmd) : List (Nat × OpCmd) → List (Nat × OpCmd)
  | [] => [e]
  | d :: r => if e.2.when_ < d.2.when_ ∨ (e.2.when_ = d.2.when_ ∧ e.1 ≤ d.1) then e :: d :: r else d :: insertDue e r

/-- R244: the scheduled actions of this close run; one that ran late is counted: it came late, a time step carried the
time past it, or its close was missed (assumption log 145). -/
def Node.runSchedule (n : Node) (tk : Nat) : Node :=
  let due := (n.frame.sched.filter (fun e => decide (e.2.when_ ≤ tk))).foldr insertDue []
  let n := { n with frame := { n.frame with sched := n.frame.sched.filter (fun e => decide (tk < e.2.when_)) } }
  due.foldl (fun n e =>
    let late := e.2.late || decide (e.2.when_ + n.framePeriod + n.framePeriod / 100 < tk)
    let n := if late then n.incSat 0x6000 0x07 else n
    n.opApply tk 5 late e.2) n

/-- The commands served since the last close, in order (R213). -/
def Node.runOps (n : Node) (tk : Nat) : Node :=
  let ops := n.frame.ops
  ops.foldl (fun n c => n.opApply tk 4 false c) { n with frame := { n.frame with ops := [] } }

/-! ## Alarm calls (R246 to R248, R252) -/

/-- Table 8-13: start level and ceiling of a priority. -/
def startLevel (prio : Nat) (attended : Bool) : Nat := if prio = 0 then 3 else if attended then 0 else 1
def ceilingOf (prio : Nat) : Nat := if prio ≤ 1 then 3 else 2

/-- Do call states run (R252)? In BOOT they stay IDLE. -/
def Node.callsRun (n : Node) : Bool := n.curMode != 2

/-- A level is entered; level 1 without a duty engineer passes to level 2 in the same frame. -/
def Node.levelFor (n : Node) (level ceiling : Nat) : Nat :=
  if level = 1 ∧ n.dutyEngineer = 0xFF ∧ 1 < ceiling then 2 else level

/-- R246, Table 8-15: point `p` raises the call of its area with a priority. A running call never falls
to a lower level (assumption log 54). -/
def Node.raiseCall (n : Node) (tk p prio : Nat) : Node :=
  let a := n.po p 0x11
  let x := n.area a
  let start := startLevel prio x.attended
  let ceil := ceilingOf prio
  let x := { x with silenced := false, point := p, prio := prio }
  if x.call = 0 then
    (n.setArea a { x with call := 1, ceiling := ceil, level := n.levelFor start ceil, count := 0, since := n.now, clears := 0 }).callChanged a tk
  else if x.call = 2 then
    let c := max ceil x.ceiling
    (n.setArea a { x with call := 1, ceiling := c, level := n.levelFor start c, count := 0, since := n.now }).callChanged a tk
  else if x.level < start ∨ x.ceiling < ceil then
    let c := max ceil x.ceiling
    (n.setArea a { x with ceiling := c, level := n.levelFor (max x.level start) c, count := 0, since := n.now }).callChanged a tk
  else n.setArea a x

/-- The points that raised a call in this frame, from its records (R246). -/
def Node.raisersOf (n : Node) (recs : List Rec) : List (Nat × Nat) :=
  recs.filterMap (fun r =>
    let cause := r.detail / 16
    if r.point < 16384 ∧ r.prio ≤ 2 ∧ (cause = 0 ∨ cause = 4 ∨ cause = 5) ∧ (r.state = 1 ∨ (r.state = 7 ∧ (n.pt r.point).faultUnack))
    then some (r.point, r.prio) else none)

/-- The timer of a level in frames; none at the ceiling and at level 3. -/
def Node.levelFrames (n : Node) (a : Nat) : Option Nat :=
  let x := n.area a
  if x.ceiling ≤ x.level then none
  else if x.level = 0 then some (n.seconds (n.ao a 0x08))
  else if x.level = 1 then some (n.seconds (n.ao a 0x09))
  else if x.level = 2 then some (n.seconds (n.ao a 0x0A))
  else none

/-- Has a timer of `k` frames run, by the frames counted or by the time since it began (log 51)? -/
def Node.timerDue (n : Node) (k count since : Nat) : Bool := decide (k ≤ count) || decide (since + k * n.framePeriod ≤ n.now)

/-- CALL_ESCALATION (R248, R251): the alarm call, or the engineer-safety call, of an area rises. -/
def Node.escalate (n : Node) (a tk : Nat) (due : Nat → Nat → Nat → Bool) : Node :=
  let x := n.area a
  let n :=
    match n.levelFrames a with
    | some k => if x.call = 1 && due k x.count x.since then
        (n.setArea a { x with level := n.levelFor (x.level + 1) x.ceiling, count := 0, since := n.now }).callChanged a tk else n
    | none => n
  let y := n.area a
  if y.esCall = some 2 && due (n.seconds (n.ao a 0x0A)) y.esCallCount y.esCallAt then
    (n.setArea a { y with esCall := some 3, esCallCount := 0, esCallAt := n.now }).esCallChanged a 0 3 tk
  else n

/-- ANSWER_TIMEOUT (R248): while some point still raises the call, it runs again one level up. -/
def Node.answerTimeout (n : Node) (a tk : Nat) (due : Nat → Nat → Nat → Bool) : Node :=
  let x := n.area a
  if x.call = 2 && due (n.seconds (n.ao a 0x0B)) x.count x.since && n.raising a != [] then
    (n.setArea a { x with call := 1, level := n.levelFor (min (x.level + 1) x.ceiling) x.ceiling, count := 0, since := n.now }).callChanged a tk
  else n

/-- R248: no point of the area awaits acknowledgement in a state that raises a call: the call ends. -/
def Node.callEnd (n : Node) (a tk : Nat) : Node :=
  let x := n.area a
  if x.call ≠ 0 ∧ n.raising a = [] then (n.setArea a { x with call := 0, clears := 2 }).callChanged a tk else n

/-- TRANSFER_TIMEOUT (R239). -/
def Node.transferTimeout (n : Node) (a : Nat) (due : Nat → Nat → Nat → Bool) : Node :=
  let x := n.area a
  if x.offer.isSome && due (n.seconds (n.ao a 0x07)) x.offerCount x.offerAt then n.setArea a { x with offer := none } else n

/-- ES_PREWARN and ES_EXPIRED (R251). -/
def Node.esPrewarn (n : Node) (a tk : Nat) (due : Nat → Nat → Nat → Bool) : Node :=
  let x := n.area a
  if x.es = 1 && due (n.seconds (n.ao a 0x11 - n.ao a 0x12)) x.esCount x.esAt then n.enterEs a 2 tk else n
def Node.esExpired (n : Node) (a tk : Nat) (due : Nat → Nat → Nat → Bool) : Node :=
  let x := n.area a
  if x.es = 2 && due (n.seconds (n.ao a 0x11)) x.esCount x.esAt then n.enterEs a 3 tk else n

/-- CALL_MESSAGE_REPEAT (R248): the message of a call in progress every 2 s, the cleared message three
times in all. -/
def Node.callRepeat (n : Node) (a : Nat) : Node :=
  let x := n.area a
  let n :=
    if x.repAt + sec 2 ≤ n.now ∧ (x.call ≠ 0 ∨ 0 < x.clears) then
      let rep := (x.rep + 1) % 256
      (n.setArea a { x with rep := rep, repAt := x.repAt + sec 2, clears := if x.call = 0 then x.clears - 1 else x.clears }).callMessage a 0
        (if x.call = 0 then 2 else x.call - 1) x.level (if x.call = 0 then x.prio else n.callPrio a) rep x.point x.changedAt
    else n
  let y := n.area a
  if y.esRepAt + sec 2 ≤ n.now ∧ (y.esCall.isSome ∨ 0 < y.esClears) then
    let rep := (y.esRep + 1) % 256
    (n.setArea a { y with esRep := rep, esRepAt := y.esRepAt + sec 2, esClears := if y.esCall.isNone then y.esClears - 1 else y.esClears }).esMessage a
      (if y.esCall.isNone then 2 else 0) (y.esCall.getD 3) rep y.esChangedAt
  else n

/-- REMOTE_STALE (R240): no responsibility records of the area master for 3 s. -/
def Node.remoteStale (n : Node) (a : Nat) : Node :=
  let x := n.area a
  if !n.isAreaMaster a && decide (x.heardAt + sec 3 ≤ n.now) then n.setArea a { x with remoteStale := true } else n

/-- One more frame on every timer of an area that runs; `k` frames after missed ones (R215). -/
def areaTick (k : Nat) (x : AreaSt) : AreaSt :=
  { x with
    offerCount := if x.offer.isSome then x.offerCount + k else x.offerCount
    count := if x.call ≠ 0 then x.count + k else x.count
    esCount := if x.es ≠ 0 then x.esCount + k else x.esCount
    esCallCount := if x.esCall.isSome then x.esCallCount + k else x.esCallCount }

/-- One more frame on the timers of every area, before the frame's commands: a state that a command enters in
frame k counts from frame k + 1 (R248). -/
def Node.areasTick (n : Node) : Node := (List.range 8).foldl (fun n a => n.setArea a (areaTick 1 (n.area a))) n

/-- The areas and calls of a frame (R213): timers, raises, ends and escalation. -/
def Node.areasStep (n : Node) (tk : Nat) : Node :=
  let due := fun (k count _ : Nat) => decide (k ≤ count)
  let n := (List.range 8).foldl (fun n a =>
    ((n.transferTimeout a due).esPrewarn a tk due).esExpired a tk due) n
  let n := if n.callsRun then (n.raisersOf n.frame.recs).foldl (fun n e => n.raiseCall tk e.1 e.2) n else n
  (List.range 8).foldl (fun n a =>
    if n.callsRun then ((((n.callEnd a tk).escalate a tk due).answerTimeout a tk due).callRepeat a).remoteStale a else n.remoteStale a) n

/-- R31: on leaving BOOT, or COMMISSION with calls held, every point that raises a call raises it anew. -/
def Node.raiseAll (n : Node) (tk : Nat) : Node :=
  let n := (List.range 8).foldl (fun n a => n.setArea a { n.area a with call := 0, level := 0, count := 0 }) n
  ((List.range 8).map n.raising).flatten.foldl (fun n e => n.raiseCall tk e.1 e.2) n

/-! ## What calls ask of the annunciators (R249, R251, R252) -/

/-- A flashing beacon is on in the first half of each TAI second. -/
def flashOn (tai : Nat) : Bool := decide (tai % sec 1 < ms 500)

/-- R249: the beacon of a priority in an area. -/
def Node.beacon (n : Node) (a prio tk : Nat) : Bool :=
  let mine := n.pointsInUse.filter (fun p => n.po p 0x11 == a)
  let st := fun p => n.pt p
  let pr := fun p => let s := st p; if s.st = 7 then n.faultPrio p else if s.cond = 0 then s.prio else n.condPrio p s.cond
  if mine.any (fun p => pr p == prio && awaitsAck (st p)) then flashOn tk
  else mine.any (fun p => pr p == prio && ((st p).st == 2 || ((st p).st == 7 && !(st p).faultUnack)))

/-- The demand of a CALL annunciator from one area. -/
def Node.areaDemand (n : Node) (a b tk : Nat) : Bool :=
  let x := n.area a
  (bit (n.ao a 0x0C) b && n.raising a != [] && !x.silenced)
    || (List.range 4).any (fun pr => bit (n.ao a 0x0D) (32 * pr + b) && n.beacon a pr tk)
    || (bit (n.ao a 0x14) b && ((x.es == 2 && flashOn tk) || x.es == 3))

/-- R252: may calls switch annunciators now? -/
def Node.callsSwitch (n : Node) : Bool := if n.curMode = 2 then false else if n.curMode = 3 then n.ob 0x1010 0x05 else true

/-- The demand of a CALL annunciator. -/
def Node.callDemand (n : Node) (b tk : Nat) : Bool := n.callsSwitch && (List.range 8).any (fun a => n.areaDemand a b tk)

end Sys2Proof.Machine
end

