-- ==== Sys2Proof/Machine/Loops.lean ====
section
/-!
DEFINITION. Machine/Loops.lean: loop outputs, their slew limiter and conditions, and the FSK modem
(chapter 09, R259 to R268, R274 to R278).
-/
namespace Sys2Proof.Machine

def loopIdx (i : Nat) : Nat := 0x7000 + 0x10 * i
def fskIdx (i : Nat) : Nat := 0x7001 + 0x10 * i
def Node.loop (n : Node) (i : Nat) : LoopSt := mapGet n.loops i {}
def Node.setLoop (n : Node) (i : Nat) (x : LoopSt) : Node := { n with loops := mapPut n.loops i x }
def Node.lo (n : Node) (i sub : Nat) : Nat := n.o (loopIdx i) sub

/-- R419, Table 15-6: is loop output `i`, or annunciator `i`, isolated (0x2200.15)? -/
def Node.loopIsolated (n : Node) (i : Nat) : Bool := bit (n.o 0x2200 0x15) (18 + i)
def Node.annIsolated (n : Node) (i : Nat) : Bool := bit (n.o 0x2200 0x15) (34 + i)

/-- Is the stage driving: enabled under R329, with a function, and not isolated? -/
def Node.loopDrives (n : Node) (i : Nat) : Bool :=
  n.stages && (n.lo i 0x01 == 1 || n.lo i 0x01 == 2) && !n.loopIsolated i

/-! ## Targets (R261, R262, R274) -/

/-- The code that p rounds to: the stage is driven with round(p). -/
def presentCode (p : Nat) : Nat := (p + 2 ^ 31) / 2 ^ 32

/-- A current in mA as a code, rounded to the nearest. -/
def codeOf (ma : Rat) : Nat := (roundNear (ma * 2500)).toNat

/-- R262, source 1: the target that a point asks for, and whether it was clamped. -/
def Node.pointTarget (n : Node) (i : Nat) : Nat × Bool :=
  let p := n.lo i 0x05
  let v0 := n.of32 0 (loopIdx i) 0x06
  let v1 := n.of32 0 (loopIdx i) 0x07
  let s := n.pt p
  if p = 0xFFFF ∨ !n.pointUsed p ∨ faultQ s.pubQ ∨ nan32 s.pubV ∨ v0 = v1 then
    let d := n.lo i 0x09
    (if d = 0 then 9000 else if d = 1 then 52500 else (n.loop i).target, false)
  else
    let x := 4 + 16 * (q32 s.pubV - v0) / (v1 - v0)
    let y := if n.lo i 0x08 = 1 then rclamp x (19 / 5) (41 / 2) else rclamp x 4 20
    (codeOf y, decide (x ≠ y))

/-- R262, R274: the target of the source, the start value before the first of it has come. -/
def Node.sourceTarget (n : Node) (i : Nat) : Nat × Bool :=
  if n.lo i 0x04 = 1 then n.pointTarget i
  else if (n.loop i).begun then (n.lo i 0x03, false) else (n.lo i 0x0C, false)

/-- Table 9-8: one loop output takes its target from a frame boundary on. `writes` marks that a set-point
was written since start. -/
def Node.loopFrame (n : Node) (i : Nat) : Node :=
  let x := n.loop i
  let m := n.curMode
  if m = 2 then n.setLoop i { x with p := 0, target := 0, hold := false, clamped := false }
  else
    let x := if n.lo i 0x04 = 1 then { x with begun := true } else x
    let n := n.setLoop i x
    let (t, cl) := n.sourceTarget i
    if m ≠ 7 ∧ bit (n.o 0x1010 0x04) 2 then n.setLoop i { x with hold := true }
    else if m = 3 ∧ n.lo i 0x0D = 0 then n.setLoop i { x with target := n.lo i 0x0E, hold := false, clamped := false }
    else if m = 7 then
      if n.lo i 0x0F = 0 then n.setLoop i { x with hold := true, clamped := false }
      else n.setLoop i { x with target := n.lo i 0x10, hold := false, clamped := false }
    else n.setLoop i { x with target := t, hold := false, clamped := cl }

def Node.loopsFrame (n : Node) : Node := (List.range 16).foldl (fun n i => n.loopFrame i) n

/-! ## The slew limiter (R264) -/

/-- A rate in mA/s as a step per 10 µs tick, in units of 2^-32 code; the part below is cut (log 55). -/
def tickStep (rate : Rat) : Nat := (rate * 2 ^ 32 / 40).floor.toNat

/-- R264: one tick of one limiter. -/
def limiterStep (up down : Rat) (target p : Nat) : Nat :=
  let t := target * 2 ^ 32
  if p < t then (if up = 0 then t else min t (p + tickStep up))
  else if t < p then (if down = 0 then t else max t (p - tickStep down))
  else p

/-- R268: a transmission ends when the stage goes high impedance or p falls below 1 mA. -/
def Node.fskCheck (n : Node) (i : Nat) : Node :=
  if bit (n.o (fskIdx i) 0x03) 1 && (!n.loopDrives i || decide ((n.loop i).p < 2500 * 2 ^ 32)) then
    let n := (n.setBitI 0 (fskIdx i) 0x03 1 false).setBitI 0 (fskIdx i) 0x03 5 true
    n.setLoop i { n.loop i with sending := 0 }
  else n

/-- LIMITER_TICK (R264): every limiter takes one step. -/
def Node.limiterTick (n : Node) : Node :=
  (List.range 16).foldl (fun n i =>
    let x := n.loop i
    if x.hold then n
    else (n.setLoop i { x with p := limiterStep (n.of32 0 (loopIdx i) 0x0A) (n.of32 0 (loopIdx i) 0x0B) x.target x.p }).fskCheck i) n

/-! ## Conditions (R265, Table 9-2) -/

/-- LOOP_CONDITION_SET: OPEN or SHORT has held for 10 ms on a driving stage. OPEN asks for a target of at
least 1 mA; in SOURCE it also shows COMPLIANCE. -/
def Node.loopSet (n : Node) (i : Nat) (short : Bool) : Node :=
  let b := if short then 1 else 0
  if !n.loopDrives i || bit (n.lo i 0x15) b || (!short && decide ((n.loop i).target < 2500)) then n
  else
    let n := n.setBitI 0 (loopIdx i) 0x15 b true
    let n := if !short && n.lo i 0x01 == 1 then n.setBitI 0 (loopIdx i) 0x15 2 true else n
    ((n.incSat (loopIdx i) (if short then 0x17 else 0x16)).event (0x0200 + i)).fault (0x070 + i) (if short then 0x41 else 0x40) 0 0

/-- LOOP_CONDITION_CLEAR: absent for 100 ms; condition 0 is OPEN, 1 SHORT, 2 SUPPLY_LOW of the group, which
clears above 17 V. -/
def Node.loopClear (n : Node) (i cond mv : Nat) : Node :=
  if cond = 0 then (n.setBitI 0 (loopIdx i) 0x15 0 false).setBitI 0 (loopIdx i) 0x15 2 false
  else if cond = 1 then n.setBitI 0 (loopIdx i) 0x15 1 false
  else if 17000 < mv then
    (List.range 4).foldl (fun n k =>
      let j := 4 * (i / 4) + k
      (n.setBitI 0 (loopIdx j) 0x15 6 false).setF 0 (loopIdx j) 0x18 (ratio mv 1000)) n
  else n

/-- LOOP_SUPPLY_LOW: AFSg below 16 V for 10 ms; one event and one message for the group. -/
def Node.loopSupplyLow (n : Node) (g mv : Nat) : Node :=
  if 16000 ≤ mv ∨ bit (n.lo (4 * g) 0x15) 6 then n else
  let n := (List.range 4).foldl (fun n k =>
    (n.setBitI 0 (loopIdx (4 * g + k)) 0x15 6 true).setF 0 (loopIdx (4 * g + k)) 0x18 (ratio mv 1000)) n
  (n.event (0x022C + g)).fault (0x09C + g) 0x44 0 mv

/-! ## FSK (R266 to R268) -/

/-- R268: the code that a transmit write gets beyond the common checks: mode, resource, readiness. -/
def Node.transmitCode (n : Node) (i : Nat) (data : List Byte) : Nat :=
  let count := fieldLE data 0 2
  if count = 0 ∨ 256 < count then 0x0606
  else if n.curMode = 5 ∨ n.lo i 0x01 = 0 then 0x0605
  else if n.lo i 0x11 = 0 then 0x060A
  else if bit (n.o (fskIdx i) 0x03) 1 ∨ bit (n.o (fskIdx i) 0x03) 2 ∨ (n.loop i).p < 2500 * 2 ^ 32 then 0x0608
  else 0

/-- An accepted transmit write keys the carrier on; with a stage that is high impedance it is aborted. -/
def Node.transmit (n : Node) (i : Nat) (data : List Byte) : Node :=
  ((n.setBitI 0 (fskIdx i) 0x03 1 true).setLoop i { n.loop i with sending := fieldLE data 0 2 }).fskCheck i

/-- TRANSMIT_DONE: the last stop bit is sent. -/
def Node.transmitDone (n : Node) (i : Nat) : Node :=
  if bit (n.o (fskIdx i) 0x03) 1 then
    let k := (n.loop i).sending
    ((n.setBitI 0 (fskIdx i) 0x03 1 false).incWrapI 32 0 (fskIdx i) 0x04 k).setLoop i { n.loop i with sending := 0 }
  else n

/-- CHARACTER_RECEIVED (R267): muted while its own modulator sends. -/
def Node.charReceived (n : Node) (i : Nat) (c : Byte) (parityOk : Bool) : Node :=
  if bit (n.o (fskIdx i) 0x03) 1 then n
  else if 256 ≤ (n.loop i).fifo.length then n.setBitI 0 (fskIdx i) 0x03 3 true
  else
    let n := n.setLoop i { n.loop i with fifo := (n.loop i).fifo ++ [c] }
    let n := if parityOk then n else n.setBitI 0 (fskIdx i) 0x03 4 true
    (n.incWrapI 32 0 (fskIdx i) 0x05 1).event (0x0234 + i)

/-- R267: what a read of the receive object returns, and the FIFO after it. -/
def Node.receiveData (n : Node) (i : Nat) : List Byte :=
  let f := (n.loop i).fifo
  padTo 260 (toLE 2 f.length ++ zeros 2 ++ f)
def Node.receiveTaken (n : Node) (i : Nat) : Node := n.setLoop i { n.loop i with fifo := [] }

/-- CARRIER_CHANGE (R267): above 120 mV CARRIER is set, below 80 mV it is clear; between them the spec
leaves it open, and the bit takes a free value (assumption log 56). -/
def Node.carrier (n : Node) (i mvpp : Nat) : Node :=
  if bit (n.o (fskIdx i) 0x03) 1 then n
  else if 120 < mvpp then n.setBitI 0 (fskIdx i) 0x03 2 true
  else if mvpp < 80 then n.setBitI 0 (fskIdx i) 0x03 2 false
  else
    let (x, n) := n.draw
    n.setBitI 0 (fskIdx i) 0x03 2 (x % 2 == 1)

/-- A written set-point counts as the first from then on (R274). -/
def Node.setpointWritten (n : Node) (i : Nat) : Node := n.setLoop i { n.loop i with begun := true }

/-! ## Commands -/

/-- LOOP_CONDITION_SET (R265). -/
def execLoopConditionSet (dt : Nat) (n : Fin 16) (short : Bool) (s : State) := act dt s fun x => x.whenUp fun x => x.loopSet n short
/-- LOOP_CONDITION_CLEAR (R265). -/
def execLoopConditionClear (dt : Nat) (n : Fin 16) (cond : Fin 3) (mv : Nat) (s : State) := act dt s fun x =>
  x.whenUp fun x => x.loopClear n cond mv
/-- LOOP_SUPPLY_LOW (R265). -/
def execLoopSupplyLow (dt : Nat) (g : Fin 4) (mv : Nat) (s : State) := act dt s fun x => x.whenUp fun x => x.loopSupplyLow g mv
/-- TRANSMIT_DONE (R266). -/
def execTransmitDone (dt : Nat) (n : Fin 16) (s : State) := act dt s fun x => x.whenUp fun x => x.transmitDone n
/-- CHARACTER_RECEIVED (R267). -/
def execCharacterReceived (dt : Nat) (n : Fin 16) (ch : Byte) (parityOk : Bool) (s : State) := act dt s fun x =>
  x.whenUp fun x => x.charReceived n ch parityOk
/-- CARRIER_CHANGE (R267). -/
def execCarrierChange (dt : Nat) (n : Fin 16) (mvpp : Nat) (s : State) := act dt s fun x => x.whenUp fun x => x.carrier n mvpp

end Sys2Proof.Machine
end

