-- ==== Sys2Proof/Machine/Annun.lean ====
section
/-!
DEFINITION. Machine/Annun.lean: the annunciator drivers, their groups, repeat outputs and compare pulses
(chapter 09, R269 to R277; R167, R168, R193).
-/
namespace Sys2Proof.Machine

def Node.ann (n : Node) (b : Nat) : AnnSt := mapGet n.anns b {}
def Node.setAnn (n : Node) (b : Nat) (x : AnnSt) : Node := { n with anns := mapPut n.anns b x }
def Node.an (n : Node) (b sub : Nat) : Nat := n.oi b 0x7100 sub
def Node.annGroup (n : Node) (g : Nat) : AnnGroupSt := mapGet n.annGroups g {}
def Node.setAnnGroup (n : Node) (g : Nat) (x : AnnGroupSt) : Node := { n with annGroups := mapPut n.annGroups g x }
/-- The state of Table 9-5, and its bits of Table 9-16. -/
def Node.annState (n : Node) (b : Nat) : Nat := n.an b 0x0F
def Node.setAnnBit (n : Node) (b i : Nat) (v : Bool) : Node := n.setBitI b 0x7100 0x10 i v

/-- A state is entered with what it means for GATE, LATCHED and the timers. -/
def Node.enterAnn (n : Node) (b st : Nat) : Node :=
  let x := n.ann b
  let n := n.setAnn b { x with
    blankAt := if st = 1 then n.now else x.blankAt
    onAt := if st = 2 then n.now else x.onAt
    waitAt := if st = 3 then n.now else x.waitAt }
  let n := ((n.setI b 0x7100 0x0F st).setAnnBit b 0 (st == 1 || st == 2)).setAnnBit b 4 (st == 4)
  if st = 4 then n else n.setAnnBit b 5 false

/-! ## Demand (R269, R274) -/

/-- The demand of an annunciator's function (Table 9-3). -/
def Node.functionDemand (n : Node) (b : Nat) : Bool :=
  let f := n.an b 0x02
  let x := n.ann b
  if f = 1 then n.obi b 0x7100 0x04
  else if f = 2 then x.call && n.callsSwitch
  else if f = 3 then decide (0 < x.waveOn) && decide (n.now < x.waveAt + x.waveOn)
  else if f = 4 then decide (n.now < mapGet n.pulses b 0)
  else false

/-- Table 9-8: the demand in the present mode. -/
def Node.annDemand (n : Node) (b : Nat) : Bool :=
  let f := n.an b 0x02
  let m := n.curMode
  let d := n.functionDemand b
  if f = 0 ∨ m = 2 then false
  else if f = 3 ∧ bit (n.o 0x1010 0x04) 3 then false
  else if f = 1 ∨ f = 4 then
    if m = 3 then (let c := n.an b 0x0D; if c = 0 then false else if c = 1 then true else d)
    else if m = 7 then (let c := n.an b 0x0E; if c = 0 then false else if c = 1 then true else (n.ann b).safeHold)
    else d
  else d

/-- Table 9-6: the changes that demand, ownership and supply make. -/
def Node.annRefresh (n : Node) (b : Nat) : Node :=
  let st := n.annState b
  let on := n.annDemand b
  let low := (n.annGroup (b / 8)).low
  if !n.stages then (if st = 5 then n else n.enterAnn b 5)
  else if st = 5 then n.enterAnn b (if n.annIsolated b then 4 else if low then 6 else if on then 1 else 0)
  else if st = 0 then (if on then n.enterAnn b 1 else n)
  else if st = 1 ∨ st = 2 then (if on then n else n.enterAnn b 0)
  else n

def Node.annRefreshAll (n : Node) : Node := (List.range 24).foldl (fun n b => n.annRefresh b) n

/-- From RESTART_WAIT, LATCHED or SUPPLY_LOW by demand; while the supply is low it is SUPPLY_LOW. -/
def Node.annByDemand (n : Node) (b : Nat) : Node :=
  n.enterAnn b (if (n.annGroup (b / 8)).low then 6 else if n.annDemand b then 1 else 0)

/-! ## Failures and groups (R270 to R272) -/

/-- R272: the outputs of group `g` in LATCHED. -/
def Node.latchedOf (n : Node) (g : Nat) : List Nat := ((List.range 8).map (· + 8 * g)).filter (fun b => n.annState b == 4)

/-- R271: a failure is recorded and reported. -/
def Node.annFailure (n : Node) (b : Nat) (hard : Bool) : Node :=
  let n := n.setAnn b { n.ann b with fails := (n.ann b).fails + 1 }
  let n := (n.setAnnBit b (if hard then 2 else 1) true).incSatI 32 b 0x7100 (if hard then 0x12 else 0x11) 1
  let n := (n.setI b 0x7100 0x13 (n.copy isleFrame)).event (0x0210 + b)
  n.fault (0x080 + b) (if hard then 0x43 else 0x42) 0 0

/-- R271: where a failure leads by the retry limit. -/
def Node.annRetry (n : Node) (b : Nat) : Node := n.enterAnn b (if (n.ann b).fails ≤ n.an b 0x0B then 3 else 4)

/-- R272: a group latch: both outputs enter LATCHED with GROUP_LATCH; pending restart slots are cancelled. -/
def Node.groupLatch (n : Node) (g a b : Nat) : Node :=
  let put := fun (n : Node) (c : Nat) => (if n.annState c = 4 then n else n.enterAnn c 4).setAnnBit c 5 true
  let n := put (put n a) b
  let n := (n.setI g 0x7100 0x21 1).incSatI 32 g 0x7100 0x25 1
  let n := n.setAnnGroup g { n.annGroup g with short := none, latchedAt := n.now, slots := [] }
  (n.event (0x0228 + g)).fault (0x098 + g) 0x45 0 (2 ^ a ||| 2 ^ b)

/-- HARD_SHORT (R270 to R272). -/
def Node.hardShort (n : Node) (b : Nat) : Node :=
  if n.annState b ≠ 1 ∧ n.annState b ≠ 2 then n else
  let g := b / 8
  let n := n.annFailure b true
  let x := n.annGroup g
  let n := n.setAnnGroup g { x with short := some (b, n.now) }
  if n.oi g 0x7100 0x21 = 1 then (n.enterAnn b 4).setAnnBit b 5 true
  else match x.short with
    | some (c, t) => if c ≠ b ∧ n.now ≤ t + us 100 then n.groupLatch g c b else n.annRetry b
    | none => n.annRetry b

/-- SOFT_OVERCURRENT (R270): only in ON. -/
def Node.softTrip (n : Node) (b : Nat) : Node := if n.annState b = 2 then (n.annFailure b false).annRetry b else n

/-- OPEN_LOAD (R270): ANnn_S for 100 ms in the off state; below 1.0 V sets it, and a load present clears it. -/
def Node.openLoad (n : Node) (b mv : Nat) : Node :=
  if n.annState b = 0 ∧ n.obi b 0x7100 0x0C then
    if mv < 1000 then (if bit (n.an b 0x10) 3 then n else (n.setAnnBit b 3 true).event (0x0210 + b))
    else n.setAnnBit b 3 false
  else n

/-- One latched output is released into its restart slot. -/
def Node.slotRelease (n : Node) (b : Nat) : Node :=
  if n.annState b = 4 then (n.setAnn b { n.ann b with fails := 0 }).annByDemand b else n

/-- RESTART_SLOT (R272): the next slot; after the last the group is NORMAL. -/
def Node.restartSlot (n : Node) (g : Nat) : Node :=
  if n.oi g 0x7100 0x21 = 2 then
    let x := n.annGroup g
    match x.slots with
    | [] => n.setI g 0x7100 0x21 0
    | b :: r =>
      let n := (n.setAnnGroup g { x with slots := r, slotAt := x.slotAt + ms 1 }).slotRelease b
      if r = [] then n.setI g 0x7100 0x21 0 else n
  else n

/-- R272: a latched group enters RESTARTING; its first slot is at the release. -/
def Node.groupRestart (n : Node) (g : Nat) : Node :=
  if n.oi g 0x7100 0x21 = 1 then
    let slots := (n.latchedOf g).filter (fun b => !n.annIsolated b)
    ((n.setI g 0x7100 0x21 2).setAnnGroup g { n.annGroup g with slots := slots, slotAt := n.now, short := none }).restartSlot g
  else n

/-- R271: a write of 1 to LATCHED. -/
def Node.annRelease (n : Node) (b : Nat) : Node :=
  if n.annState b = 4 then (n.setAnn b { n.ann b with fails := 0 }).annByDemand b else n

/-- ANNUNCIATOR_SUPPLY_LOW (R271): the group's annunciators but those in HIGH_Z and LATCHED. -/
def Node.annSupplyLow (n : Node) (g mv : Nat) : Node :=
  if 16000 ≤ mv ∨ (n.annGroup g).low then n else
  let n := (n.setAnnGroup g { n.annGroup g with low := true }).setF g 0x7100 0x24 (ratio mv 1000)
  let n := (List.range 8).foldl (fun n i =>
    let b := 8 * g + i
    let n := n.setAnnBit b 6 true
    if n.annState b = 5 ∨ n.annState b = 4 then n else n.enterAnn b 6) n
  (n.event (0x0230 + g)).fault (0x098 + g) 0x44 0 mv

/-- ANNUNCIATOR_SUPPLY_RESTORED (R271): above 17 V. -/
def Node.annSupplyBack (n : Node) (g mv : Nat) : Node :=
  if 17000 < mv ∧ (n.annGroup g).low then
    let n := (n.setAnnGroup g { n.annGroup g with low := false }).setF g 0x7100 0x24 (ratio mv 1000)
    (List.range 8).foldl (fun n i =>
      let b := 8 * g + i
      let n := n.setAnnBit b 6 false
      if n.annState b = 6 then n.annByDemand b else n) n
  else n

/-! ## Repeat outputs (R167, R168, R273) -/

def Node.rp (n : Node) (b sub : Nat) : Nat := n.oi b 0x7200 sub
def Node.rpf (n : Node) (b sub : Nat) : Rat := n.of32 b 0x7200 sub

/-- R167: the frequency and duty that the source point asks for. -/
def Node.repeatCompute (n : Node) (b : Nat) : Node :=
  if n.an b 0x02 ≠ 3 then n else
  let p := n.rp b 0x02
  let s := n.pt p
  let v0 := n.rpf b 0x04
  let v1 := n.rpf b 0x05
  let freq := n.rp b 0x03 == 0
  let x := n.ann b
  if p = 0xFFFF ∨ !n.pointUsed p ∨ faultQ s.pubQ ∨ nan32 s.pubV ∨ v0 = v1 then
    let a := n.rp b 0x0A
    if a = 0 then n
    else if a = 1 then n.setAnn b { x with nextFreq := if freq then 0 else n.rpf b 0x07, nextDuty := 0 }
    else n.setAnn b { x with
      nextFreq := if freq then n.rpf b 0x0B else n.rpf b 0x07
      nextDuty := if freq then 1 / 2 else n.rpf b 0x0C }
  else
    let y := rclamp ((q32 s.pubV - v0) / (v1 - v0)) 0 1
    if freq then
      let f := y * n.rpf b 0x06
      n.setAnn b { x with nextFreq := if f < 1 / 10 then 0 else f, nextDuty := 1 / 2 }
    else n.setAnn b { x with nextFreq := n.rpf b 0x07, nextDuty := n.rpf b 0x08 + y * (n.rpf b 0x09 - n.rpf b 0x08) }

/-- R168, R273: a period begins now with the values computed; on or off times below 5 µs are not made. -/
def Node.periodStart (n : Node) (b : Nat) : Node :=
  let x := n.ann b
  let len : Nat := if x.nextFreq ≤ 0 then 0 else (1000000000 / x.nextFreq).floor.toNat
  let on : Nat := ((len : Rat) * x.nextDuty).floor.toNat
  let on := if on < us 5 then 0 else if len - on < us 5 then len else on
  let n := n.setAnn b { x with waveAt := n.now, waveOn := on, waveLen := len }
  let pw := n.rp b 0x03 == 1
  ((n.setF b 0x7200 0x0D x.nextFreq).setF b 0x7200 0x0E (if pw then x.nextDuty else if len = 0 then 0 else 1 / 2)).annRefresh b

/-- R167, R168 at a frame boundary: an output that stands at frequency 0 starts at once. -/
def Node.repeatFrame (n : Node) : Node :=
  (List.range 24).foldl (fun n b =>
    let n := n.repeatCompute b
    let x := n.ann b
    if n.an b 0x02 = 3 ∧ x.waveLen = 0 ∧ 0 < x.nextFreq then n.periodStart b else n) n

/-- The call demands of a close, and every annunciator against its demand. -/
def Node.annFrame (n : Node) (tk : Nat) : Node :=
  ((List.range 24).foldl (fun n b => if n.an b 0x02 = 2 then n.setAnn b { n.ann b with call := n.callDemand b tk } else n) n).annRefreshAll

/-! ## Ownership (R276, R277, R329) -/

/-- R276: the stage enables fall: every stage goes high impedance and a transmission is aborted. -/
def Node.stageDisable (n : Node) : Node :=
  let n := ({ n with stages := false }).annRefreshAll
  (List.range 16).foldl (fun n i => n.fskCheck i) n

/-- R277: the stage enables rise: loops drive at the present p, annunciators start by demand. -/
def Node.stageEnable (n : Node) : Node := ({ n with stages := true }).annRefreshAll

/-- Table 9-8, SAFE: the on or off state that a held annunciator keeps. -/
def Node.holdSafe (n : Node) : Node :=
  (List.range 24).foldl (fun n b => n.setAnn b { n.ann b with safeHold := n.annDemand b }) n

/-! ## Commands -/

/-- REPEAT_PERIOD_END (R168). -/
def execRepeatPeriodEnd (dt : Nat) (a : Fin 24) (s : State) := act dt s fun n => n.whenUp fun n =>
  if n.an a 0x02 = 3 ∧ 0 < (n.ann a).waveLen ∧ (n.ann a).waveAt + (n.ann a).waveLen ≤ n.now then n.periodStart a else n
/-- COMPARE_FIRE (R193): an entry acts, and its annunciator follows. -/
def execCompareFire (dt : Nat) (d : Fin 4) (entry : Fin 1024) (s : State) := act dt s fun n => n.whenUp fun n =>
  (n.compareAct d entry).annRefreshAll
/-- COMPARE_PULSE_END (R193). -/
def execComparePulseEnd (dt : Nat) (a : Fin 24) (s : State) := act dt s fun n => n.whenUp fun n =>
  if mapGet n.pulses a 0 ≤ n.now then ({ n with pulses := mapErase n.pulses a }).annRefresh a else n
/-- BLANKING_END (R271). -/
def execBlankingEnd (dt : Nat) (a : Fin 24) (s : State) := act dt s fun n => n.whenUp fun n =>
  if n.annState a = 1 ∧ (n.ann a).blankAt + us (n.an a 0x06) ≤ n.now then n.enterAnn a 2 else n
/-- HARD_SHORT (R270, R272). -/
def execHardShort (dt : Nat) (a : Fin 24) (s : State) := act dt s fun n => n.whenUp fun n => n.hardShort a
/-- SOFT_OVERCURRENT (R270). -/
def execSoftOvercurrent (dt : Nat) (a : Fin 24) (s : State) := act dt s fun n => n.whenUp fun n => n.softTrip a
/-- OPEN_LOAD (R270). -/
def execOpenLoad (dt : Nat) (a : Fin 24) (mv : Nat) (s : State) := act dt s fun n => n.whenUp fun n => n.openLoad a mv
/-- RESTART_DELAY_EXPIRY (R271). -/
def execRestartDelayExpiry (dt : Nat) (a : Fin 24) (s : State) := act dt s fun n => n.whenUp fun n =>
  if n.annState a = 3 ∧ (n.ann a).waitAt + ms (n.an a 0x0A) ≤ n.now then n.annByDemand a else n
/-- FAILURE_COUNT_RESTART (R271): after 1 s in ON. -/
def execFailureCountRestart (dt : Nat) (a : Fin 24) (s : State) := act dt s fun n => n.whenUp fun n =>
  if n.annState a = 2 ∧ (n.ann a).onAt + sec 1 ≤ n.now then n.setAnn a { n.ann a with fails := 0 } else n
/-- AUTOMATIC_RESTART (R272). -/
def execAutomaticRestart (dt : Nat) (g : Fin 3) (s : State) := act dt s fun n => n.whenUp fun n =>
  if n.oi g 0x7100 0x23 ≠ 0 ∧ (n.annGroup g).latchedAt + sec (n.oi g 0x7100 0x23) ≤ n.now then n.groupRestart g else n
/-- RESTART_SLOT (R272). -/
def execRestartSlot (dt : Nat) (g : Fin 3) (s : State) := act dt s fun n => n.whenUp fun n =>
  if (n.annGroup g).slotAt ≤ n.now then n.restartSlot g else n
/-- ANNUNCIATOR_SUPPLY_LOW (R271). -/
def execAnnunciatorSupplyLow (dt : Nat) (g : Fin 3) (mv : Nat) (s : State) := act dt s fun n => n.whenUp fun n => n.annSupplyLow g mv
/-- ANNUNCIATOR_SUPPLY_RESTORED (R271). -/
def execAnnunciatorSupplyRestored (dt : Nat) (g : Fin 3) (mv : Nat) (s : State) := act dt s fun n =>
  n.whenUp fun n => n.annSupplyBack g mv

end Sys2Proof.Machine
end

