-- ==== Sys2Proof/Machine/Can.lean ====
section
/-!
DEFINITION. Machine/Can.lean: the CAN FD controllers (chapter 13): bit timing, states and fault confinement,
filters, transmit buffers, value slots, sleep and wake, roles. Dictionary sessions are in CanSessions.lean.
-/
namespace Sys2Proof.Machine

def Node.canSt (n : Node) (c : Nat) : CanSt := mapGet n.can c {}
def Node.setCan (n : Node) (c : Nat) (x : CanSt) : Node := { n with can := mapPut n.can c x }
def Node.co (n : Node) (c sub : Nat) : Nat := n.oi c 0x3400 sub
/-- 0x3400.16. -/
def Node.canState (n : Node) (c : Nat) : Nat := n.co c 0x16
def Node.setCanBit (n : Node) (c i : Nat) (b : Bool) : Node := n.setBitI c 0x3400 0x17 i b

/-! ## Bit timing (R374) -/

/-- The settings in protocol-clock terms: BRP, TSEG1, TSEG2, SJW of the nominal and of the data phase. -/
def Node.canTiming (n : Node) (c : Nat) : List Nat := [4, 5, 6, 7, 8, 9, 0xA, 0xB].map (n.co c)

/-- Clock periods of one bit: BRP * (1 + TSEG1 + TSEG2). -/
def bitClocks (brp t1 t2 : Nat) : Nat := brp * (1 + t1 + t2)

/-- R374: valid settings. Rates are 80 MHz over the clocks of a bit. -/
def timingValid (t : List Nat) : Bool :=
  let g := fun i => t.getD i 0
  let nom := bitClocks (g 0) (g 1) (g 2)
  let data := bitClocks (g 4) (g 5) (g 6)
  g 3 ≤ g 2 && g 7 ≤ g 6 && 80 ≤ nom && 10 ≤ data && data ≤ nom

/-! ## States (R376, R377) -/

/-- Every pending send and cancel of a controller completes (R377, R381, R383, R384). -/
def Node.canDropSends (n : Node) (c code : Nat) : Node :=
  let x := n.canSt c
  let n := n.setCan c { x with bufs := [], resp := [] }
  x.bufs.foldl (fun n (b : CanBuf) =>
    let n := n.complete { q := b.q, pos := b.pos, status := code }
    b.cancels.foldl (fun n p => n.complete { q := b.q, pos := p, status := 0, len := some 1 }) n) n

/-- Bits 2 to 0 of the status follow the state and the counts. -/
def Node.canFlags (n : Node) (c : Nat) : Node :=
  let st := n.canState c
  let warn := decide (96 ≤ n.co c 0x18) || decide (96 ≤ n.co c 0x19)
  ((n.setCanBit c 2 (st == 4)).setCanBit c 1 (st == 3)).setCanBit c 0 warn

def Node.setCanState (n : Node) (c st : Nat) : Node := (n.setI c 0x3400 0x16 st).canFlags c

/-- R374, R376, R419: an enabled controller leaves DISABLED or reset: INTEGRATING with valid settings (STOPPED while it
is isolated or the CAN function is stopped), else DISABLED with CONFIG set. Its settings in force are those of this instant. -/
def Node.canStart (n : Node) (c : Nat) : Node :=
  let t := n.canTiming c
  let ok := timingValid t
  let n := (n.setCan c { n.canSt c with inReset := false }).setCanBit c 8 (n.obi c 0x3400 0x02 && !ok)
  if n.obi c 0x3400 0x02 && ok then
    (n.setCan c { n.canSt c with timing := t }).setCanState c
      (if bit (n.o 0x1010 0x04) 6 || bit (n.o 0x2200 0x15) (14 + c) then 7 else 1)
  else n.setCanState c 0

/-- The error counts of a controller that starts afresh. -/
def Node.canZero (n : Node) (c : Nat) : Node := (n.setI c 0x3400 0x18 0).setI c 0x3400 0x19 0

/-- Table 2-10: a controller reset ends sessions and discards pending messages; the state is DISABLED until the
controller is ready again (CAN_CONTROLLER_READY). -/
def Node.canReset (n : Node) (c : Nat) : Node :=
  let n := n.canDropSends c 0x0608
  (((n.setCan c { serial := (n.canSt c).serial, inReset := true }).canZero c).setI c 0x3400 0x17 0).setCanState c 0

/-- Table 13-3: all controllers stop (CAN function, 16 ms step of the line-loss sequence). -/
def Node.canStop (n : Node) (c : Nat) : Node :=
  let n := n.canDropSends c 0x0608
  (n.setCan c { n.canSt c with sess := none }).setCanState c 7
def Node.canStopAll (n : Node) : Node := (List.range 4).foldl (fun n c => n.canStop c) n

/-- R21: STOPPED to INTEGRATING on RESUME; a controller that is not enabled goes back to DISABLED. -/
def Node.canRestartAll (n : Node) : Node :=
  (List.range 4).foldl (fun n c => if n.canState c = 7 then n.canStart c else n) n

/-- Is the controller in the role of R384 that listens: STANDBY with .0D at 0? -/
def Node.canListens (n : Node) (c : Nat) : Bool := n.o 0x1010 0x01 == 5 && n.co c 0x0D == 0

/-- R377: the state that the counts ask for; each entry to ERROR_PASSIVE or BUS_OFF raises its event and its
message. `tec` is the exact count. -/
def Node.canConfine (n : Node) (c tec : Nat) : Node :=
  let st := n.canState c
  let addr := n.co c 0x18 + 256 * n.co c 0x19
  if (st = 2 ∨ st = 3) ∧ 255 < tec then
    let n := (n.canDropSends c 0x0608).setCan c { (n.canSt c) with bufs := [], resp := [], recover := false }
    (((n.setCanState c 4).incSatI 32 c 0x3400 0x1D 1).event (0x0300 + c)).fault (0x0A4 + c) 0x69 0 0
  else if st = 2 ∧ (127 < tec ∨ 127 < n.co c 0x19) then
    ((n.setCanState c 3).event (0x0304 + c)).fault (0x0A4 + c) 0x68 0 addr
  else if st = 3 ∧ tec ≤ 127 ∧ n.co c 0x19 ≤ 127 then n.setCanState c 2
  else n.canFlags c

/-- R376, Table 13-3: 11 consecutive recessive bits end INTEGRATING. -/
def Node.canIntegrated (n : Node) (c : Nat) : Node :=
  if n.canState c = 1 then
    if n.canListens c then n.setCanState c 6 else (n.setCanState c 2).canConfine c (n.co c 0x18)
  else n

/-- Table 13-1: a protocol exception: counted, and the controller integrates again. -/
def Node.canException (n : Node) (c : Nat) : Node :=
  if [2, 3, 6].contains (n.canState c) then
    ((n.setCanBit c 7 true).incSatI 32 c 0x3400 0x1E 1).setCanState c 1
  else n

/-- A bus error: LAST_ERROR, and the transmit or receive count by the step ISO 11898-1 gives the error (0, 1
or 8). Kind 7 is a protocol exception. The count of a controller that enters BUS_OFF no longer fits .18: it
is left open there (assumption log 70). -/
def Node.canError (n : Node) (c kind : Nat) (tx : Bool) (step : Nat) : Node :=
  if kind = 7 then n.canException c
  else if n.canState c = 2 ∨ n.canState c = 3 then
    let n := n.setI c 0x3400 0x17 (setBits (n.co c 0x17) 5 3 kind)
    if tx then
      let t := n.co c 0x18 + step
      if t ≤ 255 then (n.setI c 0x3400 0x18 t).canConfine c t
      else let (v, n) := n.draw; (n.setI c 0x3400 0x18 (v % 256)).canConfine c t
    else (n.incSatI 8 c 0x3400 0x19 step).canConfine c (n.co c 0x18)
  else n

/-- Table 13-3: BUS_OFF ends after 128 occurrences of 11 recessive bits, automatically or once commanded; the
counts start at 0 again, as ISO 11898-1 has it. -/
def Node.busOffEnd (n : Node) (c : Nat) : Node :=
  if n.canState c = 4 ∧ (n.co c 0x0F = 0 ∨ (n.canSt c).recover) then
    ((n.setCan c { n.canSt c with recover := false }).canZero c).setCanState c 1
  else n

/-- R376: the recover command; outside BUS_OFF 0x0608. -/
def Node.recoverCode (n : Node) (c v : Nat) : Nat := if v ≠ 1 then 0x0606 else if n.canState c = 4 then 0 else 0x0608
def Node.canRecover (n : Node) (c : Nat) : Node := n.setCan c { n.canSt c with recover := true }

/-! ## Identifiers and filters (R378) -/

/-- The identifier word has its reserved bits clear (Table 13-4). -/
def identOk (w : Nat) : Bool := bit w 30 || bits w 28 11 == 0

/-- R378: does a frame's word match an entry and mask? -/
def identMatch (frame e m : Nat) : Bool := !bit e 31 && bits ((frame ^^^ e) &&& m) 30 0 == 0

/-- A value slot or dictionary identifier matches on IDE and ID, exactly. -/
def identExact (frame e : Nat) : Bool := !bit e 31 && bit frame 30 == bit e 30 && bits frame 28 0 == bits e 28 0

/-- Filter `k` of a controller: identifier word and mask. -/
def Node.filter (n : Node) (c k : Nat) : Nat × Nat :=
  let e := n.co c 0x25 >>> (64 * k)
  (e % 2 ^ 32, (e >>> 32) % 2 ^ 32)
def Node.filterHits (n : Node) (c k frame : Nat) : Bool := identMatch frame (n.filter c k).1 (n.filter c k).2

/-- The lowest matching filter of a range. -/
def Node.filterIn (n : Node) (c lo hi frame : Nat) : Option Nat :=
  ((List.range 64).filter (fun k => decide (lo ≤ k) && decide (k ≤ hi))).find? (fun k => n.filterHits c k frame)

/-! ## Queues (R379 to R381) -/

/-- R379, R380: is a binding of type 3 or 4 one the spec allows? -/
def canBindingOk (type b : Nat) : Bool :=
  bits b 31 26 == 0 &&
  (if type = 3 then bits b 23 6 == 0 else bits b 23 16 == 0 && bits b 7 0 ≤ bits b 15 8 && decide (bits b 15 8 ≤ 63))

/-- Table 13-5. -/
def canDesc (c ident : Nat) (fdf brs esi gap : Bool) (len stamp filter : Nat) : List Byte :=
  padTo 32 (toLE 1 (b2n (bit ident 30) + 2 * b2n (bit ident 29) + 4 * b2n fdf + 8 * b2n brs + 16 * b2n esi)
    ++ toLE 1 (b2n gap) ++ toLE 2 len ++ toLE 4 ident ++ toLE 8 stamp ++ toLE 1 filter ++ toLE 1 c)

/-- R378 step 3: the frame once to every receive queue whose range matches. -/
def Node.canToQueues (n : Node) (c ident : Nat) (fdf brs esi : Bool) (data : List Byte) (stamp : Nat) : Node :=
  (n.queuesOf 4).foldl (fun n q =>
    let b := n.oi q 0x9100 0x0F
    match n.filterIn c (bits b 7 0) (bits b 15 8) ident with
    | some k =>
      if bits b 25 24 = c then
        let before := n.oi q 0x9100 0x0E
        let n := n.deliver q { desc := canDesc c ident fdf brs esi (n.queue q).dropped data.length stamp k, data := data }
        if n.oi q 0x9100 0x0E = before then n.setQueue q { n.queue q with dropped := false } else n
      else n
    | none => n) n

/-- R380: lengths a frame may have. -/
def canLen (l : Nat) : Bool := l ≤ 8 || [12, 16, 20, 24, 32, 48, 64].contains l

/-- R380: the code a send is refused with, 0 where it is taken. `b` is the binding. -/
def Node.sendCode (n : Node) (b len ident aux : Nat) : Nat :=
  let c := bits b 25 24
  let f := n.filter c (bits b 5 0)
  let fdf := bit aux 0
  if bits aux 63 2 ≠ 0 ∨ bit ident 31 ∨ !identOk ident ∨ !identMatch ident f.1 f.2 ∨ !canLen len ∨ (8 < len ∧ !fdf)
      ∨ (bit ident 29 ∧ fdf) ∨ (fdf ∧ n.co c 0x03 = 0) then 0x0606
  else if n.canState c = 6 ∨ n.canListens c then 0x0605
  else if n.canState c = 2 ∨ n.canState c = 3 then 0 else 0x0608

/-- The value by which frames contend: the smaller wins (ISO 11898-1: base identifier, RTR or SRR, IDE, the
extension, RTR). -/
def arbitration (w : Nat) : Nat :=
  if bit w 30 then bits w 28 18 * 2 ^ 21 + 2 ^ 20 + 2 ^ 19 + bits w 17 0 * 2 + b2n (bit w 29)
  else bits w 10 0 * 2 ^ 21 + b2n (bit w 29) * 2 ^ 20

/-- R380: a send is fetched into a transmit buffer, or completes with its refusal. -/
def Node.canFetchSend (n : Node) (q pos tag len ident aux : Nat) (data : List Byte) : Node :=
  let b := n.oi q 0x9100 0x0F
  let code := n.sendCode b len ident aux
  if code ≠ 0 then n.complete { q := q, pos := pos, status := code }
  else
    let c := bits b 25 24
    let x := n.canSt c
    n.setCan c { x with bufs := x.bufs ++
      [{ q := q, pos := pos, tag := tag, ident := ident, fdf := bit aux 0, brs := bit aux 1, data := data }] }

/-- R381: a cancel. `begun` says whether an attempt of that send has begun its arbitration field. -/
def Node.canFetchCancel (n : Node) (q pos aux : Nat) (begun : Bool) : Node :=
  let c := bits (n.oi q 0x9100 0x0F) 25 24
  let x := n.canSt c
  match x.bufs.find? (fun (b : CanBuf) => b.q == q && b.tag == bits aux 31 0) with
  | none => n.complete { q := q, pos := pos, status := 0, len := some 0 }
  | some b =>
    if begun ∨ b.begun then
      n.setCan c { x with bufs := x.bufs.map (fun (y : CanBuf) =>
        if y.q = b.q ∧ y.pos = b.pos then { y with begun := true, cancels := y.cancels ++ [pos] } else y) }
    else
      let n := n.setCan c { x with bufs := x.bufs.filter (fun (y : CanBuf) => !(y.q == b.q && y.pos == b.pos)) }
      (n.complete { q := q, pos := b.pos, status := 0x0608 }).complete { q := q, pos := pos, status := 0, len := some 1 }

/-- Can the engine fetch the head descriptor of a transmit queue: a free buffer, or one it will not need? -/
def Node.canRoom (n : Node) (c opcode : Nat) : Bool := opcode != 1 || decide ((n.canSt c).bufs.length < 32)

/-- The buffer whose frame is on the bus: the one whose attempt has begun, else the lowest arbitration value,
equal values in fetch order. -/
def nextBuf (bufs : List CanBuf) : Option CanBuf :=
  match bufs.find? (fun (b : CanBuf) => b.begun) with
  | some b => some b
  | none =>
    match bufs with
    | [] => none
    | b :: rest => some (rest.foldl (fun (a y : CanBuf) => if arbitration y.ident < arbitration a.ident then y else a) b)

/-- A count goes down by one after a success, and a receive count above 127 to a value of 119 to 127 (ISO 11898-1). -/
def Node.txGood (n : Node) (c : Nat) : Node :=
  let t := n.co c 0x18 - 1
  (n.setI c 0x3400 0x18 t).canConfine c t
def Node.rxGood (n : Node) (c : Nat) : Node :=
  let r := n.co c 0x19
  if 127 < r then
    let (v, n) := n.draw
    (n.setI c 0x3400 0x19 (119 + v % 9)).canConfine c (n.co c 0x18)
  else (n.setI c 0x3400 0x19 (r - 1)).canConfine c (n.co c 0x18)

/-- R380, R381: the frame on the bus is acknowledged, or its attempt fails. -/
def Node.canSent (n : Node) (c : Nat) (acked : Bool) : Node :=
  if !(n.canState c == 2 || n.canState c == 3) then n else
  let x := n.canSt c
  let respFirst := match nextBuf x.bufs with
    | none => true
    | some b => !b.begun && decide (arbitration (n.co c 0x11) < arbitration b.ident)
  match x.resp, respFirst with
  | r :: rest, true =>
    if acked then
      ((((n.setCan c { x with resp := rest }).emit (.canFrame c (n.co c 0x11) r)).incWrapI 32 c 0x3400 0x1C 1).txGood c)
    else if n.obi c 0x3400 0x0E then n else n.setCan c { x with resp := rest }
  | _, _ =>
    match nextBuf x.bufs with
    | none => n
    | some b =>
      let gone := n.setCan c { x with bufs := x.bufs.filter (fun (y : CanBuf) => !(y.q == b.q && y.pos == b.pos)) }
      let late := fun (n : Node) => b.cancels.foldl (fun n p => n.complete { q := b.q, pos := p, status := 0, len := some 2 }) n
      if acked then
        late ((((gone.emit (.canFrame c b.ident b.data)).incWrapI 32 c 0x3400 0x1C 1).complete { q := b.q, pos := b.pos, status := 0 }).txGood c)
      else if n.obi c 0x3400 0x0E ∧ b.cancels = [] then n
      else late (gone.complete { q := b.q, pos := b.pos, status := 0x0608 })

/-! ## Value slots (R382) -/

/-- Fields of a slot definition, as a number of 24 bytes. -/
def slotField (d off len : Nat) : Nat := bits d (8 * (off + len) - 1) (8 * off)

/-- R382: does the definition keep the rules of Table 13-6? -/
def slotOk (d : Nat) : Bool :=
  slotField d 0 1 ≤ 3 && slotField d 1 1 ≤ 3 && slotField d 2 2 ≤ 511 && identOk (slotField d 4 4)
    && 1 ≤ slotField d 8 1 && slotField d 8 1 ≤ 32 && slotField d 9 1 ≤ 2 && (slotField d 9 1 != 2 || slotField d 8 1 == 32)
    && slotField d 10 2 == 0 && slotField d 20 4 == 0 && fin32 (slotField d 12 4) && fin32 (slotField d 16 4)

/-- A slot in use that cannot produce a value. -/
def Node.slotBad (n : Node) (d : Nat) : Bool :=
  slotField d 0 1 != 0xFF && (!slotOk d || !n.obi (slotField d 0 1) 0x3400 0x02)

/-- Bit `k` of a frame's data in either numbering. -/
def frameBit (big : Bool) (data : List Byte) (k : Nat) : Nat :=
  b2n (bit ((data.getD (k / 8) 0).toNat) (if big then 7 - k % 8 else k % 8))

/-- The raw field: START and upward, LSB first, or MSB first where big-endian. -/
def rawField (big : Bool) (data : List Byte) (start width : Nat) : Nat :=
  if big then (List.range width).foldl (fun a i => 2 * a + frameBit true data (start + i)) 0
  else (List.range width).foldl (fun a i => a + frameBit false data (start + i) * 2 ^ i) 0

/-- A slot's reading reaches its objects and the frame. -/
def Node.slotPut (n : Node) (k : Nat) (r : Reading) : Node :=
  (((n.setI k 0x3400 0x22 r.value).setI k 0x3400 0x23 r.q).setI k 0x3400 0x24 r.time).toFrame 7 k r

/-- R382: the frame updates slot `k`, whose definition is `d`. The value of a field of CODING 2 that is no finite number,
and a value beyond F32, are open (assumption log 71). -/
def Node.slotUpdate (n : Node) (k d : Nat) (data : List Byte) (stamp : Nat) : Node :=
  let start := slotField d 2 2
  let width := slotField d 8 1
  if 8 * data.length < start + width then n else
  let raw := rawField (bit (slotField d 1 1) 0) data start width
  if bit (slotField d 1 1) 1 ∧ raw = 2 ^ width - 1 then
    n.slotPut k { value := n.oi k 0x3400 0x22, q := 2, time := stamp }
  else
    let coding := slotField d 9 1
    let x : Rat := if coding = 0 then (raw : Rat) else if coding = 1 then (toI width raw : Rat) else q32 raw
    let y := x * q32 (slotField d 12 4) + q32 (slotField d 16 4)
    let b := r32 y
    if (coding = 2 ∧ !fin32 raw) ∨ !fin32 b then
      let (v, n) := n.draw
      n.slotPut k { value := v % 2 ^ 32, q := 0, time := stamp }
    else n.slotPut k { value := b, q := 0, time := stamp }

/-- The slots of a controller that a frame matches. -/
def Node.slotsFor (n : Node) (c ident : Nat) : List Nat :=
  (List.range 256).filter (fun k =>
    let d := n.oi k 0x3400 0x21
    slotField d 0 1 == c && !n.slotBad d && identExact ident (slotField d 4 4))

/-- R382: a slot whose definition or whose controller's enable was written: BAD_CONFIG where it applies. -/
def Node.slotCheck (n : Node) (k : Nat) : Node :=
  if n.slotBad (n.oi k 0x3400 0x21) then
    n.slotPut k { value := n.oi k 0x3400 0x22, q := 3, time := n.copy isleRing }
  else n
def Node.slotsCheck (n : Node) : Node := (List.range 256).foldl (fun n k => n.slotCheck k) n

/-- R378 steps 2 and 3, after the dictionary. -/
def Node.canDistribute (n : Node) (c ident : Nat) (fdf brs esi : Bool) (data : List Byte) (stamp : Nat) : Node :=
  let slots := n.slotsFor c ident
  let n1 := slots.foldl (fun n k => n.slotUpdate k (n.oi k 0x3400 0x21) data stamp) n
  let n2 := n1.canToQueues c ident fdf brs esi data stamp
  if slots = [] ∧ n.filterIn c 0 63 ident = none then n2.incWrapI 32 c 0x3400 0x1F 1 else n2

/-! ## Sleep and wake (R383), roles (R384) -/

/-- R383: the code of a write of .15. A sleeping controller takes 2, one in Table 13-3's states takes 1. -/
def sleepCode (v : Nat) : Nat := if v = 1 ∨ v = 2 then 0 else 0x0606

/-- R383: to SLEEP; pending sends complete with 0x0608, and a session ends without an answer (Table 13-8). -/
def Node.canSleep (n : Node) (c : Nat) : Node :=
  if [2, 3, 6].contains (n.canState c) then
    let n := n.canDropSends c 0x0608
    (n.setCan c { n.canSt c with sess := none }).setCanState c 5
  else n

/-- R383: a wake. -/
def Node.canWake (n : Node) (c : Nat) : Node :=
  if n.canState c = 5 then ((n.setCanBit c 6 true).event (0x0308 + c)).setCanState c 1 else n

/-- R383: CANn_RXD low for 5 µs in wake mode 0. -/
def Node.canDominant (n : Node) (c : Nat) : Node := if n.co c 0x12 = 0 then n.canWake c else n

/-- R383: does a frame match one of the 8 wake entries? -/
def Node.wakeHits (n : Node) (c ident : Nat) (data : List Byte) : Bool :=
  (List.range 8).any (fun k =>
    let e := n.co c 0x14 >>> (192 * k)
    identMatch ident (bits e 31 0) (bits e 63 32) && (ofLE (padTo 8 data) ^^^ bits e 127 64) &&& bits e 191 128 == 0)

/-- R384: the node stops owning (or enters STANDBY): controllers with .0D at 0 listen. -/
def Node.canToListen (n : Node) : Node :=
  (List.range 4).foldl (fun n c =>
    if n.co c 0x0D = 0 ∧ [1, 2, 3].contains (n.canState c) then (n.canDropSends c 0x0605).setCanState c 6 else n) n

/-- R384: the first close after takeover: they enter ERROR_ACTIVE. -/
def Node.canToActive (n : Node) : Node :=
  (List.range 4).foldl (fun n c =>
    if n.co c 0x0D = 0 ∧ n.canState c = 6 then
      (n.setCanState c 2).canConfine c (n.co c 0x18)
    else n) n

/-! ## Commands -/

/-- CAN_INTEGRATION (R376). -/
def execCanIntegration (dt : Nat) (n : Fin 4) (s : State) := act dt s fun x => x.whenUp fun x => x.canIntegrated n
/-- BUS_OFF_RECOVERY (R376). -/
def execBusOffRecovery (dt : Nat) (n : Fin 4) (s : State) := act dt s fun x => x.whenUp fun x => x.busOffEnd n
/-- CAN_ERROR (R377). -/
def execCanError (dt : Nat) (n : Fin 4) (kind : Fin 8) (tx : Bool) (step : Fin 9) (s : State) :=
  actDone dt s fun x => x.whenUp fun x => x.canError n kind tx step
/-- CAN_FRAME_SENT (R380). -/
def execCanFrameSent (dt : Nat) (n : Fin 4) (acked : Bool) (s : State) :=
  actDone dt s fun x => x.whenUp fun x => x.canSent n acked
/-- DOMINANT_WAKE (R383). -/
def execDominantWake (dt : Nat) (n : Fin 4) (s : State) := act dt s fun x => x.whenUp fun x => x.canDominant n

end Sys2Proof.Machine
end

