-- ==== Sys2Proof/Machine/Sepia.lean ====
section
/-!
DEFINITION. Machine/Sepia.lean: Sepia's drives, index, reading, queries and thinning (chapter 12, R349 to
R353, R362 to R369). Writing records is in Archive.lean.
-/
namespace Sys2Proof.Machine

/-! ## The index copies (R362, R363) -/

/-- The members that can hold an index copy, and the copies that stand. -/
def Node.indexable (n : Node) : List Nat := n.members.filter (fun s => (n.drive s).index)
def Node.liveCopies (n : Node) : List Nat := n.sep.copies.filter (fun s => n.members.contains s)

/-- INDEX_ONE and REBUILDING follow the copies; an archive without a record starts with both copies. -/
def Node.copiesRefresh (n : Node) : Node :=
  let fresh := n.liveCopies.length < 2 && n.sep.done == [] && n.sep.flight == []
  let n := if fresh then { n with sep := { n.sep with copies := n.indexable.take 2 } } else n
  let live := n.liveCopies
  let n := n.setBitI 0 0x8000 0x02 1 (live.length == 1)
  n.setBitI 0 0x8000 0x02 2 (live == [] && n.indexable != [])

/-- INDEX_REBUILD_DONE: a copy is rebuilt on the next eligible member, or the index from the segments. -/
def Node.rebuildDone (n : Node) : Node :=
  let live := n.liveCopies
  let more := n.indexable.filter (fun s => !live.contains s)
  if live.length < 2 then
    ({ n with sep := { n.sep with copies := live ++ more.take (if live = [] then 2 else 1) } }).copiesRefresh
  else n

/-! ## Drives (R350, R353, Table 12-4) -/

/-- A drive leaves MEMBER or REMOVING for `st`: reported; what was being written to it is placed again, in
order, on the next member (Table 12-9). -/
def Node.driveLost (n : Node) (s st : Nat) : Node :=
  let on := fun (r : ArchRec) => decide (r.addr.map (· / 2 ^ 47) = some s)
  let again := (n.sep.flight.filter on).map (fun (r : ArchRec) => { r with addr := none })
  let n := { n with sep := { n.sep with
    waiting := again ++ n.sep.waiting
    flight := n.sep.flight.filter (fun r => !on r)
    copies := n.sep.copies.filter (· != s) } }
  let n := (n.setI s 0x8000 0x21 st).setBitI s 0x8000 0x22 18 false
  ((n.fault (0x0B0 + s) 0x61 st 0).copiesRefresh).sepRefresh

/-- MEMBER to FAILED. -/
def Node.driveFailed (n : Node) (s : Nat) : Node := if n.driveState s = 2 then n.driveLost s 7 else n

/-- The slot of a drive that is found again, or the lowest EMPTY one. -/
def Node.slotFor (n : Node) (px serial : Nat) : Option Nat :=
  match (List.range 32).find? (fun s => (n.driveState s == 3 || n.driveState s == 4) && (n.drive s).port == px && n.oi s 0x8000 0x25 == serial) with
  | some s => some s
  | none => (List.range 32).find? (fun s => n.driveState s == 0)

/-- A slot's drive moves to another slot with its objects; the old slot is EMPTY. -/
def Node.moveSlot (n : Node) (a b : Nat) : Node :=
  if a = b then n else
  let n := ([0x21, 0x22, 0x23, 0x25, 0x26, 0x28] : List Nat).foldl (fun n sub => (n.setI b 0x8000 sub (n.oi a 0x8000 sub)).setI a 0x8000 sub 0) n
  { n with sep := { n.sep with drives := mapErase (mapPut n.sep.drives b (n.drive a)) a } }

/-- A namespace takes a slot in a state. -/
def Node.putDrive (n : Node) (s st px speed width : Nat) (f : Namespace) : Node :=
  let loc := speed % 16 * 2 ^ 28 + width % 16 * 2 ^ 24 + px * 2 ^ 16 + f.bus.toNat * 256 + f.devfn.toNat
  let n := (((n.setI s 0x8000 0x21 st).setI s 0x8000 0x22 loc).setI s 0x8000 0x23 f.size.toNat).setI s 0x8000 0x25 f.serial.toNat
  { n with sep := { n.sep with drives := mapPut n.sep.drives s { port := px, index := f.index } } }

/-- R350, R353: one namespace that enumeration finds: the slot of its header, or the lowest free one as
BLANK or FOREIGN. A slot whose header's owner is in use already leaves the newcomer FOREIGN (log 62). -/
def Node.foundNs (n : Node) (px speed width : Nat) (f : Namespace) : Node :=
  let usable := f.lba4k && decide (2 ^ 40 ≤ f.size.toNat)
  let other := fun (n : Node) (st : Nat) => match n.slotFor px f.serial.toNat with
    | some s => n.putDrive s st px speed width f
    | none => n
  if !usable then other n 4 else
  match f.content with
  | .blank => other n 3
  | .foreign => other n 4
  | .member s =>
    let st := n.driveState s
    if st = 2 ∨ st = 5 then other n 4
    else
      let n := if st = 3 ∨ st = 4 then (match (List.range 32).find? (fun t => n.driveState t == 0) with
        | some t => n.moveSlot s t
        | none => n) else n
      n.putDrive s 2 px speed width f

/-- PCIE_LINK_UP: the port is enumerated. A port that is isolated (R419) does not link. -/
def Node.pcieUp (n : Node) (px speed width : Nat) (fs : List Namespace) : Node :=
  if bit (n.o 0x2200 0x15) (10 + px) then n
  else ((fs.foldl (fun n f => n.foundNs px speed width f) n).copiesRefresh).sepRefresh

/-- The link of a port is lost, by removal, a port reset or isolation: its members are OFFLINE. -/
def Node.pcieDown (n : Node) (px : Nat) : Node :=
  (List.range 32).foldl (fun n s =>
    if (n.driveState s = 2 ∨ n.driveState s = 5) ∧ (n.drive s).port = px then n.driveLost s 6 else n) n

/-- Table 12-4: the code of a drive command. Commands 2 and 3 outside their state are refused as 1 and 4
are (assumption log 63). -/
def Node.driveCode (n : Node) (s cmd : Nat) : Nat :=
  let st := n.driveState s
  let ok := if cmd = 1 then st == 3 || st == 4 else if cmd = 2 then st == 2 else if cmd = 3 then st == 5 else st == 6 || st == 7
  if ok then 0 else 0x0608

/-- Table 12-4: an accepted drive command. Adoption takes the lowest slot that is EMPTY or the drive's own. -/
def Node.driveCommand (n : Node) (s cmd : Nat) : Node :=
  if cmd = 1 then
    let t := ((List.range 32).find? (fun t => n.driveState t == 0 || t == s)).getD s
    let n := ((n.moveSlot s t).emit (.nvme t 9 0 (n.oi s 0x8000 0x23))).emit (.nvme t 1 0 4096)
    ((n.setI t 0x8000 0x21 2).copiesRefresh).sepRefresh
  else if cmd = 2 then
    let close := fun (c : Option (Nat × Nat)) => if c.map (·.1) = some s then none else c
    let n := { n with sep := { n.sep with cur0 := close n.sep.cur0, cur1 := close n.sep.cur1 } }
    ((n.setI s 0x8000 0x21 5).emit (.nvme s 0 0 0)).sepRefresh
  else if cmd = 3 then ((n.setI s 0x8000 0x21 2).setBitI s 0x8000 0x22 18 false).sepRefresh
  else
    let gone := fun (r : ArchRec) => decide (r.addr.map (· / 2 ^ 47) = some s)
    let n := { n with sep := { n.sep with
      done := n.sep.done.filter (fun r => !gone r)
      segs := n.sep.segs.filter (fun g => g.slot != s)
      drives := mapErase n.sep.drives s } }
    ([0x21, 0x22, 0x23, 0x25, 0x26, 0x28] : List Nat).foldl (fun n sub => n.setI s 0x8000 sub 0) n

/-- REMOVAL_READY: the writes and the Flush are complete. -/
def Node.removalReady (n : Node) (s : Nat) : Node :=
  if n.driveState s = 5 ∧ !n.sep.flight.any (fun r => decide (r.addr.map (· / 2 ^ 47) = some s)) then
    n.setBitI s 0x8000 0x22 18 true
  else n

/-- NVME_COMMAND_TIMEOUT: an abort, and FAILED after three in a row. -/
def Node.nvmeTimeout (n : Node) (s : Nat) : Node :=
  if n.driveState s = 0 ∨ n.driveState s = 6 ∨ n.driveState s = 7 then n else
  let x := n.drive s
  let n := ({ n with sep := { n.sep with drives := mapPut n.sep.drives s { x with timeouts := x.timeouts + 1 } } }).emit (.nvme s 8 0 0)
  if 3 ≤ x.timeouts + 1 then n.driveFailed s else n

/-- NVME_COMPLETION: the run of timeouts ends; a fatal controller status makes a member FAILED. -/
def Node.nvmeDone (n : Node) (s : Nat) (fatal : Bool) : Node :=
  let x := n.drive s
  let n := { n with sep := { n.sep with drives := mapPut n.sep.drives s { x with timeouts := 0 } } }
  if fatal then n.driveFailed s else n

/-- SMART_READ: endurance and media errors; a critical warning for read-only media. -/
def Node.smart (n : Node) (s pct errs : Nat) (ro : Bool) : Node :=
  if n.driveState s = 0 ∨ n.driveState s = 6 then n else
  let n := ((n.setI s 0x8000 0x26 pct).setI s 0x8000 0x28 (min errs 0xFFFFFFFF)).emit (.nvme s 2 0 0)
  if ro then n.driveFailed s else n

/-- RECORD_WRITE_COMPLETE: the oldest write in flight on the slot. -/
def Node.writeComplete (n : Node) (s : Nat) : Node :=
  match n.sep.flight.find? (fun r => decide (r.addr.map (· / 2 ^ 47) = some s)) with
  | some r => n.recDone r
  | none => n

/-- SEAL_AGE. -/
def Node.sealAge (n : Node) (kind src : Nat) : Node :=
  let k := recKey kind src
  let x := mapGet n.sepOpen k {}
  if x.count ≠ 0 ∧ x.since + ms (n.o 0x8000 0x03) < n.now then n.sealRec k else n

/-- The sum of a list. -/
def sumNat (l : List Nat) : Nat := l.foldl (· + ·) 0

/-- INDEX_CHECKPOINT: the superblock, and the rates of the last second and minute. The years remaining are
the node's own estimate, a free value (assumption log 3). -/
def Node.checkpoint (n : Node) : Node :=
  let rates := ((n.sep.rawSec, n.sep.codedSec) :: n.sep.rates).take 60
  let raw := sumNat (rates.map (·.1))
  let coded := sumNat (rates.map (·.2))
  let n := (n.setF 0 0x8000 0x08 (ratio n.sep.codedSec 1000000)).setF 0 0x8000 0x09 (ratio n.sep.rawSec 1000000)
  let n := if coded = 0 then n else n.setF 0 0x8000 0x0A (ratio raw coded)
  let n := { n with sep := { n.sep with rates := rates, rawSec := 0, codedSec := 0 } }
  let (y, n) := n.draw
  let n := n.set 0x8000 0x11 (y % 2 ^ 32)
  if bit (n.o 0x1010 0x04) 4 ∨ n.liveCopies = [] then n
  else
    let n := n.liveCopies.foldl (fun n s => n.emit (.nvme s 1 0 4096)) n
    ({ n with sep := { n.sep with journal := [], super := n.sep.super + 1 } }).set 0x8000 0x17 (n.copy isleArchive)

/-! ## Reading (R365 to R367) -/

/-- The sealed records of a kind and source that touch an interval, in order of FIRST. -/
def insertRec (r : ArchRec) : List ArchRec → List ArchRec
  | [] => [r]
  | x :: xs => if r.first < x.first then r :: x :: xs else x :: insertRec r xs
def Node.sealedOf (n : Node) (kind src : Nat) : List ArchRec :=
  ((n.sep.done ++ n.sep.flight ++ n.sep.waiting).filter (fun r => r.kind == kind && r.src == src)).foldl (fun l r => insertRec r l) []
def touching (from_ to_ : Nat) (l : List ArchRec) : List ArchRec := l.filter (fun r => decide (from_ ≤ r.last) && decide (r.first ≤ to_))

/-- R367: does a record lie on a drive that does not answer? -/
def Node.recMissing (n : Node) (r : ArchRec) : Bool :=
  match r.addr with
  | some a => n.sep.done.contains r && n.driveState (a / 2 ^ 47) != 2 && n.driveState (a / 2 ^ 47) != 5
  | none => false

def missingBytes (kind src first last : Nat) : List Byte := recordBytes 0xFF 0 0 0 first last src 0 kind []

/-- R365, R367: the records of a result as bytes, each with its LAST; adjacent missing ones are joined. -/
def Node.outRecs (n : Node) (decode : Bool) : List ArchRec → Option (Nat × Nat × Nat × Nat) → List (List Byte × Nat)
  | [], none => []
  | [], some (k, s, f, l) => [(missingBytes k s f l, l)]
  | r :: rs, p =>
    if n.recMissing r then
      n.outRecs decode rs (some (match p with
        | some (k, s, f, l) => (k, s, f, max l r.last)
        | none => (r.kind, r.src, r.first, r.last)))
    else
      let me := (if decode then r.decodedBytes else r.storedBytes, r.last) :: n.outRecs decode rs none
      match p with
      | some (k, s, f, l) => (missingBytes k s f l, l) :: me
      | none => me

/-- As many whole records as `room` bytes take. -/
def takeFit : Nat → List (List Byte × Nat) → List (List Byte × Nat)
  | _, [] => []
  | room, (b, l) :: rs => if b.length ≤ room then (b, l) :: takeFit (room - b.length) rs else []

/-- R365: the buffer that an archive read fills: result header and records. NEXT looks for a further sealed
record of the kind and source, whatever SPAN says (assumption log 64: the spec's worked example). -/
def Node.readResult (n : Node) (decode : Bool) (kind src from_ span room : Nat) : List Byte :=
  let all := n.sealedOf kind src
  let to_ := if span = 0 then 2 ^ 64 else from_ + sec span
  let fit := takeFit (room - 16) (n.outRecs decode (touching from_ to_ all) none)
  let bytes := (fit.map (·.1)).flatten
  let next := match fit.getLast? with
    | some (_, l) => if all.any (fun r => decide (l < r.last)) then l + 1 else 0
    | none => 0
  toLE 4 bytes.length ++ toLE 4 fit.length ++ toLE 8 next ++ bytes

/-- R366: the code of a query beyond the common checks. -/
def Node.queryCode (n : Node) (m : Master) (data : List Byte) : Nat :=
  let kind := fieldLE data 0 1
  if kind = 0 ∨ 7 < kind ∨ 1 < fieldLE data 1 1 ∨ fieldLE data 4 4 ≠ 0 then 0x0606
  else if n.ports.any (fun e => e.2.holder == some m && [PortState.opened, .hold].contains e.2.state
      && n.o (0xF000 + e.1) 0x01 % 2 ^ 24 == 0x800031) then 0x0608
  else if bit (n.o 0x1010 0x04) 4 then 0x0608
  else 0

/-- R366: the query runs; its result stands as the records stood. -/
def Node.query (n : Node) (m : Master) (data : List Byte) : Node :=
  let mc := masterCode m
  let rs := touching (fieldLE data 8 8) (fieldLE data 16 8) (n.sealedOf (fieldLE data 0 1) (fieldLE data 2 2))
  let bytes := ((n.outRecs (fieldLE data 1 1 == 1) rs none).map (·.1)).flatten
  { n with sep := { n.sep with queries := mapPut n.sep.queries mc bytes, ready := n.sep.ready.filter (· != mc) } }

/-- QUERY_READY: 0x8000.32 holds the length. -/
def Node.queryReady (n : Node) (m : Master) : Node :=
  let mc := masterCode m
  if n.sep.queries.any (fun e => e.1 == mc) ∧ !n.sep.ready.contains mc then
    { n with sep := { n.sep with ready := mc :: n.sep.ready } }
  else n

/-! ## Thinning (R368) -/

/-- Every `k`-th entry of `size` bytes. -/
def everyNth (size k : Nat) : Nat → Nat → List Byte → List Byte
  | 0, _, _ => []
  | c + 1, i, bs => (if i % k = 0 then bs.take size else []) ++ everyNth size k c (i + 1) (bs.drop size)

/-- Kind 4: per point its first entry of each interval; `seen` holds point and interval. -/
def firstEach (iv : Nat) : Nat → List (Nat × Nat) → List Byte → List Byte × List (Nat × Nat)
  | 0, seen, _ => ([], seen)
  | c + 1, seen, bs =>
    let p := (fieldLE bs 0 2, fieldLE bs 8 8 / iv)
    if seen.contains p then firstEach iv c seen (bs.drop 20)
    else
      let r := firstEach iv c (p :: seen) (bs.drop 20)
      (bs.take 20 ++ r.1, r.2)

/-- One record thinned, with the kind-4 entries seen so far. -/
def Node.thinRec (n : Node) (seen : List (Nat × Nat)) (r : ArchRec) : ArchRec × List (Nat × Nat) :=
  let p := prefixBytes r.kind
  let f := n.o 0x8000 0x13
  let e := if r.kind = 4 then firstEach (sec (n.o 0x8000 0x14)) r.count seen (r.raw.drop p)
    else (everyNth (entryBytes r.kind) f r.count 0 (r.raw.drop p), seen)
  let raw := r.raw.take p ++ e.1
  let count := e.1.length / entryBytes r.kind
  let s := storedForm r.kind count raw
  ({ r with raw := raw, count := count, codec := s.1, stored := s.2, flags := r.flags % 2 + 2 + 4 * Nat.log2 f }, e.2)

/-- The stream segment that thinning takes next: the oldest whose records are all older than the horizon. -/
def Node.thinNext (n : Node) : Option Seg :=
  let days := n.o 0x8000 0x12
  let old := n.copy isleArchive - days * 86400000000000
  let ok := fun (g : Seg) => g.log == 0 && !g.thinned && n.sep.cur0 != some (g.slot, g.idx) && n.members.contains g.slot
    && (n.sep.done.filter (fun r => r.addr.map segOf == some (g.slot, g.idx))).all (fun r => decide (r.last < old))
    && !n.sep.flight.any (fun r => r.addr.map segOf == some (g.slot, g.idx))
  if days = 0 then none
  else (n.sep.segs.filter ok).foldl (fun (b : Option Seg) g => match b with
    | some x => if g.seq < x.seq then some g else b
    | none => some g) none

/-- THINNING_SEGMENT: the thinned segment is written and journalled, then the old one is deallocated. -/
def Node.thin (n : Node) : Node :=
  if bit (n.o 0x1010 0x04) 4 then n else
  match n.thinNext with
  | none => n
  | some g =>
    match n.nextMember n.sep.last0 with
    | none => n
    | some s =>
      let idx := (n.freeSeg s).getD 1
      let old := n.sep.done.filter (fun r => r.addr.map segOf == some (g.slot, g.idx))
      let thinned := (old.foldl (fun (acc : List ArchRec × List (Nat × Nat)) r =>
        let t := n.thinRec acc.2 r
        (acc.1 ++ [t.1], t.2)) ([], [])).1.filter (fun r => r.count != 0)
      let put := thinned.foldl (fun (acc : List ArchRec × Nat) (r : ArchRec) =>
        (acc.1 ++ [{ r with addr := some (s * 2 ^ 47 + idx * 2 ^ 26 + acc.2) }], acc.2 + r.span)) ([], 4096)
      let n := { n with sep := { n.sep with
        segs := n.sep.segs ++ [({ slot := s, idx := idx, log := 0, seq := n.sep.seq0 + 1, used := put.2, thinned := true } : Seg)]
        seq0 := n.sep.seq0 + 1
        done := n.sep.done ++ put.1
        journal := n.sep.journal ++ put.1.map journalEntry } }
      let n := (n.emit (.nvme s 1 (idx * 2 ^ 26) put.2)).dropSeg g
      n.set 0x8000 0x15 (old.foldl (fun m (r : ArchRec) => max m r.last) (n.o 0x8000 0x15))

/-! ## Values read as they stand (Table 12-10) -/

/-- Capacity and bytes used: of all members, and of one slot. -/
def Node.archCapacity (n : Node) : Nat := sumNat (n.members.map (fun s => min (n.oi s 0x8000 0x23) (2 ^ 47)))
def Node.slotUsed (n : Node) (s : Nat) : Nat := sumNat ((n.sep.segs.filter (fun g => g.slot == s)).map (·.used))
def Node.archUsed (n : Node) : Nat := sumNat (n.sep.segs.map (·.used))

/-! ## Commands -/

/-- PCIE_LINK_UP (R350). -/
def execPcieLinkUp (dt : Nat) (px : Fin 4) (speed width : Byte) (found : List Namespace) (s : State) :=
  act dt s fun n => n.whenUp fun n => n.pcieUp px speed.toNat width.toNat found
/-- PRESENCE_CHANGE (R349): a removal takes the port's members off; an insertion waits for the link. -/
def execPresenceChange (dt : Nat) (px : Fin 4) (present : Bool) (s : State) := act dt s fun n => n.whenUp fun n =>
  if present then n else n.pcieDown px
/-- REMOVAL_READY (R353). -/
def execRemovalReady (dt : Nat) (slot : Fin 32) (s : State) := act dt s fun n => n.whenUp fun n => n.removalReady slot
/-- NVME_COMPLETION (R351, R353). -/
def execNvmeCompletion (dt : Nat) (slot : Fin 32) (fatal : Bool) (s : State) := act dt s fun n => n.whenUp fun n => n.nvmeDone slot fatal
/-- NVME_COMMAND_TIMEOUT (R353). -/
def execNvmeCommandTimeout (dt : Nat) (slot : Fin 32) (s : State) := act dt s fun n => n.whenUp fun n => n.nvmeTimeout slot
/-- SMART_READ (R351). -/
def execSmartRead (dt : Nat) (slot : Fin 32) (pct : Byte) (mediaErrors : BitVec 64) (readOnly : Bool) (s : State) :=
  act dt s fun n => n.whenUp fun n => n.smart slot pct.toNat mediaErrors.toNat readOnly
/-- ASYNCHRONOUS_EVENT (R351): the request is issued again. -/
def execAsynchronousEvent (dt : Nat) (slot : Fin 32) (readOnly : Bool) (s : State) := act dt s fun n => n.whenUp fun n =>
  let n := n.emit (.nvme slot 12 0 0)
  if readOnly then n.driveFailed slot else n
/-- SEAL_AGE (R359). -/
def execSealAge (dt : Nat) (kind : Byte) (src : BitVec 16) (s : State) := act dt s fun n => n.whenUp fun n => n.sealAge kind.toNat src.toNat
/-- RECORD_WRITE_COMPLETE (R362). -/
def execRecordWriteComplete (dt : Nat) (slot : Fin 32) (s : State) := act dt s fun n => n.whenUp fun n => n.writeComplete slot
/-- INDEX_CHECKPOINT (R362). -/
def execIndexCheckpoint (dt : Nat) (s : State) := act dt s fun n => n.whenUp Node.checkpoint
/-- INDEX_REBUILD_DONE (R362, R363). -/
def execIndexRebuildDone (dt : Nat) (s : State) := act dt s fun n => n.whenUp Node.rebuildDone
/-- QUERY_READY (R366). -/
def execQueryReady (dt : Nat) (m : Master) (s : State) := act dt s fun n => n.whenUp fun n => n.queryReady m
/-- THINNING_SEGMENT (R368). -/
def execThinningSegment (dt : Nat) (s : State) := act dt s fun n => n.whenUp Node.thin

end Sys2Proof.Machine
end

