-- ==== Sys2Proof/Machine/Ring.lean ====
section
/-!
DEFINITION. Machine/Ring.lean: the Woad ring (chapter 10): ports, bypass, HSR, Woad frames, publication,
alarm events and calls, heartbeats, vat frames and snapshots. PTP is in Ptp.lean; dictionary requests are
served in RingRx.lean.
-/
namespace Sys2Proof.Machine

/-! ## Ports (R283 to R287) -/

/-- A port enters TRAINING. -/
def Node.portTrain (n : Node) (p : Nat) : Node :=
  ((((n.setI p 0x3000 0x0D 1).setPortBit p 0 false).setPortBit p 4 false).setPortBit p 5 false).setRport p
    { n.rport p with fails := 0, only100 := false, trainAt := n.now }

/-- A port is DISABLED or STOPPED: what waited is dropped. -/
def Node.portOff (n : Node) (p st : Nat) : Node :=
  let k := (n.rport p).queue.length
  let n := (((n.setI p 0x3000 0x0D st).setPortBit p 0 false).setPortBit p 4 false).setPortBit p 5 false
  (n.setRport p {}).portDrop p k

/-- LINK_UP: the link is up at a speed that the port advertises; queued frames are sent in order. -/
def Node.portLink (n : Node) (p : Nat) (gig : Bool) (len : Nat) (mdix master : Bool) (snr : Nat) : Node :=
  let x := n.rport p
  if (n.portState p = 1 ∨ n.portState p = 4) ∧ !(gig && x.only100) then
    let n := (n.setI p 0x3000 0x0D (if gig then 2 else 3)).incWrapI 32 p 0x3000 0x11 1
    let n := (n.setI p 0x3000 0x0F len).setI p 0x3000 0x10 (if gig then snr else n.oi p 0x3000 0x10)
    let n := (((n.setPortBit p 0 true).setPortBit p 4 (!gig)).setPortBit p 3 mdix).setPortBit p 2 (gig && master)
    let n := if x.only100 then (n.setPortBit p 5 true).fault (0x0A0 + p) 0x50 0 0 else n
    x.queue.foldl (fun n f => n.handTo p f) (n.setRport p { x with queue := [], fails := 0 })
  else n

/-- LINK_LOST, and a port reset (Table 10-2). -/
def Node.portLost (n : Node) (p : Nat) : Node := if n.portUp p then (n.incWrapI 32 p 0x3000 0x11 1).portTrain p else n

/-- R41: a ring port reset. -/
def Node.ringPortReset (n : Node) (p : Nat) : Node :=
  if n.portUp p then n.portLost p
  else n.setRport p { n.rport p with fails := 0, only100 := false }

/-- TRAINING_TIMEOUT. -/
def Node.trainTimeout (n : Node) (p : Nat) : Node :=
  let x := n.rport p
  if n.portState p = 1 ∧ x.trainAt + sec 3 ≤ n.now then
    (n.setI p 0x3000 0x0D 4).setRport p { x with queue := [] } |>.portDrop p x.queue.length
  else n

/-- FAILED_ATTEMPT: the third in a row leaves 100BASE-TX only (R284). -/
def Node.failedAttempt (n : Node) (p : Nat) : Node :=
  let x := n.rport p
  if (n.portState p = 1 ∨ n.portState p = 4) ∧ !x.only100 then n.setRport p { x with fails := x.fails + 1, only100 := 3 ≤ x.fails + 1 } else n

/-- MARGIN_LOW and MARGIN_CLEAR (R286); the margin in 0.1 dB. -/
def Node.marginLow (n : Node) (p d : Nat) : Node :=
  if n.portState p = 2 ∧ d < 30 ∧ !bit (n.oi p 0x3000 0x0E) 6 then
    ((n.setF p 0x3000 0x10 (ratio d 10)).setPortBit p 6 true).fault (0x0A0 + p) 0x51 0 d
  else n
def Node.marginClear (n : Node) (p d : Nat) : Node :=
  if n.portState p = 2 ∧ 40 ≤ d then (n.setF p 0x3000 0x10 (ratio d 10)).setPortBit p 6 false else n

/-! ## The bypass (R288, R291) -/

/-- Must the bypass be open now? -/
def Node.wantOpen (n : Node) : Bool :=
  n.up && n.ring.opened && n.ident != 0 && !n.ring.forced && !bit (n.o 0x2200 0x15) 8

/-- The bypass follows R288: it starts to open or to close. -/
def Node.bypassCheck (n : Node) : Node :=
  if n.o 0x3000 0x16 = 0 ∧ n.wantOpen then n.set 0x3000 0x16 1
  else if n.o 0x3000 0x16 = 2 ∧ !n.wantOpen then n.set 0x3000 0x16 3
  else n

/-- BYPASS_CHANGE_DONE. -/
def Node.bypassDone (n : Node) : Node :=
  if n.o 0x3000 0x16 = 1 then ((((n.set 0x3000 0x16 2).portTrain 0).portTrain 1)).bypassCheck
  else if n.o 0x3000 0x16 = 3 then ((((n.set 0x3000 0x16 0).portOff 0 0).portOff 1 0)).bypassCheck
  else n

/-- R291: a write of 0x3000.17. -/
def Node.bypassForce (n : Node) (on : Bool) : Node := ({ n with ring := { n.ring with forced := on } }).bypassCheck

/-- R34, R41: the ports stop. -/
def Node.portsStop (n : Node) : Node :=
  ([0, 1] : List Nat).foldl (fun n p => if n.portState p = 0 then n else n.portOff p 5) n

/-! ## What may be sent (R312) -/

/-- The mode as the frames sent go by it: a node that has handed over while its keeper resets acts as a standby. -/
def Node.actingMode (n : Node) : Nat := if n.mode.keeperHandedOver then 5 else n.curMode

/-- Table 10-12: may this node send publications and alarm events now? -/
def Node.mayPublish (n : Node) : Bool :=
  let m := n.actingMode
  if m = 2 then false else if m = 5 then n.o 0x2400 0x04 == 1 && n.o 0x2400 0x0A == 3 else true
/-- … and call messages? -/
def Node.mayCall (n : Node) : Bool :=
  let m := n.actingMode
  if m = 2 ∨ m = 5 then false else if m = 3 then n.ob 0x1010 0x05 else true

/-! ## HSR (R292 to R294) -/

/-- The own address, as it is compared with an address read from a frame as a big-endian number. -/
def ownMac : Nat := ofBE (macBytes Config.macAddress)

/-- R293: three supervision intervals. -/
def Node.supSpan (n : Node) : Nat := 3 * ms (n.o 0x3200 0x05)

/-- R293: has a device's supervision come on one port only for three intervals? -/
def Node.oneSided (n : Node) (x : RingNode) : Bool :=
  let gone := fun (t : Option Nat) => decide ((t.getD x.first) + n.supSpan ≤ n.now)
  (gone x.east && !gone x.west) || (gone x.west && !gone x.east)

/-- R316: the node's own marker has come back on both ports, or on one while RING_OPEN is set: R319's 10 ms begin. -/
def Node.markerDone (n : Node) : Node :=
  match n.ring.snap with
  | some x =>
    if n.o 0x3000 0x19 = 1 ∧ !x.scheduled ∧ x.endAt.isNone ∧ x.back ≠ 0 ∧ (x.back = 3 ∨ bit (n.o 0x3200 0x0A) 0) then
      { n with ring := { n.ring with snap := some { x with endAt := some (n.now + ms 10) } } }
    else n
  | none => n

/-- RING_OPEN follows the node table. -/
def Node.ringOpenCheck (n : Node) : Node := (n.setBitI 0 0x3200 0x0A 0 (n.ring.nodes.any (fun e => n.oneSided e.2))).markerDone

/-- A supervision frame of a device (R293); a full table takes no new device. -/
def Node.supervision (n : Node) (p mac : Nat) : Node :=
  let known := n.ring.nodes.any (fun e => e.1 == mac)
  if !known && decide (512 ≤ n.ring.nodes.length) then n else
  let x := mapGet n.ring.nodes mac { first := n.now }
  let x := { x with
    east := if p = 0 then some n.now else x.east
    west := if p = 1 then some n.now else x.west
    last := n.now
    stamp := n.copy isleRing }
  let n := { n with ring := { n.ring with nodes := mapPut n.ring.nodes mac x } }
  (n.set 0x3200 0x01 n.ring.nodes.length).ringOpenCheck

/-- NODE_FORGET. -/
def Node.nodeForget (n : Node) (mac : Nat) : Node :=
  match n.ring.nodes.find? (fun e => e.1 == mac) with
  | some (_, x) =>
    if x.last + sec (n.o 0x3200 0x06) ≤ n.now then
      let n := { n with ring := { n.ring with nodes := mapErase n.ring.nodes mac } }
      (n.set 0x3200 0x01 n.ring.nodes.length).ringOpenCheck
    else n
  | none => n

/-- The node table as 0x3200.08 holds it. -/
def Node.nodeTable (n : Node) : List Byte :=
  (n.ring.nodes.map (fun e => toBE 6 e.1 ++ toLE 1 e.2.ident ++ toLE 1 (b2n e.2.east.isSome + 2 * b2n e.2.west.isSome) ++ toLE 8 e.2.stamp)).flatten

/-- R292, R293: a tagged frame's way: is it taken, and is it forwarded? Frames are known for the entry forget
time. The first copy by a port is forwarded; the first copy of all is taken. -/
def Node.hsrArrive (n : Node) (p mac q : Nat) : Bool × Bool × Node :=
  let k := mac * 65536 + q
  let fresh := n.ring.seen.filter (fun e => decide (n.now < e.2.at_ + ms (n.o 0x3200 0x07)))
  match fresh.find? (fun e => e.1 == k) with
  | none =>
    (true, true, { n with ring := { n.ring with seen := mapPut fresh k { at_ := n.now, ports := 2 ^ p } } })
  | some (_, x) =>
    let n := (n.incWrap 0x3200 0x02)
    if bit x.ports p then (false, false, { n with ring := { n.ring with seen := fresh } })
    else (false, true, { n with ring := { n.ring with seen := mapPut fresh k { x with ports := x.ports + 2 ^ p } } })

/-- HSR_SUPERVISION: the node's own supervision frame (IEC 62439-3, assumption log 65). -/
def Node.sendSupervision (n : Node) : Node :=
  if n.ring.supAt + ms (n.o 0x3200 0x05) ≤ n.now then
    let (q, n) := n.nextSeq 0x100
    let n := { n with ring := { n.ring with supAt := n.now } }
    n.sendTagged macSup 0x88FB (toBE 2 1 ++ toBE 2 q ++ toBE 1 23 ++ toBE 1 6 ++ macBytes Config.macAddress ++ zeros 2)
  else n

/-! ## Identities and the header (R303 to R306) -/

/-- R303: is a frame of identity `id` from `mac` accepted? -/
def Node.identHeard (n : Node) (id mac : Nat) : Bool × Node :=
  let put := fun (n : Node) (x : IdentEnt) => { n with ring := { n.ring with idents := mapPut n.ring.idents id x } }
  match n.ring.idents.find? (fun e => e.1 == id) with
  | none => (true, put n { mac := mac, at_ := n.now })
  | some (_, x) =>
    if x.mac = mac then (true, put n { x with at_ := n.now })
    else if x.conflict then
      if x.at_ + sec (n.o 0x3200 0x06) ≤ n.now then (true, put n { mac := mac, at_ := n.now }) else (false, n)
    else if n.now ≤ x.at_ + sec 1 then (false, put (n.incSatI 8 0 0x3000 0x1E 1) { x with conflict := true })
    else (true, put n { mac := mac, at_ := n.now })

/-- The own identity from another address (R303). -/
def Node.identClash (n : Node) (id mac : Nat) : Node :=
  if id = n.ident ∧ id ≠ 0 ∧ mac ≠ ownMac then
    if bit (n.oi 0 0x3000 0x0E) 7 then n
    else ((n.setPortBit 0 7 true).setPortBit 1 7 true).fault 0x0A2 0x53 id 0
  else n

/-- R306: the first of its key within 1 s? -/
def Node.keyFresh (n : Node) (type : Nat) (f : WoadIn) : Bool × Node :=
  let k := ((f.pub.toNat * 256 + type) * 2 ^ 32 + f.seq.toNat) * 65536 + f.part.toNat
  let keys := n.ring.keys.filter (fun e => decide (n.now < e.2 + sec 1))
  if keys.any (fun e => e.1 == k) then (false, { n with ring := { n.ring with keys := keys } })
  else (true, { n with ring := { n.ring with keys := mapPut keys k n.now } })

def Node.discard (n : Node) : Node := n.incWrap 0x3000 0x1F
def knownType (t : Nat) : Bool := (1 ≤ t && t ≤ 8) || (0x40 ≤ t && t ≤ 0x7F)

/-- R303, R305, R306: is a Woad frame that HSR has taken accepted? -/
def Node.woadAccept (n : Node) (type : Nat) (f : WoadIn) : Bool × Node :=
  let n := n.identClash f.src.toNat f.mac.toNat
  if f.version ≠ 1 ∨ !knownType type ∨ (f.dst ≠ 0 ∧ f.dst.toNat ≠ n.ident) then (false, n.discard)
  else
    let (ok, n) := n.identHeard f.src.toNat f.mac.toNat
    if !ok then (false, n)
    else
      let x := n.ring.nodes.find? (fun e => e.1 == f.mac.toNat)
      let n := match x with
        | some (m, x) => { n with ring := { n.ring with nodes := mapPut n.ring.nodes m { x with ident := f.src.toNat } } }
        | none => n
      if type = 3 ∨ type = 4 ∨ type = 5 then
        let (fresh, n) := n.keyFresh type f
        if fresh then (true, n) else (false, n.discard)
      else (true, n)

/-! ## Publications and events that arrive (R233, R240, R306, R308) -/

/-- The entries of a publication update the sources of kind 6. -/
def Node.pubEntries (n : Node) (pub : Nat) (bs : List Byte) : Nat → Node
  | 0 => n
  | k + 1 =>
    let n := n.pubEntries pub bs k
    let o := 8 + 16 * k
    if bs.length < o + 16 then n else
    n.toFrame 6 (pub * 65536 + fieldLE bs o 2)
      { value := fieldLE bs (o + 4) 4, q := fieldLE bs (o + 3) 1 % 16, time := fieldLE bs (o + 8) 8 }

def Node.takePublication (n : Node) (f : WoadIn) : Node :=
  let n := { n with refresh := mapPut n.refresh f.pub.toNat (fieldLE f.body 2 2) }
  n.pubEntries f.pub.toNat f.body (min (fieldLE f.body 4 2) 88)

/-- A system record of the area master sets holder and attendance (R240). A change is recorded (R239), and going
unattended switches the engineer-safety timer off (R241). -/
def Node.takeSysRec (n : Node) (pub node : Nat) (r : List Byte) : Node :=
  let p := fieldLE r 0 2
  let a := p - 0x8010
  if 0x8010 ≤ p ∧ p < 0x8018 ∧ !n.isAreaMaster a ∧ (n.ao a 0x02 = node ∨ n.ao a 0x02 = pub) then
    let x := n.area a
    let y := { x with
      holder := fieldLE r 3 1
      attended := decide (q32 (fieldLE r 16 4) ≠ 0)
      heardAt := n.now
      remoteStale := false }
    let n := n.setArea a y
    let n := if y.holder = x.holder ∧ y.attended = x.attended then n else n.respRec a (n.copy isleFrame)
    if !y.attended && x.es != 0 then n.enterEs a 0 (n.copy isleFrame) else n
  else n

/-- A record of another node: its state is kept for the groups it is a remote member of, and one with STATE
ACTIVE_UNACK is an entry of its member (R234, R304). -/
def Node.takeRecord (n : Node) (pub : Nat) (r : List Byte) : Node :=
  let p := fieldLE r 0 2
  let st := fieldLE r 3 1
  let k := pub * 65536 + p
  let n := n.takeSysRec pub (fieldLE r 2 1) r
  if 16384 ≤ p then n else
  let fr := { n.frame with remote := mapPut n.frame.remote k st }
  let fr := if st = 1 then { fr with remoteIn := fr.remoteIn ++ [{ onset := fieldLE r 8 8, ident := pub, point := p }] } else fr
  { n with frame := fr }

def Node.takeRecords (n : Node) (pub : Nat) (bs : List Byte) : Nat → Node
  | 0 => n
  | k + 1 =>
    let n := n.takeRecords pub bs k
    if bs.length < 4 + 32 * (k + 1) then n else n.takeRecord pub (slice bs (4 + 32 * k) 32)

def Node.takeEvents (n : Node) (f : WoadIn) : Node := n.takeRecords f.pub.toNat f.body (min (fieldLE f.body 0 2) 44)

/-! ## Publication (R308) and frame values (kind 4) -/

/-- What a publication says of a point: state, quality and value. -/
def pubView (s : PointSt) : Nat × Nat × Nat := (s.st, s.pubQ, s.pubV)

/-- R308: has the point moved enough since `was`? -/
def Node.pubMoved (n : Node) (was : Option (Nat × Nat × Nat)) (s : PointSt) : Bool :=
  match was with
  | none => true
  | some (st, q, v) =>
    let d := n.of32 0 0x3000 0x21
    st != s.st || q != s.pubQ || nan32 v != nan32 s.pubV
      || (!nan32 v && !nan32 s.pubV && decide (d * rabs (q32 v) < rabs (q32 s.pubV - q32 v)))

/-- The 16-byte entry of Table 10-9. -/
def Node.pubEntry (n : Node) (p : Nat) : List Byte :=
  let s := n.pt p
  toLE 2 p ++ toLE 1 s.st ++ toLE 1 (s.pubQ % 16 + (if s.sim then 128 else 0)) ++ toLE 4 s.pubV ++ toLE 8 s.t

/-- The points of a rotation's next slice: as many after `rot` as cover all of them within a refresh period. -/
def Node.rotSlice (n : Node) (ps : List Nat) (rot : Nat) : List Nat :=
  let periods := max 1 (n.o 0x3000 0x08 / max 1 (n.o 0x3000 0x07))
  let k := (ps.length + periods - 1) / periods
  (ps.filter (fun p => decide (rot ≤ p)) ++ ps.filter (fun p => decide (p < rot))).take k

/-- Lists of at most `k` of the elements of `l`, in order. -/
def chunks {α : Type} (k : Nat) : Nat → List α → List (List α)
  | 0, _ => []
  | fuel + 1, l => if l.isEmpty then [] else l.take k :: chunks k fuel (l.drop k)

/-- Frames of one SEQ from their parts. -/
def partFrames (type seq : Nat) (parts : List (List Byte)) : List WoadOut :=
  (List.range parts.length).map (fun i => { type := type, seq := seq, part := i, parts := parts.length, body := parts.getD i [] })

/-- Is a publication due at the close `tk`: the first close at or after a multiple of the period? -/
def Node.pubDue (n : Node) (tk : Nat) : Bool := decide (n.ring.lastPub / ms (n.o 0x3000 0x07) < tk / ms (n.o 0x3000 0x07))

/-- The publication of a close, as frames, and the frame values for the archive (Table 12-7). -/
def Node.publication (n : Node) (tk : Nat) : List WoadOut × Node :=
  let per := n.o 0x3000 0x07
  let n := { n with ring := { n.ring with lastPub := tk } }
  let used := n.pointsInUse
  let flagged := used.filter (fun p => bit (n.po p 0x12) 3)
  let slice := n.rotSlice flagged n.ring.rot
  let ps := flagged.filter (fun p => n.pubMoved (n.pt p).sent (n.pt p) || slice.contains p)
  let aslice := n.rotSlice used n.ring.archRot
  let as_ := used.filter (fun p => n.pubMoved (n.pt p).kept (n.pt p) || aslice.contains p)
  let bodies := (chunks 88 200 ps).map (fun c => toLE 2 per ++ toLE 2 (n.o 0x3000 0x08) ++ toLE 2 c.length ++ zeros 2 ++ (c.map n.pubEntry).flatten)
  let frames := partFrames 3 (n.frame.num % 2 ^ 32) bodies
  let n := { n with ring := { n.ring with
    rot := (slice.getLast?.map (· + 1)).getD n.ring.rot
    archRot := (aslice.getLast?.map (· + 1)).getD n.ring.archRot } }
  let n := ps.foldl (fun n p => n.setPt p { n.pt p with sent := some (pubView (n.pt p)) }) n
  let n := as_.foldl (fun n p =>
    (n.setPt p { n.pt p with kept := some (pubView (n.pt p)) }).archive 4 0 tk [] (n.pubEntry p ++ toLE 4 n.frame.num)) n
  (frames, n)

/-! ## Events, calls and heartbeats (R309 to R312) -/

/-- The alarm event frames of one frame's records (as bytes, in delivery order). -/
def eventFrames (seq : Nat) (recs : List (List Byte)) : List WoadOut :=
  partFrames 4 seq ((chunks 44 (recs.length + 1) recs).map (fun c => toLE 2 c.length ++ zeros 2 ++ c.flatten))

/-- The heartbeat body (Table 10-11). -/
def Node.heartbeatBody (n : Node) (kind health : Nat) : List Byte :=
  toLE 1 kind ++ toLE 1 n.curMode ++ toLE 1 (n.o 0x2400 0x03) ++ toLE 1 (n.o 0x1100 0x03) ++ toLE 4 health ++ toLE 8 n.frame.num
    ++ toLE 8 (n.copy isleRing) ++ macBytes Config.macAddress ++ zeros 2

/-- NODE_HEARTBEAT_SEND. -/
def Node.sendHeartbeat (n : Node) : Node :=
  if n.ring.hbAt + ms (n.o 0x3000 0x09) ≤ n.now then
    let (q, n) := n.nextSeq 6
    ({ n with ring := { n.ring with hbAt := n.now } }).sendWoad { type := 6, seq := q, body := n.heartbeatBody 0 0 }
  else n

/-- A ring twin heartbeat: on the twin side only, without an HSR tag (R311). -/
def Node.sendTwinHeartbeat (n : Node) (health : Nat) : Node :=
  let side := n.o 0x3000 0x0A
  if side = 0 then n else
  let (q, n) := n.nextSeq 6
  let f := macTwin ++ macBytes Config.macAddress ++ toBE 2 n.ring.etype ++ n.woadBytes { type := 6, seq := q, body := n.heartbeatBody 1 health }
  ({ n with ring := { n.ring with thbAt := n.now } }).handTo (side - 1) (f ++ toLE 4 (crc32 f))

/-! ## Vat frames (R313) -/

/-- R313: is a binding of type 1 or 2 one the spec allows? -/
def ringBindingOk (type b slot : Nat) : Bool :=
  let hi := bits b 15 8
  let lo := bits b 7 0
  0x40 ≤ lo && lo ≤ hi && hi ≤ 0x7F && (if type = 1 then bits b 31 16 == 0 else bits b 31 24 == 0 && decide (2048 ≤ slot))

/-- The descriptor of Table 10-13. -/
def vatFrameDesc (type : Nat) (f : WoadIn) (gap : Bool) (stamp : Nat) : List Byte :=
  padTo 32 (toLE 1 type ++ toLE 1 (b2n gap + 2 * f.port.val) ++ toLE 2 f.body.length ++ toLE 4 f.seq.toNat ++ toLE 8 stamp
    ++ toLE 1 f.src.toNat ++ toLE 1 f.dst.toNat)

/-- A received vat frame fills a slot of each matching queue. -/
def Node.takeVatFrame (n : Node) (type : Nat) (f : WoadIn) : Node :=
  (n.queuesOf 2).foldl (fun n q =>
    let b := n.oi q 0x9100 0x0F
    let src := bits b 23 16
    if bits b 7 0 ≤ type ∧ type ≤ bits b 15 8 ∧ (src = 0 ∨ src = f.src.toNat) then
      let x := n.queue q
      let before := n.oi q 0x9100 0x0E
      let n := n.deliver q { desc := vatFrameDesc type f x.dropped (n.stamp isleRing f.agoNs), data := f.body }
      if n.oi q 0x9100 0x0E = before then n.setQueue q { n.queue q with dropped := false } else n
    else n) n

/-! ## Snapshots (R315 to R319) -/

/-- Table 10-14. -/
def snapBody (sub flags init id fire taken : Nat) : List Byte :=
  toLE 1 sub ++ toLE 1 flags ++ toLE 1 init ++ zeros 1 ++ toLE 4 id ++ toLE 8 fire ++ toLE 8 taken

/-- One snapshot entry of Table 12-7. -/
def Node.snapEntry (n : Node) (p : Nat) : List Byte :=
  let s := n.pt p
  toLE 2 p ++ toLE 1 s.st ++ toLE 1 (s.pubQ % 16 + (if s.sim then 128 else 0)) ++ toLE 4 s.pubV ++ toLE 8 s.t ++ toLE 1 s.cond ++ zeros 7

/-- The record of a snapshot (R315). -/
def Node.snapRecord (n : Node) (id init method : Nat) (late : Bool) (ts : Nat) : Node :=
  let ps := n.pointsInUse
  let pre := toLE 4 id ++ toLE 1 init ++ toLE 1 method ++ toLE 1 (b2n late) ++ zeros 1 ++ toLE 8 ts
  (n.archiveWhole 7 0 ts ts ps.length pre (ps.map n.snapEntry).flatten).incWrap 0x3000 0x20

/-- The acknowledgement to the initiator; the initiator itself sends none. -/
def Node.snapAck (n : Node) (id init flags taken : Nat) : Node :=
  if init = n.ident then n else n.sendWoad { type := 7, seq := id, body := snapBody 2 flags init id 0 taken }

/-- A snapshot is taken at `ts` (R315); a node in BOOT refuses. -/
def Node.takeSnapshot (n : Node) (id init method : Nat) (late : Bool) (ts : Nat) : Node :=
  if n.curMode = 2 then n.snapAck id init 8 0
  else (n.snapRecord id init method late ts).snapAck id init (2 + 4 * b2n late) ts

/-- R317: the shortest lead of a scheduled snapshot. -/
def Node.minLead (n : Node) : Nat := 2 * ((n.ring.nodes.length + 1) * 1200 + n.o 0x3000 0x1B) + 3400

/-- R316 to R319: the code of a snapshot command beyond the common checks. -/
def Node.snapCode (n : Node) (data : List Byte) : Nat :=
  let method := fieldLE data 0 1
  let fire := fieldLE data 8 8
  if 1 < method ∨ 1 < fieldLE data 1 1 ∨ fieldLE data 2 6 ≠ 0 ∨ (method = 0 ∧ fire ≠ 0) then 0x0606
  else if method = 1 ∧ fieldLE data 1 1 = 0 ∧ fire < n.copy isleRing + n.minLead then 0x0609
  else if n.o 0x3000 0x19 = 1 then 0x0608
  else 0

/-- An accepted snapshot command. -/
def Node.snapCommand (n : Node) (data : List Byte) : Node :=
  let sched := fieldLE data 0 1 == 1
  let lateOk := fieldLE data 1 1
  let fire := fieldLE data 8 8
  let id := n.ident * 2 ^ 24 + n.ring.snapCount
  let n := { n with ring := { n.ring with
    snapCount := (n.ring.snapCount + 1) % 2 ^ 24
    snap := some { id := id, scheduled := sched, fire := fire } } }
  let n := (((n.set 0x3000 0x19 1).set 0x3000 0x1A id).set 0x3000 0x1C 0).set 0x3000 0x1D 0
  let n := n.sendWoad { type := 7, seq := id, body := snapBody (if sched then 1 else 0) lateOk n.ident id (if sched then fire else 0) 0 }
  if sched then n.bcast { kind := .snapshot n.ident id, time := some fire, late := n.bcastLate fire }
  else n.takeSnapshot id n.ident 0 false (n.copy isleRing)

/-- MARKER: a node takes its snapshot at the ingress stamp of the first copy. -/
def Node.takeMarker (n : Node) (f : WoadIn) : Node :=
  n.takeSnapshot (fieldLE f.body 4 4) (fieldLE f.body 2 1) 0 false (n.stamp isleRing f.agoNs)

/-- ORDER: arm, take late, or refuse (R317, R318). -/
def Node.takeOrder (n : Node) (f : WoadIn) : Node :=
  let id := fieldLE f.body 4 4
  let init := fieldLE f.body 2 1
  let fire := fieldLE f.body 8 8
  if n.curMode = 2 then n.snapAck id init 8 0
  else if n.bcastLate fire then
    if bit (fieldLE f.body 1 1) 0 then n.takeSnapshot id init 1 true (n.copy isleRing) else n.snapAck id init 8 0
  else n.bcast { kind := .snapshot init id, time := some fire, late := false }

/-- ACK at the initiator (R319). -/
def Node.takeAck (n : Node) (f : WoadIn) : Node :=
  match n.ring.snap with
  | none => n
  | some x =>
    let fl := fieldLE f.body 1 1
    if n.o 0x3000 0x19 ≠ 1 ∨ fieldLE f.body 4 4 ≠ x.id ∨ fieldLE f.body 2 1 ≠ n.ident then n
    else
      let n := if bit fl 1 then n.incSatI 16 0 0x3000 0x1C 1 else n
      let n := if bit fl 2 || bit fl 3 then n.incSatI 16 0 0x3000 0x1D 1 else n
      let good := if bit fl 1 && !bit fl 2 then f.mac.toNat :: x.good else x.good
      { n with ring := { n.ring with snap := some { x with good := good, late := x.late || bit fl 2 } } }

/-- R316: the node's own marker comes back on a port. -/
def Node.markerBack (n : Node) (p : Nat) (body : List Byte) : Node :=
  match n.ring.snap with
  | some x =>
    if n.o 0x3000 0x19 = 1 ∧ !x.scheduled ∧ fieldLE body 0 1 = 0 ∧ fieldLE body 4 4 = x.id ∧ x.endAt.isNone then
      ({ n with ring := { n.ring with snap := some { x with back := x.back ||| 2 ^ p } } }).markerDone
    else n
  | none => n

/-- SNAPSHOT_COLLECTION_END (R319). -/
def Node.snapEnd (n : Node) : Node :=
  match n.ring.snap with
  | none => n
  | some x =>
    let due := if x.scheduled then decide (x.fire + ms 10 ≤ n.tai) else (match x.endAt with
      | some t => decide (t ≤ n.now)
      | none => false)
    if n.o 0x3000 0x19 = 1 ∧ due then
      n.set 0x3000 0x19 (if n.ring.nodes.all (fun e => x.good.contains e.1) && !x.late then 2 else 3)
    else n

/-- Snapshot frames by subtype. -/
def Node.takeSnapFrame (n : Node) (f : WoadIn) : Node :=
  let sub := fieldLE f.body 0 1
  if sub = 0 then n.takeMarker f else if sub = 1 then n.takeOrder f else if sub = 2 then n.takeAck f else n

/-! ## The commands of typed frames -/

/-- A tagged Woad frame of a type arrives by a port that is UP: HSR, then the checks, then `f` (R292 to R306). -/
def Node.woadIn (n : Node) (type : Nat) (w : WoadIn) (f : Node → Node) : Node :=
  let p := w.port.val
  if !n.portUp p then n else
  let n := n.incWrapI 64 p 0x3000 0x14 1
  if w.mac.toNat = ownMac then
    let n := n.incWrap 0x3200 0x04
    if type = 7 then n.markerBack p w.body else n
  else
    let (take, forward, n) := n.hsrArrive p w.mac.toNat w.hsrSeq.toNat
    let n :=
      if forward && w.toAll then
        let h := toLE 1 w.version.toNat ++ toLE 1 type ++ toLE 1 w.src.toNat ++ toLE 1 w.pub.toNat ++ toLE 1 w.dst.toNat ++ toLE 1 w.flags.toNat
          ++ toLE 2 w.body.length ++ toLE 4 w.seq.toNat ++ toLE 2 w.part.toNat ++ toLE 2 w.parts.toNat ++ w.body
        let fr := macAll ++ toBE 6 w.mac.toNat ++ toBE 2 0x892F ++ toBE 2 ((1 - p) * 4096 + (h.length + 6) % 4096) ++ toBE 2 w.hsrSeq.toNat
          ++ toBE 2 n.ring.etype ++ h
        n.handTo (1 - p) (fr ++ toLE 4 (crc32 fr))
      else n
    if take then
      let (ok, n) := n.woadAccept type w
      if ok then f n else n
    else n

/-! ## Commands -/

/-- LINK_UP (R285). -/
def execLinkUp (dt : Nat) (p : Fin 2) (gig : Bool) (lengthM : BitVec 16) (mdix phyMaster : Bool) (snr : BitVec 32) (s : State) :=
  act dt s fun n => n.whenUp fun n => n.portLink p gig lengthM.toNat mdix phyMaster snr.toNat
/-- LINK_LOST (R285). -/
def execLinkLost (dt : Nat) (p : Fin 2) (s : State) := act dt s fun n => n.whenUp fun n => n.portLost p
/-- TRAINING_TIMEOUT (R285). -/
def execTrainingTimeout (dt : Nat) (p : Fin 2) (s : State) := act dt s fun n => n.whenUp fun n => n.trainTimeout p
/-- FAILED_ATTEMPT (R284). -/
def execFailedAttempt (dt : Nat) (p : Fin 2) (s : State) := act dt s fun n => n.whenUp fun n => n.failedAttempt p
/-- MARGIN_LOW (R286). -/
def execMarginLow (dt : Nat) (p : Fin 2) (deciDb : Nat) (s : State) := act dt s fun n => n.whenUp fun n => n.marginLow p deciDb
/-- MARGIN_CLEAR (R286). -/
def execMarginClear (dt : Nat) (p : Fin 2) (deciDb : Nat) (s : State) := act dt s fun n => n.whenUp fun n => n.marginClear p deciDb
/-- BYPASS_CHANGE_DONE (R288). -/
def execBypassChangeDone (dt : Nat) (s : State) := act dt s fun n => n.whenUp Node.bypassDone
/-- HSR_SUPERVISION (R293). -/
def execHsrSupervision (dt : Nat) (s : State) := act dt s fun n => n.whenUp Node.sendSupervision
/-- NODE_FORGET (R293). -/
def execNodeForget (dt : Nat) (mac : BitVec 48) (s : State) := act dt s fun n => n.whenUp fun n => n.nodeForget mac.toNat
/-- RING_OPEN (R293). -/
def execRingOpen (dt : Nat) (s : State) := act dt s fun n => n.whenUp Node.ringOpenCheck
/-- PUBLICATION (R306). -/
def execPublication (dt : Nat) (f : WoadIn) (s : State) := act dt s fun n => n.whenUp fun n => n.woadIn 3 f fun n => n.takePublication f
/-- ALARM_EVENTS (R306). -/
def execAlarmEvents (dt : Nat) (f : WoadIn) (s : State) := act dt s fun n => n.whenUp fun n => n.woadIn 4 f fun n => n.takeEvents f
/-- HEARTBEAT (R311): the sender's identity is heard; the frame asks nothing more. -/
def execHeartbeat (dt : Nat) (f : WoadIn) (s : State) := act dt s fun n => n.whenUp fun n => n.woadIn 6 f fun n => n
/-- NODE_HEARTBEAT_SEND (R311). -/
def execNodeHeartbeatSend (dt : Nat) (s : State) := act dt s fun n => n.whenUp Node.sendHeartbeat
/-- MARKER (R316). -/
def execMarker (dt : Nat) (f : WoadIn) (s : State) := act dt s fun n => n.whenUp fun n => n.woadIn 7 f fun n => n.takeMarker f
/-- ORDER (R317, R318). -/
def execOrder (dt : Nat) (f : WoadIn) (s : State) := act dt s fun n => n.whenUp fun n => n.woadIn 7 f fun n => n.takeOrder f
/-- ACK (R319). -/
def execAck (dt : Nat) (f : WoadIn) (s : State) := act dt s fun n => n.whenUp fun n => n.woadIn 7 f fun n => n.takeAck f
/-- SNAPSHOT_COLLECTION_END (R319). -/
def execSnapshotCollectionEnd (dt : Nat) (s : State) := act dt s fun n => n.whenUp Node.snapEnd
/-- VAT_FRAME (R313): a TYPE that is no vat frame's is discarded. -/
def execVatFrame (dt : Nat) (type : Byte) (f : WoadIn) (s : State) := act dt s fun n => n.whenUp fun n =>
  n.woadIn type.toNat f fun n => if 0x40 ≤ type.toNat ∧ type.toNat ≤ 0x7F then n.takeVatFrame type.toNat f else n

end Sys2Proof.Machine
end

