-- ==== Sys2Proof/Machine/Ptp.lean ====
section
/-!
DEFINITION. Machine/Ptp.lean: PTP as the ring carries it (R296 to R301) and what it does to the time island
(R66, R67, R69). Time stamps are the time island's count (R297). An output `.ptp port kind seq corr` is a message
sent: kind 0 Sync, 1 Follow_Up, 2 Pdelay_Req, 3 Pdelay_Resp, 4 Pdelay_Resp_Follow_Up, 5 Announce.
-/
namespace Sys2Proof.Machine

def Node.pport (n : Node) (p : Nat) : PtpPort := mapGet n.ptp.ports p {}
def Node.setPport (n : Node) (p : Nat) (x : PtpPort) : Node := { n with ptp := { n.ptp with ports := mapPut n.ptp.ports p x } }

/-- Clock mode (Table 10-18), and the selected grandmaster. -/
def Node.clockMode (n : Node) : Nat := n.o 0x3100 0x01
def Node.grandmaster (n : Node) : Nat := ofBE (toLE 8 (n.o 0x3100 0x0E))

/-- An interval given as log2 s, in ns. -/
def logSec (l : Int) : Nat := if l < 0 then 500000000 else sec (2 ^ l.toNat)

/-- 0x3100.0B of both ports, as the roles stand (assumption log 66). -/
def Node.ptpStates (n : Node) : Node :=
  ([0, 1] : List Nat).foldl (fun n p =>
    let sel := n.o 0x3100 0x0D
    let st := if n.clockMode = 0 then 3 else if n.ptp.mine then 6
      else if sel = p then (if n.o 0x1100 0x03 = 2 then 9 else 8) else if sel = 0xFF then 4 else 7
    n.setI p 0x3100 0x0B st) n

/-! ## The discipline of the count (R66, R67) -/

/-- Table 3-5: do eight offsets lie within 1 µs of their mean? -/
def sumInt (l : List Int) : Int := l.foldl (· + ·) 0
def offsetsAgree (l : List Int) : Bool := l.length == 8 && l.all (fun x => decide ((8 * x - sumInt l).natAbs ≤ 8000))

/-- R67: LOCKED is entered: the count is stepped to PTP time by a timed broadcast, or slewed. -/
def Node.enterLocked (n : Node) (mean : Int) : Node :=
  let step := n.curMode == 2 || n.curMode == 3 || n.o 0x1100 0x03 == 0 || decide (ms (n.o 0x1100 0x06) < mean.natAbs)
  let n := n.enterTimeState 2
  let n := n.set 0x1100 0x04 (ofI 64 mean)
  if step then ((n.bcast { kind := .timeStep (-mean), time := some (n.tai + 3400) }).issueBcast)
  else { n with time := { n.time with slewLeft := -mean, slewPpm := n.o 0x1100 0x07 } }

/-- An offset measured on the selected port. -/
def Node.takeOffset (n : Node) (off : Int) : Node :=
  let offs := (off :: n.time.offsets).take 8
  let n := { n with time := { n.time with offsets := offs, lastSync := n.now } }
  if n.o 0x1100 0x03 = 2 then
    let r := max (-500000) (min 500000 (Config.servoRate offs n.time.rate))
    let n := n.set 0x1100 0x04 (ofI 64 off)
    { n with time := { n.time with rate := r, slewLeft := -off, slewPpm := n.o 0x1100 0x07 } }
  else if offsetsAgree offs then (n.enterLocked (sumInt offs / 8)).ptpStates
  else n

/-! ## Sync (R297, R299) -/

/-- R299: the selected port. The first Sync selects its port; the other port takes over after eight Syncs whose
correction is smaller by more than 100 ns on average, or when three have been missed. -/
def Node.selectPort (n : Node) (p seq : Nat) : Node :=
  let sel := n.o 0x3100 0x0D
  let d := n.ptp.paths
  let mean := sumInt d / 8
  if sel = 0xFF then n.set 0x3100 0x0D p
  else if sel = p then n
  else
    let missed := match (n.pport sel).last with
      | some (q, _) => decide (3 < (seq + 65536 - q) % 65536)
      | none => true
    let better := d.length == 8 && decide ((if sel = 0 then 100 else -mean) < (if sel = 0 then mean else -100))
    if missed || better then n.set 0x3100 0x0D p else n

/-- The path difference of a Sync both of whose copies have come (0x3100.13). -/
def Node.pathStep (n : Node) (seq : Nat) : Node :=
  match (n.pport 0).last, (n.pport 1).last with
  | some (a, ca), some (b, cb) =>
    if a = seq ∧ b = seq then
      let ds := ((ca - cb) :: n.ptp.paths).take 8
      ({ n with ptp := { n.ptp with paths := ds } }).set 0x3100 0x13 (satI 32 (sumInt ds / ds.length))
    else n
  | _, _ => n

/-- A complete Sync on port `p`: its receive time, origin and correction (2^-16 ns). -/
def Node.syncDone (n : Node) (p seq t2 origin : Nat) (corr : Int) : Node :=
  let delay : Int := (n.oi p 0x3100 0x0C / 1000 : Nat)
  let path := corr / 65536 + delay
  let n := n.setPport p { n.pport p with sync := none, last := some (seq, path) }
  let n := (n.pathStep seq).selectPort p seq
  if n.o 0x3100 0x0D = p then (n.takeOffset ((t2 : Int) - origin - path)).ptpStates else n

/-- Is a PTP message of this domain and grandmaster one that the ordinary clock uses (R66)? -/
def Node.ptpUses (n : Node) (gm domain : Nat) : Bool :=
  n.clockMode == 1 && domain == n.o 0x3100 0x02 && gm == n.grandmaster && !n.ptp.mine

/-- PTP_SYNC_RECEIVED: forwarded with its residence and the ingress link's delay, and measured. -/
def Node.syncIn (n : Node) (p gm domain seq : Nat) (twoStep : Bool) (origin : Nat) (corr : Int) (ago res : Nat) : Node :=
  if n.clockMode = 0 ∨ !n.portUp p then n else
  let add : Int := ((res + n.oi p 0x3100 0x0C / 1000) * 65536 : Nat)
  let n := (n.set 0x3100 0x10 (max (n.o 0x3100 0x10) res)).emit (.ptp (1 - p) 0 seq (if twoStep then corr else corr + add))
  let t2 := n.tai - ago
  let n := n.setPport p { n.pport p with sync := if twoStep then some (seq, t2, corr, res) else none }
  if n.ptpUses gm domain then
    let n := n.incWrap 0x3100 0x11
    if twoStep then n else n.syncDone p seq t2 origin corr
  else n

/-- PTP_FOLLOW_UP_RECEIVED: forwarded with the Sync's residence and link delay, and the Sync completed. -/
def Node.followUp (n : Node) (p gm domain seq origin : Nat) (corr : Int) : Node :=
  if n.clockMode = 0 ∨ !n.portUp p then n else
  match (n.pport p).sync with
  | some (q, t2, c1, res) =>
    if q = seq then
      let add : Int := ((res + n.oi p 0x3100 0x0C / 1000) * 65536 : Nat)
      let n := (n.emit (.ptp (1 - p) 1 seq (corr + add))).setPport p { n.pport p with sync := none }
      if n.ptpUses gm domain then n.syncDone p seq t2 origin (c1 + corr) else n
    else n
  | none => n

/-! ## Link delay (R298) -/

/-- PDELAY_REQ_SEND: each port on its own. -/
def Node.pdelaySend (n : Node) : Node :=
  if n.clockMode = 0 then n else
  ([0, 1] : List Nat).foldl (fun n p =>
    if n.portUp p then
      let q := ((n.pport p).reqSeq + 1) % 65536
      (n.setPport p { n.pport p with reqSeq := q, t1 := n.tai, resp := none }).emit (.ptp p 2 q 0)
    else n) n

/-- PDELAY_REQ_RECEIVED: answered in the step mode of 0x3100.06, with the turnaround as correction. -/
def Node.pdelayAnswer (n : Node) (p seq ago : Nat) : Node :=
  if n.clockMode = 0 ∨ !n.portUp p then n
  else if n.o 0x3100 0x06 = 1 then n.emit (.ptp p 3 seq ((ago * 65536 : Nat) : Int))
  else (n.emit (.ptp p 3 seq 0)).emit (.ptp p 4 seq ((ago * 65536 : Nat) : Int))

/-- The mean link delay of port `p` from half the round trip, in ns. -/
def Node.setDelay (n : Node) (p : Nat) (round : Int) : Node := n.setI p 0x3100 0x0C (max 0 (round * 500)).toNat

/-- PDELAY_RESP_RECEIVED: a one-step response carries the turnaround as correction; a two-step response carries
t2 and its follow-up t3. -/
def Node.pdelayIn (n : Node) (p seq : Nat) (followUp twoStep : Bool) (ts : Nat) (corr : Int) (ago : Nat) : Node :=
  let x := n.pport p
  if n.clockMode = 0 ∨ seq ≠ x.reqSeq then n
  else if followUp then
    match x.resp with
    | some (t2, t4, c) => (n.setPport p { x with resp := none }).setDelay p (((t4 : Int) - x.t1) - ((ts : Int) - t2) - (c + corr) / 65536)
    | none => n
  else
    let t4 := n.tai - ago
    if twoStep then n.setPport p { x with resp := some (ts, t4, corr) }
    else n.setDelay p (((t4 : Int) - x.t1) - corr / 65536)

/-! ## The best master clock algorithm (R66, R301) -/

/-- Order of IEEE 1588 data sets: is `a` better than `b`? -/
def gmBefore : List Nat → List Nat → Bool
  | a :: as_, b :: bs => decide (a < b) || (a == b && gmBefore as_ bs)
  | _, _ => false
def gmKey (g : GmData) : List Nat := [g.prio1, g.cls, g.acc, g.var, g.prio2, g.ident, g.steps]

/-- The node's own data set, when it may be grandmaster. -/
def Node.ownClock (n : Node) : GmData :=
  { prio1 := n.o 0x3100 0x03, cls := 248, acc := 0xFE, var := Config.ptpVariance, prio2 := n.o 0x3100 0x04, ident := Config.clockIdentity }
def Node.mayMaster (n : Node) : Bool := n.clockMode == 1 && !n.ob 0x3100 0x05

/-- The announce receipt timeout. -/
def Node.announceSpan (n : Node) : Nat := n.o 0x3100 0x09 * logSec (n.oint 8 0 0x3100 0x08)

/-- R66, R301: the grandmaster is selected; a change ends LOCKED and starts the offsets anew. -/
def Node.bmca (n : Node) : Node :=
  let live := n.ptp.masters.filter (fun e => decide (n.now < e.2.at_ + n.announceSpan))
  let own := n.ownClock
  let cands := live.map (·.2) ++ (if n.mayMaster then [own] else [])
  let best := cands.foldl (fun (b : Option GmData) g => match b with
    | some x => if gmBefore (gmKey g) (gmKey x) then some g else b
    | none => some g) none
  let n := { n with ptp := { n.ptp with masters := live } }
  let n := n.set 0x3100 0x12 (if n.ob 0x3100 0x05 then 255 else 248)
  match best with
  | none => n.ptpStates
  | some g =>
    let mine := n.mayMaster && g.ident == own.ident
    let n := n.set 0x3100 0x0F g.steps
    if g.ident = n.grandmaster ∧ mine = n.ptp.mine then n.ptpStates
    else
      let n := (n.toHoldover).set 0x3100 0x0E (ofLE (toBE 8 g.ident))
      let n := { n with
        ptp := { n.ptp with mine := mine, paths := [], ports := [] },
        time := { n.time with offsets := [] } }
      (n.set 0x3100 0x0D 0xFF).ptpStates

/-- ANNOUNCE_RECEIVED (R301, R69). -/
def Node.announceIn (n : Node) (p domain : Nat) (a : Announce) : Node :=
  if n.clockMode ≠ 1 ∨ domain ≠ n.o 0x3100 0x02 ∨ !n.portUp p then n else
  let id := a.ident.toNat
  let g : GmData := {
    prio1 := a.prio1.toNat
    cls := a.cls.toNat
    acc := a.acc.toNat
    var := a.var.toNat
    prio2 := a.prio2.toNat
    ident := id
    steps := a.steps.toNat
    at_ := n.now }
  let n := ({ n with ptp := { n.ptp with masters := mapPut n.ptp.masters id g } }).bmca
  if n.grandmaster = id ∧ !n.ptp.mine then
    let n := { n with time := { n.time with lastAnnounce := n.now, utcValid := a.utcValid, leap59 := a.leap59, leap61 := a.leap61 } }
    if n.o 0x1100 0x03 = 2 ∧ a.utcValid then n.set 0x1100 0x02 (ofI 16 (max 0 (min 1000 a.utcOffset.toInt))) else n
  else n

/-- ANNOUNCE_RECEIPT_TIMEOUT (R66, R301). -/
def Node.announceTimeout (n : Node) : Node :=
  if !n.ptp.mine ∧ n.time.lastAnnounce + n.announceSpan ≤ n.now then n.toHoldover.bmca else n

/-- PTP_SYNC_SEND: as grandmaster, Sync (and its Follow_Up in two-step mode) and Announce at their intervals. -/
def Node.masterSend (n : Node) : Node :=
  if !n.ptp.mine ∨ n.clockMode ≠ 1 then n else
  let both := fun (n : Node) (k q : Nat) => (n.emit (.ptp 0 k q 0)).emit (.ptp 1 k q 0)
  let n :=
    if n.ptp.syncAt + logSec (n.oint 8 0 0x3100 0x07) ≤ n.now then
      let q := (n.ptp.syncSeq + 1) % 65536
      let n := both { n with ptp := { n.ptp with syncAt := n.now, syncSeq := q } } 0 q
      if n.o 0x3100 0x06 = 0 then both n 1 q else n
    else n
  if n.ptp.annAt + logSec (n.oint 8 0 0x3100 0x08) ≤ n.now then
    both { n with ptp := { n.ptp with annAt := n.now } } 5 n.ptp.syncSeq
  else n

/-! ## Timed broadcasts act (R58) -/

/-- The first armed broadcast that is due at island `i`, and the armed ones when it has acted there. -/
def takeArmed (i : Nat) (due : BcastArmed → Bool) : List BcastArmed → Option BcastArmed × List BcastArmed
  | [] => (none, [])
  | a :: rest =>
    if due a then
      let left := a.islands.filter (· != i)
      (some a, if left = [] then rest else { a with islands := left } :: rest)
    else let r := takeArmed i due rest; (r.1, a :: r.2)

/-- Is an armed broadcast due at island `i`: not yet done there, and late, untimed or at its time? -/
def Node.bcastDue (n : Node) (i : Nat) (a : BcastArmed) : Bool :=
  a.islands.contains i && (a.b.late || (match a.b.time with
    | some t => decide (t ≤ n.copy i)
    | none => true))

/-- TIMED_BROADCAST_ACT: the oldest armed broadcast that is due acts at island `i`. A snapshot is taken by the
frame island's points when it acts there (R315, R317). -/
def Node.actBcast (n : Node) (i : Nat) : Node :=
  let r := takeArmed i (n.bcastDue i) n.bc.armed
  let n := { n with bc := { n.bc with armed := r.2 } }
  match r.1 with
  | none => n
  | some a =>
    match a.b.kind with
    | .timeStep d => n.stepIsland i d
    | .snapshot init id =>
      if i = isleFrame then n.takeSnapshot id init 1 a.b.late (if a.b.late then n.copy i else a.b.time.getD (n.copy i)) else n
    | _ => n

/-! ## Commands -/

/-- TIMED_BROADCAST_ACT (R58). -/
def execTimedBroadcastAct (dt : Nat) (i : Fin 61) (s : State) := act dt s fun n => n.whenUp fun n => n.actBcast i
/-- PTP_SYNC_RECEIVED (R297, R299). -/
def execPtpSyncReceived (dt : Nat) (p : Fin 2) (gm : BitVec 64) (domain : Byte) (seq : BitVec 16) (twoStep : Bool)
    (origin : BitVec 64) (corr : Int) (agoNs resNs : Nat) (s : State) :=
  act dt s fun n => n.whenUp fun n => n.syncIn p gm.toNat domain.toNat seq.toNat twoStep origin.toNat corr agoNs resNs
/-- PTP_FOLLOW_UP_RECEIVED (R297). -/
def execPtpFollowUpReceived (dt : Nat) (p : Fin 2) (gm : BitVec 64) (domain : Byte) (seq : BitVec 16) (origin : BitVec 64)
    (corr : Int) (s : State) :=
  act dt s fun n => n.whenUp fun n => n.followUp p gm.toNat domain.toNat seq.toNat origin.toNat corr
/-- PDELAY_REQ_SEND (R298). -/
def execPdelayReqSend (dt : Nat) (s : State) := act dt s fun n => n.whenUp Node.pdelaySend
/-- PDELAY_REQ_RECEIVED (R297, R298). -/
def execPdelayReqReceived (dt : Nat) (p : Fin 2) (seq : BitVec 16) (agoNs : Nat) (s : State) := act dt s fun n =>
  n.whenUp fun n => n.pdelayAnswer p seq.toNat agoNs
/-- PDELAY_RESP_RECEIVED (R298). -/
def execPdelayRespReceived (dt : Nat) (p : Fin 2) (seq : BitVec 16) (followUp twoStep : Bool) (ts : BitVec 64) (corr : Int)
    (agoNs : Nat) (s : State) :=
  act dt s fun n => n.whenUp fun n => n.pdelayIn p seq.toNat followUp twoStep ts.toNat corr agoNs
/-- ANNOUNCE_RECEIVED (R301). -/
def execAnnounceReceived (dt : Nat) (p : Fin 2) (domain : Byte) (ann : Announce) (s : State) := act dt s fun n =>
  n.whenUp fun n => n.announceIn p domain.toNat ann
/-- ANNOUNCE_RECEIPT_TIMEOUT (R66). -/
def execAnnounceReceiptTimeout (dt : Nat) (s : State) := act dt s fun n => n.whenUp Node.announceTimeout
/-- PTP_SYNC_SEND (R301). -/
def execPtpSyncSend (dt : Nat) (s : State) := act dt s fun n => n.whenUp Node.masterSend

end Sys2Proof.Machine
end

