-- ==== Sys2Proof/Machine/Umber.lean ====
section
/-!
DEFINITION. Machine/Umber.lean: the bistable alarm panel controller (chapter 14): timing of the panel, rails
and the discharge sequence, waveforms, DC balance, update requests and their rectangles.
-/
namespace Sys2Proof.Machine

def Node.uo (n : Node) (sub : Nat) : Nat := n.o 0x7400 sub
def Node.uset (n : Node) (sub v : Nat) : Node := n.set 0x7400 sub v
/-- The number of columns C and rows W. -/
def Node.cols (n : Node) : Nat := bits (n.uo 0x03) 15 0
def Node.rows (n : Node) : Nat := bits (n.uo 0x03) 31 16
def Node.railState (n : Node) : Nat := n.uo 0x13
def Node.setPanelBit (n : Node) (i : Nat) (b : Bool) : Node := n.setBitI 0 0x7400 0x15 i b
/-- PANEL of 0x1010.04. -/
def Node.panelStopped (n : Node) : Bool := bit (n.o 0x1010 0x04) 5
def Node.umberIsolated (n : Node) : Bool := bit (n.o 0x2200 0x15) 9

/-- R391: does the frame period hold T_min? Both sides in 1/80,000 µs: T_min is
1.01 * W * (C/8 + 16) * k / 800 µs + 50 µs. -/
def panelTimingOk (size k period : Nat) : Bool :=
  let c := bits size 15 0
  let w := bits size 31 16
  8 ≤ c && c ≤ 2560 && c % 8 == 0 && 8 ≤ w && w ≤ 1920 &&
    101 * w * (c / 8 + 16) * k + 50 * 80000 ≤ period * 80000

/-! ## Objects that follow Umber's state -/

/-- In flight and pending (0x7400.16, .17). -/
def Node.panelCounts (n : Node) : Node := (n.uset 0x16 n.umb.fly.length).uset 0x17 n.umb.pend.length

/-- One pixel, keyed by row and column. -/
def pixKey (row col : Nat) : Nat := 4096 * row + col
def Node.pix (n : Node) (k : Nat) : UmbPix := mapGet n.umb.pix k {}
def Node.setPix (n : Node) (k : Nat) (p : UmbPix) : Node :=
  { n with umb := { n.umb with pix := if p = {} then mapErase n.umb.pix k else mapPut n.umb.pix k p } }

/-- The pixels of a rectangle, in the order of the staged copy. -/
def rectPixels (r : UmbReq) : List Nat :=
  ((List.range r.h).map (fun j => (List.range r.w).map (fun i => pixKey (r.y + j) (r.x + i)))).flatten

/-- R394: the current image, two pixels per byte, the even column in the low nibble. -/
def Node.currentImage (n : Node) : List Byte :=
  ((List.range n.rows).map (fun j => (List.range (n.cols / 2)).map (fun i =>
    BitVec.ofNat 8 ((n.pix (pixKey j (2 * i))).level + 16 * (n.pix (pixKey j (2 * i + 1))).level)))).flatten

/-- 0x7400.20. -/
def Node.unknownPixels (n : Node) : Nat :=
  n.rows * n.cols - (n.umb.pix.filter (fun e => e.2.known && decide (e.1 / 4096 < n.rows) && decide (e.1 % 4096 < n.cols))).length

/-! ## Waveforms (R395, R396, R398) -/

/-- The entry of table `t` (0 NORMAL, 1 BAL_POS, 2 BAL_NEG), 16 bytes. -/
def entryAt (wf : List Byte) (t p n b : Nat) : Nat := fieldLE wf (34816 * t + 16 * (128 * p + 8 * n + b)) 16

/-- The 2-bit code of phase `f`. -/
def phaseCode (e f : Nat) : Nat := bits e (2 * f + 1) (2 * f)
/-- What a code does to the accumulator. -/
def codeStep (c : Nat) : Int := if c = 1 then 1 else if c = 2 then -1 else 0

/-- The partial sums of an entry after phases 0 to `count` - 1. -/
def partialSums (e count : Nat) : List Int :=
  ((List.range count).foldl (fun (a : Int × List Int) f =>
    let s := a.1 + codeStep (phaseCode e f)
    (s, a.2 ++ [s])) (0, [])).2
def maxInt (l : List Int) : Int := l.foldl max (l.headD 0)
def minInt (l : List Int) : Int := l.foldl min (l.headD 0)
def netOf (e count : Nat) : Int := (partialSums e count).getLastD 0

/-- N_b. -/
def Node.phaseCount (n : Node) (b : Nat) : Nat := bits (n.uo 0x0A) (8 * b + 7) (8 * b)

/-- R396: the whole DOMAIN keeps the rules that bound the net charge. -/
def Node.waveformsOk (n : Node) (wf : List Byte) : Bool :=
  wf.length == 104448 &&
  (List.range 8).all (fun b =>
    let c := n.phaseCount b
    (List.range 16).all (fun x =>
      netOf (entryAt wf 0 16 x b) c == 0 &&
      (List.range 17).all (fun p =>
        (partialSums (entryAt wf 1 p x b) c).all (fun s => decide (s ≤ 0)) &&
        (partialSums (entryAt wf 2 p x b) c).all (fun s => decide (0 ≤ s)))))

/-- R398: the entry for one pixel, and whether it is a balancing one. -/
def Node.selectEntry (n : Node) (wf : List Byte) (init : Bool) (band key next : Nat) : Nat × Bool :=
  let x := n.pix key
  let p := if !x.known || init then 16 else x.level
  let e := entryAt wf 0 p next band
  let sums := partialSums e (n.phaseCount band)
  let bound : Int := n.uo 0x0B
  if x.acc ≠ 0 ∧ (bound < x.acc + maxInt sums ∨ x.acc + minInt sums < -bound) then
    (entryAt wf (if 0 < x.acc then 1 else 2) p next band, true)
  else (e, false)

/-! ## Rails (R392, R393) -/

/-- The voltage of a monitored rail from the ball's µV: a * V + b (0x7400.10). -/
def Node.railVolt (n : Node) (r ballUv : Nat) : Rat :=
  let d := n.uo 0x10 >>> (96 * r)
  q32 (bits d 31 0) * ratio ballUv 1000000 + q32 (bits d 63 32)
def Node.railNominal (n : Node) (r : Nat) : Rat := q32 (bits (n.uo 0x10 >>> (96 * r)) 95 64)

/-- Within 10 % of nominal. -/
def Node.railGood (n : Node) (r ballUv : Nat) : Bool :=
  decide (rabs (n.railVolt r ballUv - n.railNominal r) ≤ rabs (n.railNominal r) / 10)

/-- 0x7400.14 takes the four voltages. -/
def Node.setRailVolts (n : Node) (balls : List Nat) : Node :=
  n.uset 0x14 (ofLE ((List.range 4).map (fun r => toLE 4 (r32 (n.railVolt r (balls.getD r 0))))).flatten)

def Node.setRails (n : Node) (mask : Nat) : Node := { n with umb := { n.umb with rails := mask, stepAt := n.now } }

/-- How many rails of the order VGL, VNEG, VGH, VPOS, VCOM are enabled. -/
def railsOn (mask : Nat) : Nat := (bitList mask 5).length

/-- R392: OFF, and a pending rectangle's copy and CRC have ended: the rise begins with VGL. -/
def Node.railsWanted (n : Node) : Node :=
  if n.railState = 0 ∧ n.ob 0x7400 0x01 ∧ !n.panelStopped ∧ !n.umberIsolated ∧ n.umb.pend.any (fun r => r.copied.isSome) then
    (n.uset 0x13 1).setRails 1
  else n

/-- R402: what the checks found holds for the boundary that follows them only. -/
def Node.clearVerdicts (n : Node) : Node :=
  { n with umb := { n.umb with pend := n.umb.pend.map (fun (r : UmbReq) => { r with verdict := 0 }) } }

/-- The fall begins with VCOM. -/
def Node.railsFall (n : Node) : Node := (n.clearVerdicts.uset 0x13 3).setRails 0xF

/-- Table 14-2, ON: PANEL stopped, or Enable false, with nothing in flight. -/
def Node.railsCheckOn (n : Node) : Node :=
  if n.railState = 2 ∧ n.umb.fly = [] ∧ (n.panelStopped ∨ !n.ob 0x7400 0x01) then n.railsFall else n

/-! ## Completions (R403) -/

/-- The completion log keeps the last 64 entries of Table 14-4. -/
def Node.panelDone (n : Node) (r : UmbReq) (result band : Nat) (balanced : Bool) : Node :=
  let e := toLE 8 (n.copy isleArchive) ++ toLE 4 r.tag ++ toLE 1 result ++ toLE 1 (b2n r.deferred + 2 * b2n balanced)
    ++ toLE 1 band ++ zeros 1
  let log := n.domI 0 0x7400 0x18 ++ e
  ((n.setDomI 0 0x7400 0x18 (log.drop (log.length - 1024))).incWrap 0x7400 0x19).event 0x0400

/-- R403, R405: every rectangle in flight is aborted; its pixels become unknown, its accumulators stand. -/
def Node.abortFlights (n : Node) : Node :=
  let fl := n.umb.fly
  let n := { n with umb := { n.umb with
    fly := [], idleAt := n.now
    pend := n.umb.pend.map (fun (r : UmbReq) => { r with verdict := 0 }) } }
  (fl.foldl (fun n (g : UmbFly) =>
    let n := (rectPixels g.req).foldl (fun n k => n.setPix k { n.pix k with known := false }) n
    n.panelDone g.req 3 g.band g.balanced) n).panelCounts

/-- R405: the discharge sequence; while the rails are OFF it ends at once. -/
def Node.discharge (n : Node) (fromFault : Bool) : Node :=
  if n.railState = 5 then n
  else if n.umb.rails = 0 then (if fromFault then n.uset 0x13 4 else n)
  else
    let n := n.abortFlights
    ({ n with umb := { n.umb with fromFault := fromFault, stepAt := n.now } }).uset 0x13 5

/-- The sequence ends: every enable low, OFF, or FAULT if it began there. -/
def Node.dischargeEnd (n : Node) : Node :=
  if n.railState = 5 then
    let n := (n.setRails 0).setPanelBit 4 true
    (n.uset 0x13 (if n.umb.fromFault then 4 else 0)).railsWanted
  else n

/-- R393: entry to FAULT. -/
def Node.railFault (n : Node) (r : Nat) (volt : Rat) : Node :=
  let n := ((n.setPanelBit 2 true).event 0x0401).fault 0x00B 0x70 r (ofI 32 (roundNear (volt * 1000)))
  (n.uset 0x13 4).discharge true

/-- RAIL_STEP: the step delay has passed; in RISING a monitored rail must lie in its window before the next
enable, in FALLING the next enable is released. -/
def Node.railStep (n : Node) (balls : List Nat) : Node :=
  let n := if n.railState = 0 ∨ n.railState = 4 then n else n.setRailVolts balls
  let on := railsOn n.umb.rails
  if n.now < n.umb.stepAt + us (n.uo 0x0E) then n
  else if n.railState = 1 then
    if on ≤ 4 ∧ !n.railGood (on - 1) (balls.getD (on - 1) 0) then
      if n.umb.stepAt + ms 5 ≤ n.now then n.railFault (on - 1) (n.railVolt (on - 1) (balls.getD (on - 1) 0)) else n
    else if on < 5 then n.setRails (2 ^ (on + 1) - 1)
    else ({ n.uset 0x13 2 with umb := { n.umb with stepAt := n.now, idleAt := n.now } }).railsCheckOn
  else if n.railState = 3 then
    let n := n.setRails (2 ^ (on - 1) - 1)
    if n.umb.rails = 0 then (n.uset 0x13 0).railsWanted else n
  else n

/-- RAIL_FAULT: a monitored rail out of its window: 5 ms after its enable in RISING, for 100 µs in ON. -/
def Node.railMissed (n : Node) (r ballUv : Nat) : Node :=
  if n.railGood r ballUv then n
  else if n.railState = 1 ∧ railsOn n.umb.rails = r + 1 ∧ n.umb.stepAt + ms 5 ≤ n.now then n.railFault r (n.railVolt r ballUv)
  else if n.railState = 2 then n.railFault r (n.railVolt r ballUv)
  else n

/-- RAIL_IDLE: no rectangle in flight for the idle time. -/
def Node.railIdle (n : Node) : Node :=
  if n.railState = 2 ∧ n.umb.fly = [] ∧ n.umb.idleAt + ms (n.uo 0x0F) ≤ n.now then n.railsFall else n

/-- R393: the rail command: 1 in FAULT; any other write is refused. -/
def Node.railCode (n : Node) (v : Nat) : Nat := if v = 1 ∧ n.railState = 4 then 0 else 0x0606
def Node.railClear (n : Node) : Node := (n.uset 0x13 0).railsWanted

/-! ## Update requests (R399, R400) -/

def reqOf (d : Nat) : UmbReq :=
  { x := bits d 15 0, y := bits d 31 16, w := bits d 47 32, h := bits d 63 48, init := bit d 64, tag := bits d 127 96 }

/-- R399: the request's code. -/
def Node.updateCode (n : Node) (d : Nat) : Nat :=
  let r := reqOf d
  if bits d 71 65 ≠ 0 ∨ bits d 95 72 ≠ 0 ∨ r.w = 0 ∨ r.h = 0 ∨ n.cols < r.x + r.w ∨ n.rows < r.y + r.h ∨ !n.ob 0x7400 0x01 then 0x0606
  else if n.panelStopped ∨ n.railState = 4 ∨ n.umberIsolated then 0x0608
  else if 32 ≤ n.umb.pend.length + n.umb.fly.length then 0x060A
  else 0

/-- R400: the levels of the rectangle's pixels in the image DOMAIN; beyond its end the level is open. -/
def Node.stagePixels (n : Node) (r : UmbReq) (open_ : Nat) : List Nat :=
  let img := n.domI 0 0x7400 0x11
  let c := n.cols
  ((List.range r.h).map (fun j => (List.range r.w).map (fun i =>
    let at_ := (r.y + j) * c + (r.x + i)
    match img[at_ / 2]? with
    | some b => if at_ % 2 = 0 then bits b.toNat 3 0 else bits b.toNat 7 4
    | none => open_ % 16))).flatten

/-- Pixels packed two per byte, low nibble first, row by row. -/
def packNibbles : List Nat → List Byte
  | a :: b :: rest => BitVec.ofNat 8 (a + 16 * b) :: packNibbles rest
  | [a] => [BitVec.ofNat 8 a]
  | [] => []

/-- R400: the copy is taken (an image transfer that is applying makes it wait), with its CRC-32. -/
def Node.takeCopy (n : Node) (r : UmbReq) : UmbReq × Node :=
  let short := decide (2 * (n.domI 0 0x7400 0x11).length < n.rows * n.cols)
  let (v, n) := if short then n.draw else (0, n)
  let px := n.stagePixels r v
  ({ r with staged := some px, crc := crc32 (packNibbles px) }, n)

/-- Is a data-port transfer to the image applying? -/
def Node.imageApplying (n : Node) : Bool :=
  (List.range 16).any (fun p => (n.port p).state == .applying && n.o (0xF000 + p) 0x01 % 2 ^ 24 == 0x740011)

def Node.addRequest (n : Node) (d : Nat) : Node :=
  let (r, n) := if n.imageApplying then (reqOf d, n) else n.takeCopy (reqOf d)
  ({ n with umb := { n.umb with pend := n.umb.pend ++ [r] } }).panelCounts

/-- The image transfer has been applied: the copies that waited for it are taken. -/
def Node.imageApplied (n : Node) : Node :=
  let r := n.umb.pend.foldl (fun (a : List UmbReq × Node) (r : UmbReq) =>
    if r.staged = none then let y := a.2.takeCopy r; (a.1 ++ [y.1], y.2) else (a.1 ++ [r], a.2)) ([], n)
  { r.2 with umb := { r.2.umb with pend := r.1 } }

/-- The first request whose copy has not ended is marked. -/
def markCopied (now : Nat) : List UmbReq → List UmbReq
  | [] => []
  | r :: rest => if r.copied = none ∧ r.staged.isSome then { r with copied := some now } :: rest else r :: markCopied now rest

/-- COPY_DONE: the oldest copy and its CRC end; the rails rise if they are OFF. A transfer that was given up no longer
holds copies back. -/
def Node.copyDone (n : Node) : Node :=
  let n := if n.imageApplying then n else n.imageApplied
  ({ n with umb := { n.umb with pend := markCopied n.now n.umb.pend } }).railsWanted

/-! ## Checks and frame boundaries (R401 to R403) -/

def overlaps (a b : UmbReq) : Bool :=
  decide (a.x < b.x + b.w) && decide (b.x < a.x + a.w) && decide (a.y < b.y + b.h) && decide (b.y < a.y + a.h)

/-- R401 at a boundary `t`: for each pending rectangle in order, does it start, is it deferred? `others` are the
rectangles in flight after completions. A rectangle that starts or waits bars the later ones it overlaps. -/
def dueAt (t : Nat) : List UmbReq → List UmbReq → Nat → List (UmbReq × Bool)
  | _, [], _ => []
  | others, r :: rest, flying =>
    let free := !others.any (overlaps r) && decide (flying < 16)
    let ready := match r.copied with | some c => decide (c + 1000000 < t) | none => false
    let starts := free && ready
    ({ r with deferred := r.deferred || (free && !ready) }, starts)
      :: dueAt t (others ++ [r]) rest (if starts && r.verdict == 0 then flying + 1 else flying)

/-- The rectangles that stay in flight over the next boundary. -/
def Node.staying (n : Node) : List UmbFly := n.umb.fly.filter (fun (g : UmbFly) => decide (g.phase < g.count))

/-- PANEL_CHECKS: 1 ms before boundary `t`, while rectangles are due. -/
def Node.panelChecks (n : Node) (milliohm : Option Nat) (crcBad : List Nat) : Node :=
  if n.railState ≠ 2 ∨ n.panelStopped then n else
  let due := dueAt (n.now + 1000000) (n.staying.map (fun (g : UmbFly) => g.req)) n.umb.pend n.staying.length
  if !due.any (fun d => d.2) then n else
  let n := n.uset 0x1A (match milliohm with | some m => r32 (ratio m 1000) | none => nanBits)
  let failed := match milliohm with | some m => decide (200000 < m) | none => true
  if failed then
    let addr := match milliohm with | some m => min (m / 1000) 0xFFFFFFFE | none => 0xFFFFFFFF
    let n := { n with umb := { n.umb with pend := (n.umb.pend.zip due).map (fun (e : UmbReq × UmbReq × Bool) => if e.2.2 then { e.1 with verdict := 1 } else e.1) } }
    (((n.setPanelBit 0 true).event 0x0401).incSat 0x7400 0x1B).fault 0x00B 0x72 0 addr
  else
    (((List.range n.umb.pend.length).filter (fun i => crcBad.contains i && ((due[i]?.map (·.2)).getD false))).foldl (fun n i =>
      let r : UmbReq := n.umb.pend.getD i {}
      let n := { n with umb := { n.umb with pend := n.umb.pend.set i { r with verdict := 2 } } }
      (((n.setPanelBit 1 true).event 0x0401).incSat 0x7400 0x1C).fault 0x00B 0x73 0 r.tag) n)

/-- R397: the band of the next start, TEMP_FALLBACK, and the temperature. -/
def Node.panelBand (n : Node) : Nat × Node :=
  let p := n.uo 0x07
  let s : PointSt := mapGet n.points p {}
  if p = 0xFFFF ∨ s.pubQ = 2 ∨ s.pubQ = 3 ∨ s.pubQ = 4 then
    let was := bit (n.uo 0x15) 3
    let n := (n.setPanelBit 3 true).uset 0x22 (if p = 0xFFFF then nanBits else s.pubV)
    (n.uo 0x09, if was then n else n.fault 0x00B 0x71 0 0)
  else
    let t := q32 s.pubV
    let n := (n.setPanelBit 3 false).uset 0x22 s.pubV
    (((List.range 7).filter (fun i => decide (q32 (bits (n.uo 0x08) (32 * i + 31) (32 * i)) ≤ t))).length, n)

/-- R403: a rectangle that has had all its phases completes: its pixels stand at their next levels, known. -/
def Node.finishFlight (n : Node) (g : UmbFly) : Node :=
  let n := ((rectPixels g.req).zip (g.req.staged.getD [])).foldl (fun n e =>
    n.setPix e.1 { n.pix e.1 with level := e.2, known := true }) n
  n.panelDone g.req 0 g.band g.balanced

/-- R398, R401, R402: a due rectangle starts, or completes undriven. -/
def Node.startRect (n : Node) (r : UmbReq) : Node :=
  if r.verdict ≠ 0 then n.panelDone r r.verdict 0xFF false
  else
    let (b, n) := n.panelBand
    let count := n.phaseCount b
    if count = 0 then n.panelDone r 5 0xFF false
    else
      let wf := n.domI 0 0x7400 0x0C
      let es := ((rectPixels r).zip (r.staged.getD [])).map (fun e => n.selectEntry wf r.init b e.1 e.2)
      let subs := (es.filter (fun e => e.2)).length
      let n := ((n.incWrapI 32 0 0x7400 0x1D subs).uset 0x21 b)
      { n with umb := { n.umb with fly := n.umb.fly ++
        [{ req := r, band := b, count := count, entries := es.map (fun e => e.1), balanced := decide (0 < subs) }] } }

/-- R398: one phase of a rectangle: each driven phase moves its pixel's accumulator. -/
def Node.drivePhase (n : Node) (g : UmbFly) : Node :=
  ((rectPixels g.req).zip g.entries).foldl (fun n e =>
    let d := codeStep (phaseCode e.2 g.phase)
    if d = 0 then n else n.setPix e.1 { n.pix e.1 with acc := (n.pix e.1).acc + d }) n

/-- PANEL_FRAME_BOUNDARY (R401, R403). -/
def Node.panelBoundary (n : Node) : Node :=
  if n.railState ≠ 2 then n else
  let ended := n.umb.fly.filter (fun (g : UmbFly) => decide (g.count ≤ g.phase))
  let n := { n with umb := { n.umb with fly := n.staying } }
  let n := ended.foldl (fun n g => n.finishFlight g) n
  let n :=
    if n.panelStopped then n.clearVerdicts
    else
      let due := dueAt n.now (n.umb.fly.map (fun (g : UmbFly) => g.req)) n.umb.pend n.umb.fly.length
      let n := ({ n with umb := { n.umb with pend := (due.filter (fun (d : UmbReq × Bool) => !d.2)).map (fun (d : UmbReq × Bool) => d.1) } } : Node).clearVerdicts
      (due.filter (fun d => d.2)).foldl (fun n d => n.startRect d.1) n
  let n := n.umb.fly.foldl (fun n g => n.drivePhase g) n
  let busy := !n.umb.fly.isEmpty
  let n := { n with umb := { n.umb with
    fly := n.umb.fly.map (fun (g : UmbFly) => { g with phase := g.phase + 1 })
    idleAt := if ended = [] ∧ !busy then n.umb.idleAt else n.now } }
  n.panelCounts.railsCheckOn

/-- R406: Enable written false: pending rectangles complete with RESULT 4. -/
def Node.panelDisabled (n : Node) : Node :=
  let ps := n.umb.pend
  let n := { n with umb := { n.umb with pend := [] } }
  (ps.foldl (fun n r => n.panelDone r 4 0xFF false) n).panelCounts.railsCheckOn

/-! ## Commands -/

/-- COPY_DONE (R400). -/
def execCopyDone (dt : Nat) (s : State) := act dt s fun n => n.whenUp Node.copyDone
/-- PANEL_CHECKS (R402). -/
def execPanelChecks (dt : Nat) (milliohm : Option Nat) (crcBad : List Nat) (s : State) :=
  act dt s fun n => n.whenUp fun n => n.panelChecks milliohm crcBad
/-- PANEL_FRAME_BOUNDARY (R401). -/
def execPanelFrameBoundary (dt : Nat) (s : State) := act dt s fun n => n.whenUp Node.panelBoundary
/-- RAIL_STEP (R392): `b0` to `b3` are the balls' voltages in µV. -/
def execRailStep (dt : Nat) (b0 b1 b2 b3 : Nat) (s : State) := act dt s fun n => n.whenUp fun n => n.railStep [b0, b1, b2, b3]
/-- RAIL_FAULT (R393). -/
def execRailFault (dt : Nat) (rail : Fin 4) (ballUv : Nat) (s : State) := act dt s fun n => n.whenUp fun n => n.railMissed rail ballUv
/-- RAIL_IDLE (R392). -/
def execRailIdle (dt : Nat) (s : State) := act dt s fun n => n.whenUp Node.railIdle
/-- DISCHARGE_END (R405). The sequence also runs through a line loss and a node reset. -/
def execDischargeEnd (dt : Nat) (s : State) := act dt s fun n => n.when (n.pwr.phase != .off && n.pwr.phase != .keep) Node.dischargeEnd

end Sys2Proof.Machine
end

