-- ==== Sys2Proof/Machine/TwinBase.lean ====
section
/-!
DEFINITION. Machine/TwinBase.lean: what modes and the twin logic share (chapter 11): preference, the health
word and fitness, holding and dropping OWN, the role, the sync state.
-/
namespace Sys2Proof.Machine

def Node.twinOn (n : Node) : Bool := n.ob 0x2400 0x01
def Node.setTwin (n : Node) (f : TwinSt → TwinSt) : Node := { n with twin := f n.twin }
def Node.syncState (n : Node) : Nat := n.o 0x2400 0x0A
def Node.setSync (n : Node) (st : Nat) : Node := n.set 0x2400 0x0A st

/-- R32, R324: the preferred twin: STRAP5, or with equal straps the lower identity. -/
def Node.preferred (n : Node) : Bool := if n.twin.conflict then n.ident < n.twin.peerIdent else n.pwr.prefStrap

/-- OWN_IN and FORCE_IN as the node sees them (R322): ignored where no twin is configured. -/
def Node.ownSeen (n : Node) : Bool := n.twinOn && n.twin.ownIn
def Node.forceSeen (n : Node) : Bool := n.twinOn && n.twin.forceIn

/-- OWN_IN has been low for 2 µs (R329). -/
def Node.ownLow2 (n : Node) : Bool := !n.twin.ownIn && decide (n.twin.ownInAt + us 2 ≤ n.now)

/-! ## Health (R327) -/

def Node.noSevere (n : Node) : Bool := n.ver.pairs.all (fun e => !e.2.severe)

/-- Every enabled lake and dynamic lake passed its last test. -/
def Node.unitsOk (n : Node) : Bool :=
  (List.range 40).all (fun u => n.unitState u == 6 || n.o (unitIdx u) 0x03 == 0)

/-- R341: the digests agree. -/
def Node.configMatch (n : Node) : Bool := n.twin.digestSeen && n.o 0x2400 0x0B == n.o 0x2400 0x0C

/-- Table 11-4. -/
def Node.health (n : Node) : Nat :=
  b2n n.twin.pipe + 2 * b2n (n.copyValid 0 && n.copyValid isleFrame) + 4 * b2n n.twin.own
    + 8 * b2n (n.syncState == 3 || n.syncState == 4) + 16 * b2n n.configMatch + 32 * b2n (n.twin.loopFail == 0)
    + 64 * b2n n.unitsOk + 128 * b2n (n.o 0x1010 0x04 == 0) + 256 * b2n n.noSevere + 512 * b2n n.ringUp
    + 1024 * b2n (n.twin.ownOk && !n.twin.ownFault) + 2048 * b2n n.twin.forceOk + 4096 * b2n n.linkUp
    + 8192 * b2n n.twin.silent + 16384 * b2n n.preferred + 32768 * b2n (n.ob 0x1010 0x08) + 65536 * n.curMode

def hasBits (h : Nat) (bs : List Nat) : Bool := bs.all (fun i => bit h i)

/-- R327: fit, fit for planned handover, fit for takeback. -/
def fitFor (h : Nat) : Bool := hasBits h [0, 1]
def fitPlanned (h : Nat) : Bool := hasBits h [0, 1, 12, 3, 5, 7, 8]
def fitTakeback (h : Nat) : Bool := fitPlanned h && bit h 4

/-! ## Role and OWN (R329, R330) -/

/-- 0x2400.03; a change raises source 4 at every vat. -/
def Node.setRole (n : Node) (r : Nat) : Node := if n.o 0x2400 0x03 = r then n else (n.set 0x2400 0x03 r).irqAll 4

/-- R329: the stage enables: only while OWN is held and FORCE_IN is low. -/
def Node.enableStages (n : Node) : Node := if n.twin.own && !n.forceSeen then n.stageEnable else n

/-- OWN is asserted. With `wait` the stages follow later (R329), else at once (R337). -/
def Node.holdOwn (n : Node) (wait : Option Nat) : Node :=
  let n := (n.setTwin fun t => { t with own := true, claimAt := wait }).setRole 1
  let n := n.setSync 4
  match wait with
  | some _ => n
  | none => n.enableStages

/-- R329: a claim: OWN once OWN_IN has been low for 2 µs, the stages 5 µs later. -/
def Node.claimOwn (n : Node) (cause : Nat) : Node :=
  let from_ := if n.twin.ownIn then n.now else max n.now (n.twin.ownInAt + us 2)
  (n.setTwin fun t => { t with claimCause := cause }).holdOwn (some (from_ + us 5))

/-- The stages of a claim whose 5 µs have passed. -/
def Node.claimDone (n : Node) : Node :=
  match n.twin.claimAt with
  | some t => if t ≤ n.now then (n.setTwin fun t => { t with claimAt := none }).enableStages else n
  | none => n

/-- R326, R328, R329: OWN drops: OWN_OUT and the stage enables together; a ring twin heartbeat goes at once. -/
def Node.dropOwn (n : Node) : Node :=
  if n.twin.own then
    let n := ((n.setTwin fun t => { t with own := false, claimAt := none }).stageDisable).setSync 0
    if n.twinOn then n.sendTwinHeartbeat n.health else n
  else n

/-- R212 for a node that paces itself again: its last close was the last multiple of P on its time copy. -/
def Node.repace (n : Node) : Node :=
  { n with frame := { n.frame with lastClose := n.copy isleFrame / n.framePeriod * n.framePeriod, lastAt := n.now } }

/-- The frames taken from the owner so far are forgotten. -/
def Node.mirrorClear (n : Node) : Node :=
  n.setTwin fun t => { t with rx := [], rxFirst := [], close := none, replay := [], loaded := false }

/-- R335: the sync state on entry to STANDBY: TRANSFER with the link up. The node's own readings are kept apart from
then on (R334). -/
def Node.syncStart (n : Node) : Node :=
  let n := n.mirrorClear.setTwin fun t => { t with imageSent := false, ownLast := if n.mirrors then t.ownLast else n.srcLast }
  n.setSync (if n.linkUp then 1 else 0)

/-- R335: SYNC, REPLAY and TRANSFER fall back to NONE; the node goes on with its own inputs and its own pacing. -/
def Node.syncLostTwin (n : Node) : Node :=
  if [1, 2, 3].contains n.syncState then (({ n with srcLast := n.twin.ownLast }).mirrorClear.setSync 0).repace else n

/-- The later of two readings of a source. -/
def laterReading (a b : Reading) : Reading := if a.time < b.time then b else a

/-- R337: from a takeover on, each source's last reading is the later of the mirrored and the own one. The own
readings of the frame now filling stand in its buffer. -/
def Node.takeInputs (n : Node) : Node :=
  let l := n.twin.ownLast.foldl (fun l (e : Nat × Reading) => mapPut l e.1 (laterReading e.2 (mapGet l e.1 e.2))) n.srcLast
  (({ n with srcLast := l }).mirrorClear).repace

/-! ## Heartbeats (R326, R327) -/

/-- R343: since when the node has been fit for takeback without a break. -/
def Node.takebackTrack (n : Node) : Node :=
  let ok := n.ob 0x2400 0x05 && n.preferred && n.curMode == 5 && bit (n.o 0x2400 0x08) 2 && fitTakeback n.health
  n.setTwin fun t => { t with fitSince := if ok then some (t.fitSince.getD n.now) else none }

/-- R324: both straps equal. -/
def Node.strapCheck (n : Node) (h : Nat) : Node :=
  if !n.twin.conflict && bit h 14 == n.pwr.prefStrap then
    ((n.setTwin fun t => { t with conflict := true }).setBitI 0 0x2200 0x11 0 true).fault 0x00C 0x5A 0 0
  else n

/-- What a valid heartbeat of either kind says of the twin. A fault of the OWN line ends once OWN_IN and OWNING agree;
FORCE_OUT is released once the twin shows OWNING clear and STANDBY (R338); a state image is due again once the twin
is in sync, has left STANDBY or has lost the link. -/
def Node.heartbeatSays (n : Node) (src : Nat) (body : List Byte) : Node :=
  let h := fieldLE body 4 4
  let mode := fieldLE body 1 1
  let n := (n.set 0x2400 0x08 h).setTwin fun t => { t with
    hbSeen := true
    peerIdent := if src = 0 then t.peerIdent else src
    peerMode := mode
    ownFault := t.ownFault && bit h 2 != t.ownIn
    forceOut := t.forceOut && !(!bit h 2 && mode == 5)
    imageSent := t.imageSent && !bit h 3 && mode == 5 && !bit h 13 }
  (n.strapCheck h).takebackTrack

/-- A twin-link heartbeat (R326, R336): the link is not silent, and a standby without a mirror starts one (R335). -/
def Node.linkHeartbeat (n : Node) (body : List Byte) (seenOwn seenForce : Bool) : Node :=
  let h := fieldLE body 4 4
  let tai := fieldLE body 16 8
  let mac := fieldBE body 24 6
  let src := ((n.ring.nodes.find? (fun e => e.1 == mac)).map (fun (e : Nat × RingNode) => e.2.ident)).getD 0
  let n := (n.heartbeatSays src body).setTwin fun t => { t with
    hbAt := n.now
    hbTai := tai
    silent := false
    clearSeen := t.clearSeen || (!t.ownIn && !bit h 2 && decide (t.fallTai < tai))
    ownOk := t.ownOk || seenOwn
    forceOk := t.forceOk || seenForce
    ownWait := if seenOwn then none else t.ownWait
    forceWait := if seenForce then none else t.forceWait
    lineTest := if seenOwn || seenForce then n.tai else t.lineTest
    updated := if seenOwn || seenForce then n.tai else t.updated }
  if n.curMode = 5 ∧ n.syncState = 0 then n.syncStart else n

/-- A ring twin heartbeat on the twin side. It keeps the ring path from being silent if it shows PIPELINE and is
later than the last heartbeat of the link (R326). -/
def Node.ringHeartbeat (n : Node) (p src : Nat) (body : List Byte) : Node :=
  if !n.portUp p ∨ n.o 0x3000 0x0A ≠ p + 1 ∨ !n.twinOn ∨ fieldLE body 0 1 ≠ 1 then n
  else
    let h := fieldLE body 4 4
    let tai := fieldLE body 16 8
    (n.heartbeatSays src body).setTwin fun t => { t with
      ringHbAt := if bit h 0 && decide (t.hbTai < tai) then n.now else t.ringHbAt
      ringAfter := if t.ownIn || decide (tai ≤ t.fallTai) then t.ringAfter else if bit h 2 then 2 else 1 }

/-- LIMITER_TICK (R264): the limiters step; a claim whose 5 µs have passed enables its stages (R329). -/
def execLimiterTick (dt : Nat) (s : State) := act dt s fun n => n.whenUp fun n => n.claimDone.limiterTick

end Sys2Proof.Machine
end

