-- ==== Sys2Proof/Machine/Modes.lean ====
section
/-!
DEFINITION. Machine/Modes.lean: the eight modes (chapter 02): transitions and their causes, stopped functions,
RESUME, the role decision, mode commands, what a frame boundary applies and in which order, and planned
handovers as far as both nodes' modes follow them.
-/
namespace Sys2Proof.Machine

/-! ## Transitions (R18 to R20) -/

/-- R20: the mode that a transition into ACTIVE enters. -/
def Node.activeTarget (n : Node) : Nat := if n.ob 0x1010 0x08 then 7 else if n.o 0x1010 0x04 ≠ 0 then 6 else 4

/-- Do calls leave the node in its mode (Table 2-1)? -/
def Node.callsOut (n : Node) : Bool :=
  if n.curMode = 2 then false else if n.curMode = 3 then n.ob 0x1010 0x05 else n.curMode != 5

/-- R330: ownership on entry to COMMISSION is decided by OWN_IN alone; a node that stops owning listens (R384). -/
def Node.commissionOwn (n : Node) (cause : Nat) : Node :=
  if n.ownLow2 then (if n.twin.own then n else n.claimOwn cause)
  else (n.when n.twin.own fun n => n.dropOwn.canToListen).setRole 0

/-- R18: the mode, its cause and its time are written, the message is sent and source 3 raised; then what
entering the mode brings with it. -/
def Node.enterMode (n : Node) (m cause : Nat) : Node :=
  let old := n.curMode
  let anew := (old == 2 || (old == 3 && !n.callsOut)) && (m == 4 || m == 6 || m == 7)
  let n := ((n.set 0x1010 0x01 m).set 0x1010 0x03 cause).set 0x1010 0x07 n.tai
  let n := (n.fault 0x000 0x01 m (old * 256 + cause)).irqAll 3
  let n :=
    if m = 3 then (n.set 0x1010 0x05 0).commissionOwn cause
    else if m = 5 then
      let n := if old = 7 then n.set 0x1010 0x08 1 else n
      ((n.dropOwn.setRole 2).syncStart).canToListen
    else if n.twin.own then n else n.claimOwn cause
  let n := if anew then n.raiseAll (n.copy isleFrame) else n
  if m = 7 then n.holdSafe else n

/-! ## Stopped functions (R19, R21, Table 2-5) -/

/-- The functions of a reaction stop, and their bits stand in 0x1010.04. -/
def Node.stopFns (n : Node) (fns : Nat) : Node :=
  let was := n.o 0x1010 0x04
  let n := { n with mode := { n.mode with reactionFns := n.mode.reactionFns ||| fns } }
  let n := n.set 0x1010 0x04 (was ||| fns)
  let new := fun i => bit fns i && !bit was i
  let n := n.when (new 4) Node.sepRefresh
  let n := n.when (new 5) Node.railsCheckOn
  let n := n.when (new 6) Node.canStopAll
  let n := n.when (new 7) Node.haltVats
  n.when (new 3) Node.annRefreshAll

/-- R21: RESUME clears 0x1010.08 and the bits that reactions set, and restarts those functions. -/
def Node.resumeFns (n : Node) : Node :=
  let fns := n.mode.reactionFns
  let n := { n with mode := { n.mode with reactionFns := 0 } }
  let n := ((n.set 0x1010 0x08 0).set 0x1010 0x04 (clearBits (n.o 0x1010 0x04) fns)).refreshIsolation
  let n := n.when (bit fns 4) Node.sepRefresh
  let n := n.when (bit fns 5) Node.railsWanted
  let n := n.when (bit fns 6) Node.canRestartAll
  let n := n.when (bit fns 7) Node.resumeVats
  n.when (bit fns 3) Node.annRefreshAll

/-- R21: does a pair whose reaction is DEGRADED or SAFE still count as SEVERE? -/
def Node.resumeBlocked (n : Node) : Bool :=
  n.ver.pairs.any (fun e => e.2.severe &&
    (let r := ruleReaction (n.ruleFor (e.1 / 256) (e.1 % 256)); r == 4 || r == 5))

/-! ## Planned handover (R340, R342) -/

/-- The twin's health shows it fit for planned handover, and it is in STANDBY. -/
def Node.twinFitPlanned (n : Node) : Bool := fitPlanned (n.o 0x2400 0x08) && bits (n.o 0x2400 0x08) 19 16 == 5
def Node.twinFit (n : Node) : Bool := fitFor (n.o 0x2400 0x08)

/-- A Handover message (Table 11-2): the close, the kind as its cause code, and the acknowledgement. -/
def Node.sendHandover (n : Node) (close cause : Nat) (ack : Bool) : Node :=
  n.twinSend 0x06 (toLE 8 close ++ toLE 1 cause ++ toLE 1 (b2n ack))

/-- R340: the handover is proposed for frame `close`. -/
def Node.propose (n : Node) (close cause : Nat) : Node :=
  ((n.setTwin fun t => { t with agreed := some { close := close, cause := cause, taker := !t.own } })).sendHandover close cause false

/-- R340: may a handover away from (or to) this node be agreed now? -/
def Node.handoverOk (n : Node) : Bool :=
  n.twin.agreed.isNone && (if n.twin.own then n.twinFitPlanned else fitPlanned n.health && n.curMode == 5 && bit (n.o 0x2400 0x08) 2)

/-- R337, R340: what 0x2400.0D to .10 record of a node that comes to own. `cause_` came `ago` ns ago. -/
def Node.tookOver (n : Node) (cause ago : Nat) : Node :=
  (((n.incWrap 0x2400 0x0D).set 0x2400 0x0E n.tai).set 0x2400 0x0F cause).set 0x2400 0x10 (min ago 0xFFFFFFFF)

/-- R335, R340: points whose own configuration record differs from the owner's restart when this node takes. -/
def Node.restartDiffering (n : Node) : Node :=
  n.twin.ownerCfg.foldl (fun n e =>
    n.setPt e.1 { n.pt e.1 with restart := true }) { n with twin := { n.twin with ownerCfg := [] } }

/-- R340, R342 at the agreed close: the owner drops OWN and enters STANDBY, its states agreed. After a keeper
reset it changes mode once its keeper serves again (R42). -/
def Node.handAway (n : Node) (h : HandAgreed) : Node :=
  let n := n.setTwin fun t => { t with agreed := none }
  let sync := if n.configMatch then 3 else 1
  if h.keeper ∧ n.mode.keeperReset.isSome then
    let n := n.dropOwn.setRole 2
    (({ n with mode := { n.mode with keeperHandedOver := true, standbyCause := h.cause } }).syncStart.setSync sync).canToListen
  else (n.enterMode 5 h.cause).setSync sync

/-- … and the taker asserts OWN 1 µs later. -/
def Node.handTake (n : Node) (h : HandAgreed) : Node :=
  let n := n.setTwin fun t => { t with agreed := none }
  let n := n.when (!n.configMatch) Node.restartDiffering
  let n := n.takeInputs.holdOwn none
  (n.enterMode n.activeTarget h.cause).tookOver h.cause 1000

/-- At the close that ends frame `num`: does the agreed handover act? -/
def Node.handoverClose (n : Node) (num : Nat) : Node :=
  match n.twin.agreed with
  | some h =>
    if num < h.close then n
    else if !h.acked then n.setTwin fun t => { t with agreed := none }
    else if h.taker then n.handTake h else n.handAway h
  | none => n

/-! ## The role decision (R32) -/

/-- R32: the role of a node that leaves BOOT or COMMISSION. -/
def Node.roleDecide (n : Node) (cause : Nat) : Node :=
  let n := { n with mode := { n.mode with roleDue := false, roleWait := none } }
  if !n.twinOn then n.enterMode n.activeTarget cause
  else if n.twin.ownIn then n.enterMode 5 cause
  else if n.preferred then n.enterMode n.activeTarget cause
  else { n with mode := { n.mode with roleWait := some { since := n.now, cause := cause } } }

/-- R443: on the entry to COMMISSION the commission flag that the start read is cleared and reported. -/
def Node.tagEntry (n : Node) : Node :=
  if n.mode.tagFlag then
    ({ n with
      mode := { n.mode with tagFlag := false }
      tag := { n.tag with mem := memWriteAll n.tag.mem [(2304, 0)] } }).fault 0x007 0xE3 0 0
  else n

/-- ROLE_DECISION: at the end of start-up. -/
def Node.startRole (n : Node) : Node :=
  if n.curMode = 2 ∧ n.mode.roleDue then
    let c := n.mode.startCause
    if c = 0x10 ∨ c = 0x11 ∨ c = 0x12 then
      (({ n with mode := { n.mode with roleDue := false } }).enterMode 3 c).tagEntry
    else n.roleDecide 0x20
  else n

/-- The wait of a non-preferred node ends: at once when OWN_IN is seen, else after 500 ms. -/
def Node.roleWaitEnd (n : Node) : Node :=
  match n.mode.roleWait with
  | some w =>
    let done := { n with mode := { n.mode with roleWait := none } }
    if n.twin.ownIn then done.enterMode 5 w.cause
    else if n.now < w.since + ms 500 then n
    else if n.twin.hbSeen then done.enterMode 5 w.cause
    else done.enterMode n.activeTarget w.cause
  | none => n

/-! ## Mode commands (R21, R23, R466) -/

/-- Table 2-6: the code of a mode command in the mode in force. -/
def Node.modeCode (n : Node) (v : Nat) : Nat :=
  let m := n.curMode
  if v ≠ 3 ∧ v ≠ 4 ∧ v ≠ 5 ∧ v ≠ 7 then 0x0606
  else if m = 2 then 0x0605
  else if v = 3 then (if m = 3 ∨ m = 5 ∨ m = 7 then 0 else 0x0605)
  else if v = 4 then
    if m = 5 then (if n.handoverOk then 0 else 0x0608)
    else if m = 6 ∨ m = 7 then (if n.resumeBlocked then 0x0605 else 0)
    else 0
  else if v = 5 then
    if m = 3 then 0x0605 else if m = 5 then 0 else if n.handoverOk then 0 else 0x0608
  else if m = 3 then 0x0605 else 0

/-- An accepted mode command waits for the boundary; 0x1010.02 reads it. -/
def Node.modeAccept (n : Node) (v : Nat) : Node :=
  let n := n.set 0x1010 0x02 v
  { n with mode := { n.mode with cmds := n.mode.cmds ++ [v] } }

/-- One command at its boundary, after the close of frame `num`. -/
def Node.modeApply (n : Node) (num v : Nat) : Node :=
  if n.modeCode v ≠ 0 then n.incSat 0x1010 0x09
  else
    let m := n.curMode
    if v = 3 then (if m = 3 then n else ({ n with mode := { n.mode with roleWait := none } }).enterMode 3 0x13)
    else if v = 4 then
      if m = 3 then n.roleDecide 0x14
      else if m = 5 then n.propose (num + 3) 0x23
      else if m = 6 ∨ m = 7 then n.resumeFns.enterMode 4 0x33
      else n
    else if v = 5 then (if m = 5 then n else n.propose (num + 3) 0x23)
    else if m = 5 then n.set 0x1010 0x08 1
    else if m = 7 then n
    else n.enterMode 7 0x32

/-! ## Frame boundaries (R22) -/

/-- R19, R22: a SAFE or DEGRADED reaction that arrived in ACTIVE or DEGRADED takes effect. -/
def Node.reactionBoundary (n : Node) : Node × Bool :=
  let m := n.curMode
  let done := { n with mode := { n.mode with safeReq := false, degradedReq := false } }
  if n.mode.safeReq ∧ (m = 4 ∨ m = 6) then (done.enterMode 7 0x31, true)
  else if n.mode.degradedReq ∧ m = 4 then (done.enterMode 6 0x30, true)
  else (done, false)

/-- R420: a handover that a reaction requested. -/
def Node.verdigrisHandover (n : Node) (num : Nat) : Node :=
  let done := { n with mode := { n.mode with handoverReq := false, handoverDrop := false } }
  if !n.twin.own then done
  else if n.mode.handoverDrop then done.enterMode 5 0x23
  else if n.mode.handoverReq ∧ n.handoverOk then done.propose (num + 3) 0x23
  else done

/-- R22, R42, R466: what a boundary applies, in its order. Nothing while the keeper is in reset. -/
def Node.modeBoundary (n : Node) (num : Nat) : Node :=
  if n.mode.keeperReset.isSome then n else
  let (n, moved) := n.reactionBoundary
  let n := if moved then n else n.verdigrisHandover num
  let cmds := n.mode.cmds
  let n := { n with mode := { n.mode with cmds := [] } }
  cmds.foldl (fun n v => n.modeApply num v) n

/-! ## Commands -/

/-- ROLE_DECISION (R32). -/
def execRoleDecision (dt : Nat) (s : State) := actDone dt s fun n => n.whenUp Node.startRole
/-- ROLE_DECISION_WAIT_EXPIRY (R32). -/
def execRoleDecisionWaitExpiry (dt : Nat) (s : State) := actDone dt s fun n => n.whenUp Node.roleWaitEnd

end Sys2Proof.Machine
end

