-- ==== Sys2Proof/Machine/Faults.lean ====
section
/-!
DEFINITION. Machine/Faults.lean: Verdigris (chapter 15): the collector, counting rules, reactions, isolation
and release, first capture, the log, and the publication of faults.
-/
namespace Sys2Proof.Machine

def Node.setVer (n : Node) (f : VerSt → VerSt) : Node := { n with ver := f n.ver }
def Node.nodeFlag (n : Node) (i : Nat) : Node := n.setBitI 0 0x2200 0x11 i true

/-! ## Rules (R414) -/

/-- R414: a rule record that may be written. -/
def ruleOk (r : Nat) : Bool :=
  1 ≤ ruleW r && ruleW r ≤ 86400000 && 1 ≤ ruleN r && ruleReaction r ≤ 6 && !bit (ruleFns r) 0
    && (ruleFns r == 0 || ruleReaction r == 4 || ruleReaction r == 5) && bits r 63 59 == 0

/-- A kind that Table 15-3 or Table 16-14 lists. -/
def kindKnown (k : Nat) : Bool := defaultRule k != 0

/-- The first `count` override entries as pair and rule. -/
def overrideEntries (count : Nat) (bs : List Byte) : List (Nat × Nat) :=
  (List.range count).map (fun i => (256 * fieldLE bs (12 * i) 2 + fieldLE bs (12 * i + 2) 1, fieldLE bs (12 * i + 4) 8))

/-- R414: the entries that would be in force keep the rules and name no pair twice. -/
def overridesOk (count : Nat) (bs : List Byte) : Bool :=
  let es := overrideEntries count bs
  12 * count ≤ bs.length && count ≤ 1024
    && (List.range count).all (fun i => fieldLE bs (12 * i + 3) 1 == 0)
    && es.all (fun e => ruleOk e.2 && kindKnown (e.1 % 256) && e.1 / 256 < 4096) && (es.map (·.1)).Nodup

/-- R414: the change of a rule clears the buckets of the pairs it governs. -/
def Node.clearBuckets (n : Node) (governs : Nat → Bool) : Node :=
  n.setVer fun v => { v with pairs := v.pairs.map (fun (e : Nat × PairSt) =>
    if governs e.1 then (e.1, { e.2 with buckets := List.replicate 16 0 }) else e) }

/-- R414: 0x2200.02 is written for kind `k`. -/
def Node.kindRuleSet (n : Node) (k r : Nat) : Node :=
  let ovr := (overrideEntries (n.o 0x2200 0x04) (n.domI 0 0x2200 0x03)).map (·.1)
  (n.setI k 0x2200 0x02 r).clearBuckets (fun p => p % 256 == k && !ovr.contains p)

/-- R414: the overrides in force become the first `count` entries of `bs`. -/
def Node.overridesSet (n : Node) (count : Nat) (bs : List Byte) : Node :=
  let old := overrideEntries (n.o 0x2200 0x04) (n.domI 0 0x2200 0x03)
  let new := overrideEntries count bs
  ((n.set 0x2200 0x04 count).setDomI 0 0x2200 0x03 bs).clearBuckets (fun p =>
    (old.find? (fun e => e.1 == p)) != (new.find? (fun e => e.1 == p)))

/-! ## Pairs and buckets (R415, R416) -/

def sumBuckets (bs : List Nat) : Nat := bs.foldl (· + ·) 0

/-- R415: the buckets shifted left to bucket `j`; they never move back. -/
def PairSt.shiftTo (x : PairSt) (j : Nat) : PairSt :=
  if x.j < j then
    let k := min (j - x.j) 16
    { x with buckets := x.buckets.drop k ++ List.replicate k 0, j := j }
  else x

/-- R415: one message counted in the present bucket. -/
def PairSt.count (x : PairSt) : PairSt :=
  { x with buckets := x.buckets.take 15 ++ [min (x.buckets.getD 15 0 + 1) 255], occ := min (x.occ + 1) 0xFFFFFFFF }

def bucketNs (w : Nat) : Nat := 62500 * w

/-- Is a pair selected by a master? -/
def Node.pairSelected (n : Node) (p : Nat) : Bool :=
  (n.od.filter (fun e => keyIdx e.1 == 0x2200 && (keySub e.1 == 1 || keySub e.1 == 5))).any (fun e =>
    let m := keyInst e.1
    n.oi m 0x2200 0x05 == p / 256 && n.oi m 0x2200 0x01 == p % 256)

/-- R416: room for a new pair: the table is not full, or a pair may be reused. -/
def Node.pairRoom (n : Node) : Option Node :=
  if n.ver.pairs.length < 4096 then some n
  else match n.ver.pairs.find? (fun e => !e.2.severe && sumBuckets e.2.buckets == 0 && !n.pairSelected e.1) with
    | some e => some (n.setVer fun v => { v with pairs := mapErase v.pairs e.1 })
    | none => none

/-- 0x2200.0B and .18 follow the table. -/
def Node.pairCounts (n : Node) : Node :=
  (n.set 0x2200 0x0B (n.ver.pairs.filter (fun e => e.2.severe)).length).set 0x2200 0x18 n.ver.pairs.length

/-! ## Isolation (R419) -/

/-- The place of a source in 0x2200.15, but for lakes and vats. -/
def isolationBit (src : Nat) : Option Nat :=
  if src = 0x0A0 ∨ src = 0x0A1 ∨ src = 0x0A2 then some 8
  else if src = 0x00B then some 9
  else if 0x0A8 ≤ src ∧ src < 0x0AC then some (10 + (src - 0x0A8))
  else if 0x0A4 ≤ src ∧ src < 0x0A8 then some (14 + (src - 0x0A4))
  else if 0x070 ≤ src ∧ src < 0x080 then some (18 + (src - 0x070))
  else if 0x080 ≤ src ∧ src < 0x098 then some (34 + (src - 0x080))
  else none

/-- The lake or dynamic lake of a source. -/
def unitOfSource (src : Nat) : Option Nat :=
  if 0x020 ≤ src ∧ src < 0x040 then some (src - 0x020)
  else if 0x040 ≤ src ∧ src < 0x048 then some (32 + (src - 0x040))
  else none

/-- Is the block of a source isolated? -/
def Node.sourceIsolated (n : Node) (src : Nat) : Bool :=
  match unitOfSource src with
  | some u => n.unitIsolated u
  | none =>
    if 0x010 ≤ src ∧ src < 0x020 then bit (n.o 0x2200 0x16) (src - 0x010)
    else match isolationBit src with
      | some b => bit (n.o 0x2200 0x15) b
      | none => false

/-- Table 15-6: the source is isolated; a source that is not in the table sets NO_ISOLATE. -/
def Node.isolate (n : Node) (src : Nat) : Node :=
  match unitOfSource src with
  | some u => n.isolateUnit u
  | none =>
    if 0x010 ≤ src ∧ src < 0x020 then
      (n.setBitI 0 0x2200 0x16 (src - 0x010) true).resetVat (src - 0x010) 1
    else match isolationBit src with
      | none => n.nodeFlag 2
      | some b =>
        let n := n.setBitI 0 0x2200 0x15 b true
        if b = 8 then n.bypassCheck
        else if b = 9 then n.discharge false
        else if b < 14 then n.pcieDown (b - 10)
        else if b < 18 then n.canStop (b - 14)
        else if b < 34 then n.fskCheck (b - 18)
        else if n.annState (b - 34) = 5 then n else n.enterAnn (b - 34) 4

/-- R419: the code of a write of 0x2200.13. -/
def Node.releaseCode (n : Node) (src : Nat) : Nat :=
  if !n.sourceIsolated src then 0x0606
  else match unitOfSource src with
    | some u => n.serviceCode u 3
    | none => if n.releaseBlocked src then 0x0608 else 0

/-- Table 15-6: a release. -/
def Node.release (n : Node) (src : Nat) : Node :=
  match unitOfSource src with
  | some u => n.serviceApply u 3
  | none =>
    if 0x010 ≤ src ∧ src < 0x020 then n.setBitI 0 0x2200 0x16 (src - 0x010) false
    else match isolationBit src with
      | none => n
      | some b =>
        let n := n.setBitI 0 0x2200 0x15 b false
        if b = 8 then n.bypassCheck
        else if b = 9 then n.railsWanted
        else if b < 14 then n
        else if b < 18 then n.canStart (b - 14)
        else if b < 34 then n
        else n.annRelease (b - 34)

/-! ## Reactions (R417 to R420) -/

/-- R418: the owning vat of a message, if it has one. -/
def Node.owningVat (n : Node) (m : FaultMsg) : Option Nat :=
  let src := msgSource m.word
  if 0x010 ≤ src ∧ src < 0x020 then some (src - 0x010)
  else if n.ownerOfSource src < 16 then some (msgVat m.word)
  else none

/-- R19: SAFE or DEGRADED: the functions stop; the transition waits for the frame boundary, or 0x1010.08 is set. -/
def Node.requestSafe (n : Node) (fns : Nat) : Node :=
  let m := n.curMode
  let n := n.stopFns fns
  if m = 4 ∨ m = 6 then { n with mode := { n.mode with safeReq := true } }
  else if m = 7 then n else n.set 0x1010 0x08 1
def Node.requestDegraded (n : Node) (fns : Nat) : Node :=
  let n := n.stopFns fns
  if n.curMode = 4 then { n with mode := { n.mode with degradedReq := true } } else n

/-- R420. -/
def Node.requestHandover (n : Node) : Node :=
  if n.twin.own && n.twinOn && n.twinFitPlanned then { n with mode := { n.mode with handoverReq := true } }
  else if n.twin.own && n.twinOn && n.twinFit then { n with mode := { n.mode with handoverDrop := true } }
  else n.nodeFlag 3

/-- Table 15-5: the reaction of a pair that becomes SEVERE at message `m`, stamped `t`. -/
def Node.react (n : Node) (m : FaultMsg) (rule t : Nat) : Node :=
  let src := msgSource m.word
  let own := n.owningVat m
  let r := ruleReaction rule
  if r = 1 then
    match own with
    | some v => (n.set 0x2200 (0x40 + v) (m.word + t * 2 ^ 64)).irq v 2
    | none => n.nodeFlag 4
  else if r = 2 then
    match own with
    | some v => n.resetVat v 1
    | none => n.nodeFlag 4
  else if r = 3 then n.isolate src
  else if r = 4 then n.requestDegraded (ruleFns rule)
  else if r = 5 then n.requestSafe (ruleFns rule)
  else if r = 6 then n.requestHandover
  else n

/-! ## First capture (R421) -/

/-- A record of Table 15-7 as the number of its 32 bytes. -/
def captureRecord (m : FaultMsg) (t : Nat) : Nat :=
  ofLE (toLE 8 m.word ++ toLE 8 t ++ toLE 8 m.addr ++ toLE 1 m.master ++ toLE 1 m.masterId ++ toLE 1 m.access ++ toLE 1 1 ++ toLE 4 0)

/-- A capture that may be VALID already: MORE and MORE_COUNT then. -/
def captureInto (old : Nat) (m : FaultMsg) (t : Nat) : Nat :=
  if bit old 216 then setBit (setBits old 255 224 (min (bits old 255 224 + 1) 0xFFFFFFFF)) 217 true
  else captureRecord m t

def Node.capture (n : Node) (m : FaultMsg) (t : Nat) : Node :=
  let n := n.set 0x2200 0x10 (captureInto (n.o 0x2200 0x10) m t)
  match n.owningVat m with
  | some v => n.set 0x2200 (0x20 + v) (captureInto (n.o 0x2200 (0x20 + v)) m t)
  | none => n

/-! ## The collector (R410 to R423) -/

/-- R422: the log keeps the last 4,096 entries; those the keeper could not copy before they go are lost. -/
def Node.logFault (n : Node) (word t : Nat) : Node :=
  let keeperDown := n.mode.keeperReset.isSome
  let log := n.ver.log ++ [(word, t)]
  let unc := if keeperDown then n.ver.uncopied + 1 else 0
  let lost := if 4096 < unc then 1 else 0
  let n := n.setVer fun v => { v with log := log.drop (log.length - 4096), uncopied := min unc 4096 }
  if lost = 1 then n.incSat 0x2200 0x0F else n

/-- R423: an entry of the publication queue; the oldest goes when it is full. -/
def Node.queuePub (n : Node) (e : PubEntry) : Node :=
  n.setVer fun v =>
    if v.pub.length < 1024 then { v with pub := v.pub ++ [e] }
    else { v with pub := v.pub.drop 1 ++ [e], pubLost := v.pubLost + 1 }

/-- A message arrives at the collector. -/
def Node.collect (n : Node) (m : FaultMsg) : Node :=
  let t := n.copy isleKeeper
  let src := msgSource m.word
  let kind := msgKind m.word
  let rule := n.ruleFor src kind
  let p := 256 * src + kind
  let n := (n.incWrapI 64 0 0x2200 0x0E 1).logFault m.word t
  let n := if kind = 0x12 then n.incSatI 32 0 0x2200 0x0F (msgAddr m.word) else n
  let n := if ruleCapture rule then n.capture m t else n
  let known := n.ver.pairs.find? (fun e => e.1 == p)
  match (if known.isSome then some n else n.pairRoom) with
  | none =>
    let n := n.nodeFlag 1
    if rulePublish rule then n.queuePub { word := m.word, time := t } else n
  | some n =>
    let x := ((known.map (fun e => e.2)).getD { j := t / bucketNs (ruleW rule) })
    let y := { (x.shiftTo (t / bucketNs (ruleW rule))).count with last := t }
    let turns := !x.severe && decide (ruleN rule ≤ sumBuckets y.buckets)
    let due := match x.lastPub with | some u => decide (u + sec 1 ≤ t) | none => true
    let pub := rulePublish rule && (!x.severe || due)
    let y := { y with severe := x.severe || turns, unlatch := y.unlatch && !turns, lastPub := if pub then some t else y.lastPub }
    let n := (n.setVer fun v => { v with pairs := mapPut v.pairs p y }).pairCounts
    let n := if turns then n.react m rule t else n
    if pub then
      n.queuePub { word := m.word, time := t, severe := y.severe, reaction := if turns then ruleReaction rule else 0xFF, occ := y.occ }
    else n

/-- R411: the oldest message of a block's queue goes to the collector; a queue that has lost some then has
space, and one messages-lost message follows. -/
def Node.takeMsg (n : Node) (src : Nat) : Node :=
  let q := mapGet n.ver.queues src {}
  match q.msgs with
  | [] => n
  | m :: rest =>
    let n := n.setVer fun v => { v with queues := if rest = [] ∧ q.lost = 0 then mapErase v.queues src
                                                  else mapPut v.queues src { msgs := rest, lost := 0 } }
    let n := if 0 < q.lost then n.fault src 0x12 0 (min q.lost 0xFFFFFFFF) else n
    n.collect m

/-- A fault of hardware that no other command reports: DRAM errors (0x07, 0x08) of the DRAM controller or
inside a vat's allotment, and PCIe errors (0x60) of a root port. -/
def Node.hwFault (n : Node) (src : Nat) (h : HwFault) : Node :=
  let k := h.kind.toNat
  let vat := 0x010 ≤ src && decide (src < 0x020)
  if ((k = 7 ∨ k = 8) ∧ (src = 0x00D ∨ vat)) ∨ (k = 0x60 ∧ 0x0A8 ≤ src ∧ src < 0x0AC) then
    n.raiseMsg { word := faultWord src k (if vat then src - 0x010 else 0) h.detail.toNat h.address.toNat, addr := h.fullAddr.toNat }
  else n

/-- R416: one SEVERE pair at a bucket boundary. -/
def Node.pairBoundary (n : Node) (p : Nat) (x : PairSt) : PairSt :=
  if x.severe then
    let rule := n.ruleFor (p / 256) (p % 256)
    let y := x.shiftTo (n.copy isleKeeper / bucketNs (ruleW rule))
    if sumBuckets y.buckets = 0 ∧ (!ruleLatch rule ∨ y.unlatch) then { y with severe := false, unlatch := false } else y
  else x

/-- BUCKET_BOUNDARY. -/
def Node.bucketBoundary (n : Node) : Node :=
  (n.setVer fun v => { v with pairs := v.pairs.map (fun (e : Nat × PairSt) => (e.1, n.pairBoundary e.1 e.2)) }).pairCounts

/-- R416: CLEAR_LATCH of a pair. -/
def Node.clearLatch (n : Node) (p : Nat) : Node :=
  match n.ver.pairs.find? (fun e => e.1 == p) with
  | some e =>
    if e.2.severe then
      (n.setVer fun v => { v with pairs := mapPut v.pairs p (n.pairBoundary p { e.2 with unlatch := true }) }).pairCounts
    else n
  | none => n

/-- The pair a master has selected. -/
def Node.selectedPair (n : Node) (m : Master) : Nat :=
  256 * n.oi (masterCode m) 0x2200 0x05 + n.oi (masterCode m) 0x2200 0x01

/-- R424: the source a master raises under. -/
def masterSource : Master → Nat
  | .ring id => 0x200 + id.val
  | .localPort => 0x004
  | .can n => 0x0A4 + n.val
  | .vat v => 0x010 + v.val
def raiseCode (d : Nat) : Nat := if bits d 7 0 < 0xF0 ∨ bits d 31 16 ≠ 0 then 0x0606 else 0
def Node.raiseOwn (n : Node) (m : Master) (d : Nat) : Node := n.fault (masterSource m) (bits d 7 0) (bits d 15 8) (bits d 63 32)

/-- FAULT_FRAME_SEND (R423). -/
def Node.faultFrame (n : Node) : Node :=
  let ready := match n.ver.lastFrame with | some t => decide (t + ms 1 ≤ n.now) | none => true
  if n.ver.pub = [] ∨ !ready ∨ !n.ob 0x2200 0x17 ∨ n.curMode = 2 ∨ !n.ringUp then n else
  let es := n.ver.pub.take 59
  let body := toLE 2 es.length ++ toLE 2 (min n.ver.pubLost 0xFFFF) ++
    (es.map (fun (e : PubEntry) => toLE 8 e.word ++ toLE 8 e.time ++ toLE 1 (b2n e.severe) ++ toLE 1 e.reaction ++ zeros 2 ++ toLE 4 e.occ)).flatten
  let n := n.setVer fun v => { v with pub := v.pub.drop 59, pubLost := 0, lastFrame := some n.now }
  let (q, n) := n.nextSeq 8
  n.sendWoad { type := 8, seq := q, body := body }

/-! ## Commands -/

/-- FAULT_MESSAGE (R415): from the block's queue; a hardware fault enters the queue first. -/
def execFaultMessage (dt : Nat) (src : BitVec 12) (hw : Option HwFault) (s : State) := actDone dt s fun n => n.whenUp fun n =>
  (match hw with | some h => n.hwFault src.toNat h | none => n).takeMsg src.toNat
/-- BUCKET_BOUNDARY (R416). -/
def execBucketBoundary (dt : Nat) (s : State) := act dt s fun n => n.whenUp Node.bucketBoundary
/-- FAULT_FRAME_SEND (R423). -/
def execFaultFrameSend (dt : Nat) (s : State) := act dt s fun n => n.whenUp Node.faultFrame

end Sys2Proof.Machine
end

