-- ==== Sys2Proof/Machine/Cezel.lean ====
section
/-!
DEFINITION. Machine/Cezel.lean: reading a Cezel text (R104): its lines, fields and values.
-/
namespace Sys2Proof.Machine

/-- A Cezel entry: its line, the object, the attributes it asserts, and its value, or the code of a value that
cannot be one of its type. -/
structure CezEntry where
  line : Nat := 0
  idx : Nat := 0
  sub : Nat := 0
  ty : Ty := .bool
  acc : Acc := .ro
  kept : Bool := false
  owner : Option Nat := none
  value : Option (Nat × List Byte) := none
deriving DecidableEq, Repr

/-- The bytes of an ASCII word. -/
def ascii (s : String) : List Byte := s.toList.map (fun c => BitVec.ofNat 8 c.toNat)

def isSpace (b : Byte) : Bool := b == 0x20 || b == 0x09 || b == 0x0D
def dropSpaces (bs : List Byte) : List Byte := bs.dropWhile isSpace
def trim (bs : List Byte) : List Byte := (dropSpaces (dropSpaces bs).reverse).reverse

/-- The lines of a text, each without its LF. -/
def splitLines : List Byte → List Byte → List (List Byte)
  | [], [] => []
  | [], cur => [cur.reverse]
  | b :: bs, cur => if b = 0x0A then cur.reverse :: splitLines bs [] else splitLines bs (b :: cur)

/-- A line without its comment. -/
def dropComment (bs : List Byte) : List Byte := bs.takeWhile (fun b => b != 0x23)

/-- The next field of a line and what follows it. -/
def nextField (bs : List Byte) : List Byte × List Byte :=
  let r := dropSpaces bs
  (r.takeWhile (fun b => !isSpace b), r.dropWhile (fun b => !isSpace b))

/-! ## Numbers -/

def digitOf (b : Byte) : Option Nat :=
  let v := b.toNat
  if 0x30 ≤ v ∧ v ≤ 0x39 then some (v - 0x30) else none
def hexOf (b : Byte) : Option Nat :=
  let v := b.toNat
  if 0x41 ≤ v ∧ v ≤ 0x46 then some (v - 0x37) else if 0x61 ≤ v ∧ v ≤ 0x66 then some (v - 0x57) else digitOf b

/-- A number in base `base` from its digits; none with a character that is no digit. -/
def digitsIn (base : Nat) (dig : Byte → Option Nat) : List Byte → Nat → Option Nat
  | [], acc => some acc
  | b :: bs, acc => match dig b with
    | some d => digitsIn base dig bs (acc * base + d)
    | none => none

def natOf (bs : List Byte) : Option Nat := if bs = [] then none else digitsIn 10 digitOf bs 0
def hexNat (bs : List Byte) : Option Nat := if bs = [] then none else digitsIn 16 hexOf bs 0

/-- `0x` and hex digits. -/
def prefixedHex : List Byte → Option Nat
  | a :: x :: bs => if a = 0x30 ∧ (x = 0x78 ∨ x = 0x58) then hexNat bs else none
  | _ => none

/-- A decimal or hex integer, with a sign. -/
def intOf (bs : List Byte) : Option Int :=
  let mag (l : List Byte) : Option Int := (match prefixedHex l with
    | some v => some v
    | none => natOf l).map (fun (v : Nat) => (v : Int))
  match bs with
  | 0x2D :: r => (mag r).map (fun v => -v)
  | 0x2B :: r => mag r
  | _ => mag bs

/-- The digits of `d.d` and how many follow the point. -/
def mantissa (bs : List Byte) : Option (Nat × Nat) :=
  let w := bs.takeWhile (fun b => b != 0x2E)
  let f := (bs.dropWhile (fun b => b != 0x2E)).drop 1
  (natOf (w ++ f)).map (fun v => (v, f.length))

/-- A decimal float as a rational. -/
def floatOf (bs : List Byte) : Option Rat :=
  let neg := bs.head? == some 0x2D
  let body := if neg || bs.head? == some 0x2B then bs.drop 1 else bs
  let isE (b : Byte) : Bool := b == 0x65 || b == 0x45
  let m := mantissa (body.takeWhile (fun b => !isE b))
  let ex := (body.dropWhile (fun b => !isE b)).drop 1
  let e : Option Int := if body.any isE then intOf ex else some 0
  match m, e with
  | some (v, k), some x =>
    let p := x - k
    let q : Rat := if 0 ≤ p then ((v * 10 ^ p.toNat : Nat) : Rat) else ratio v (10 ^ (-p).toNat)
    some (if neg then -q else q)
  | _, _ => none

/-! ## Fields -/

/-- 0xIIII.SS. -/
def objectField (bs : List Byte) : Option (Nat × Nat) :=
  if bs.length = 9 ∧ slice bs 6 1 = [0x2E] then
    match prefixedHex (bs.take 6), hexNat (bs.drop 7) with
    | some i, some s => some (i, s)
    | _, _ => none
  else none

/-- A type name of Table 4-2. -/
def typeField (bs : List Byte) : Option Ty :=
  let word := bs.takeWhile (fun b => b != 0x28)
  let par := (bs.dropWhile (fun b => b != 0x28)).drop 1
  let len := if par.getLast? = some 0x29 then natOf par.dropLast else none
  if word = ascii "STR" then len.map Ty.str
  else if word = ascii "OCT" then len.map Ty.oct
  else ([(ascii "BOOL", Ty.bool), (ascii "U8", .u 1), (ascii "U16", .u 2), (ascii "U32", .u 4), (ascii "U64", .u 8),
    (ascii "I8", .i 1), (ascii "I16", .i 2), (ascii "I32", .i 4), (ascii "I64", .i 8), (ascii "F32", .f32),
    (ascii "F64", .f64), (ascii "TIME", .time), (ascii "DOMAIN", .domain 0)].find? (fun e => e.1 == bs)).map (·.2)

def accField (bs : List Byte) : Option Acc :=
  ([(ascii "RO", Acc.ro), (ascii "RW", .rw), (ascii "WO", .wo), (ascii "RWC", .rwc), (ascii "CONST", .const)].find?
    (fun e => e.1 == bs)).map (·.2)

def keptField (bs : List Byte) : Option Bool :=
  if bs = ascii "kept" then some true else if bs = ascii "volatile" then some false else none

/-- owner=0xHHHH. -/
def ownerField (bs : List Byte) : Option Nat := if bs.take 6 = ascii "owner=" then prefixedHex (bs.drop 6) else none

/-- Hex bytes, spaces between them ignored. -/
def hexBytes : Nat → List Byte → Option (List Byte)
  | 0, _ => some []
  | k + 1, bs => match dropSpaces bs with
    | [] => some []
    | [_] => none
    | a :: b :: r => match hexOf a, hexOf b, hexBytes k r with
      | some x, some y, some l => some (BitVec.ofNat 8 (16 * x + y) :: l)
      | _, _, _ => none

/-- A value's bytes by its type, or the code that refuses it: 0x0607 for a wrong form or length, 0x0606 out of
the type's range (log 83). -/
def valueField (ty : Ty) (bs : List Byte) : Nat × List Byte :=
  let ofInt (lo hi : Int) (size : Nat) : Nat × List Byte := match intOf bs with
    | some v => if lo ≤ v ∧ v ≤ hi then (0, toLE size (ofI (8 * size) v)) else (0x0606, [])
    | none => (0x0607, [])
  match ty with
  | .bool => ofInt 0 1 1
  | .u s => ofInt 0 (2 ^ (8 * s) - 1 : Nat) s
  | .i s => ofInt (-(2 ^ (8 * s - 1) : Nat)) (2 ^ (8 * s - 1) - 1 : Nat) s
  | .time => ofInt 0 (2 ^ 64 - 1 : Nat) 8
  | .f32 => match floatOf bs with
    | some q => (0, toLE 4 (r32 q))
    | none => (0x0607, [])
  | .f64 => match floatOf bs with
    | some q => (0, toLE 8 (r64 q))
    | none => (0x0607, [])
  | .str len =>
    if 2 ≤ bs.length ∧ bs.head? = some 0x22 ∧ bs.getLast? = some 0x22 ∧ bs.length - 2 ≤ len then
      (0, padTo len (bs.drop 1).dropLast) else (0x0607, [])
  | .oct len => match hexBytes (bs.length + 1) bs with
    | some l => if l.length = len then (0, l) else (0x0607, [])
    | none => (0x0607, [])
  | .domain _ => (0x0607, [])

/-- The value after `=`, if there is one. -/
def valuePart (ty : Ty) (bs : List Byte) : Option (Option (Nat × List Byte)) :=
  match dropSpaces bs with
  | [] => some none
  | 0x3D :: r => some (some (valueField ty (trim r)))
  | _ => none

/-- One entry; none where its fields are not those of R104. -/
def cezLine (line : Nat) (bs : List Byte) : Option CezEntry :=
  let f1 := nextField bs
  let f2 := nextField f1.2
  let f3 := nextField f2.2
  let f4 := nextField f3.2
  let f5 := nextField f4.2
  match objectField f1.1, typeField f2.1, accField f3.1, keptField f4.1 with
  | some (i, s), some t, some a, some k =>
    let own := ownerField f5.1
    (valuePart t (if own.isSome then f5.2 else f4.2)).map (fun v =>
      { line := line, idx := i, sub := s, ty := t, acc := a, kept := k, owner := own, value := v })
  | _, _, _, _ => none

/-- The lines that are not blank or comment, with their numbers from 1. -/
def cezLines (bs : List Byte) : List (Nat × List Byte) :=
  (((splitLines bs []).zipIdx).map (fun e => (e.2 + 1, trim (dropComment e.1)))).filter (fun e => e.2 != [])

def cezEntries : List (Nat × List Byte) → Except Nat (List CezEntry)
  | [] => .ok []
  | (k, l) :: rest => match cezLine k l with
    | none => .error k
    | some e => match cezEntries rest with
      | .ok es => .ok (e :: es)
      | .error j => .error j

/-- The same fields, whatever the spaces between them. -/
def fieldsAre : List (List Byte) → List Byte → Bool
  | [], bs => dropSpaces bs == []
  | w :: ws, bs => let f := nextField bs; f.1 == w && fieldsAre ws f.2

/-- R104: a whole text: the two first lines, then the entries; otherwise the line that is not one. -/
def cezParse (bs : List Byte) : Except Nat (List CezEntry) :=
  match cezLines bs with
  | (i, a) :: (j, b) :: rest =>
    if !fieldsAre [ascii "cezel", ascii "1"] a then .error i
    else if !fieldsAre [ascii "part", ascii "HJN9120", ascii "B1"] b then .error j
    else cezEntries rest
  | (i, a) :: [] => .error (if fieldsAre [ascii "cezel", ascii "1"] a then i + 1 else i)
  | [] => .error 1

end Sys2Proof.Machine
end

