-- ==== Sys2Proof/Machine/Sha.lean ====
section
/-!
DEFINITION. Machine/Sha.lean: SHA-384 (FIPS 180-4), the digest of R341 and R432 to R437. The spec names the
standard; its constants are the fractional parts of the square and cube roots of the first primes.
-/
namespace Sys2Proof.Machine

/-- A 64-bit word of the hash. -/
def w64 (x : Nat) : Nat := x % 2 ^ 64
/-- Rotation to the right. -/
def rotr64 (x k : Nat) : Nat := w64 (x <<< (64 - k)) ||| (x >>> k)

/-- The round constants of rounds 0 to 19. -/
def shaK0 : List Nat := [
  0x428A2F98D728AE22, 0x7137449123EF65CD, 0xB5C0FBCFEC4D3B2F, 0xE9B5DBA58189DBBC,
  0x3956C25BF348B538, 0x59F111F1B605D019, 0x923F82A4AF194F9B, 0xAB1C5ED5DA6D8118,
  0xD807AA98A3030242, 0x12835B0145706FBE, 0x243185BE4EE4B28C, 0x550C7DC3D5FFB4E2,
  0x72BE5D74F27B896F, 0x80DEB1FE3B1696B1, 0x9BDC06A725C71235, 0xC19BF174CF692694,
  0xE49B69C19EF14AD2, 0xEFBE4786384F25E3, 0x0FC19DC68B8CD5B5, 0x240CA1CC77AC9C65]

/-- The round constants of rounds 20 to 39. -/
def shaK1 : List Nat := [
  0x2DE92C6F592B0275, 0x4A7484AA6EA6E483, 0x5CB0A9DCBD41FBD4, 0x76F988DA831153B5,
  0x983E5152EE66DFAB, 0xA831C66D2DB43210, 0xB00327C898FB213F, 0xBF597FC7BEEF0EE4,
  0xC6E00BF33DA88FC2, 0xD5A79147930AA725, 0x06CA6351E003826F, 0x142929670A0E6E70,
  0x27B70A8546D22FFC, 0x2E1B21385C26C926, 0x4D2C6DFC5AC42AED, 0x53380D139D95B3DF,
  0x650A73548BAF63DE, 0x766A0ABB3C77B2A8, 0x81C2C92E47EDAEE6, 0x92722C851482353B]

/-- The round constants of rounds 40 to 59. -/
def shaK2 : List Nat := [
  0xA2BFE8A14CF10364, 0xA81A664BBC423001, 0xC24B8B70D0F89791, 0xC76C51A30654BE30,
  0xD192E819D6EF5218, 0xD69906245565A910, 0xF40E35855771202A, 0x106AA07032BBD1B8,
  0x19A4C116B8D2D0C8, 0x1E376C085141AB53, 0x2748774CDF8EEB99, 0x34B0BCB5E19B48A8,
  0x391C0CB3C5C95A63, 0x4ED8AA4AE3418ACB, 0x5B9CCA4F7763E373, 0x682E6FF3D6B2B8A3,
  0x748F82EE5DEFB2FC, 0x78A5636F43172F60, 0x84C87814A1F0AB72, 0x8CC702081A6439EC]

/-- The round constants of rounds 60 to 79. -/
def shaK3 : List Nat := [
  0x90BEFFFA23631E28, 0xA4506CEBDE82BDE9, 0xBEF9A3F7B2C67915, 0xC67178F2E372532B,
  0xCA273ECEEA26619C, 0xD186B8C721C0C207, 0xEADA7DD6CDE0EB1E, 0xF57D4F7FEE6ED178,
  0x06F067AA72176FBA, 0x0A637DC5A2C898A6, 0x113F9804BEF90DAE, 0x1B710B35131C471B,
  0x28DB77F523047D84, 0x32CAAB7B40C72493, 0x3C9EBE0A15C9BEBC, 0x431D67C49C100D4C,
  0x4CC5D4BECB3E42B6, 0x597F299CFC657E2A, 0x5FCB6FAB3AD6FAEC, 0x6C44198C4A475817]

/-- The initial hash value of SHA-384. -/
def shaIv : List Nat := [
  0xCBBB9D5DC1059ED8, 0x629A292A367CD507, 0x9159015A3070DD17, 0x152FECD8F70E5939,
  0x67332667FFC00B31, 0x8EB44A8768581511, 0xDB0C2E0D64F98FA7, 0x47B5481DBEFA4FA4]

/-- The round constants. -/
def shaK : List Nat := shaK0 ++ shaK1 ++ shaK2 ++ shaK3

/-- The eight working variables. -/
structure ShaSt where
  a : Nat := 0
  b : Nat := 0
  c : Nat := 0
  d : Nat := 0
  e : Nat := 0
  f : Nat := 0
  g : Nat := 0
  h : Nat := 0

/-- One round with schedule word `w` and constant `k`. -/
def shaRound (s : ShaSt) (w k : Nat) : ShaSt :=
  let s1 := rotr64 s.e 14 ^^^ rotr64 s.e 18 ^^^ rotr64 s.e 41
  let ch := (s.e &&& s.f) ^^^ ((2 ^ 64 - 1 - s.e) &&& s.g)
  let t1 := w64 (s.h + s1 + ch + k + w)
  let s0 := rotr64 s.a 28 ^^^ rotr64 s.a 34 ^^^ rotr64 s.a 39
  let maj := (s.a &&& s.b) ^^^ (s.a &&& s.c) ^^^ (s.b &&& s.c)
  { a := w64 (t1 + s0 + maj), b := s.a, c := s.b, d := s.c, e := w64 (s.d + t1), f := s.e, g := s.f, h := s.g }

/-- The rounds: `ws` is the window of the next 16 schedule words. -/
def shaRounds : List Nat → List Nat → ShaSt → ShaSt
  | [], _, s => s
  | k :: ks, ws, s =>
    let w := ws.headD 0
    let w1 := ws.getD 1 0
    let w14 := ws.getD 14 0
    let n := w64 (w + (rotr64 w1 1 ^^^ rotr64 w1 8 ^^^ (w1 >>> 7)) + ws.getD 9 0
      + (rotr64 w14 19 ^^^ rotr64 w14 61 ^^^ (w14 >>> 6)))
    shaRounds ks (ws.drop 1 ++ [n]) (shaRound s w k)

/-- The words of a 128-byte block. -/
def shaWords : Nat → List Byte → List Nat
  | 0, _ => []
  | k + 1, bs => ofBE (bs.take 8) :: shaWords k (bs.drop 8)

/-- The hash value after one block. -/
def shaBlock (hs : List Nat) (bs : List Byte) : List Nat :=
  let g (i : Nat) : Nat := hs.getD i 0
  let r := shaRounds shaK (shaWords 16 bs)
    { a := g 0, b := g 1, c := g 2, d := g 3, e := g 4, f := g 5, g := g 6, h := g 7 }
  [w64 (g 0 + r.a), w64 (g 1 + r.b), w64 (g 2 + r.c), w64 (g 3 + r.d), w64 (g 4 + r.e), w64 (g 5 + r.f),
    w64 (g 6 + r.g), w64 (g 7 + r.h)]

/-- The hash value after `k` blocks. -/
def shaBlocks : Nat → List Byte → List Nat → List Nat
  | 0, _, hs => hs
  | k + 1, bs, hs => shaBlocks k (bs.drop 128) (shaBlock hs (bs.take 128))

/-- The padded message: a 1 bit, zeros, and the length in bits as a 128-bit number. -/
def shaPad (bs : List Byte) : List Byte :=
  bs ++ [0x80] ++ zeros ((239 - bs.length % 128) % 128) ++ toBE 16 (8 * bs.length)

/-- SHA-384 of a byte string: 48 bytes. -/
def sha384 (bs : List Byte) : List Byte :=
  let p := shaPad bs
  (((shaBlocks (p.length / 128) p shaIv).take 6).map (toBE 8)).flatten

end Sys2Proof.Machine
end

