-- ==== Sys2Proof/Machine/Cinnabar.lean ====
section
/-!
DEFINITION. Machine/Cinnabar.lean: images in flash, measurement registers, the event log with its anchor, and
quotes (R429 to R440, R445).
-/
namespace Sys2Proof.Machine

def Node.setCin (n : Node) (f : CinSt → CinSt) : Node := { n with cin := f n.cin }

/-! ## Images in flash (R429, R430; Table 4-10). Image 0 is the loader, 1 the keeper, 0x10 + v that of vat v. -/

def imageExists (i : Nat) : Bool := i ≤ 1 || (0x10 ≤ i && i < 0x20)
/-- KIND of Table 16-1. -/
def imageKind (i : Nat) : Nat := min i 2
/-- The data bytes of a slot: 65,504 for each of its sectors (R84, Table 4-10). -/
def slotCap (i : Nat) : Nat := 65504 * (if i = 0 then 16 else if i = 1 then 256 else 64)
def slotKey (i s : Nat) : Nat := 2 * i + s

/-- Does the part leave manufacture with an image there? Slot A of the loader and of the keeper (log 22). -/
def madeWith (k : Nat) : Bool := k == 0 || k == 2

/-- The bytes of a slot; one never written is erased, or holds the image made with the part. -/
def Node.slotBytes (n : Node) (i s : Nat) : List Byte :=
  mapGet n.cin.images (slotKey i s)
    (if madeWith (slotKey i s) then padTo (slotCap i) (Config.factoryImage (slotKey i s))
     else List.replicate (slotCap i) 0xFF)

/-- The header fields of Table 16-1 and the image bytes. -/
def imageLen (bs : List Byte) : Nat := fieldLE bs 8 4
def imageVersion (bs : List Byte) : Nat := fieldLE bs 16 4
def imageBytes (bs : List Byte) : List Byte := slice bs 64 (imageLen bs)

/-- R429: MAGIC matches, LENGTH fits the slot and CRC matches. -/
def intactBytes (i : Nat) (bs : List Byte) : Bool :=
  fieldLE bs 0 4 == 0x494D4731 && imageLen bs + 64 ≤ slotCap i && fieldLE bs 12 4 == crc32 (imageBytes bs)

def Node.slotIntact (n : Node) (i s : Nat) : Bool :=
  let k := slotKey i s
  if n.cin.images.any (fun e => e.1 == k) then intactBytes i (n.slotBytes i s) else madeWith k

/-- R430: the slot that is booted: the active one, else the other, which is reported. -/
def Node.bootSlot (n : Node) (i active : Nat) : Option Nat × Node :=
  if n.slotIntact i active then (some active, n)
  else if n.slotIntact i (1 - active) then (some (1 - active), n.fault 0x006 0xE0 (imageKind i) (1 - active))
  else (none, n)

/-- 0x1040.06: 2 running, 0 intact, 1 not intact. -/
def Node.slotStateOf (n : Node) (i s : Nat) : Nat :=
  if n.cin.running.contains (slotKey i s) then 2 else if n.slotIntact i s then 0 else 1

/-- 0x1040.05: SHA-384 over the image bytes, 0 if not intact. -/
def Node.slotDigest (n : Node) (i s : Nat) : List Byte :=
  if n.slotIntact i s then sha384 (imageBytes (n.slotBytes i s)) else zeros 48

/-- INFO of an IMAGE entry (Table 16-3). -/
def imageInfo (i s version : Nat) : List Byte := padTo 32 (toLE 1 s ++ toLE 1 (imageKind i) ++ toLE 4 version)

/-! ## Registers and log (R432 to R437) -/

def Node.measureReg (n : Node) (r : Nat) : List Byte := mapGet n.cin.regs r (zeros 48)

/-- The keeper island's time copy, 0 while it is invalid. -/
def Node.keeperTime (n : Node) : Nat := if n.copyValid isleKeeper then n.copy isleKeeper else 0

/-- Table 16-3. -/
def logEntry (seq reg type master time : Nat) (digest info : List Byte) : List Byte :=
  toLE 4 seq ++ toLE 1 reg ++ toLE 1 type ++ toLE 2 master ++ toLE 8 time ++ padTo 48 digest ++ padTo 32 info

/-- R434, R435: an entry is appended; a full log loses its oldest, and the anchor follows. -/
def Node.appendLog (n : Node) (reg type master : Nat) (digest info : List Byte) : Node :=
  let c := n.cin
  let e := logEntry c.count reg type master n.keeperTime digest info
  let full := decide (4096 ≤ c.log.length)
  let n1 := n.setCin fun c => { c with
    log := (if full then c.log.drop 1 else c.log) ++ [e]
    wrapped := c.wrapped || full
    count := c.count + 1
    anchor := sha384 (c.anchor ++ e)
    anchorCount := (c.anchorCount + 1) % 2 ^ 32 }
  if full ∧ !c.wrapped then n1.fault 0x006 0xE1 0 (c.count % 2 ^ 32) else n1

/-- R432: extend a register and log it, in one step. -/
def Node.extend (n : Node) (r type master : Nat) (digest info : List Byte) : Node :=
  (n.setCin fun c => { c with regs := mapPut c.regs r (sha384 (n.measureReg r ++ digest)) }).appendLog r type master digest info

/-- An extend by the node itself (Table 16-2). -/
def Node.measure (n : Node) (r type : Nat) (data info : List Byte) : Node := n.extend r type 0x006 (sha384 data) info

/-- R436: a commissioning event in register 20, at the command of `master`. -/
def Node.commissionEvent (n : Node) (type master : Nat) (data info : List Byte) : Node :=
  n.extend 20 type master (sha384 data) info

/-- R432, R434, R435: Cinnabar at a start: registers and log are empty, and the START entry ties it to the
start before. -/
def Node.cinStart (n : Node) : Node :=
  let c := n.cin
  let boot := (c.bootCount + 1) % 2 ^ 32
  let old := c.anchor
  let cnt := c.anchorCount
  let n := n.setCin fun c => { c with
    regs := [], log := [], count := 0, wrapped := false, waiting := [], ready := [], lastReq := [],
    bootCount := boot, anchorCount := 0, running := [], loaderFail := false }
  n.extend 20 1 0x006 old (toLE 4 boot ++ toLE 4 cnt)

/-- R437: the code of an extend by a master: REG in range, then room in the log. -/
def Node.extendCode (n : Node) (data : List Byte) : Nat :=
  let r := fieldLE data 0 1
  if r ≠ 22 ∧ r ≠ 23 then 0x0606 else if 3840 ≤ n.cin.count then 0x060A else 0

def Node.extendBy (n : Node) (m : Master) (data : List Byte) : Node :=
  n.extend (fieldLE data 0 1) 12 (masterSource m) (slice data 1 48) (slice data 49 32)

/-! ## Quotes (R438, R439) -/

/-- Does this master's quote still wait? -/
def Node.quoteWaits (n : Node) (m : Nat) : Bool := n.cin.waiting.any (fun (r : QuoteReq) => r.master == m)

/-- R438: the code of a quote request. -/
def Node.quoteCode (n : Node) (m : Nat) (data : List Byte) : Nat :=
  if 2 ^ 24 ≤ fieldLE data 32 4 then 0x0606
  else if 16 ≤ n.cin.waiting.length then 0x060A
  else if n.quoteWaits m then 0x0608
  else if n.cin.lastReq.any (fun e => e.1 == m && decide (n.now < e.2 + ms 10)) then 0x0608
  else 0

/-- Table 16-5 without SIG: what Cinnabar takes at the moment it starts a quote. -/
def Node.quoteBody (n : Node) (nonce : List Byte) (mask : Nat) : List Byte :=
  toLE 4 0x43515431 ++ toLE 1 1 ++ toLE 1 (n.o 0x1010 0x01) ++ toLE 1 (n.o 0x2400 0x03)
    ++ toLE 1 (b2n n.cin.wrapped + 2 * b2n (n.copyValid isleKeeper)) ++ toLE 1 (n.o 0x1000 0x06)
    ++ toLE 1 (n.o 0x1100 0x03) ++ zeros 2 ++ toLE 4 mask ++ toLE 8 (n.copy isleKeeper)
    ++ toLE 16 Config.serialNumber ++ padTo 32 nonce ++ toLE 4 n.cin.count ++ toLE 4 n.cin.bootCount
    ++ ((bitList mask 24).map n.measureReg).flatten

/-- The quote at the head of the queue starts. -/
def Node.quoteStart (n : Node) : Node :=
  match n.cin.waiting with
  | [] => n
  | r :: rest => n.setCin fun c => { c with waiting := { r with body := n.quoteBody r.nonce r.mask } :: rest }

/-- R438: an accepted request; with none ahead, it starts at once. -/
def Node.quoteAsk (n : Node) (m : Nat) (data : List Byte) : Node :=
  let idle := n.cin.waiting.isEmpty
  let req : QuoteReq := { master := m, nonce := slice data 0 32, mask := fieldLE data 32 4 }
  let n := n.setCin fun c => { c with waiting := c.waiting ++ [req], lastReq := mapPut c.lastReq m n.now }
  if idle then n.quoteStart else n

/-- R438: a refused request is counted (0x2300.0B). -/
def Node.quoteRefused (n : Node) : Node := n.incSat 0x2300 0x0B

/-- R439: the quote at the head is signed and ready; the next one starts. -/
def Node.quoteDone (n : Node) : Node :=
  match n.cin.waiting with
  | [] => n
  | r :: rest =>
    let sig := toBE 96 (Config.quoteSignature n.fresh r.body)
    let n := ({ n with fresh := n.fresh + 1 }).setCin fun c => { c with
      waiting := rest, ready := mapPut c.ready r.master (padTo 1328 (r.body ++ sig)) }
    (n.incWrap 0x2300 0x0A).quoteStart

/-- 0x2300.03 of a master: none while its quote is not ready. -/
def Node.quoteOf (n : Node) (m : Nat) : List Byte := mapGet n.cin.ready m (zeros 1328)

/-- QUOTE_READY (R439). -/
def execQuoteReady (dt : Nat) (s : State) := act dt s fun n => n.whenUp Node.quoteDone

end Sys2Proof.Machine
end

