-- ==== Sys2Proof/Machine/Tag.lean ====
section
/-!
DEFINITION. Machine/Tag.lean: the commissioning tag (R441 to R444): its memory map, the commands of a reader's
field, and the wired side. Responses are the bytes between SOF and CRC of ISO/IEC 15693-3: flags first.
-/
namespace Sys2Proof.Machine

def Node.setTag (n : Node) (f : TagSt → TagSt) : Node := { n with tag := f n.tag }

/-! ## Memory (R442; Tables 16-9 to 16-11) -/

/-- Is KEEP memory powered? -/
def Node.keepPowered (n : Node) : Bool := n.pwr.phase != .off

/-- The identity block: its fields one after another (log 80); LOADER_FAIL and IN_KEEP in the status byte. -/
def Node.tagIdentity (n : Node) : List Byte :=
  let c (sub : Nat) : Nat := tableDefault 0x1000 sub
  padTo 256 (toLE 8 (c 1) ++ toLE 8 (c 2) ++ toLE 4 (c 3) ++ toLE 16 Config.serialNumber ++ toLE 6 Config.macAddress
    ++ toLE 1 n.tag.identNode ++ toLE 4 n.tag.identBoot
    ++ toLE 1 (b2n n.cin.loaderFail + 2 * b2n (n.pwr.phase == .keep)))

/-- Table 16-10: KEEP memory as the tag shows it; outside KEEP its mode byte is the present mode (log 84). -/
def Node.keepPage (n : Node) : List Byte :=
  toLE 1 (if n.pwr.phase = .keep then 1 else n.curMode) ++ toLE 1 (n.o 0x2000 0x0B) ++ zeros 2
    ++ toLE 4 (n.o 0x2000 0x06) ++ toLE 4 (n.o 0x2000 0x07) ++ toLE 2 (n.o 0x1200 0x08) ++ zeros 2
    ++ toLE 8 (n.o 0x2000 0x08) ++ toLE 8 n.sep.horizonLoss ++ toLE 4 n.cin.bootCount ++ toLE 4 n.cin.anchorCount
    ++ n.cin.anchor

/-- One byte of the nonvolatile pages 9 to 31. -/
def Node.tagByte (n : Node) (a : Nat) : Byte := memRead n.tag.mem a
def Node.tagBytes (n : Node) (a len : Nat) : List Byte := memReads n.tag.mem a len
def Node.setTagBytes (n : Node) (a : Nat) (bs : List Byte) : Node :=
  n.setTag fun (t : TagSt) => { t with mem := memWriteAll t.mem (bs.zipIdx.map (fun e => (a + e.2, e.1))) }

/-- A page of 256 bytes. -/
def Node.tagPage (n : Node) (p : Nat) : List Byte :=
  if p = 0 then n.tagIdentity
  else if p ≤ 8 then (if n.keepPowered then slice (padTo 2048 n.keepPage) (256 * (p - 1)) 256 else zeros 256)
  else n.tagBytes (256 * p) 256

/-- A block of four bytes. -/
def Node.tagBlock (n : Node) (b : Nat) : List Byte := slice (n.tagPage (b / 64)) (4 * (b % 64)) 4

/-- Table 16-11. -/
def Node.tagLock (n : Node) (i : Nat) : Bool := (n.tagByte 2305).toNat.testBit i
def Node.commissionFlag (n : Node) : Bool := n.tagByte 2304 == 0xA5

/-- R433: pages 9 to 31 as one string. -/
def Node.tagString (n : Node) : List Byte := n.tagBytes 2304 5888

/-! ## Arbitration (R444) -/

def Node.busy (hold : Option (Nat × Nat)) (n : Node) (p : Nat) : Bool :=
  match hold with
  | some (q, t) => q == p && decide (n.now < t)
  | none => false

def Node.fieldHolds (n : Node) (p : Nat) : Bool := Node.busy n.tag.fieldHold n p
def Node.wiredHolds (n : Node) (p : Nat) : Bool := Node.busy n.tag.wiredHold n p

/-- How long a field command holds its page, and a wired access within its bound (log 81). -/
def fieldSpan : Nat := us 330
def wiredSpan : Nat := us 50

/-- A refusal of either side is counted. -/
def Node.tagRefused (n : Node) : Node := n.incSat 0x3700 0x06

/-! ## The wired side -/

/-- May the wired side write a page (R442)? -/
def wiredWritable (p : Nat) : Bool := 9 ≤ p

/-- R5: the reserved bits of page 9. -/
def tagPageOk (p : Nat) (bs : List Byte) : Bool :=
  p != 9 || (fieldLE bs 1 1 < 4 && (bs.drop 2).all (· == 0))

def Node.wiredAccess (n : Node) (p : Nat) : Node := n.setTag fun t => { t with wiredHold := some (p, n.now + wiredSpan) }

/-- R444: a wired write of a whole page. -/
def Node.tagPageWrite (n : Node) (p : Nat) (bs : List Byte) : Node := (n.setTagBytes (256 * p) bs).wiredAccess p

/-! ## The field (R441) -/

def Node.tagSend (n : Node) (bs : List Byte) : Node := n.emit (.tag bs)
def Node.tagError (n : Node) (code : Nat) : Node := n.tagSend [1, BitVec.ofNat 8 code]

/-- Is the request for this tag? -/
def Node.tagFor (n : Node) : TagAddr → Bool
  | .addressed uid => uid.toNat == Config.tagUid
  | .selected => n.tag.state == .selected
  | .all => n.tag.state != .quiet

/-- A command of the field: only while the field powers the tag; counted since start. -/
def Node.fieldCmd (n : Node) (f : Node → Node) : Node :=
  if n.tag.fieldOn then f (n.incWrap 0x3700 0x05) else n

/-- A field access to a page: busy while the wired side holds it; held until the end of the response. -/
def Node.fieldAccess (n : Node) (p : Nat) (f : Node → Node) : Node :=
  if n.wiredHolds p then (n.tagRefused).tagError 0xA1
  else f (n.setTag fun t => { t with fieldHold := some (p, n.now + fieldSpan) })

/-- May the field write a block? COMMISSION unless LOCK bit 1, the user area unless LOCK bit 0. -/
def Node.fieldWritable (n : Node) (b : Nat) : Bool :=
  (b == 576 && !n.tagLock 1) || (640 ≤ b && b < 2048 && !n.tagLock 0)

/-- The security status of a block: bit 0 for one the field may not write. -/
def Node.blockStatus (n : Node) (b : Nat) : List Byte := toLE 1 (b2n (!n.fieldWritable b))

/-- Blocks as a read returns them. -/
def Node.blocksOut (n : Node) (sec : Bool) (b : Nat) : Nat → List Byte
  | 0 => []
  | k + 1 => (if sec then n.blockStatus b else []) ++ n.tagBlock b ++ n.blocksOut sec (b + 1) k

/-- Extended read single block, and of several within one page. -/
def Node.tagRead (n : Node) (sec : Bool) (b count : Nat) : Node :=
  if 2048 < b + count ∨ count = 0 ∨ 64 < count ∨ b / 64 ≠ (b + count - 1) / 64 then n.tagError 0x10
  else n.fieldAccess (b / 64) fun n => n.tagSend (0 :: n.blocksOut sec b count)

/-- Extended write single block: of page 9 only COMMISSION is stored. -/
def Node.tagWrite (n : Node) (b data : Nat) : Node :=
  if 2048 ≤ b then n.tagError 0x10
  else n.fieldAccess (b / 64) fun n =>
    if n.fieldWritable b then (n.setTagBytes (4 * b) (toLE (if b = 576 then 1 else 4) data)).tagSend [0]
    else n.tagError 0x12

/-- The system information: DSFID and AFI 0, then the memory size (log 82). -/
def Node.systemInfo (ext : Bool) (n : Node) : Node :=
  let head : List Byte := [0, 7] ++ toLE 8 Config.tagUid ++ [0, 0]
  if ext then n.tagSend (head ++ toLE 2 2047 ++ toLE 1 3)
  else let r := n.draw; r.2.tagSend (head ++ toLE 1 r.1 ++ toLE 1 3)

/-- Inventory: the tag answers unless it is quiet, when AFI is none or 0 and the mask ends its UID. -/
def Node.inventory (n : Node) (afi : Option Byte) (maskLen mask : Nat) : Node :=
  if n.tag.state = .quiet ∨ (afi.getD 0) ≠ 0 ∨ Config.tagUid % 2 ^ maskLen ≠ mask % 2 ^ maskLen then n
  else n.tagSend (0 :: 0 :: toLE 8 Config.tagUid)

/-- INVENTORY (R441): with 16 slots the response falls in the slot of the UID bits above the mask. -/
def execInventory (dt : Nat) (afi : Option Byte) (maskLen : Nat) (mask : BitVec 64) (_slots : Bool) (s : State) := act dt s fun n =>
  n.fieldCmd fun n => n.inventory afi maskLen mask.toNat

/-- STAY_QUIET (R441): no response. -/
def execStayQuiet (dt : Nat) (uid : BitVec 64) (s : State) := act dt s fun n => n.fieldCmd fun n =>
  if uid.toNat = Config.tagUid then n.setTag fun t => { t with state := .quiet } else n

/-- SELECT (R441): the tag of that UID is selected and answers; a selected other one is ready again. -/
def execSelect (dt : Nat) (uid : BitVec 64) (s : State) := act dt s fun n => n.fieldCmd fun n =>
  if uid.toNat = Config.tagUid then (n.setTag fun t => { t with state := .selected }).tagSend [0]
  else if n.tag.state = .selected then n.setTag fun t => { t with state := .ready }
  else n

/-- RESET_TO_READY (R441). -/
def execResetToReady (dt : Nat) (addr : TagAddr) (s : State) := act dt s fun n => n.fieldCmd fun n =>
  if n.tagFor addr then (n.setTag fun t => { t with state := .ready }).tagSend [0] else n

/-- GET_SYSTEM_INFORMATION (R441). -/
def execGetSystemInformation (dt : Nat) (addr : TagAddr) (s : State) := act dt s fun n => n.fieldCmd fun n =>
  if n.tagFor addr then n.systemInfo false else n

/-- EXTENDED_GET_SYSTEM_INFORMATION (R441). -/
def execExtendedGetSystemInformation (dt : Nat) (addr : TagAddr) (s : State) := act dt s fun n => n.fieldCmd fun n =>
  if n.tagFor addr then n.systemInfo true else n

/-- EXTENDED_READ_SINGLE_BLOCK (R444). -/
def execExtendedReadSingleBlock (dt : Nat) (addr : TagAddr) (sec : Bool) (block : BitVec 16) (s : State) := act dt s fun n =>
  n.fieldCmd fun n => if n.tagFor addr then n.tagRead sec block.toNat 1 else n

/-- EXTENDED_WRITE_SINGLE_BLOCK (R442). -/
def execExtendedWriteSingleBlock (dt : Nat) (addr : TagAddr) (block : BitVec 16) (data : BitVec 32) (s : State) := act dt s fun n =>
  n.fieldCmd fun n => if n.tagFor addr then n.tagWrite block.toNat data.toNat else n

/-- EXTENDED_READ_MULTIPLE_BLOCKS (R444): `count` is the number of blocks. -/
def execExtendedReadMultipleBlocks (dt : Nat) (addr : TagAddr) (sec : Bool) (block count : BitVec 16) (s : State) := act dt s fun n =>
  n.fieldCmd fun n => if n.tagFor addr then n.tagRead sec block.toNat count.toNat else n

/-- UNSUPPORTED_TAG_COMMAND (R441). -/
def execUnsupportedTagCommand (dt : Nat) (addr : TagAddr) (s : State) := act dt s fun n =>
  n.fieldCmd fun n => if n.tagFor addr then n.tagError 0x01 else n

/-- FIELD_PRESENT_CHANGE (R441): without its field the tag is off; with it, it starts ready. -/
def execFieldPresentChange (dt : Nat) (on : Bool) (s : State) := act dt s fun n =>
  n.setTag fun t => { t with fieldOn := on, state := .ready }

end Sys2Proof.Machine
end

