-- ==== Sys2Proof/Machine/Objects.lean ====
section
/-!
DEFINITION. Machine/Objects.lean: which objects exist and with which attributes (R70 to R78): the object tables, type
descriptions, and the objects that vats declare (R127); which instance a request acts on (R130); and who owns an
object (R75).
-/
namespace Sys2Proof.Machine

/-! ## Private objects (R127, Table 4-6) -/

/-- The vat in whose private range an index lies. -/
def privVat (idx : Nat) : Option Nat := if 0xA000 ≤ idx ∧ idx < 0xF000 then some ((idx - 0xA000) / 0x500) else none

/-- The control index of a vat's private range. -/
def privIdx (v : Nat) : Nat := 0xA000 + 0x500 * v

/-- The declaration in force of vat `v`: the text last declared, which the model keeps beside the DOMAIN. -/
def Node.declared (n : Node) (v : Nat) : List CezEntry :=
  match cezParse (n.domI 1 (privIdx v) 0x01) with
  | .ok es => es
  | .error _ => []

/-- The declared entry of an object, if there is one. -/
def Node.declEntry (n : Node) (idx sub : Nat) : Option CezEntry :=
  match privVat idx with
  | some v => if idx = privIdx v then none else (n.declared v).find? (fun e => e.idx == idx && e.sub == sub)
  | none => none

/-- The value a declared entry starts with: the value it gives, else zero bytes. -/
def declDefault (e : CezEntry) : Nat := match e.value with | some (_, bs) => ofLE bs | none => 0

def declRow (e : CezEntry) : Row := ⟨e.sub, e.ty, e.acc, declDefault e, e.kept, .any, false⟩

/-- The subindices a vat declared under an index. -/
def Node.declSubs (n : Node) (idx : Nat) : List Nat :=
  match privVat idx with
  | some v => if idx = privIdx v then [] else ((n.declared v).filter (fun e => e.idx == idx)).map (·.sub)
  | none => []

/-! ## Type descriptions (R72) -/

/-- The fields of the alarm event record (Table 8-5): type code and width in bits. -/
def recordFields : List (Nat × Nat) :=
  [(3, 16), (2, 8), (2, 8), (2, 8), (2, 8), (3, 16), (12, 64), (10, 32), (4, 32), (14, 48), (3, 16)]

/-- A record type description: a U32 for each field. -/
def typeRows : List Row :=
  (recordFields.zipIdx).map (fun e => ⟨e.2 + 1, .u 4, .const, e.1.1 * 65536 + e.1.2, false, .any, false⟩)

/-! ## Existence (R71, R76 steps 1 and 2) -/

/-- The rows of an index. -/
def indexRows (idx : Nat) : List Row := if idx = 0x0020 then typeRows else tableOf idx

/-- The subindices of an index in use. -/
def Node.subsOf (n : Node) (idx : Nat) : List Nat := (indexRows idx).map (·.sub) ++ n.declSubs idx

/-- Is the index in use? The basic types stand at their codes without a subindex of their own. -/
def Node.indexExists (n : Node) (idx : Nat) : Bool := (1 ≤ idx && idx ≤ 15) || !(n.subsOf idx).isEmpty

/-- R71: subindex 0x00 of an index that has more than one. -/
def zeroRow (subs : List Nat) : Row := ⟨0, .u 1, .const, subs.foldl max 0, false, .any, false⟩

/-- The attributes of an object. -/
def Node.rowFor (n : Node) (idx sub : Nat) : Option Row :=
  match (indexRows idx).find? (fun r => r.sub == sub) with
  | some r => some r
  | none =>
    match n.declEntry idx sub with
    | some e => some (declRow e)
    | none => if sub = 0 ∧ 2 ≤ (n.subsOf idx).length then some (zeroRow (n.subsOf idx)) else none

/-! ## The instance a request acts on (R130, R210, R258, R282, R321, R372, R388, R428) -/

/-- Selects of which each master has its own. -/
def perMaster (ci sub : Nat) : Bool :=
  (sub == 0x01 && [0x9000, 0x9100, 0x5400, 0x5500, 0x5600, 0x6100, 0x6200, 0x6300, 0x7100, 0x7200, 0x3000, 0x3400,
      0x2200, 0x1040, 0x2300, 0x3700].contains ci)
    || (sub == 0x20 && [0x5400, 0x7100, 0x8000, 0x3400].contains ci) || (ci == 0x2200 && sub == 0x05) || (ci == 0x1040 && sub == 0x02)

/-- The value of a master's select. -/
def Node.sel (n : Node) (m : Master) (idx sub : Nat) : Nat := n.oi (masterCode m) idx sub

/-- The instance of object `idx.sub` for master `m`. The master's number where the object is per master, the
selection where the object acts on one, otherwise 0. The model keeps 0x9000.0C by the code it binds. -/
def Node.instOf (n : Node) (m : Master) (idx sub : Nat) : Nat :=
  let ci := canonIdx idx
  if perMaster ci sub then masterCode m
  else if ci = 0x1040 then (if sub = 0x04 then 0 else 2 * n.sel m 0x1040 0x01 + n.sel m 0x1040 0x02)
  else if ci = 0x2100 then (if [2, 3, 4, 6, 7, 8].contains sub then n.o 0x2100 0x01 else 0)
  else if ci = 0x2200 then (if sub = 0x02 then n.sel m 0x2200 0x01 else 0)
  else if ci = 0x3000 then (if 0x0C ≤ sub ∧ sub ≤ 0x15 then n.sel m 0x3000 0x01 else 0)
  else if ci = 0x3100 then (if sub = 0x0B ∨ sub = 0x0C then n.sel m 0x3000 0x01 else 0)
  else if ci = 0x3400 then (if 0x21 ≤ sub ∧ sub ≤ 0x24 then n.sel m 0x3400 0x20 else n.sel m 0x3400 0x01)
  else if ci = 0x5400 then
    (if 0x21 ≤ sub then cylInst (n.sel m 0x5400 0x01) (n.sel m 0x5400 0x20) else n.sel m 0x5400 0x01)
  else if ci = 0x5500 ∨ ci = 0x5600 ∨ ci = 0x6100 ∨ ci = 0x6200 ∨ ci = 0x7200 ∨ ci = 0x9100 then n.sel m ci 0x01
  else if ci = 0x6300 then (if sub < 0x20 then n.sel m 0x6300 0x01 else 0)
  else if ci = 0x7100 then (if 0x20 ≤ sub then n.sel m 0x7100 0x20 else n.sel m 0x7100 0x01)
  else if ci = 0x8000 then (if 0x21 ≤ sub ∧ sub ≤ 0x28 then n.sel m 0x8000 0x20 else 0)
  else if ci = 0x9000 then (if sub ≤ 0x09 ∨ sub = 0x0B then n.sel m 0x9000 0x01 else 0)
  else 0

/-! ## Ownership (R75) -/

/-- The bit of a vat that owns, from an owner object; 0 where it names none. -/
def ownerBit (v : Nat) : Nat := if v < 16 then 2 ^ v else 0

/-- The owner mask of instance `i` of an object. -/
def Node.ownerMaskI (n : Node) (idx sub i : Nat) : Nat :=
  let ci := canonIdx idx
  match privVat idx with
  | some v => 2 ^ v
  | none =>
    if ci = 0x9100 ∧ sub ≠ 0x01 then ownerBit (n.queueOwner i)
    else if ci = 0x6100 ∧ ((2 ≤ sub ∧ sub ≤ 0x14) ∨ sub = 0x16 ∨ sub = 0x2B ∨ sub = 0x2C) then ownerBit (n.oi i 0x6100 0x15)
    else if ci = 0x7000 ∧ sub = 0x03 then ownerBit (n.o idx 0x02)
    else if ci = 0x7100 ∧ sub = 0x04 then ownerBit (n.oi i 0x7100 0x03)
    else if ci = 0x7400 ∧ (sub = 0x11 ∨ sub = 0x12) then ownerBit (n.o 0x7400 0x02)
    else if ci = 0x1040 ∧ sub = 0x03 then (let k := i / 2; if 0x10 ≤ k ∧ k < 0x20 then 2 ^ (k - 0x10) else 0)
    else 0

/-- The owner mask of an object as master `m` sees it. -/
def Node.ownerMask (n : Node) (m : Master) (idx sub : Nat) : Nat :=
  if idx = 0x1040 ∧ sub = 0x02 then n.ownerMaskI idx 0x03 (2 * n.sel m 0x1040 0x01) else n.ownerMaskI idx sub (n.instOf m idx sub)

/-- The vat that a master is. -/
def vatOf : Master → Option Nat
  | .vat v => some v.val
  | _ => none

end Sys2Proof.Machine
end

