-- ==== Sys2Proof/Machine/Store.lean ====
section
/-!
DEFINITION. Machine/Store.lean: the persistent store in flash (R82 to R91, R106): banks, commit, background erase,
retired sectors, and what a start restores.
-/
namespace Sys2Proof.Machine

def Node.setStore (n : Node) (f : StoreSt → StoreSt) : Node := { n with store := f n.store }

/-! ## Which objects are kept -/

/-- Is the object kept (R70)? A declared private object is kept where its declaration says so (R127). -/
def Node.keptKey (n : Node) (k : Nat) : Bool :=
  match rowOf (keyIdx k) (keySub k) with
  | some r => r.kept
  | none => match n.declEntry (keyIdx k) (keySub k) with | some e => e.kept | none => false

/-- R90: the kept objects and DOMAINs as they stand. An object at its default is in no list. -/
def Node.keptObjs (n : Node) : List (Nat × Nat) := n.od.filter (fun e => n.keptKey e.1)
def Node.keptDoms (n : Node) : List (Nat × List Byte) := n.dom.filter (fun e => n.keptKey e.1)

/-! ## Banks (R88, R89) -/

def Node.bank (n : Node) (b : Bool) : Bank := if b then n.store.bankB else n.store.bankA
def Node.setBank (n : Node) (b : Bool) (x : Bank) : Node :=
  n.setStore fun s => if b then { s with bankB := x } else { s with bankA := x }

/-- The committed bank: the valid one; with both valid the later (R89). -/
def laterA (a b : Nat) : Bool := let d := (a + 2 ^ 32 - b) % 2 ^ 32; d == 0 || decide (d ≤ 2 ^ 31)
def Node.committedBank (n : Node) : Option Bool :=
  match n.store.bankA.valid, n.store.bankB.valid with
  | true, true => some (!laterA n.store.bankA.seq n.store.bankB.seq)
  | true, false => some false
  | false, true => some true
  | false, false => none

/-- R88: the largest store image. -/
def storeMax : Nat := 16703520
/-- The sectors of a bank (Table 4-10). -/
def bankSectors : Nat := 256
def bankFirst (b : Bool) : Nat := if b then 2848 else 2592

/-- Is a sector of the bank out of use for want of a spare (R87)? -/
def Node.bankUnusable (n : Node) (b : Bool) : Bool :=
  n.store.unusable.any (fun s => bankFirst b ≤ s && s < bankFirst b + bankSectors)

/-! ## Status (Table 4-12) -/

/-- 0x1020.02 with a result, or with the result it had. -/
def Node.storeStatus (n : Node) (result : Nat) : Node :=
  n.set 0x1020 0x02 (result * 65536 + 256 * b2n (n.committedBank == some true)
    + 2 * b2n (n.store.job.isNone && n.store.erasing.isSome) + b2n n.store.job.isSome)
def Node.storeResult (n : Node) : Nat := n.o 0x1020 0x02 / 65536
def Node.storeRefresh (n : Node) : Node := n.storeStatus n.storeResult

/-- R90, R91: the bank that is not committed is erased in the background while sectors of it are left. R89: an equal
or opposite sequence number leaves it to the next commit. -/
def Node.eraseStart (n : Node) : Node :=
  let t := !(n.committedBank.getD true)
  let tie := n.store.bankA.valid && n.store.bankB.valid
  (n.setStore fun s => { s with erasing := if s.job.isNone && !tie && decide (0 < (n.bank t).left) then some t else none }).storeRefresh

/-! ## Service cycles (R81) and uncommitted writes -/

/-- The service cycle of now: by the keeper island's time copy, or by elapsed time while it is invalid. -/
def Node.serviceCycle (n : Node) : Nat := (if n.copyValid isleKeeper then n.copy isleKeeper else n.now) / 50000

/-- The snapshot of a commit: the objects and when they were taken. -/
def Node.snapshot (n : Node) (j : CommitJob) : CommitJob :=
  { j with objs := n.keptObjs, doms := n.keptDoms, len := (Config.storeImage n.keptObjs n.keptDoms).length }

/-- R90: a kept object was written: in the cycle of the commit it is in the snapshot, later it is uncommitted. -/
def Node.keptWritten (n : Node) : Node :=
  match n.store.job with
  | some j => if j.cycle = n.serviceCycle then n.setStore fun s => { s with job := some (n.snapshot j) } else n.set 0x1020 0x06 1
  | none => n.set 0x1020 0x06 1

/-- R341: 0x2400.0B, the first 8 bytes of the digest of the committed store image, in which the twin side and the trim
read as their defaults. -/
def Node.refreshDigest (n : Node) : Node :=
  let x := n.bank (n.committedBank.getD false)
  let objs := x.objs.filter (fun e => e.1 != key 0 0x3000 0x0A && e.1 != key 0 0x1200 0x03)
  n.set 0x2400 0x0B (ofLE ((sha384 (Config.storeImage objs x.doms)).take 8))

/-! ## Commit (R90, R91) -/

/-- R90: a commit is accepted: the snapshot, and the bank that takes it. -/
def Node.commitStart (n : Node) (master : Nat) : Node :=
  let j := n.snapshot { cycle := n.serviceCycle, master := master }
  let n := (n.set 0x1020 0x04 n.tai).set 0x1020 0x06 0
  if storeMax < j.len then (n.storeStatus 0x060A).fault 0x003 0x11 0 0x060A
  else
    let t := !(n.committedBank.getD true)
    let seq := match n.committedBank with | some b => ((n.bank b).seq + 1) % 2 ^ 32 | none => 1
    let n := n.setBank t { n.bank t with valid := false, blank := false, left := if (n.bank t).valid then bankSectors else (n.bank t).left }
    (n.setStore fun s => { s with job := some { j with bankB := t, seq := seq }, erasing := none }).storeRefresh

/-- A commit that fails: the target is erased before it is used again (R91). -/
def Node.commitFail (n : Node) (j : CommitJob) : Node :=
  let n := n.setBank j.bankB { valid := false, blank := false, left := bankSectors }
  ((n.setStore fun s => { s with job := none }).storeStatus 0x060C).eraseStart

/-- COMMIT_COMPLETE: the bank is verified and its COMMIT word programmed; the description applied is stored with it
(R106), the old bank is erased. Or it failed. -/
def Node.commitDone (n : Node) (verified : Bool) : Node :=
  match n.store.job with
  | none => n
  | some j =>
    if storeMax < j.len then (((n.setStore fun s => { s with job := none }).storeStatus 0x060A).eraseStart).fault 0x003 0x11 0 0x060A
    else if !verified || n.bankUnusable j.bankB then (n.commitFail j).fault 0x003 0x11 0 0x060C
    else
      let old := n.committedBank
      let n := n.setBank j.bankB { valid := true, blank := false, seq := j.seq, objs := j.objs, doms := j.doms, len := j.len, left := 0 }
      let n := match old with
        | some b => n.setBank b { valid := false, blank := false, left := bankSectors }
        | none => n
      let n := n.setStore fun s => { s with job := none, stored := match s.applied with | some d => d | none => s.stored, applied := none }
      let n := ((n.set 0x1020 0x03 j.seq).set 0x1020 0x05 j.len).storeStatus 0
      ((n.commissionEvent 6 j.master (Config.storeImage j.objs j.doms) []).eraseStart).refreshDigest

/-- R91: a commit cut off before its COMMIT word (line loss, node reset): the target does not check at the next
start. -/
def Node.commitAbandon (n : Node) : Node :=
  match n.store.job with
  | some j => (n.setBank j.bankB { valid := false, blank := false, left := bankSectors }).setStore fun s => { s with job := none }
  | none => n

/-- R91: a keeper reset during a commit. -/
def Node.commitKeeperReset (n : Node) : Node :=
  match n.store.job with
  | some j =>
    let n := n.setBank j.bankB { valid := false, blank := false, left := bankSectors }
    (n.setStore fun s => { s with job := none, erasing := none }).storeStatus 0x060C
  | none => (n.setStore fun s => { s with erasing := none }).storeRefresh

/-! ## Erase, half-erased and retired sectors (R85 to R87) -/

/-- R87: a sector that fails verification after two erases: retired onto a spare, or with none left unusable. -/
def Node.retireSector (n : Node) (s : Nat) : Node :=
  if n.o 0x1020 0x09 = 0 then (n.setStore fun t => { t with unusable := t.unusable ++ [s] }).fault 0x003 0x10 0 s
  else
    let n := n.setStore fun t => { t with retired := t.retired ++ [s] }
    ((n.set 0x1020 0x08 (n.o 0x1020 0x08 + 1)).set 0x1020 0x09 (n.o 0x1020 0x09 - 1)).fault 0x003 0x10 0 s

/-- BANK_SECTOR_ERASED: one more sector of the old bank; the last leaves it blank. -/
def Node.sectorErased (n : Node) (verified : Bool) : Node :=
  match n.store.erasing with
  | none => n
  | some b =>
    let x := n.bank b
    let s := bankFirst b + (bankSectors - x.left)
    let n := n.setStore fun t => { t with eraseCounts := mapPut t.eraseCounts s (mapGet t.eraseCounts s 0 + (if verified then 1 else 2)) }
    let n := if verified then n else n.retireSector s
    (n.setBank b { x with left := x.left - 1, blank := x.left ≤ 1 }).eraseStart

/-- An erase that line loss or a reset cuts off leaves its sector half-erased (R86). -/
def Node.eraseCut (n : Node) : Node :=
  match n.store.erasing with
  | some b => n.setStore fun t => { t with erasing := none, halfErased := [bankFirst b + (bankSectors - (n.bank b).left)] }
  | none => n

/-- R86, R87 at a start: half-erased sectors are erased again and counted; those that fail twice are retired. -/
def Node.recoverSectors (n : Node) (bad : List Nat) : Node :=
  let half := n.store.halfErased
  let n := n.incSatI 32 0 0x1020 0x07 half.length
  let n := half.foldl (fun n s =>
    let b := decide (2848 ≤ s)
    n.when (decide (2592 ≤ s && s < 3104)) fun n => n.setBank b { n.bank b with left := (n.bank b).left - 1, blank := (n.bank b).left == 1 }) n
  let n := n.setStore fun t => { t with halfErased := [], eraseCounts := half.foldl (fun m s => mapPut m s (mapGet m s 0 + 1)) t.eraseCounts }
  (half.filter (fun s => bad.contains s)).foldl (fun n s => n.retireSector s) n

/-! ## Restoring at a start (R89) -/

/-- Every object at its default but the bank's. -/
def Node.loadBank (n : Node) (x : Bank) : Node :=
  { n with
    od := x.objs.foldl (fun od e => odPut od e.1 e.2) n.od
    dom := x.doms.foldl (fun d e => mapPut d e.1 e.2) n.dom }

/-- R89: the start restores the committed bank. The answer's first part is the cause of COMMISSION, 0 for none. -/
def Node.restoreStore (n : Node) : Nat × Node :=
  let a := n.store.bankA
  let b := n.store.bankB
  let n := ((n.set 0x1020 0x08 n.store.retired.length).set 0x1020 0x09 (222 - n.store.retired.length))
  match n.committedBank with
  | none => (if a.blank && b.blank then 0x10 else 0x11, n.eraseStart.refreshDigest)
  | some t =>
    let x := n.bank t
    let d := (a.seq + 2 ^ 32 - b.seq) % 2 ^ 32
    let tie := a.valid && b.valid && (d == 0 || d == 2 ^ 31)
    let n := ((n.loadBank x).set 0x1020 0x03 x.seq).set 0x1020 0x05 x.len
    let n := if tie then n.fault 0x003 0x11 0 0x060C
      else if a.valid && b.valid then n.setBank (!t) { valid := false, blank := false, left := bankSectors }
      else n
    (0, n.eraseStart.refreshDigest)

/-! ## Commands -/

/-- COMMIT_COMPLETE (R90, R91). -/
def execCommitComplete (dt : Nat) (verified : Bool) (s : State) := act dt s fun n => n.whenUp fun n => n.commitDone verified
/-- BANK_SECTOR_ERASED (R90). -/
def execBankSectorErased (dt : Nat) (verified : Bool) (s : State) := act dt s fun n => n.whenUp fun n => n.sectorErased verified

end Sys2Proof.Machine
end

