-- ==== Sys2Proof/Machine/Checks.lean ====
section
/-!
DEFINITION. Machine/Checks.lean: the checks that a chapter adds for an object to those of every request (R76): ranges
that depend on other objects, modes, resources and readiness. Each check answers a code of Table 4-8, 0 for none;
`firstFail` then takes the one that Table 4-4 lists first.
-/
namespace Sys2Proof.Machine

/-! ## The order of Table 4-4 -/

/-- The step of Table 4-4 that answers a code. -/
def checkRank (c : Nat) : Nat :=
  if c = 0x0601 then 1 else if c = 0x0602 then 2 else if c = 0x0603 then 3 else if c = 0x0604 then 4 else if c = 0x0607 then 5
  else if c = 0x0606 then 6 else if c = 0x0605 then 7 else if c = 0x0609 then 8 else if c = 0x060A then 9 else if c = 0x0608 then 10 else 11

/-- The code of the first check that fails, 0 if none does. -/
def firstFail : List Nat → Nat
  | [] => 0
  | c :: cs => let d := firstFail cs; if c = 0 then d else if d = 0 then c else if checkRank d < checkRank c then d else c

/-- A code under a condition. -/
def failIf (b : Bool) (c : Nat) : Nat := if b then c else 0

def isVat : Master → Bool
  | .vat _ => true
  | _ => false

/-! ## Modes, resets, the store, time (chapters 02 to 04) -/

/-- Is a domain in reset already, or a vat that is disabled (R43)? -/
def Node.inReset (n : Node) (kind inst : Nat) : Bool :=
  if kind = 3 then n.oi inst 0x9000 0x07 == 3 || n.oi inst 0x9000 0x07 == 0
  else if kind = 4 then n.unitState inst == 5
  else if kind = 5 then n.unitState (32 + inst) == 5
  else if kind = 8 then (n.canSt inst).inReset
  else if kind = 9 then (n.serialPort inst).inReset
  else false

/-- R43, R44, Table 2-11: the code of a reset command. -/
def Node.resetCode (n : Node) (m : Master) (v : Nat) : Nat :=
  let kind := bits v 15 8
  let inst := bits v 7 0
  let top := ([0, 0, 0, 15, 31, 7, 1, 3, 3, 7] : List Nat).getD kind 0
  let own := match m with | .vat w => kind == 3 && inst == w.val | _ => true
  firstFail [failIf (!own) 0x0604,
    failIf (bits v 31 24 != 0xA5 || bits v 23 16 != 0 || kind == 0 || decide (9 < kind) || decide (top < inst)) 0x0606,
    failIf ((kind == 4 && n.unitState inst == 6) || (kind == 5 && n.unitState (32 + inst) == 6)) 0x0606,
    failIf (n.inReset kind inst) 0x0608]

/-- Table 4-12: the code of a store command. -/
def Node.storeCode (n : Node) (v : Nat) : Nat :=
  let a := bits v 7 0
  firstFail [failIf (bits v 31 24 != 0xA5 || bits v 23 8 != 0 || a == 0 || decide (3 < a)) 0x0606,
    failIf (a != 1 && n.curMode != 3) 0x0605, failIf (a == 1 && n.store.job.isSome) 0x0608]

/-- R346: the code of a clone command. -/
def Node.cloneCode (n : Node) : Nat :=
  firstFail [failIf (n.curMode != 3) 0x0605, failIf (!n.linkUp || !n.twinFit || n.twin.clone.isSome || n.store.job.isSome) 0x0608]

def Node.checkNode (n : Node) (m : Master) (idx sub v : Nat) : Nat :=
  if idx = 0x1010 then (if sub = 0x02 then n.modeCode v else if sub = 0x06 then n.resetCode m v else 0)
  else if idx = 0x1020 then (if sub = 0x01 then n.storeCode v else 0)
  else if idx = 0x1030 then (if sub = 0x02 then failIf (n.curMode != 3) 0x0605 else 0)
  else if idx = 0x1040 then (if sub = 0x01 then failIf (!imageExists v) 0x0606 else 0)
  else if idx = 0x1100 then (if sub = 0x08 then failIf n.rtc.capture 0x0608 else 0)
  else if idx = 0x1200 then (if sub = 0x04 then failIf n.rtc.shift.isSome 0x0608 else 0)
  else if idx = 0x2400 then (if sub = 0x17 then n.cloneCode else 0)
  else 0

/-! ## Verdigris, Cinnabar and the tag (chapters 15, 16) -/

def Node.checkTrust (n : Node) (m : Master) (idx sub v : Nat) (data : List Byte) : Nat :=
  if idx = 0x2200 then
    if sub = 0x02 then failIf (!(kindKnown (n.sel m 0x2200 0x01) && ruleOk v)) 0x0606
    else if sub = 0x04 then failIf (!overridesOk v (n.domI 0 0x2200 0x03)) 0x0606
    else if sub = 0x0C then raiseCode v
    else if sub = 0x13 then n.releaseCode v
    else if sub = 0x30 then (match m with | .vat w => failIf (v != w.val) 0x0604 | _ => 0)
    else 0
  else if idx = 0x2300 then
    (if sub = 0x02 then n.quoteCode (masterCode m) data else if sub = 0x05 then n.extendCode data else 0)
  else if idx = 0x3700 then
    (if sub = 0x02 then
      let p := n.sel m 0x3700 0x01
      firstFail [failIf (!wiredWritable p) 0x0603, failIf (!tagPageOk p data) 0x0606, failIf (n.fieldHolds p) 0x0608]
    else 0)
  else 0

/-! ## The ring, CAN (chapters 10, 13) -/

def Node.checkRing (n : Node) (sub v : Nat) (data : List Byte) : Nat :=
  if sub = 0x07 then failIf (ms v % n.framePeriod != 0 || n.o 0x3000 0x08 % v != 0) 0x0606
  else if sub = 0x08 then failIf (v % n.o 0x3000 0x07 != 0) 0x0606
  else if sub = 0x18 then n.snapCode data
  else 0

/-- Every 32-bit identifier word at multiples of `step` bytes keeps the rule of Table 13-4. -/
def identsOk (step count v : Nat) : Bool := (List.range count).all (fun k => identOk ((v >>> (8 * step * k)) % 2 ^ 32))

def Node.checkCan (n : Node) (i sub v : Nat) : Nat :=
  if sub = 0x10 ∨ sub = 0x11 then failIf (!identOk v) 0x0606
  else if sub = 0x14 then failIf (!identsOk 24 8 v) 0x0606
  else if sub = 0x15 then sleepCode v
  else if sub = 0x1A then n.recoverCode i v
  else if sub = 0x21 then failIf (!(v % 256 == 0xFF || slotOk v)) 0x0606
  else if sub = 0x25 then failIf (!identsOk 8 64 v) 0x0606
  else 0

/-! ## Lakes, dynamic channels, shafts, crank domains, serial ports (chapters 06, 07) -/

/-- R154: bytes of a scan list: a pin, the reference or the cold junction, or 0xFF. -/
def scanByteOk (b : Byte) : Bool := b.toNat ≤ 7 || b.toNat == 0x10 || b.toNat == 0x11 || b.toNat == 0xFF

def Node.checkSense (n : Node) (m : Master) (ci idx i sub v : Nat) (data : List Byte) : Nat :=
  if ci = 0x4000 then (if sub = 0x01 then n.serviceCode ((idx - 0x4000) / 0x40) v else 0)
  else if ci = 0x5002 then (if sub = 0x01 then n.serviceCode (32 + (idx - 0x5000) / 0x80) v else 0)
  else if ci = 0x4001 then
    if sub = 0x01 then failIf (!data.all scanByteOk) 0x0606
    else if sub = 0x03 then failIf (v ≤ n.o idx 0x04) 0x0606
    else if sub = 0x04 then failIf (n.o idx 0x03 ≤ v) 0x0606
    else 0
  else if ci = 0x5400 then
    if sub = 0x09 ∨ sub = 0x21 then failIf (n.cycleTenths (n.sel m 0x5400 0x01) ≤ v) 0x0606
    else if sub = 0x0E then failIf (!n.compareOk i v) 0x0606
    else 0
  else if ci = 0x5500 then
    if sub = 0x08 then failIf (n.sh i 0x02 == 2 && !(60 ≤ v && v ≤ 16384)) 0x0606 else 0
  else if ci = 0x5600 then
    if sub = 0x04 then failIf (v < n.sp i 0x06 + n.sp i 0x07) 0x0606
    else if sub = 0x06 then failIf (n.sp i 0x04 < v + n.sp i 0x07) 0x0606
    else if sub = 0x07 then failIf (n.sp i 0x04 < n.sp i 0x06 + v) 0x0606
    else if sub = 0x0C then failIf (n.sp i 0x0D ≤ v) 0x0606
    else if sub = 0x0D then failIf (v ≤ n.sp i 0x0C) 0x0606
    else if sub = 0x0E then failIf (v ≤ n.sp i 0x0F) 0x0606
    else if sub = 0x0F then failIf (n.sp i 0x0E ≤ v) 0x0606
    else 0
  else 0

/-! ## Mordant (chapter 08) -/

/-- The point record of Table 8-22: subindex, offset, size. -/
def pointFields : List (Nat × Nat × Nat) :=
  [(0x02, 0, 1), (0x03, 1, 1), (0x05, 2, 2), (0x04, 4, 4), (0x06, 8, 4), (0x07, 12, 4), (0x08, 16, 4), (0x09, 20, 4), (0x0A, 24, 4),
   (0x0B, 28, 2), (0x0C, 30, 2), (0x0D, 32, 2), (0x0E, 34, 2), (0x0F, 36, 8), (0x10, 44, 2), (0x11, 46, 1), (0x12, 47, 1),
   (0x13, 48, 4), (0x14, 52, 2), (0x15, 54, 1), (0x16, 56, 4)]

/-- A subindex of a point's configuration (R254), and those of its simulation (R219). -/
def pointConfig (sub : Nat) : Bool := 2 ≤ sub && (sub ≤ 0x14 || sub == 0x16)
def pointSim (sub : Nat) : Bool := sub == 0x2B || sub == 0x2C

/-- R233: four group numbers, or 0xFFFF. -/
def groupsOk (v : Nat) : Bool :=
  (List.range 4).all (fun i => let g := (v >>> (16 * i)) % 65536; g < 1024 || g == 0xFFFF)

/-- R222: the limits of a point with one of them at `v`. -/
def Node.limitsWith (n : Node) (i sub v : Nat) : Bool :=
  let l := fun (k : Nat) => if k = sub then v else n.po i k
  limitsOk (l 6) (l 7) (l 8) (l 9) (l 0xA)

/-- R75, R219, R254: who may write a point without an owner; the owned ones follow the owner mask. -/
def Node.pointRight (n : Node) (m : Master) (i sub : Nat) : Nat :=
  if sub = 0x15 then failIf (isVat m) 0x0604
  else if (pointConfig sub || pointSim sub) && n.po i 0x15 == 0xFF then
    (if isVat m then 0x0604 else failIf (n.curMode != 3) 0x0605)
  else 0

/-- The fields of an operator command (Table 8-11) and its code. -/
def Node.opCodeOf (n : Node) (m : Master) (data : List Byte) : Nat :=
  n.opCode m (fieldLE data 0 1) (fieldLE data 1 1) (fieldLE data 2 2) (fieldLE data 4 4) (fieldLE data 8 8)

def Node.checkPoint (n : Node) (m : Master) (ci i sub v : Nat) (data : List Byte) : Nat :=
  if ci = 0x6000 then
    if sub = 0x01 then failIf (n.pointsInUse.any (fun p => pointLimit v ≤ p)) 0x0606
    else if sub = 0x08 then (if n.curMode = 5 then failIf (!n.linkUp) 0x0608 else n.opCodeOf m data)
    else if sub = 0x0B then failIf (!n.frame.sched.any (fun e => e.1 == v)) 0x0606
    else 0
  else if ci = 0x6100 then
    firstFail [n.pointRight m i sub,
      (if sub = 0x01 then failIf (n.limit ≤ v) 0x0606
       else if 6 ≤ sub ∧ sub ≤ 0x0A then failIf (!n.limitsWith i sub v) 0x0606
       else if sub = 0x0F then failIf (!groupsOk v) 0x0606
       else if sub = 0x27 ∨ sub = 0x28 then failIf (v != 0) 0x0606
       else 0)]
  else if ci = 0x6300 then
    if sub = 0x03 then failIf (!(decide (v < 63) && decide (1 ≤ n.locKind v) && decide (n.locKind v ≤ 3))) 0x0606
    else if sub = 0x0D then failIf (!(List.range 4).all (fun k => (v >>> (32 * k)) % 2 ^ 32 < 2 ^ 24)) 0x0606
    else if sub = 0x11 then failIf (v ≤ n.ao i 0x12) 0x0606
    else if sub = 0x12 then failIf (n.ao i 0x11 ≤ v) 0x0606
    else 0
  else 0

/-! ## Outputs and Umber (chapters 09, 14) -/

/-- A point number below the limit, or none. -/
def Node.pointRefOk (n : Node) (v : Nat) : Bool := v < n.limit || v == 0xFFFF

def Node.checkOutput (n : Node) (m : Master) (ci idx i sub v : Nat) (data : List Byte) : Nat :=
  if ci = 0x7000 then
    if sub = 0x03 then failIf (60000 < v || (n.ob idx 0x08 && !(9000 ≤ v && v ≤ 52500))) 0x0606
    else if sub = 0x05 then failIf (!n.pointRefOk v) 0x0606
    else if sub = 0x0C ∨ sub = 0x0E ∨ sub = 0x10 then failIf (60000 < v) 0x0606
    else 0
  else if ci = 0x7001 then (if sub = 0x01 then n.transmitCode ((idx - 0x7000) / 0x10) data else 0)
  else if ci = 0x7100 then
    if sub = 0x07 then failIf (n.oi i 0x7100 0x09 ≤ v) 0x0606
    else if sub = 0x09 then failIf (v ≤ n.oi i 0x7100 0x07) 0x0606
    else if sub = 0x22 then failIf (n.oi i 0x7100 0x21 != 1) 0x0608
    else 0
  else if ci = 0x7200 then (if sub = 0x02 then failIf (!n.pointRefOk v) 0x0606 else 0)
  else if ci = 0x7400 then
    if sub = 0x02 then failIf (isVat m) 0x0604
    else if sub = 0x03 then failIf (!panelTimingOk v (n.uo 0x05) (n.uo 0x06)) 0x0606
    else if sub = 0x05 then failIf (!panelTimingOk (n.uo 0x03) v (n.uo 0x06)) 0x0606
    else if sub = 0x06 then failIf (!(panelTimingOk (n.uo 0x03) (n.uo 0x05) v && v ≤ 100000)) 0x0606
    else if sub = 0x07 then failIf (!n.pointRefOk v) 0x0606
    else if sub = 0x08 then
      let ts := (List.range 7).map (fun k => (v >>> (32 * k)) % 2 ^ 32)
      failIf (!(ts.all fin32 && risingF32 ts)) 0x0606
    else if sub = 0x0A then failIf (!data.all (fun b => b.toNat ≤ 64)) 0x0606
    else if sub = 0x12 then n.updateCode v
    else if sub = 0x1E then n.railCode v
    else 0
  else 0

/-! ## Sepia, vats and queues (chapters 05, 12) -/

/-- R110: the allotments of the enabled vats, with one vat's enable and allotment as given. -/
def Node.allotSum (n : Node) (v : Nat) (on : Bool) (mib : Nat) : Nat :=
  ((List.range 16).map (fun w => if w = v then (if on then mib else 0) else if n.obi w 0x9000 0x02 then n.oi w 0x9000 0x03 else 0)).foldl (· + ·) 0

/-- R114: do the queue blocks of two vats overlap with vat `v`'s block as given? -/
def Node.blocksClash (n : Node) (v first count : Nat) : Bool :=
  (List.range 16).any (fun w =>
    let f := n.oi w 0x9000 0x05
    let c := n.oi w 0x9000 0x06
    w != v && c != 0 && count != 0 && decide (first < f + c) && decide (f < first + count))

/-- R124: is the binding of a queue valid for its type? -/
def Node.bindingOk (n : Node) (q : Nat) : Bool :=
  let t := n.oi q 0x9100 0x03
  let b := n.oi q 0x9100 0x0F
  if t = 1 ∨ t = 2 then ringBindingOk t b (n.oi q 0x9100 0x07)
  else if t = 3 ∨ t = 4 then canBindingOk t b
  else if t = 6 then b < 2
  else if t = 7 then bits b 29 24 == 0 && bits b 15 5 == 0 && bits b 23 16 != 0 && bits b 4 0 != 0
  else if t = 8 then streamBindingOk b
  else b == 0

/-- R113: event routing: the bound source, no reserved bit. -/
def routingOk (v : Nat) : Bool := bits v 15 12 == 0 && (bits v 7 0 == 0 || (16 ≤ bits v 7 0 && bits v 7 0 ≤ 63))

def Node.checkVat (n : Node) (m : Master) (ci i sub v : Nat) (data : List Byte) : Nat :=
  if ci = 0x9000 then
    if sub = 0x02 then failIf (24576 < n.allotSum i (v != 0) (n.oi i 0x9000 0x03)) 0x060A
    else if sub = 0x03 then failIf (24576 < n.allotSum i (n.obi i 0x9000 0x02) v) 0x060A
    else if sub = 0x05 then failIf (8192 < v + n.oi i 0x9000 0x06 || n.blocksClash i v (n.oi i 0x9000 0x06)) 0x0606
    else if sub = 0x06 then failIf (8192 < v + n.oi i 0x9000 0x05 || n.blocksClash i (n.oi i 0x9000 0x05) v) 0x0606
    else if sub = 0x0C then failIf (!routingOk v) 0x0606
    else 0
  else if ci = 0x9100 then
    if (3 ≤ sub ∧ sub ≤ 9) ∨ sub = 0x0F then failIf (n.obi i 0x9100 0x0A) 0x0608
    else if sub = 0x0A then firstFail [failIf (v == 1 && !n.obi i 0x9100 0x0A && !(n.queueShapeOk i && n.bindingOk i)) 0x0606,
      failIf (v == 1 && (n.queue i).closing != []) 0x0608]
    else 0
  else if ci = 0x8000 then
    if sub = 0x27 then n.driveCode i v else if sub = 0x30 then n.queryCode m data else 0
  else 0

/-! ## All of them -/

/-- The code of the checks that a chapter adds to a write of `v`, as the bytes `data`, by master `m`. -/
def Node.specific (n : Node) (m : Master) (idx sub v : Nat) (data : List Byte) : Nat :=
  let ci := canonIdx idx
  let i := n.instOf m idx sub
  if ci < 0x2000 ∨ ci = 0x2400 then n.checkNode m idx sub v
  else if ci < 0x3000 ∨ ci = 0x3700 then n.checkTrust m idx sub v data
  else if ci = 0x3000 then n.checkRing sub v data
  else if ci = 0x3400 then n.checkCan i sub v
  else if ci < 0x6000 then n.checkSense m ci idx i sub v data
  else if ci < 0x7000 then n.checkPoint m ci i sub v data
  else if ci < 0x8000 then n.checkOutput m ci idx i sub v data
  else n.checkVat m ci i sub v data

end Sys2Proof.Machine
end

