-- ==== Sys2Proof/Machine/Live.lean ====
section
/-!
DEFINITION. Machine/Live.lean: values that an object reads from the state behind it, not from what was last written:
counts of the clocks, states of points, areas, outputs, vats, the archive; and the DOMAINs that blocks produce.
-/
namespace Sys2Proof.Machine

/-! ## Islands (Table 3-1, Table 3-9) -/

/-- 0x2100.02 and 0x2100.04 of island `i`. -/
def islandKind (i : Nat) : Nat := if i ≤ 4 then i else if i ≤ 20 then 5 else if i ≤ 52 then 6 else 7
def islandHz (i : Nat) : Nat :=
  if i = 0 ∨ i = 2 then 1000000000 else if i = 1 ∨ i = 4 then 800000000 else if i = 3 then 625000000
  else if i ≤ 20 then 1400000000 else 524288000

/-! ## Values -/

/-- The whole seconds that `k` frames take, rounded up. -/
def Node.framesSec (n : Node) (k : Nat) : Nat := (k * n.framePeriod + 999999999) / 1000000000

def Node.livePoint (n : Node) (i sub : Nat) : Option Nat :=
  let s := n.pt i
  if sub = 0x20 then some s.st
  else if sub = 0x21 then some s.cond
  else if sub = 0x22 then some s.pubV
  else if sub = 0x23 then some s.pubQ
  else if sub = 0x24 then some s.t
  else if sub = 0x25 then some s.onset
  else if sub = 0x26 then some (min s.age 0xFFFFFFFF)
  else if sub = 0x29 then
    some (b2n s.faultUnack + 2 * b2n s.satOcc + 4 * b2n s.satStand + 8 * b2n s.oos + 16 * b2n (n.obi i 0x6100 0x2C))
  else if sub = 0x2A then some (match s.shelve with | some k => n.framesSec k | none => 0)
  else none

def Node.liveArea (n : Node) (i sub : Nat) : Option Nat :=
  let x := n.area i
  if sub = 0x04 then some x.holder
  else if sub = 0x05 then some (b2n x.attended)
  else if sub = 0x06 then some (x.offer.getD 0xFF)
  else if sub = 0x0E then some (x.call + 128 * b2n x.remoteStale)
  else if sub = 0x0F then some x.level
  else if sub = 0x10 then some x.seq
  else if sub = 0x13 then some x.es
  else if sub = 0x15 then some (b2n x.silenced)
  else if sub = 0x24 then some n.dutyEngineer
  else none

/-- Is a change of 0x9000 still waiting for the next start (R131)? -/
def Node.vatPending (n : Node) (v : Nat) : Bool :=
  let x := n.vat v
  n.obi v 0x9000 0x02 != x.enabled || n.oi v 0x9000 0x03 != x.allotMiB || n.oi v 0x9000 0x05 != x.firstQ
    || n.oi v 0x9000 0x06 != x.countQ || (x.slot < 2 && n.oi v 0x9000 0x09 != x.slot)

/-- Seconds left of the hold time of R343. -/
def Node.takebackLeft (n : Node) : Nat :=
  match n.twin.fitSince with
  | some t => (sec (n.o 0x2400 0x06) - (n.now - t) + 999999999) / 1000000000
  | none => 0

def Node.liveVer (n : Node) (m : Master) (sub : Nat) : Option Nat :=
  let p := n.selectedPair m
  let tracked := n.ver.pairs.any (fun e => e.1 == p)
  let x := mapGet n.ver.pairs p {}
  if sub = 0x06 then some (if tracked then b2n x.severe else 2)
  else if sub = 0x07 then some (min (sumBuckets x.buckets) 0xFFFF)
  else if sub = 0x08 then some x.occ
  else if sub = 0x09 then some x.last
  else none

/-- Table 4-14: the status of a data port. -/
def holderKind : Master → Nat × Nat
  | .ring id => (1, id.val)
  | .localPort => (2, 0)
  | .can c => (3, c.val)
  | .vat v => (4, v.val)
def portCode : PortState → Nat
  | .idle => 0
  | .claimed => 1
  | .opened => 2
  | .hold => 3
  | .applying => 4
  | .done => 5
  | .abandoned => 6
def Node.portStatus (n : Node) (p : Nat) : Nat :=
  let x := n.port p
  let held := [PortState.claimed, .opened, .hold, .applying].contains x.state
  let h := match x.holder with
    | some m => if held then holderKind m else (0, 0)
    | none => (0, 0)
  x.lastAbort * 65536 + h.1 * 4096 + h.2 * 16 + portCode x.state

/-- 0x1000.05: VERSION of the keeper image that runs (Table 16-1). -/
def Node.keeperVersion (n : Node) : Nat :=
  match n.cin.running.find? (fun k => k == 2 || k == 3) with
  | some k => imageVersion (n.slotBytes 1 (k - 2))
  | none => Config.keeperVersion

/-- 0x2100.03 (R49): from reset release an island runs on its ring oscillator; the island of a unit that is DISABLED, and so
unpowered, stays in reset. -/
def Node.clockState (n : Node) (i : Nat) : Nat :=
  if n.oi i 0x2100 0x03 ≠ 0 then n.oi i 0x2100 0x03
  else if 21 ≤ i ∧ n.unitState (i - 21) = 6 then 0
  else 1

/-- 0x4800.06: the lakes that are IN_SERVICE. -/
def Node.inServiceMask (n : Node) : Nat :=
  (List.range 32).foldl (fun m l => m + b2n (n.lakeState l == 0) * 2 ^ l) 0

/-- The value of an object that is read from the state behind it; `i` is the instance. -/
def Node.liveRead (n : Node) (m : Master) (idx sub i : Nat) : Option Nat :=
  let ci := canonIdx idx
  if ci = 0x1000 then (if sub = 4 then some Config.serialNumber else if sub = 5 then some n.keeperVersion else none)
  else if ci = 0x1040 then
    let im := n.sel m 0x1040 0x01
    let sl := n.sel m 0x1040 0x02
    if sub = 5 then some (ofLE (n.slotDigest im sl)) else if sub = 6 then some (n.slotStateOf im sl) else none
  else if ci = 0x1100 then
    if sub = 1 then some n.tai else if sub = 5 then some (ofI 32 n.rateNow) else none
  else if ci = 0x1200 then (if sub = 1 then some n.rtcSeconds else if sub = 2 then some n.rtcSub else none)
  else if ci = 0x2100 then
    (if sub = 2 then some (islandKind i) else if sub = 3 then some (n.clockState i) else if sub = 4 then some (islandHz i) else none)
  else if ci = 0x2200 then n.liveVer m sub
  else if ci = 0x2300 then
    if sub = 3 then some (ofLE (n.quoteOf (masterCode m)))
    else if sub = 4 then some (ofLE (n.measureReg (n.sel m 0x2300 0x01)))
    else if sub = 8 then some (min n.cin.count 0xFFFFFFFF)
    else if sub = 9 then some n.cin.bootCount
    else none
  else if ci = 0x2400 then
    if sub = 2 then some (b2n n.preferred)
    else if sub = 7 then some n.health
    else if sub = 0x1B then some n.takebackLeft
    else if sub = 0x1C then some (b2n n.twin.own + 2 * b2n n.twin.ownIn + 4 * b2n n.twin.forceOut + 8 * b2n n.twin.forceIn)
    else none
  else if ci = 0x3000 then (if sub = 3 then some n.pwr.strap else if sub = 4 then some Config.macAddress else none)
  else if ci = 0x3700 then
    if sub = 2 then some (ofLE (n.tagPage (n.sel m 0x3700 0x01)))
    else if sub = 3 then some Config.tagUid
    else if sub = 4 then some (b2n n.tag.fieldOn)
    else none
  else if ci = 0x4800 then (if sub = 6 then some n.inServiceMask else none)
  else if ci = 0x5400 then (if sub = 0x14 then some (n.sh (n.cd i 0x04) 0x0F) else none)
  else if ci = 0x5500 then
    if sub = 0x12 then some (setBit (setBit (n.sh i 0x12) 1 (n.shaftConfigBad i)) 2 (n.shaft i).standstill) else none
  else if ci = 0x6000 then
    if sub = 2 then some n.limit else if sub = 3 then some n.frame.num else if sub = 0x0A then some n.frame.sched.length else none
  else if ci = 0x6100 then n.livePoint i sub
  else if ci = 0x6300 then n.liveArea i sub
  else if ci = 0x7000 then
    let k := (idx - 0x7000) / 0x10
    let x := n.loop k
    if sub = 0x12 then some (presentCode x.p)
    else if sub = 0x15 then
      some (setBit (setBit (setBit (n.lo k 0x15) 3 (!n.loopDrives k)) 4 (x.p != x.target * 2 ^ 32)) 5 x.clamped)
    else if sub = 0x19 then some x.target
    else none
  else if ci = 0x7001 then
    let k := (idx - 0x7000) / 0x10
    if sub = 2 then some (ofLE (n.receiveData k))
    else if sub = 3 then some (setBit (n.o idx 3) 0 (n.lo k 0x11 == 1 && n.loopDrives k))
    else none
  else if ci = 0x7400 then (if sub = 0x20 then some n.unknownPixels else none)
  else if ci = 0x8000 then
    if sub = 0x06 then some n.unwritten
    else if sub = 0x07 then some n.durable
    else if sub = 0x0B then some (n.unwritten / 2 ^ 20)
    else if sub = 0x0F then some n.archCapacity
    else if sub = 0x10 then some n.archUsed
    else if sub = 0x16 then some n.liveCopies.length
    else if sub = 0x24 then some (n.slotUsed i)
    else if sub = 0x32 then some (mapGet n.sep.queries (masterCode m) []).length
    else none
  else if ci = 0x9000 then
    if sub = 0x04 then some (n.vat i).base
    else if sub = 0x0A then some (24576 - n.allotSum 16 false 0)
    else if sub = 0x0B then some (b2n (n.vatPending i))
    else none
  else if ci = 0x9100 then (if sub = 2 then some (if n.queueOwner i < 16 then n.queueOwner i else 0xFF) else none)
  else if ci = 0xF000 then (if sub = 5 then some (n.portStatus (idx - 0xF000)) else none)
  else none

/-- The value of an object as it reads now. -/
def Node.valueOf (n : Node) (m : Master) (idx sub i : Nat) (r : Row) : Nat :=
  match n.liveRead m idx sub i with
  | some v => v
  | none =>
    if (rowOf idx sub).isSome || (n.declEntry idx sub).isSome then n.oi i idx sub else r.dflt

/-! ## DOMAINs -/

/-- Table 8-22: the record of a point. -/
def Node.pointRecord (n : Node) (p : Nat) : List Byte :=
  let f := fun (sub size : Nat) => toLE size (n.po p sub)
  f 2 1 ++ f 3 1 ++ f 5 2 ++ f 4 4 ++ f 6 4 ++ f 7 4 ++ f 8 4 ++ f 9 4 ++ f 0xA 4 ++ f 0xB 2 ++ f 0xC 2 ++ f 0xD 2 ++ f 0xE 2
    ++ f 0xF 8 ++ f 0x10 2 ++ f 0x11 1 ++ f 0x12 1 ++ f 0x13 4 ++ f 0x14 2 ++ f 0x15 1 ++ zeros 1 ++ f 0x16 4 ++ zeros 4
def Node.pointTable (n : Node) : List Byte := ((List.range 16384).map n.pointRecord).flatten

/-- 0x6000.09: the schedule. -/
def opBytes (c : OpCmd) : List Byte := toLE 1 c.op ++ toLE 1 c.loc ++ toLE 2 c.target ++ toLE 4 c.param ++ toLE 8 c.when_
def Node.schedule (n : Node) : List Byte :=
  ((List.range 256).map (fun k => match n.frame.sched.find? (fun e => e.1 == k) with | some e => opBytes e.2 | none => zeros 16)).flatten

/-- A bit per unit of `us` whose last test came out so. -/
def Node.testedMask (n : Node) (word lo count : Nat) : Nat :=
  locBits ((List.range count).filter (fun k => bit (if word = 0 then n.twin.unitPass else n.twin.unitFail) (lo + k)))

/-- Table 11-10: the health report. -/
def Node.healthReport (n : Node) : List Byte :=
  toLE 8 n.twin.updated ++ toLE 4 n.health ++ toLE 4 (n.testedMask 0 0 32) ++ toLE 4 (n.testedMask 1 0 32)
    ++ toLE 1 (n.testedMask 0 32 8) ++ toLE 1 (n.testedMask 1 32 8) ++ zeros 2 ++ toLE 8 n.twin.loopFail
    ++ toLE 4 n.twin.scrubs ++ toLE 4 n.twin.scrubFixed ++ toLE 4 n.twin.scrubBad ++ toLE 4 (n.o 0x2400 0x19)
    ++ toLE 8 n.twin.testAt ++ zeros 8

/-- The bytes of a DOMAIN as they stand; `i` is the instance. -/
def Node.domBytes (n : Node) (m : Master) (idx sub i : Nat) : List Byte :=
  let bs := n.domI i idx sub
  let ci := canonIdx idx
  if ci = 0x1030 then n.store.stored
  else if ci = 0x1040 then n.slotBytes (i / 2) (i % 2)
  else if ci = 0x2200 ∧ sub = 0x0D then (n.ver.log.map (fun e => toLE 8 e.1 ++ toLE 8 e.2)).flatten
  else if ci = 0x2300 then (if sub = 0x06 then n.cin.log.flatten else Config.certChain)
  else if ci = 0x2400 then n.healthReport
  else if ci = 0x3200 then n.nodeTable
  else if ci = 0x6000 then n.schedule
  else if ci = 0x6101 then n.pointTable
  else if ci = 0x6300 ∧ sub = 0x20 then (if bs = [] then zeros 512 else bs)
  else if ci = 0x6300 then (if bs = [] then List.replicate 232 0xFF else bs)
  else if ci = 0x7400 ∧ sub = 0x1F then n.currentImage
  else if ci = 0x8000 then (if n.sep.ready.contains (masterCode m) then mapGet n.sep.queries (masterCode m) [] else [])
  else bs

end Sys2Proof.Machine
end

