-- ==== Sys2Proof/Machine/Judge.lean ====
section
/-!
DEFINITION. Machine/Judge.lean: the checks of Table 4-4 that every request passes (R73 to R76), and what R23 lets each
mode do.
-/
namespace Sys2Proof.Machine

/-! ## Values (R73) -/

/-- One byte of a UTF-8 text: the bytes still to follow in the character, and the range of the next. -/
def utf8Step (s : Option (Nat × Nat × Nat)) (b : Byte) : Option (Nat × Nat × Nat) :=
  let c := b.toNat
  match s with
  | none => none
  | some (0, _, _) =>
    if c < 0x80 then some (0, 0x80, 0xBF)
    else if 0xC2 ≤ c ∧ c ≤ 0xDF then some (1, 0x80, 0xBF)
    else if c = 0xE0 then some (2, 0xA0, 0xBF)
    else if c = 0xED then some (2, 0x80, 0x9F)
    else if 0xE1 ≤ c ∧ c ≤ 0xEF then some (2, 0x80, 0xBF)
    else if c = 0xF0 then some (3, 0x90, 0xBF)
    else if 0xF1 ≤ c ∧ c ≤ 0xF3 then some (3, 0x80, 0xBF)
    else if c = 0xF4 then some (3, 0x80, 0x8F)
    else none
  | some (k + 1, lo, hi) => if lo ≤ c ∧ c ≤ hi then some (k, 0x80, 0xBF) else none

def utf8Ok (bs : List Byte) : Bool := (bs.foldl utf8Step (some (0, 0x80, 0xBF))).any (fun s => s.1 == 0)

/-- R73, R76 step 6: may the value stand in an object of this type, and in its range? -/
def valueOk (r : Row) (v : Nat) (data : List Byte) : Bool :=
  (match r.ty with
   | .bool => v ≤ 1
   | .f32 => fin32 v || (r.nan && nan32 v)
   | .f64 => fFinite 11 52 v
   | .str _ => utf8Ok data
   | _ => true) &&
  (match r.ty with
   | .f32 => (r.nan && nan32 v) || r.rng.ok r.ty v
   | _ => r.rng.ok r.ty v)

/-- R73: the length of a write. A DOMAIN takes none; the data of a data port 1 to 1,408 bytes. -/
def lengthOk (ci sub : Nat) (r : Row) (len : Nat) : Bool :=
  match r.ty with
  | .domain _ => false
  | t => if ci = 0xF000 ∧ sub = 0x04 then 1 ≤ len && len ≤ 1408 else len == t.size

/-! ## Owners (R75) -/

/-- Table 4-4 step 4 for a write under an owner mask. -/
def Node.ownerWrite (n : Node) (m : Master) (mask : Nat) : Nat :=
  if mask = 0 then 0 else
  match m with
  | .vat v => failIf (!bit mask v.val) 0x0604
  | _ => failIf (n.curMode != 3) 0x0604

/-- Table 4-4 step 4 for a read: private objects, and the captures of another vat. -/
def ownerRead (m : Master) (idx sub : Nat) : Nat :=
  match m with
  | .vat v =>
    match privVat idx with
    | some w => failIf (w != v.val) 0x0604
    | none =>
      failIf (idx == 0x2200 && ((0x20 ≤ sub && sub < 0x30 && sub != 0x20 + v.val) || (0x40 ≤ sub && sub < 0x50 && sub != 0x40 + v.val))) 0x0604
  | _ => 0

/-! ## Modes (R23, R74) -/

/-- May the object be written in the present mode? A quote may be asked for in every mode. -/
def Node.modeWrite (n : Node) (idx sub : Nat) (acc : Acc) : Nat :=
  if n.curMode = 2 then failIf (!(idx == 0x2300 && sub == 0x02)) 0x0605
  else failIf (acc == .rwc && n.curMode != 3) 0x0605

def Node.modeRead (n : Node) (idx sub : Nat) : Nat :=
  failIf (n.curMode == 2 && !(idx == 0x1000 || idx == 0x1010 || (idx == 0x2300 && sub == 0x03))) 0x0605

/-! ## Requests -/

/-- Does the access class permit a write, a read (Table 4-3)? -/
def Acc.writes : Acc → Bool
  | .rw | .wo | .rwc => true
  | _ => false
def Acc.reads : Acc → Bool
  | .wo => false
  | _ => true

/-- R76: the code of a write but for the checks of a data port. -/
def Node.writeCode (n : Node) (m : Master) (idx sub : Nat) (data : List Byte) : Nat :=
  if !n.indexExists idx then 0x0601
  else match n.rowFor idx sub with
    | none => 0x0602
    | some r =>
      let v := ofLE data
      let own := n.ownerWrite m (n.ownerMask m idx sub)
      if !r.acc.writes then 0x0603
      else if !lengthOk (canonIdx idx) sub r data.length then firstFail [own, 0x0607]
      else firstFail [own, n.specific m idx sub v data, failIf (!valueOk r v data) 0x0606, n.modeWrite idx sub r.acc]

/-- R76: the code of a read but for the checks of a data port. -/
def Node.readCode (n : Node) (m : Master) (idx sub : Nat) : Nat :=
  if !n.indexExists idx then 0x0601
  else match n.rowFor idx sub with
    | none => 0x0602
    | some r =>
      if !r.acc.reads then 0x0603
      else firstFail [ownerRead m idx sub, failIf (r.ty.code == 15) 0x0607, n.modeRead idx sub,
        failIf (idx == 0x8000 && sub == 0x32 && n.sep.queries.any (fun e => e.1 == masterCode m) && !n.sep.ready.contains (masterCode m)) 0x0608,
        failIf (idx == 0x2300 && sub == 0x03 && n.quoteWaits (masterCode m)) 0x0608,
        failIf (idx == 0x3700 && sub == 0x02 && n.fieldHolds (n.sel m 0x3700 0x01)) 0x0608]

/-- R77: an information request: its code, and the record of Table 4-5. -/
def Node.information (n : Node) (m : Master) (idx sub : Nat) : Nat × List Byte :=
  if !n.indexExists idx then (0x0601, [])
  else match n.rowFor idx sub with
    | none => (0x0602, [])
    | some r => (0, toLE 2 r.ty.code ++ toLE 1 r.acc.code ++ toLE 1 (b2n r.kept + 2 * b2n r.nan) ++ toLE 2 (n.ownerMask m idx sub)
        ++ zeros 2 ++ toLE 8 r.ty.maxLen)

end Sys2Proof.Machine
end

