-- ==== Sys2Proof/Machine/Ports.lean ====
section
/-!
DEFINITION. Machine/Ports.lean: the data ports (R92 to R99, Tables 4-13, 4-14, 4-21): claim, transfer, HOLD, apply,
release and hold timeout; the DOMAINs' own checks and what applying a transfer brings with it.
-/
namespace Sys2Proof.Machine

def portIdx (p : Nat) : Nat := 0xF000 + p
def Node.portTarget (n : Node) (p : Nat) : Nat := n.o (portIdx p) 0x01
def targetIdx (t : Nat) : Nat := bits t 23 8
def targetSub (t : Nat) : Nat := bits t 7 0
def portHeld (x : PortSt) : Bool := [PortState.claimed, .opened, .hold, .applying].contains x.state

/-! ## Writing kept and private objects -/

/-- R128: another master wrote an object of a vat's private range. -/
def Node.privChanged (n : Node) (m : Master) (idx sub : Nat) : Node :=
  match privVat idx with
  | some v =>
    if vatOf m = some v then n
    else (((n.set (privIdx v) 0x05 (idx * 256 + sub)).incWrap (privIdx v) 0x06)).irq v 7
  | none => n

/-- R90: a kept object counts as an uncommitted write, or belongs to the commit of this service cycle. -/
def Node.keptHook (n : Node) (idx sub : Nat) : Node := if n.keptKey (key 0 idx sub) then n.keptWritten else n

/-! ## DOMAINs (R93, R97, R255, R396, R414, R429) -/

/-- The maximum length of a DOMAIN. -/
def Node.domMax (n : Node) (idx sub : Nat) (r : Row) : Nat :=
  if idx = 0x7400 ∧ sub = 0x11 then n.rows * n.cols / 2 else r.ty.maxLen

/-- R255, R429: who may write, and when, beyond the owner mask. -/
def Node.domRight (n : Node) (m : Master) (idx i : Nat) : Nat :=
  if idx = 0x6101 ∨ (idx = 0x1040 ∧ i < 4) then (if isVat m then 0x0604 else failIf (n.curMode != 3) 0x0605) else 0

/-- R92, R97: the target of a port judged for its direction. -/
def Node.targetCode (n : Node) (m : Master) (t i : Nat) : Nat :=
  let idx := targetIdx t
  let sub := targetSub t
  if !n.indexExists idx then 0x0601
  else match n.rowFor idx sub with
    | none => 0x0602
    | some r =>
      let w := bit t 31
      if !(if w then r.acc.writes else r.acc.reads) then 0x0603
      else firstFail [if w then n.ownerWrite m (n.ownerMaskI idx sub i) else ownerRead m idx sub,
        failIf (r.ty.code != 15) 0x0607, failIf (bits t 30 24 != 0) 0x0606,
        if w then firstFail [n.domRight m idx i, n.modeWrite idx sub r.acc] else n.modeRead idx sub,
        failIf (w && idx == 0x1040 && n.cin.running.contains i) 0x0608]

/-- A chapter's checks at the opening of a transfer. -/
def domOpenCode (idx i off len : Nat) : Nat :=
  if idx = 0x6101 then failIf (off % 64 != 0 || len % 64 != 0) 0x0606
  else if idx = 0x1040 then failIf (off != 0 || len != slotCap (i / 2)) 0x0606
  else 0

/-- R255: one record of the point table. -/
def Node.recordOk (n : Node) (p : Nat) (r : List Byte) : Bool :=
  let f := fieldLE r
  let used := f 0 1 != 0xFF
  [0, 1, 2, 3, 4, 0xFF].contains (f 0 1) && (p < n.limit || !used) && f 1 1 ≤ 8 && (!used || srcRefOk (f 1 1) (f 4 4))
    && Rng.ok (.u 2) (f 2 2) .prio && limitsOk (f 8 4) (f 12 4) (f 16 4) (f 20 4) (f 24 4) && groupsOk (f 36 8)
    && f 46 1 ≤ 7 && f 47 1 < 16 && 1 ≤ f 52 2 && f 52 2 ≤ 6000 && (f 54 1 < 16 || f 54 1 == 0xFF) && f 55 1 == 0
    && fin32 (f 56 4) && f 60 4 == 0

/-- Every record of a transfer, from point `p` on. -/
def Node.recordsOk (n : Node) (p : Nat) (bs : List Byte) : Nat → Bool
  | 0 => true
  | k + 1 => n.recordOk p (bs.take 64) && n.recordsOk (p + 1) (bs.drop 64) k

/-- The whole range of a transfer as the DOMAIN would hold it. -/
def Node.domSpliced (n : Node) (idx sub i off : Nat) (bs : List Byte) : List Byte :=
  let old := n.domI i idx sub
  if canonIdx idx = 0xA000 ∧ sub = 0x07 then padTo off old ++ bs
  else if idx = 0x6300 ∧ old = [] then spliceAt (if sub = 0x20 then zeros 512 else List.replicate 232 0xFF) off bs
  else if idx = 0x1030 then spliceAt n.store.stored off bs
  else spliceAt old off bs

/-- The checks of a DOMAIN's chapter when the transfer applies. -/
def Node.domApplyCode (n : Node) (idx sub i off : Nat) (bs : List Byte) : Nat :=
  let all := n.domSpliced idx sub i off bs
  if idx = 0x6101 then failIf (!n.recordsOk (off / 64) bs (bs.length / 64)) 0x0606
  else if idx = 0x6200 then failIf (!(List.range 64).all (fun k => fieldLE all (4 * k + 1) 1 == 0)) 0x0606
  else if idx = 0x6300 ∧ sub = 0x20 then failIf (!locTableOk (padTo 512 all)) 0x0606
  else if idx = 0x7400 ∧ sub = 0x0C then failIf (all.length != 104448 || !n.waveformsOk all) 0x0606
  else if idx = 0x2200 then failIf (!overridesOk (n.o 0x2200 0x04) all) 0x0606
  else 0

/-- Table 8-22: a record of the table is taken; a point whose configuration changes restarts (R256). -/
def Node.putRecord (n : Node) (p : Nat) (r : List Byte) : Node :=
  if n.pointRecord p = r then n
  else
    let n := pointFields.foldl (fun n f => n.setI p 0x6100 f.1 (fieldLE r f.2.1 f.2.2)) n
    n.setPt p { n.pt p with restart := true }

def Node.putRecords (n : Node) (p : Nat) (bs : List Byte) : Nat → Node
  | 0 => n
  | k + 1 => (n.putRecord p (bs.take 64)).putRecords (p + 1) (bs.drop 64) k

/-- R97: the range is written as one change. -/
def Node.domApply (n : Node) (m : Master) (idx sub i off : Nat) (bs : List Byte) : Node :=
  let all := n.domSpliced idx sub i off bs
  let n :=
    if idx = 0x6101 then n.putRecords (off / 64) bs (bs.length / 64)
    else if idx = 0x1030 then n.setDomI 1 idx sub all
    else if idx = 0x1040 then
      (n.setCin fun c => { c with images := mapPut c.images i bs }).commissionEvent 10 (masterSource m) (imageBytes bs)
        (imageInfo (i / 2) (i % 2) (imageVersion bs))
    else if idx = 0x2200 then n.overridesSet (n.o 0x2200 0x04) all
    else if idx = 0x7400 ∧ sub = 0x11 then (n.setDomI i idx sub all).imageApplied
    else if idx = 0x5400 ∧ sub = 0x0C then (n.setDomI i idx sub all).crankConfigWritten i
    else n.setDomI i idx sub all
  (n.keptHook idx sub).privChanged m idx sub

/-! ## Holder writes (Table 4-21) -/

/-- R92: an access of .01 to .04 or .07 by another master than the holder. -/
def Node.portForeign (n : Node) (m : Master) (p : Nat) : Bool := portHeld (n.port p) && (n.port p).holder != some m

/-- The offset just past the transfer. -/
def Node.portEnd (n : Node) (p : Nat) : Nat := (n.port p).base + n.o (portIdx p) 0x03
/-- The present position (R94). -/
def Node.portPos (n : Node) (p : Nat) : Nat := n.o (portIdx p) 0x02 + n.o (portIdx p) 0x06

/-- R92, R96: a write of .01. -/
def Node.claimCode (n : Node) (m : Master) (p t : Nat) : Nat :=
  firstFail [if t = 0 then 0 else n.targetCode m t (n.instOf m (targetIdx t) (targetSub t)),
    failIf ((n.port p).state == .applying || n.portForeign m p) 0x0608]

/-- R97: a release. Nothing was moved in CLAIMED. -/
def Node.portRelease (n : Node) (p : Nat) : Node :=
  let x := n.port p
  n.setPort p { x with state := if x.state == .opened || x.state == .hold then .abandoned else .idle, buf := [] }

def Node.claimApply (n : Node) (m : Master) (p t : Nat) : Node :=
  if t = 0 then (n.set (portIdx p) 0x01 0).portRelease p
  else (n.set (portIdx p) 0x01 t).setPort p { n.port p with
    state := .claimed, holder := some m, buf := [], lastAccess := n.now, inst := n.instOf m (targetIdx t) (targetSub t) }

/-- Did this master hold the port last? In DONE and ABANDONED it may go on (Table 4-21). -/
def Node.portLast (n : Node) (m : Master) (p : Nat) : Bool :=
  ((n.port p).state == .done || (n.port p).state == .abandoned) && (n.port p).holder == some m

/-- A write of .02. -/
def Node.offsetCode (n : Node) (m : Master) (p v : Nat) : Nat :=
  let x := n.port p
  if n.portForeign m p then 0x0608
  else if x.state = .hold then failIf (v != n.portPos p) 0x0606
  else if x.state = .claimed || n.portLast m p then 0
  else 0x0608
def Node.offsetApply (n : Node) (p v : Nat) : Node :=
  let x := n.port p
  let n := (n.set (portIdx p) 0x02 v).setPort p { x with lastAccess := n.now, state := if x.state = .hold then .opened else x.state }
  if x.state = .hold then n.set (portIdx p) 0x06 0 else n

/-- R93: a write of .03. What the lengths are judged by is a claimed port's: from another state, or by another master,
Table 4-21 and R96 refuse it before. -/
def Node.openCode (n : Node) (m : Master) (p len : Nat) : Nat :=
  let x := n.port p
  let t := n.portTarget p
  let off := n.o (portIdx p) 0x02
  let idx := targetIdx t
  let sub := targetSub t
  let room := match n.rowFor idx sub with
    | some r => n.domMax idx sub r
    | none => 0
  if n.portForeign m p || !(x.state == .claimed || n.portLast m p) then 0x0608
  else firstFail [failIf (len == 0) 0x0606,
    if bit t 31 then firstFail [failIf (room < off + len) 0x0606, failIf (16777216 < len) 0x060A, domOpenCode idx x.inst off len]
    else failIf ((n.domBytes m idx sub x.inst).length < off + len) 0x0606]
def Node.openApply (n : Node) (m : Master) (p len : Nat) : Node :=
  let x := n.port p
  let t := n.portTarget p
  let off := n.o (portIdx p) 0x02
  let buf := if bit t 31 then [] else slice (n.domBytes m (targetIdx t) (targetSub t) x.inst) off len
  ((n.set (portIdx p) 0x03 len).set (portIdx p) 0x06 0).setPort p { x with
    state := .opened, holder := some m, buf := buf, base := off, lastAccess := n.now }

/-! ## Bursts (R94, R95, R98) -/

/-- The code of a .04 access that moves `len` bytes; `write` is its direction, `busy` says that the target is locked
or its data not there yet. -/
def Node.burstCode (n : Node) (m : Master) (p : Nat) (write busy : Bool) (len : Nat) : Nat :=
  let x := n.port p
  if n.portForeign m p then 0x0608
  else if x.state = .done ∨ x.state = .abandoned then 0x060B
  else if x.state ≠ .opened then 0x0608
  else if write != bit (n.portTarget p) 31 then 0x0603
  else if n.portEnd p < n.portPos p + len then 0x060B
  else failIf busy 0x0608

/-- A .04 access: LAST_ABORT, HOLD for a busy target, else the burst. The data of a read. -/
def Node.burst (n : Node) (m : Master) (p : Nat) (data : Option (List Byte)) (busy : Bool) : Nat × List Byte × Node :=
  let x := n.port p
  let len := match data with
    | some bs => bs.length
    | none => min 1408 (n.portEnd p - n.portPos p)
  let code := n.burstCode m p data.isSome busy len
  if n.portForeign m p then (code, [], n)
  else
    let n := n.setPort p { x with lastAbort := code, lastAccess := n.now }
    if code ≠ 0 then
      (code, [], if x.state = .opened ∧ code = 0x0608 then n.setPort p { n.port p with state := .hold } else n)
    else
      let last := n.portPos p + len == n.portEnd p
      let out := match data with
        | some _ => []
        | none => slice x.buf (n.portPos p - x.base) len
      let y := n.port p
      let n := n.setPort p (match data with
        | some bs => { y with buf := y.buf ++ bs, state := if last then .applying else .opened }
        | none => { y with state := if last then .done else .opened, buf := if last then [] else y.buf })
      (0, out, n.set (portIdx p) 0x06 (n.o (portIdx p) 0x06 + len))

/-! ## Apply and hold timeout (R97, Table 4-13) -/

/-- R97: the write is judged again; then the DOMAIN takes it. -/
def Node.portApply (n : Node) (p : Nat) : Node :=
  let x := n.port p
  let t := n.portTarget p
  let idx := targetIdx t
  let sub := targetSub t
  match x.holder with
  | none => n
  | some m =>
    if x.state ≠ .applying then n
    else
      let code := firstFail [n.targetCode m t x.inst, n.domApplyCode idx sub x.inst x.base x.buf]
      if code ≠ 0 then n.setPort p { x with state := .abandoned, buf := [], lastAbort := code }
      else (n.setPort p { x with state := .done, buf := [] }).domApply m idx sub x.inst x.base x.buf

/-- A claimed port with no access for the hold timeout. -/
def Node.portTimeout (n : Node) (p : Nat) : Node :=
  let x := n.port p
  if [PortState.claimed, .opened, .hold].contains x.state ∧ x.lastAccess + sec (n.o (portIdx p) 0x07) ≤ n.now then n.portRelease p else n

/-- R41, R97: transfers that a keeper reset cuts off. -/
def Node.portsCut (n : Node) : Node :=
  (List.range 16).foldl (fun n p =>
    let x := n.port p
    if [PortState.opened, .hold, .applying].contains x.state then
      n.setPort p { x with state := .abandoned, buf := [], lastAbort := 0x060B }
    else n) n

/-! ## Requests on a port -/

/-- The code of a write of subindex `sub` beyond the common checks. -/
def Node.portCode (n : Node) (m : Master) (p sub : Nat) (v : Nat) : Nat :=
  if sub = 0x01 then n.claimCode m p v
  else if sub = 0x02 then n.offsetCode m p v
  else if sub = 0x03 then n.openCode m p v
  else if sub = 0x07 then failIf (n.portForeign m p) 0x0608
  else 0

/-- An accepted write of .01, .02, .03 or .07. -/
def Node.portWrite (n : Node) (m : Master) (p sub v : Nat) : Node :=
  if sub = 0x01 then n.claimApply m p v
  else if sub = 0x02 then n.offsetApply p v
  else if sub = 0x03 then n.openApply m p v
  else if sub = 0x07 then
    let x := n.port p
    (n.set (portIdx p) 0x07 v).setPort p { x with lastAccess := if x.holder = some m then n.now else x.lastAccess }
  else n

/-- A read of .01, .02, .03 or .07 is the holder's alone while the port is claimed. -/
def Node.portReadCode (n : Node) (m : Master) (p sub : Nat) : Nat :=
  failIf ((sub ≤ 3 || sub == 7) && sub != 0 && n.portForeign m p) 0x0608
def Node.portTouched (n : Node) (m : Master) (p sub : Nat) : Node :=
  let x := n.port p
  if ((1 ≤ sub && sub ≤ 3) || sub == 7) && x.holder == some m then n.setPort p { x with lastAccess := n.now } else n

/-! ## Commands -/

/-- DATA_PORT_APPLY_DONE (R97). -/
def execDataPortApplyDone (dt : Nat) (p : Fin 16) (s : State) := act dt s fun n => n.whenUp fun n => n.portApply p
/-- DATA_PORT_HOLD_TIMEOUT (Table 4-13). -/
def execDataPortHoldTimeout (dt : Nat) (p : Fin 16) (s : State) := act dt s fun n => n.whenUp fun n => n.portTimeout p

end Sys2Proof.Machine
end

