-- ==== Sys2Proof/Machine/Reset.lean ====
section
/-!
DEFINITION. Machine/Reset.lean: how each reset domain's reset begins (R41 to R45, Table 2-10, Table 2-12), and a keeper
reset from its beginning to its end (R42, R342).
-/
namespace Sys2Proof.Machine

/-! ## The node (R45, Table 2-12) -/

/-- What a node reset and a completed line loss write out: the staging ring, and an unfinished commit (R91) or erase
(R86) is left where it is. -/
def Node.flashCut (n : Node) : Node := (n.commitAbandon).eraseCut

/-- R45, Table 2-12: a node reset begins: OWN and the stages drop, the staging ring is written out, the panel is
discharged, the ring ports stop and the bypass closes; NRESET_OUT (pin 4) goes low. The node is held in reset until its
release. -/
def Node.nodeReset (n : Node) (cause : Nat) : Node :=
  if n.up then
    let n := n.dropOwn
    let n := (n.abortFlights.discharge false).writeOut.flashCut
    let n := n.portsStop.set 0x3000 0x16 (if n.o 0x3000 0x16 = 0 then 0 else 3)
    { n.emit (.pin 4 false) with pwr := { n.pwr with phase := .inReset, resetOrigin := n.now, resetCause := cause } }
  else if n.pwr.phase = .boot then
    { n.emit (.pin 4 false) with pwr := { n.pwr with phase := .inReset, resetOrigin := n.now, resetCause := cause } }
  else n

/-! ## The keeper (R41, R42) -/

/-- Every request that the keeper has not answered. -/
def Node.unanswered (n : Node) : List Via :=
  (n.queues.map (fun e => e.2.closing.map (·.2))).flatten ++ n.twin.passed.map (·.via)

/-- R42: a descriptor that was fetched and not finished completes with 0x060B. -/
def Node.dropRequest (n : Node) (v : Via) : Node :=
  match v with
  | .od q pos => n.complete { q := q, pos := pos, status := 0x060B }
  | _ => n

/-- R386: a keeper reset ends an open session of a controller. The ABORT answers no request: its TOGGLE is left open
(log 3). -/
def Node.canSessionCut (n : Node) (c : Nat) : Node :=
  let x := n.canSt c
  match x.sess with
  | some s =>
    let (v, n) := n.draw
    (n.setCan c { x with sess := none, waits := none }).canAnswer c s.size (canHead 4 (bit v 0) ++ toLE 2 0x060B)
  | none => n.setCan c { x with waits := none }

/-- R41, R42: a keeper reset begins: what it serves is cut off; everything else runs on. -/
def Node.keeperResetBegin (n : Node) : Node :=
  if n.mode.keeperReset.isSome then n else
  let n := n.unanswered.foldl (fun n v => n.dropRequest v) n
  let n := { n with
    mode := { n.mode with keeperReset := some n.now }
    lp := { n.lp with outstanding := [] }
    queues := n.queues.map (fun (e : Nat × QueueSt) => (e.1, { e.2 with closing := [] }))
    twin := { n.twin with passed := [], clone := none } }
  ((List.range 4).foldl (fun (n : Node) c => n.canSessionCut c) n.portsCut).commitKeeperReset

/-- R42: the keeper serves again: the background erase goes on, and a node that has handed over enters STANDBY. -/
def Node.keeperServes (n : Node) : Node :=
  if n.mode.keeperReset.isNone then n else
  let n := ({ n with mode := { n.mode with keeperReset := none } }).eraseStart
  if n.mode.keeperHandedOver then
    let sync := n.syncState
    (({ n with mode := { n.mode with keeperHandedOver := false } }).enterMode 5 n.mode.standbyCause).setSync sync
  else n

/-- R42, R342: an owner whose keeper resets hands over to a twin in STANDBY that is fit for planned handover, at the
first close at least 10 µs after the reset began. -/
def Node.keeperHandover (n : Node) : Node :=
  match n.mode.keeperReset with
  | some t =>
    if n.twin.own ∧ (n.curMode = 4 ∨ n.curMode = 6 ∨ n.curMode = 7) ∧ n.twinFitPlanned ∧ n.twin.agreed.isNone ∧ t + us 10 ≤ n.now then
      (n.sendHandover n.frame.num 0x25 false).handAway { close := n.frame.num, cause := 0x25, keeper := true, acked := true }
    else n
  | none => n

/-! ## The other domains -/

/-- Table 2-11: an accepted reset command of a kind other than the node's. -/
def Node.domainReset (n : Node) (m : Master) (kind inst : Nat) : Node :=
  if kind = 2 then n.keeperResetBegin
  else if kind = 3 then n.resetVat inst (if isVat m then 2 else 0)
  else if kind = 4 then n.resetUnit inst
  else if kind = 5 then n.resetUnit (32 + inst)
  else if kind = 6 then n.ringPortReset inst
  else if kind = 7 then n.pcieDown inst
  else if kind = 8 then n.canReset inst
  else n.serialReset inst

/-! ## Commands -/

/-- KEEPER_LOCKSTEP_MISMATCH (R41). -/
def execKeeperLockstepMismatch (dt : Nat) (stage : Byte) (s : State) := actDone dt s fun n => n.whenUp fun n =>
  (n.fault 0x002 0x06 stage.toNat 0).keeperResetBegin
/-- KEEPER_SERVING_AGAIN (R42). -/
def execKeeperServingAgain (dt : Nat) (s : State) := actDone dt s fun n => n.whenUp Node.keeperServes
/-- KEEPER_RESET_HANDOVER (R342). -/
def execKeeperResetHandover (dt : Nat) (s : State) := actDone dt s fun n => n.whenUp Node.keeperHandover
/-- CAN_CONTROLLER_READY (R41): the reset of a controller is done. -/
def execCanControllerReady (dt : Nat) (n : Fin 4) (s : State) := act dt s fun x => x.whenUp fun x =>
  if (x.canSt n).inReset then x.canStart n else x

end Sys2Proof.Machine
end

