-- ==== Sys2Proof/Machine/Serve.lean ====
section
/-!
DEFINITION. Machine/Serve.lean: what a served request does (R76, R82): a read with what reading brings with it, and a
write with what writing each object brings with it. Judge.lean has judged it before.
-/
namespace Sys2Proof.Machine

/-! ## What the change of a stored value brings with it -/

/-- R376: a write of Enable: out of DISABLED with valid settings, or to DISABLED. -/
def Node.canEnableWritten (n : Node) (c : Nat) : Node :=
  if n.obi c 0x3400 0x02 then (if n.canState c = 0 ∧ !(n.canSt c).inReset then n.canStart c else n)
  else
    let n := n.canDropSends c 0x0608
    (n.setCan c { n.canSt c with sess := none, recover := false }).setCanState c 0

/-- What follows from a new value of object `idx.sub` of instance `i`. -/
def Node.written (n : Node) (idx sub i : Nat) : Node :=
  let ci := canonIdx idx
  if ci = 0x1200 then (if sub = 0x05 then n.setWakePeriod (n.o 0x1200 0x05) else n)
  else if ci = 0x2200 then (if sub = 0x02 then n.kindRuleSet i (n.oi i 0x2200 0x02) else n)
  else if ci = 0x3100 then n.ptpStates
  else if ci = 0x3400 then (if sub = 0x02 then (n.canEnableWritten i).slotsCheck else if sub = 0x21 then n.slotCheck i else n)
  else if ci = 0x4004 then n.pinChanged ((idx - 0x4000) / 0x40) ((idx - 0x4000) % 0x40 - 4)
  else if ci = 0x4800 then (if sub ≤ 2 then n.mainsTrackingWritten else n)
  else if ci = 0x5400 then
    if 0x21 ≤ sub then n.crankConfigWritten (i / 32)
    else if sub = 0x0E then n.compareTake i
    else if sub = 0x01 ∨ sub = 0x0D ∨ sub = 0x20 then n
    else n.crankConfigWritten i
  else if ci = 0x5500 then (if 2 ≤ sub ∧ sub ≤ 0x0E then n.crankRecheck else n)
  else if ci = 0x6100 then (if pointConfig sub || sub == 0x15 then n.setPt i { n.pt i with restart := true } else n)
  else if ci = 0x7000 then (if sub = 0x01 ∨ sub = 0x11 then n.fskCheck ((idx - 0x7000) / 0x10) else n)
  else if ci = 0x7100 then (if sub = 0x02 ∨ sub = 0x04 ∨ sub = 0x0D ∨ sub = 0x0E then n.annRefresh i else n)
  else if ci = 0x7400 then (if sub = 0x01 then (if n.ob 0x7400 0x01 then n.railsWanted else n.panelDisabled) else n)
  else n

/-- A value is stored: what follows a change, an uncommitted write (R90), and the change record of a vat (R128). -/
def Node.store_ (n : Node) (m : Master) (idx sub i v : Nat) : Node :=
  let n := if n.oi i idx sub = v then n else (n.setI i idx sub v).written idx sub i
  (n.keptHook idx sub).privChanged m idx sub

/-- Every stored value that differs between two nodes brings with it what its change does. -/
def Node.writtenAll (n old : Node) : Node :=
  let ks := ((n.od.map (·.1)) ++ ((old.od.map (·.1)).filter (fun k => !n.od.any (fun e => e.1 == k)))).filter
    (fun k => odGet n.od k != odGet old.od k)
  let ds := ([0, 1, 2, 3] : List Nat).filter (fun d => n.domI d 0x5400 0x0C != old.domI d 0x5400 0x0C)
  let n := ks.foldl (fun n k => n.written (keyIdx k) (keySub k) (keyInst k)) n
  ds.foldl (fun n d => n.crankConfigWritten d) n

/-! ## The persistent store (Table 4-12, R91) -/

/-- Does a commissioning reset set the object to its default? Every object that a master may write, but the count of
the RTC and its status, queues' enables and the data ports, which are no settings. -/
def settable (k : Nat) : Bool :=
  let i := keyIdx k
  !((i == 0x1010 && keySub k == 2) || (i == 0x1200 && (keySub k == 1 || keySub k == 6)) || (i == 0x9100 && keySub k == 0x0A) || canonIdx i == 0xF000) &&
    (match rowOf i (keySub k) with
     | some r => r.acc == .rw || r.acc == .rwc
     | none => (privVat i).isSome)

/-- ACTION 0x02: every object to its default. -/
def Node.defaultAll (n : Node) : Node :=
  let old := n
  let n := n.overridesSet 0 []
  ({ n with od := n.od.filter (fun e => !settable e.1), dom := n.dom.filter (fun e => !settable e.1) }).writtenAll old

/-- ACTION 0x03: the committed bank is loaded again; with none, every object to its default. -/
def Node.discardAll (n : Node) : Node :=
  match n.committedBank with
  | none => n.defaultAll
  | some b =>
    let x := n.bank b
    let old := n
    let n := n.overridesSet (mapGet x.objs (key 0 0x2200 0x04) 0) (mapGet x.doms (key 0 0x2200 0x03) [])
    let n := { n with od := n.od.filter (fun e => !n.keptKey e.1), dom := n.dom.filter (fun e => !n.keptKey e.1) }
    (n.loadBank x).writtenAll old

/-- An accepted store command. -/
def Node.storeCommand (n : Node) (m : Master) (v : Nat) : Node :=
  let a := bits v 7 0
  if a = 1 then n.commitStart (masterSource m)
  else
    let n := n.setStore fun s => { s with applied := none }
    if a = 2 then (n.defaultAll.keptWritten.storeStatus 0).commissionEvent 7 (masterSource m) [] []
    else ((n.discardAll.set 0x1020 0x06 0).storeStatus 0).commissionEvent 8 (masterSource m) [] []

/-- R346: a clone begins: the twin's store image is asked for. -/
def Node.cloneStart (n : Node) (m : Master) : Node :=
  (n.setTwin fun t => { t with clone := some (masterSource m) }).twinSend 0x07 (toLE 1 1)

/-! ## Queues (R124) -/

/-- R124: a write of .0A; whether the answer waits for descriptors in flight. -/
def Node.queueWrite (n : Node) (m : Master) (via : Via) (q : Nat) (on : Bool) : Node × Bool :=
  if on then (if n.obi q 0x9100 0x0A then n else n.enableQueue q, false)
  else if n.obi q 0x9100 0x0A then
    let n := n.disableQueue q
    if (n.queue q).inFlight = [] then (n, false)
    else (n.setQueue q { n.queue q with closing := (n.queue q).closing ++ [(m, via)] }, true)
  else (n, false)

/-! ## Operator commands (R242 to R245, R333) -/

/-- Table 11-3: one command of a Close message: its record, master, kind (0 applied, 1 stored, 2 cancelled), entry. -/
def closeCmd (record : List Byte) (m : Master) (kind entry : Nat) : List Byte :=
  padTo 16 record ++ toLE 1 (masterSource m) ++ toLE 1 kind ++ toLE 2 entry ++ zeros 4

/-- The owner keeps a command for its next Close message. -/
def Node.noteCmd (n : Node) (c : List Byte) : Node := if n.twinOn then n.setTwin fun t => { t with cmds := t.cmds ++ [c] } else n

/-- An accepted operator command. -/
def Node.opServe (n : Node) (m : Master) (data : List Byte) : Node :=
  let sched := fieldLE data 8 8 != 0
  let n := n.noteCmd (closeCmd data m (b2n sched) (if sched then n.freeEntry else 0))
  n.opAccept (fieldLE data 0 1) (fieldLE data 1 1) (fieldLE data 2 2) (fieldLE data 4 4) (fieldLE data 8 8)

/-- R245, R333: a standby passes the command to the owner; its answer comes with the owner's. -/
def Node.opPass (n : Node) (m : Master) (via : Via) (data : List Byte) : Node :=
  let n := n.setTwin fun t => { t with passed := t.passed ++ [{ rec_ := data, master := m, via := via, at_ := n.now }] }
  n.twinSend 0x05 (padTo 16 data ++ toLE 2 (masterSource m))

/-- R244: an entry of the schedule is cancelled. -/
def Node.opCancel (n : Node) (m : Master) (e : Nat) : Node :=
  let n := match n.frame.sched.find? (fun x => x.1 == e) with
    | some x => n.noteCmd (closeCmd (opBytes x.2) m 2 e)
    | none => n
  { n with frame := { n.frame with sched := n.frame.sched.filter (fun x => x.1 != e) } }

/-! ## Writes by object -/

/-- Bits that a write of 1 clears. -/
def Node.clearOnes (n : Node) (i idx sub mask v : Nat) : Node := n.setI i idx sub (clearBits (n.oi i idx sub) (v &&& mask))

/-- Writes of chapters 02 to 04, 11, 15 and 16 that do more than store; none for the rest. -/
def Node.writeNode (n : Node) (m : Master) (idx sub i v : Nat) (data : List Byte) : Option Node :=
  let k := idx * 256 + sub
  if k = 0x101002 then some (n.modeAccept v)
  else if k = 0x101006 then
    some (if bits v 15 8 = 1 then n.nodeReset 0x02 else n.domainReset m (bits v 15 8) (bits v 7 0))
  else if k = 0x102001 then some (n.storeCommand m v)
  else if k = 0x110002 then some ((n.setLeapOffset v).keptHook idx sub)
  else if k = 0x110008 then some n.askCapture
  else if k = 0x120001 then some (n.setRtc (v * 32768))
  else if k = 0x120004 then some (n.askShift (toI 32 v))
  else if k = 0x120005 then some (((n.set 0x1200 0x05 v).setWakePeriod v).keptHook idx sub)
  else if k = 0x120006 then some (n.clearOnes 0 idx sub 0x04 v)
  else if k = 0x220002 then some ((n.kindRuleSet i v).keptHook idx sub)
  else if k = 0x220004 then some ((n.overridesSet v (n.domI 0 0x2200 0x03)).keptHook idx sub)
  else if k = 0x22000A then some (n.clearLatch (n.selectedPair m))
  else if k = 0x22000C then some (n.raiseOwn m v)
  else if k = 0x220011 then some (n.clearOnes 0 idx sub 0x1F v)
  else if k = 0x220012 then some (n.set 0x2200 0x10 0)
  else if k = 0x220013 then some (n.release v)
  else if k = 0x220030 then some (n.set 0x2200 (0x20 + v) 0)
  else if k = 0x230002 then some (n.quoteAsk (masterCode m) data)
  else if k = 0x230005 then some (n.extendBy m data)
  else if k = 0x240006 then some ((n.setTwin fun t => { t with fitSince := t.fitSince.map (fun _ => n.now) }).store_ m idx sub i v)
  else if k = 0x240017 then some (n.cloneStart m)
  else if k = 0x370002 then some (n.tagPageWrite (n.sel m 0x3700 0x01) data)
  else none

/-- Writes of the other chapters that do more than store. -/
def Node.writeBlock (n : Node) (m : Master) (idx sub i v : Nat) (data : List Byte) : Option Node :=
  let ci := canonIdx idx
  let k := ci * 256 + sub
  if k = 0x30000E then
    some (([0, 1] : List Nat).foldl (fun n p => n.clearOnes p idx sub (if p = i then 0x82 else 0x80) v) n)
  else if k = 0x300017 then some (n.bypassForce (v == 1))
  else if k = 0x300018 then some (n.snapCommand data)
  else if k = 0x340015 then some (if v = 1 then n.canSleep i else n.canWake i)
  else if k = 0x340017 then some (n.clearOnes i idx sub 0xC0 v)
  else if k = 0x34001A then some (n.canRecover i)
  else if k = 0x400001 then some (n.serviceApply ((idx - 0x4000) / 0x40) v)
  else if k = 0x500201 then some (n.serviceApply (32 + (idx - 0x5000) / 0x80) v)
  else if k = 0x50000E then some (n.integratorReset ((idx - 0x5000) / 0x20))
  else if k = 0x54000E then some ((n.compareAccept i v).keptHook idx sub)
  else if k = 0x550012 then some (n.clearOnes i idx sub 0x50 v)
  else if k = 0x60000B then some (n.opCancel m v)
  else if k = 0x610027 then some ((n.setI i idx sub v).setPt i { n.pt i with satOcc := false })
  else if k = 0x610028 then some ((n.setI i idx sub v).setPt i { n.pt i with satStand := false })
  else if k = 0x700003 then some ((n.set idx sub v).setpointWritten ((idx - 0x7000) / 0x10))
  else if k = 0x700101 then some (n.transmit ((idx - 0x7000) / 0x10) data)
  else if k = 0x700103 then some (n.clearOnes 0 idx sub 0x38 v)
  else if k = 0x710010 then
    some (let n := n.clearOnes i idx sub 0x06 v; if bit v 4 then n.annRelease i else n)
  else if k = 0x710022 then some (n.groupRestart i)
  else if k = 0x740012 then some (n.addRequest v)
  else if k = 0x740015 then some (n.clearOnes 0 idx sub 0x17 v)
  else if k = 0x74001E then some n.railClear
  else if k = 0x800027 then some (n.driveCommand i v)
  else if k = 0x800030 then some (n.query m data)
  else if k = 0x90000C then some ((n.setI (bits v 31 16 + 1) idx sub v).keptHook idx sub)
  else none

/-- What an accepted write does, and whether its answer comes later. `busy` is of a data-port burst; `v` is the value
as a number. -/
def Node.writeDo (n : Node) (m : Master) (via : Via) (idx sub : Nat) (data : List Byte) : Node × Bool :=
  let v := ofLE data
  let i := n.instOf m idx sub
  let ci := canonIdx idx
  if ci = 0x9100 ∧ sub = 0x0A then n.queueWrite m via i (v == 1)
  else if ci = 0x6000 ∧ sub = 0x08 then (if n.curMode = 5 then (n.opPass m via data, true) else (n.opServe m data, false))
  else if ci = 0xF000 then (n.portWrite m (idx - 0xF000) sub v, false)
  else match n.writeNode m idx sub i v data with
    | some n => (n, false)
    | none => match n.writeBlock m idx sub i v data with
      | some n => (n, false)
      | none => (n.store_ m idx sub i v, false)

/-! ## Judged writes and reads -/

/-- R76: the code of a write, data ports included; the data of a port is judged as it moves. -/
def Node.writeJudge (n : Node) (m : Master) (idx sub : Nat) (data : List Byte) : Nat :=
  firstFail [n.writeCode m idx sub data,
    if canonIdx idx = 0xF000 then n.portCode m (idx - 0xF000) sub (ofLE data) else 0]

/-- Refusals that are counted (R438, R444). -/
def Node.countRefusal (n : Node) (idx sub code : Nat) : Node :=
  if idx = 0x2300 ∧ sub = 0x02 ∧ (code = 0x0606 ∨ code = 0x0608 ∨ code = 0x060A) then n.quoteRefused
  else if idx = 0x3700 ∧ sub = 0x02 ∧ code = 0x0608 then n.tagRefused
  else n

/-- A write judged and done: its code, the node, and whether the answer comes later. -/
def Node.writeOne (n : Node) (m : Master) (via : Via) (idx sub : Nat) (data : List Byte) (busy : Bool) : Nat × Node × Bool :=
  let code := n.writeJudge m idx sub data
  if code ≠ 0 then (code, n.countRefusal idx sub code, false)
  else if canonIdx idx = 0xF000 ∧ sub = 0x04 then
    let r := n.burst m (idx - 0xF000) (some data) busy
    (r.1, r.2.2, false)
  else
    let r := n.writeDo m via idx sub data
    (0, r.1, r.2)

/-- Voltages and power of the line, of VBULK and of VKEEP, and a loop output's current and voltage, are measured: the
spec gives no value, so each read is a free one (log 29). -/
def measured (idx sub : Nat) : Bool :=
  (idx == 0x2000 && [1, 2, 3, 4, 0xA].contains sub) || (canonIdx idx == 0x7000 && [0x13, 0x14].contains sub)

/-- A read judged and done: its code, the data, the node. -/
def Node.readOne (n : Node) (m : Master) (idx sub : Nat) (busy : Bool) : Nat × List Byte × Node :=
  let ci := canonIdx idx
  let port := ci = 0xF000
  let code := firstFail [n.readCode m idx sub, if port then n.portReadCode m (idx - 0xF000) sub else 0]
  if code ≠ 0 then (code, [], n.countRefusal idx sub code)
  else if port ∧ sub = 0x04 then n.burst m (idx - 0xF000) none busy
  else if measured idx sub then
    let (v, n) := n.draw
    (0, toLE 4 v, n)
  else match n.rowFor idx sub with
    | none => (0x0602, [], n)
    | some r =>
      let i := n.instOf m idx sub
      let bs := toLE r.ty.size (n.valueOf m idx sub i r)
      let n := if port then n.portTouched m (idx - 0xF000) sub
        else if ci = 0x7001 ∧ sub = 0x02 then n.receiveTaken ((idx - 0x7000) / 0x10)
        else if ci = 0x3700 ∧ sub = 0x02 then n.wiredAccess (n.sel m 0x3700 0x01)
        else n
      (0, bs, n)

/-! ## Cezel: apply (R104, R105) -/

/-- R105: the code of one entry: its attributes, then its value as a commissioning write of it. -/
def Node.entryCode (n : Node) (m : Master) (e : CezEntry) : Nat :=
  if !n.indexExists e.idx then 0x0601
  else match n.rowFor e.idx e.sub with
    | none => 0x0602
    | some r =>
      if r.acc ≠ e.acc then 0x0603
      else if r.ty ≠ e.ty ∨ r.kept ≠ e.kept then 0x0607
      else match e.owner with
        | some w => failIf (n.ownerMask m e.idx e.sub != w) 0x0604
        | none => 0

/-- One entry: its code, and the node with its value written. -/
def Node.entryDo (n : Node) (m : Master) (e : CezEntry) : Nat × Node :=
  let code := n.entryCode m e
  if code ≠ 0 then (code, n)
  else match e.value with
    | none => (0, n)
    | some (c, bs) => if c ≠ 0 then (c, n) else let r := n.writeOne m .direct e.idx e.sub bs false; (r.1, r.2.1)

/-- Every entry in order; the code and line of the first that fails. -/
def Node.entriesDo (n : Node) (m : Master) : List CezEntry → (Nat × Nat) ⊕ Node
  | [] => .inr n
  | e :: rest => let r := n.entryDo m e; if r.1 ≠ 0 then .inl (r.1, e.line) else r.2.entriesDo m rest

def Node.applyResult (n : Node) (code line : Nat) : Node := (n.set 0x1030 0x03 code).set 0x1030 0x04 line

/-- R105: the text applied as a whole, or not at all. -/
def Node.cezelApply (n : Node) (m : Master) : Node :=
  let staged := n.domI 1 0x1030 0x01
  let text := if staged = [] then n.store.stored else staged
  match cezParse text with
  | .error line => n.applyResult 0x0607 line
  | .ok es =>
    match n.entriesDo m es with
    | .inl (code, line) => n.applyResult code line
    | .inr n =>
      let n := (n.applyResult 0 0).set 0x1030 0x05 es.length
      (n.setStore fun s => { s with applied := some text }).commissionEvent 5 (masterSource m) text []

/-! ## Cezel: declare (R127) -/

/-- One entry of a declaration. -/
def declCode (v : Nat) (seen : List (Nat × Nat)) (e : CezEntry) : Nat :=
  if privVat e.idx ≠ some v ∨ e.idx = privIdx v then 0x0601
  else if seen.contains (e.idx, e.sub) then 0x0606
  else if e.ty.code = 15 then 0x0607
  else if e.owner.isSome then 0x0604
  else match e.value with
    | some (c, bs) => if c ≠ 0 then c else failIf (!valueOk (declRow e) (ofLE bs) bs) 0x0606
    | none => 0

def declCheck (v : Nat) : List (Nat × Nat) → List CezEntry → Option (Nat × Nat)
  | _, [] => none
  | seen, e :: rest => if declCode v seen e ≠ 0 then some (declCode v seen e, e.line) else declCheck v ((e.idx, e.sub) :: seen) rest

/-- The bytes that declared values take. -/
def declBytes (es : List CezEntry) : Nat := es.foldl (fun t e => t + e.ty.size) 0

/-- R127: the declaration of vat `v` comes into force: objects in both keep their value if type and size are
unchanged, others start at their default. -/
def Node.declInstall (n : Node) (v : Nat) (text : List Byte) (es : List CezEntry) : Node :=
  let old := n.declared v
  let value := fun (e : CezEntry) =>
    if old.any (fun o => o.idx == e.idx && o.sub == e.sub && o.ty == e.ty) then n.o e.idx e.sub else declDefault e
  let vals := es.map (fun e => (e.idx, e.sub, value e))
  let n := { n with od := n.od.filter (fun e => !(privVat (keyIdx e.1) == some v && keyIdx e.1 != privIdx v)) }
  (vals.foldl (fun n e => n.set e.1 e.2.1 e.2.2) n).setDomI 1 (privIdx v) 0x01 text

/-- R127: the declare command: 0x060A for declared values that take too much; otherwise the result stands in .03 and
the failing line in .04. -/
def Node.declare (n : Node) (v : Nat) : Nat × Node :=
  let text := n.domI 0 (privIdx v) 0x01
  let done := fun (n : Node) (code line : Nat) => (n.set (privIdx v) 0x03 code).set (privIdx v) 0x04 line
  match cezParse text with
  | .error line => (0, done n 0x0607 line)
  | .ok es =>
    match declCheck v [] es with
    | some (code, line) => (0, done n code line)
    | none => if 524288 < declBytes es then (0x060A, n) else (0, (done (n.declInstall v text es) 0 0).keptHook (privIdx v) 0x01)

/-! ## Serving -/

/-- A write served for master `m` on its transport: judged, done, answered. -/
def Node.serveWrite (n : Node) (m : Master) (via : Via) (idx sub : Nat) (data : List Byte) (busy : Bool) : Node :=
  if idx = 0x1030 ∧ sub = 0x02 ∧ n.writeJudge m idx sub data = 0 then (n.cezelApply m).respond m via 0 []
  else if (privVat idx).isSome ∧ idx = privIdx ((idx - 0xA000) / 0x500) ∧ sub = 0x02 ∧ n.writeJudge m idx sub data = 0 then
    let r := n.declare ((idx - 0xA000) / 0x500)
    r.2.respond m via r.1 []
  else if idx = 0x1010 ∧ sub = 0x06 ∧ bits (ofLE data) 15 8 = 1 ∧ n.writeJudge m idx sub data = 0 then
    (n.respond m via 0 []).nodeReset 0x02
  else
    let r := n.writeOne m via idx sub data busy
    if r.2.2 then r.2.1 else r.2.1.respond m via r.1 []

/-- A read served. -/
def Node.serveRead (n : Node) (m : Master) (via : Via) (idx sub : Nat) (busy : Bool) : Node :=
  let r := n.readOne m idx sub busy
  r.2.2.respond m via r.1 r.2.1

/-- R77: an information request served. -/
def Node.serveInfo (n : Node) (m : Master) (via : Via) (idx sub : Nat) : Node :=
  let r := n.information m idx sub
  n.respond m via r.1 r.2

/-- Does the keeper serve? Not while it is in reset (R42). -/
def Node.keeperUp (n : Node) : Bool := n.up && n.mode.keeperReset.isNone

/-- A master whose node runs and whose vat, if it is one, runs: what it asks is served. -/
def Node.served (n : Node) (f : Node → Node) : Node := if n.keeperUp then f n else n

end Sys2Proof.Machine
end

