-- ==== Sys2Proof/Machine/CanSessions.lean ====
section
/-!
DEFINITION. Machine/CanSessions.lean: a frame arrives at a CAN controller (R378, R383), and the dictionary over CAN
(R385, R386). The rows that name a dictionary request are the frame of Table 13-7 that spells it.
-/
namespace Sys2Proof.Machine

/-! ## Sessions (R386) -/

/-- The session of a controller ends without an answer. -/
def Node.canEnd (n : Node) (c : Nat) : Node := n.setCan c { n.canSt c with sess := none, waits := none }

/-- R386: the node sends an ABORT, and the session ends. -/
def Node.canAbort (n : Node) (c size : Nat) (toggle : Bool) (code : Nat) : Node :=
  (n.canEnd c).canAnswer c size (canHead 4 toggle ++ toLE 2 code)

/-- A DONE whose value goes on in segments: `front` stands before the value's first bytes. -/
def Node.canDone (n : Node) (c size : Nat) (toggle : Bool) (front body : List Byte) : Node :=
  let first := canHead 6 toggle ++ front
  let room := size - first.length
  let n := (n.canEnd c).canAnswer c size (first ++ body.take room)
  if room < body.length then
    n.setCan c { n.canSt c with sess := some { size := size, len := body.length, buf := body.drop room, last := n.now } }
  else n

/-- The master that a controller is (R75). -/
def canMaster (c : Nat) : Master := .can (BitVec.ofNat 2 c).toFin

/-- A write whose last byte has come is served; its DONE follows (R385). -/
def Node.canServe (n : Node) (c : Nat) (toggle : Bool) (s : CanSess) : Node :=
  let x := n.canSt c
  (n.setCan c { x with sess := some s, waits := some x.serial, serial := x.serial + 1 }).serveWrite (canMaster c)
    (.can c s.size toggle x.serial) s.idx s.sub s.buf false

/-- The session of a write goes on: ACK while bytes remain, else the write is served. -/
def Node.canTake (n : Node) (c : Nat) (toggle : Bool) (s : CanSess) : Node :=
  if s.buf.length < s.len then
    (n.setCan c { n.canSt c with sess := some s }).canAnswer c s.size (canHead 5 toggle)
  else n.canServe c toggle s

/-! ## Request frames (Table 13-7) -/

/-- INIT_READ. -/
def Node.canInitRead (n : Node) (c size : Nat) (toggle : Bool) (idx sub : Nat) : Node :=
  let r := n.readOne (canMaster c) idx sub false
  r.2.2.canDone c size toggle (toLE 2 r.1 ++ toLE 2 r.2.1.length) r.2.1

/-- INFO. -/
def Node.canInfo (n : Node) (c size : Nat) (toggle : Bool) (idx sub : Nat) : Node :=
  let r := n.information (canMaster c) idx sub
  n.canDone c size toggle (toLE 2 r.1) r.2

/-- INIT_WRITE: `bytes` are those the frame has room for. -/
def Node.canInitWrite (n : Node) (c size : Nat) (toggle : Bool) (idx sub len : Nat) (bytes : List Byte) : Node :=
  if len = 0 ∨ 1408 < len then n.canDone c size toggle (toLE 2 0x0607) []
  else (n.canEnd c).canTake c toggle
    { size := size, write := true, idx := idx, sub := sub, len := len, buf := bytes.take len, toggle := false, last := n.now }

/-- SEGMENT: in order and inside a session, the next bytes of a write or of a read. -/
def Node.canSegment (n : Node) (c size : Nat) (toggle : Bool) (bytes : List Byte) : Node :=
  match (n.canSt c).sess with
  | none => n.canAbort c size toggle 0x0607
  | some s =>
    if size ≠ s.size then n
    else if toggle ≠ s.toggle ∨ (n.canSt c).waits.isSome then n.canAbort c s.size toggle 0x0607
    else if s.write then
      n.canTake c toggle { s with buf := s.buf ++ bytes.take (s.len - s.buf.length), toggle := !toggle, last := n.now }
    else
      let room := s.size - 1
      let n := n.setCan c { n.canSt c with sess :=
        if s.buf.length ≤ room then none else some { s with buf := s.buf.drop room, toggle := !toggle, last := n.now } }
      n.canAnswer c s.size (canHead 3 toggle ++ s.buf.take room)

/-- R385: a dictionary frame by its byte 0. Its length is F in a session, and 8 or 64 outside one; the keeper serves it
unless it is in reset. A reserved CMD asks nothing. -/
def Node.canRequest (n : Node) (c : Nat) (bs : List Byte) : Node :=
  let size := bs.length
  let head := fieldLE bs 0 1
  let cmd := bits head 7 5
  let toggle := bit head 4
  let idx := fieldLE bs 1 2
  let sub := fieldLE bs 3 1
  if !n.keeperUp ∨ (size ≠ 8 ∧ size ≠ 64) then n
  else if cmd = 0 then n.canInitRead c size toggle idx sub
  else if cmd = 1 then n.canInitWrite c size toggle idx sub (fieldLE bs 4 2) (bs.drop 6)
  else if cmd = 2 then n.canInfo c size toggle idx sub
  else if cmd = 3 then n.canSegment c size toggle (bs.drop 1)
  else if cmd = 4 then n.canEnd c
  else n

/-! ## A frame arrives (R378, R383) -/

/-- R378: the dictionary request identifier first, then value slots and queues. A controller that listens ignores
requests (R384). -/
def Node.canHandle (n : Node) (c ident : Nat) (fdf brs esi : Bool) (data : List Byte) (stamp : Nat) : Node :=
  if identExact ident (n.co c 0x10) then (if n.canState c = 6 ∨ n.canListens c then n else n.canRequest c data)
  else n.canDistribute c ident fdf brs esi data stamp

/-- A frame received without error, by the state of the controller. An FD frame at a classical-only controller is a
protocol exception (Table 13-1). -/
def Node.canFrame (n : Node) (c ident : Nat) (fdf brs esi : Bool) (data : List Byte) (ago : Nat) : Node :=
  let st := n.canState c
  let stamp := n.stamp isleRing ago
  let data := if bit ident 29 then [] else data
  let wakes := st == 5 && n.co c 0x12 == 1 && n.wakeHits c ident data
  if st = 2 ∨ st = 3 ∨ st = 6 ∨ wakes then
    if fdf ∧ n.co c 0x03 = 0 then n.canException c
    else
      let n := n.incWrapI 32 c 0x3400 0x1B 1
      let n := if wakes then n.canWake c else if st = 6 then n else n.rxGood c
      n.canHandle c ident fdf brs esi data stamp
  else n

/-- A frame on the request identifier: F is 8 bytes classical or 64 bytes FD. A controller without one gets none. -/
def Node.canAsk (n : Node) (c : Nat) (f64 : Bool) (bs : List Byte) : Node :=
  let e := n.co c 0x10
  if bit e 31 then n else n.canFrame c (e % 2 ^ 29 + 2 ^ 30 * b2n (bit e 30)) f64 false false (padTo (if f64 then 64 else 8) bs) 0

/-- R386: a session with no request for 100 ms. The ABORT answers no request: its TOGGLE is left open (log 3). -/
def Node.canTimeout (n : Node) (c : Nat) : Node :=
  match (n.canSt c).sess with
  | some s =>
    if s.last + ms 100 ≤ n.now then let (v, n) := n.draw; n.canAbort c s.size (bit v 0) 0x0608 else n
  | none => n

/-! ## Commands -/

/-- CAN_FRAME_RECEIVED (R378, R383). -/
def execCanFrameReceived (dt : Nat) (n : Fin 4) (ident : BitVec 32) (fdf brs esi : Bool) (data : List Byte) (agoNs : Nat) (s : State) :=
  actDone dt s fun x => x.whenUp fun x => x.canFrame n (ident.toNat % 2 ^ 31) fdf brs esi data agoNs
/-- INIT_READ (R385). -/
def execInitRead (dt : Nat) (n : Fin 4) (f64 toggle : Bool) (idx : BitVec 16) (sub : Byte) (s : State) :=
  actDone dt s fun x => x.whenUp fun x => x.canAsk n f64 (canHead 0 toggle ++ toLE 2 idx.toNat ++ [sub])
/-- INIT_WRITE (R385). -/
def execInitWrite (dt : Nat) (n : Fin 4) (f64 toggle : Bool) (idx : BitVec 16) (sub : Byte) (len : BitVec 16) (bytes : List Byte) (s : State) :=
  actDone dt s fun x => x.whenUp fun x =>
    x.canAsk n f64 (canHead 1 toggle ++ toLE 2 idx.toNat ++ [sub] ++ toLE 2 len.toNat ++ bytes)
/-- INFO (R385). -/
def execInfo (dt : Nat) (n : Fin 4) (f64 toggle : Bool) (idx : BitVec 16) (sub : Byte) (s : State) :=
  actDone dt s fun x => x.whenUp fun x => x.canAsk n f64 (canHead 2 toggle ++ toLE 2 idx.toNat ++ [sub])
/-- SEGMENT (R385, R386). -/
def execSegment (dt : Nat) (n : Fin 4) (f64 toggle : Bool) (bytes : List Byte) (s : State) :=
  actDone dt s fun x => x.whenUp fun x => x.canAsk n f64 (canHead 3 toggle ++ bytes)
/-- ABORT (R385). -/
def execAbort (dt : Nat) (n : Fin 4) (code : BitVec 16) (s : State) :=
  actDone dt s fun x => x.whenUp fun x =>
    let f64 := match (x.canSt n).sess with | some t => t.size == 64 | none => false
    x.canAsk n f64 (canHead 4 false ++ toLE 2 code.toNat)
/-- SESSION_TIMEOUT (R386). -/
def execSessionTimeout (dt : Nat) (n : Fin 4) (s : State) := act dt s fun x => x.whenUp fun x => x.canTimeout n

end Sys2Proof.Machine
end

