-- ==== Sys2Proof/Machine/LocalPort.lean ====
section
/-!
DEFINITION. Machine/LocalPort.lean: the local port (R100 to R103): its four transactions.
-/
namespace Sys2Proof.Machine

/-- The operations of a request frame (Tables 4-16, 10-8): 1 read, 2 write, 3 information. A reserved one is refused
(R5); a value with a read or an information request is of the wrong length. -/
def Node.serveReq (n : Node) (m : Master) (via : Via) (op idx sub : Nat) (data : List Byte) : Node :=
  if op = 2 then n.serveWrite m via idx sub data false
  else if op = 1 then
    if data = [] then n.serveRead m via idx sub false else n.respond m via (firstFail [n.readCode m idx sub, 0x0607]) []
  else if op = 3 then
    if data = [] then n.serveInfo m via idx sub
    else n.respond m via (if (n.information m idx sub).1 = 0 then 0x0607 else (n.information m idx sub).1) []
  else n.respond m via 0x0606 []

/-- Responses ready beside the ninth slot, and the request slots free (Table 4-18). -/
def Node.lpReady (n : Node) : Nat := n.lp.ready.length - b2n n.lp.ninth.isSome
def Node.lpFree (n : Node) : Nat := n.o 0x3600 0x05 - (n.lp.outstanding.length + n.lpReady)

/-- R101, R103: a request that no slot is free for, or that no keeper serves, is discarded. -/
def Node.lpOverrun (n : Node) : Node := ({ n with lp := { n.lp with overrun := true } }).incSat 0x3600 0x03

/-- R101, R102: a request frame arrives. -/
def Node.lpRequest (n : Node) (frame : List Byte) : Node :=
  let len := fieldLE frame 6 2
  let body := frame.take (8 + len)
  if frame.length ≠ 12 + len ∨ crc32 (toLE 1 0x01 ++ body) ≠ fieldLE frame (8 + len) 4 then
    ({ n with lp := { n.lp with crcErr := true } }).incSat 0x3600 0x02
  else if n.mode.keeperReset.isSome then n.lpOverrun
  else
    let tag := fieldLE frame 0 1
    let op := fieldLE frame 1 1
    if n.lpFree = 0 then
      if n.lp.ninth.isSome then n.lpOverrun
      else
        let r := lpResponse tag op 0x0608 []
        { n with lp := { n.lp with ready := n.lp.ready ++ [r], ninth := some r } }
    else
      let id := n.lp.serial
      let n := { n with lp := { n.lp with serial := id + 1, outstanding := n.lp.outstanding ++ [id] } }
      (n.incWrap 0x3600 0x04).serveReq .localPort (.lp id tag op) op (fieldLE frame 2 2) (fieldLE frame 4 1) (slice frame 8 len)

/-- Table 4-18. -/
def Node.lpStatus (n : Node) : Nat :=
  b2n n.mode.keeperReset.isNone * 1024 + b2n n.lp.overrun * 512 + b2n n.lp.crcErr * 256 + n.lp.ready.length * 16 + n.lpFree

/-- A transaction while the port is enabled (Table 4-19, Enable). -/
def Node.lpDo (n : Node) (f : Node → Node) : Node := if n.up && n.lp.on then f n else n

/-- REQUEST (R101): the request frame as Table 4-16 lays it out. -/
def execRequest (dt : Nat) (frame : List Byte) (s : State) := actDone dt s fun n => n.lpDo fun n => n.lpRequest frame
/-- STATUS (R100): the status word; OVERRUN and CRC_ERR are cleared. -/
def execStatus (dt : Nat) (s : State) := act dt s fun n => n.lpDo fun n =>
  let n := n.emit (.spi (toLE 4 n.lpStatus))
  { n with lp := { n.lp with overrun := false, crcErr := false } }
/-- RESPONSE (R100): the oldest ready response, or 8 bytes of 0. -/
def execResponse (dt : Nat) (s : State) := act dt s fun n => n.lpDo fun n =>
  match n.lp.ready with
  | [] => n.emit (.spi (zeros 8))
  | r :: rest => (n.emit (.spi r)).lpDo fun n => { n with lp := { n.lp with ready := rest, ninth := if n.lp.ninth = some r then none else n.lp.ninth } }
/-- RESYNC (R100): every outstanding request and ready response is discarded. -/
def execResync (dt : Nat) (s : State) := act dt s fun n => n.lpDo fun n =>
  { n with lp := { n.lp with outstanding := [], ready := [], ninth := none } }

end Sys2Proof.Machine
end

