-- ==== Sys2Proof/Machine/Commands.lean ====
section
/-!
DEFINITION. Machine/Commands.lean: the commands that are a master's write or read of one object (R82): each builds its
value and is served as every request is (Serve.lean). A row that names an instance writes the master's select first.
-/
namespace Sys2Proof.Machine

/-- Does the master ask now: its node runs and the keeper serves, and a vat's core runs? -/
def Node.asks (n : Node) (m : Master) : Bool :=
  n.keeperUp && (match m with | .vat v => n.vatRuns v.val | _ => true)

/-- A write of master `m` on its own transport. -/
def askWrite (dt : Nat) (m : Master) (idx sub : Nat) (data : List Byte) (s : State) : Host.Outcome State Fault Refusal :=
  actDone dt s fun n => n.when (n.asks m) fun n => n.serveWrite m .direct idx sub data false

/-- A read of master `m`. -/
def askRead (dt : Nat) (m : Master) (idx sub : Nat) (s : State) : Host.Outcome State Fault Refusal :=
  actDone dt s fun n => n.when (n.asks m) fun n => n.serveRead m .direct idx sub false

/-- A write that follows the master's write of the select `idx.sel`. -/
def askSelected (dt : Nat) (m : Master) (idx sel size inst sub : Nat) (data : List Byte) (s : State) :
    Host.Outcome State Fault Refusal :=
  actDone dt s fun n => n.when (n.asks m) fun n =>
    let r := n.writeOne m .direct idx sel (toLE size inst) false
    if r.1 = 0 then r.2.1.serveWrite m .direct idx sub data false else r.2.1.respond m .direct r.1 []

/-- Table 2-11: a reset command. -/
def resetWord (key : Byte) (kind : Nat) (inst : Byte) : List Byte := [inst, BitVec.ofNat 8 kind, 0, key]

/-- Table 8-11: an operator command record. -/
def opRecord (op : Nat) (loc : Byte) (target : BitVec 16) (param : BitVec 32) (when_ : BitVec 64) : List Byte :=
  [BitVec.ofNat 8 op, loc] ++ toLE 2 target.toNat ++ toLE 4 param.toNat ++ toLE 8 when_.toNat

/-- ENTER_COMMISSION (R18, R466): a write of 3 to 0x1010.02. -/
def execEnterCommission (dt : Nat) (m : Master) (s : State) :=
  askWrite dt m 0x1010 0x02 [3] s
/-- REQUEST_ACTIVE (R466): a write of 4 to 0x1010.02. -/
def execRequestActive (dt : Nat) (m : Master) (s : State) :=
  askWrite dt m 0x1010 0x02 [4] s
/-- PLANNED_HANDOVER_TO_TWIN (R340): a write of 5 to 0x1010.02. -/
def execPlannedHandoverToTwin (dt : Nat) (m : Master) (s : State) :=
  askWrite dt m 0x1010 0x02 [5] s
/-- COMMAND_SAFE (R18): a write of 7 to 0x1010.02. -/
def execCommandSafe (dt : Nat) (m : Master) (s : State) :=
  askWrite dt m 0x1010 0x02 [7] s
/-- NODE_RESET_COMMAND (R45): KIND 0x01 of Table 2-11. -/
def execNodeResetCommand (dt : Nat) (m : Master) (key inst : Byte) (s : State) :=
  askWrite dt m 0x1010 0x06 (resetWord key 0x01 inst) s
/-- KEEPER_RESET_COMMAND (R41): KIND 0x02 of Table 2-11. -/
def execKeeperResetCommand (dt : Nat) (m : Master) (key inst : Byte) (s : State) :=
  askWrite dt m 0x1010 0x06 (resetWord key 0x02 inst) s
/-- VAT_RESET_COMMAND (R44): KIND 0x03 of Table 2-11. -/
def execVatResetCommand (dt : Nat) (m : Master) (key inst : Byte) (s : State) :=
  askWrite dt m 0x1010 0x06 (resetWord key 0x03 inst) s
/-- LAKE_RESET_COMMAND (R43): KIND 0x04 of Table 2-11. -/
def execLakeResetCommand (dt : Nat) (m : Master) (key inst : Byte) (s : State) :=
  askWrite dt m 0x1010 0x06 (resetWord key 0x04 inst) s
/-- DYNAMIC_LAKE_RESET_COMMAND (R43): KIND 0x05 of Table 2-11. -/
def execDynamicLakeResetCommand (dt : Nat) (m : Master) (key inst : Byte) (s : State) :=
  askWrite dt m 0x1010 0x06 (resetWord key 0x05 inst) s
/-- RING_PORT_RESET_COMMAND (R41): KIND 0x06 of Table 2-11. -/
def execRingPortResetCommand (dt : Nat) (m : Master) (key inst : Byte) (s : State) :=
  askWrite dt m 0x1010 0x06 (resetWord key 0x06 inst) s
/-- PCIE_PORT_RESET_COMMAND (R41): KIND 0x07 of Table 2-11. -/
def execPciePortResetCommand (dt : Nat) (m : Master) (key inst : Byte) (s : State) :=
  askWrite dt m 0x1010 0x06 (resetWord key 0x07 inst) s
/-- CAN_RESET_COMMAND (R41): KIND 0x08 of Table 2-11. -/
def execCanResetCommand (dt : Nat) (m : Master) (key inst : Byte) (s : State) :=
  askWrite dt m 0x1010 0x06 (resetWord key 0x08 inst) s
/-- SERIAL_PORT_RESET_COMMAND (R41): KIND 0x09 of Table 2-11. -/
def execSerialPortResetCommand (dt : Nat) (m : Master) (key inst : Byte) (s : State) :=
  askWrite dt m 0x1010 0x06 (resetWord key 0x09 inst) s
/-- RTC_SHIFT (R60). -/
def execRtcShift (dt : Nat) (m : Master) (val : BitVec 32) (s : State) :=
  askWrite dt m 0x1200 0x04 (toLE 4 val.toNat) s
/-- RTC_SET_TIME (R64). -/
def execRtcSetTime (dt : Nat) (m : Master) (sec : BitVec 64) (s : State) :=
  askWrite dt m 0x1200 0x01 (toLE 8 sec.toNat) s
/-- TIME_STAMP_CAPTURE (R63). -/
def execTimeStampCapture (dt : Nat) (m : Master) (val : Byte) (s : State) :=
  askWrite dt m 0x1100 0x08 [val] s
/-- REGISTER_WRITE (R76, R82). -/
def execRegisterWrite (dt : Nat) (m : Master) (idx : BitVec 16) (sub : Byte) (data : List Byte) (s : State) :=
  askWrite dt m idx.toNat sub.toNat data s
/-- COMMIT (R90): ACTION 0x01 of 0x1020.01. -/
def execCommit (dt : Nat) (m : Master) (key : Byte) (s : State) :=
  askWrite dt m 0x1020 0x01 [0x01, 0, 0, key] s
/-- COMMISSIONING_RESET (R91): ACTION 0x02. -/
def execCommissioningReset (dt : Nat) (m : Master) (key : Byte) (s : State) :=
  askWrite dt m 0x1020 0x01 [0x02, 0, 0, key] s
/-- DISCARD (R91): ACTION 0x03. -/
def execDiscard (dt : Nat) (m : Master) (key : Byte) (s : State) :=
  askWrite dt m 0x1020 0x01 [0x03, 0, 0, key] s
/-- DATA_PORT_CLAIM (R92): a write of .01; the row's target is not 0. -/
def execDataPortClaim (dt : Nat) (m : Master) (p : Fin 16) (target : BitVec 32) (s : State) :=
  askWrite dt m (portIdx p) 0x01 (toLE 4 target.toNat) s
/-- DATA_PORT_RELEASE (R96): a write of 0 to .01. -/
def execDataPortRelease (dt : Nat) (m : Master) (p : Fin 16) (s : State) :=
  askWrite dt m (portIdx p) 0x01 (zeros 4) s
/-- DATA_PORT_SET_OFFSET (R95): a write of .02. -/
def execDataPortSetOffset (dt : Nat) (m : Master) (p : Fin 16) (off : BitVec 64) (s : State) :=
  askWrite dt m (portIdx p) 0x02 (toLE 8 off.toNat) s
/-- DATA_PORT_OPEN (R93): a write of .03. -/
def execDataPortOpen (dt : Nat) (m : Master) (p : Fin 16) (len : BitVec 64) (s : State) :=
  askWrite dt m (portIdx p) 0x03 (toLE 8 len.toNat) s
/-- APPLY (R105). -/
def execApply (dt : Nat) (m : Master) (val : Byte) (s : State) :=
  askWrite dt m 0x1030 0x02 [val] s
/-- QUEUE_ENABLE (R124): a write of true to .0A of the queue the master has selected. -/
def execQueueEnable (dt : Nat) (m : Master) (s : State) :=
  askWrite dt m 0x9100 0x0A [1] s
/-- QUEUE_DISABLE (R124): a write of false. -/
def execQueueDisable (dt : Nat) (m : Master) (s : State) :=
  askWrite dt m 0x9100 0x0A [0] s
/-- DECLARE (R127). -/
def execDeclare (dt : Nat) (m : Master) (v : Fin 16) (val : Byte) (s : State) :=
  askWrite dt m (privIdx v) 0x02 [val] s
/-- TAKE_OUT (R170): service command 1. -/
def execTakeOut (dt : Nat) (m : Master) (unit : Fin 40) (s : State) :=
  askWrite dt m (unitIdx unit) 0x01 [1] s
/-- TEST (R170): service command 2. -/
def execTest (dt : Nat) (m : Master) (unit : Fin 40) (s : State) :=
  askWrite dt m (unitIdx unit) 0x01 [2] s
/-- RETURN (R170, R419): service command 3. -/
def execReturnToService (dt : Nat) (m : Master) (unit : Fin 40) (s : State) :=
  askWrite dt m (unitIdx unit) 0x01 [3] s
/-- INTEGRATOR_RESET (R177). -/
def execIntegratorReset (dt : Nat) (m : Master) (ch : Fin 32) (val : Byte) (s : State) :=
  askWrite dt m (dynIdx ch) 0x0E [val] s
/-- COMPARE_ENTRIES_WRITE (R192), of the crank domain the master has selected. -/
def execCompareEntriesWrite (dt : Nat) (m : Master) (val : BitVec 16) (s : State) :=
  askWrite dt m 0x5400 0x0E (toLE 2 val.toNat) s
/-- ACK_POINT (R229): operator command 0x01. -/
def execAckPoint (dt : Nat) (m : Master) (loc : Byte) (target : BitVec 16) (param : BitVec 32) (when_ : BitVec 64) (s : State) :=
  askWrite dt m 0x6000 0x08 (opRecord 0x01 loc target param when_) s
/-- ACK_GROUP (R236): operator command 0x02. -/
def execAckGroup (dt : Nat) (m : Master) (loc : Byte) (target : BitVec 16) (param : BitVec 32) (when_ : BitVec 64) (s : State) :=
  askWrite dt m 0x6000 0x08 (opRecord 0x02 loc target param when_) s
/-- ACK_AREA (R229): operator command 0x03. -/
def execAckArea (dt : Nat) (m : Master) (loc : Byte) (target : BitVec 16) (param : BitVec 32) (when_ : BitVec 64) (s : State) :=
  askWrite dt m 0x6000 0x08 (opRecord 0x03 loc target param when_) s
/-- SILENCE (R249): operator command 0x04. -/
def execSilence (dt : Nat) (m : Master) (loc : Byte) (target : BitVec 16) (param : BitVec 32) (when_ : BitVec 64) (s : State) :=
  askWrite dt m 0x6000 0x08 (opRecord 0x04 loc target param when_) s
/-- SHELVE (R226): operator command 0x05. -/
def execShelve (dt : Nat) (m : Master) (loc : Byte) (target : BitVec 16) (param : BitVec 32) (when_ : BitVec 64) (s : State) :=
  askWrite dt m 0x6000 0x08 (opRecord 0x05 loc target param when_) s
/-- UNSHELVE (R226): operator command 0x06. -/
def execUnshelve (dt : Nat) (m : Master) (loc : Byte) (target : BitVec 16) (param : BitVec 32) (when_ : BitVec 64) (s : State) :=
  askWrite dt m 0x6000 0x08 (opRecord 0x06 loc target param when_) s
/-- OUT_OF_SERVICE (R226): operator command 0x07. -/
def execOutOfService (dt : Nat) (m : Master) (loc : Byte) (target : BitVec 16) (param : BitVec 32) (when_ : BitVec 64) (s : State) :=
  askWrite dt m 0x6000 0x08 (opRecord 0x07 loc target param when_) s
/-- IN_SERVICE (R226): operator command 0x08. -/
def execInService (dt : Nat) (m : Master) (loc : Byte) (target : BitVec 16) (param : BitVec 32) (when_ : BitVec 64) (s : State) :=
  askWrite dt m 0x6000 0x08 (opRecord 0x08 loc target param when_) s
/-- OFFER (R239): operator command 0x09. -/
def execOffer (dt : Nat) (m : Master) (loc : Byte) (target : BitVec 16) (param : BitVec 32) (when_ : BitVec 64) (s : State) :=
  askWrite dt m 0x6000 0x08 (opRecord 0x09 loc target param when_) s
/-- ACCEPT (R239): operator command 0x0A. -/
def execAccept (dt : Nat) (m : Master) (loc : Byte) (target : BitVec 16) (param : BitVec 32) (when_ : BitVec 64) (s : State) :=
  askWrite dt m 0x6000 0x08 (opRecord 0x0A loc target param when_) s
/-- REJECT (R239): operator command 0x0B. -/
def execReject (dt : Nat) (m : Master) (loc : Byte) (target : BitVec 16) (param : BitVec 32) (when_ : BitVec 64) (s : State) :=
  askWrite dt m 0x6000 0x08 (opRecord 0x0B loc target param when_) s
/-- TAKE (R239): operator command 0x0C. -/
def execTake (dt : Nat) (m : Master) (loc : Byte) (target : BitVec 16) (param : BitVec 32) (when_ : BitVec 64) (s : State) :=
  askWrite dt m 0x6000 0x08 (opRecord 0x0C loc target param when_) s
/-- ATTENDED (R241): operator command 0x0D. -/
def execAttended (dt : Nat) (m : Master) (loc : Byte) (target : BitVec 16) (param : BitVec 32) (when_ : BitVec 64) (s : State) :=
  askWrite dt m 0x6000 0x08 (opRecord 0x0D loc target param when_) s
/-- UNATTENDED (R241): operator command 0x0E. -/
def execUnattended (dt : Nat) (m : Master) (loc : Byte) (target : BitVec 16) (param : BitVec 32) (when_ : BitVec 64) (s : State) :=
  askWrite dt m 0x6000 0x08 (opRecord 0x0E loc target param when_) s
/-- ANSWER (R248): operator command 0x0F. -/
def execAnswer (dt : Nat) (m : Master) (loc : Byte) (target : BitVec 16) (param : BitVec 32) (when_ : BitVec 64) (s : State) :=
  askWrite dt m 0x6000 0x08 (opRecord 0x0F loc target param when_) s
/-- ES_ON (R251): operator command 0x10. -/
def execEsOn (dt : Nat) (m : Master) (loc : Byte) (target : BitVec 16) (param : BitVec 32) (when_ : BitVec 64) (s : State) :=
  askWrite dt m 0x6000 0x08 (opRecord 0x10 loc target param when_) s
/-- ES_RESET (R251): operator command 0x11. -/
def execEsReset (dt : Nat) (m : Master) (loc : Byte) (target : BitVec 16) (param : BitVec 32) (when_ : BitVec 64) (s : State) :=
  askWrite dt m 0x6000 0x08 (opRecord 0x11 loc target param when_) s
/-- ES_OFF (R251): operator command 0x12. -/
def execEsOff (dt : Nat) (m : Master) (loc : Byte) (target : BitVec 16) (param : BitVec 32) (when_ : BitVec 64) (s : State) :=
  askWrite dt m 0x6000 0x08 (opRecord 0x12 loc target param when_) s
/-- REARM (R233): operator command 0x13. -/
def execRearm (dt : Nat) (m : Master) (loc : Byte) (target : BitVec 16) (param : BitVec 32) (when_ : BitVec 64) (s : State) :=
  askWrite dt m 0x6000 0x08 (opRecord 0x13 loc target param when_) s
/-- CANCEL_SCHEDULED (R244). -/
def execCancelScheduled (dt : Nat) (m : Master) (entry : BitVec 16) (s : State) :=
  askWrite dt m 0x6000 0x0B (toLE 2 entry.toNat) s
/-- TRANSMIT (R268). -/
def execTransmit (dt : Nat) (m : Master) (n : Fin 16) (data : List Byte) (s : State) :=
  askWrite dt m (fskIdx n) 0x01 data s
/-- BYPASS_FORCE_CLOSE (R291). -/
def execBypassForceClose (dt : Nat) (m : Master) (s : State) :=
  askWrite dt m 0x3000 0x17 [1] s
/-- BYPASS_RELEASE (R291). -/
def execBypassRelease (dt : Nat) (m : Master) (s : State) :=
  askWrite dt m 0x3000 0x17 [2] s
/-- SNAPSHOT_MARKER_COMMAND (R316): METHOD 0 of 0x3000.18. -/
def execSnapshotMarkerCommand (dt : Nat) (m : Master) (flags : Byte) (fire : BitVec 64) (s : State) :=
  askWrite dt m 0x3000 0x18 ([0, flags] ++ zeros 6 ++ toLE 8 fire.toNat) s
/-- SNAPSHOT_SCHEDULED_COMMAND (R317): METHOD 1. -/
def execSnapshotScheduledCommand (dt : Nat) (m : Master) (flags : Byte) (fire : BitVec 64) (s : State) :=
  askWrite dt m 0x3000 0x18 ([1, flags] ++ zeros 6 ++ toLE 8 fire.toNat) s
/-- CLONE (R346). -/
def execClone (dt : Nat) (m : Master) (s : State) :=
  askWrite dt m 0x2400 0x17 [1] s
/-- ADOPT (R353): drive command 1 on the slot the master has selected. -/
def execAdopt (dt : Nat) (m : Master) (s : State) :=
  askWrite dt m 0x8000 0x27 [1] s
/-- PREPARE_REMOVAL (R353): drive command 2. -/
def execPrepareRemoval (dt : Nat) (m : Master) (s : State) :=
  askWrite dt m 0x8000 0x27 [2] s
/-- KEEP (R353): drive command 3. -/
def execKeep (dt : Nat) (m : Master) (s : State) :=
  askWrite dt m 0x8000 0x27 [3] s
/-- FORGET (R353): drive command 4. -/
def execForget (dt : Nat) (m : Master) (s : State) :=
  askWrite dt m 0x8000 0x27 [4] s
/-- QUERY (R366). -/
def execQuery (dt : Nat) (m : Master) (kind flags : Byte) (src : BitVec 16) (from_ to_ : BitVec 64) (s : State) :=
  askWrite dt m 0x8000 0x30 ([kind, flags] ++ toLE 2 src.toNat ++ zeros 4 ++ toLE 8 from_.toNat ++ toLE 8 to_.toNat) s
/-- SLEEP (R383), of the controller the master has selected. -/
def execSleep (dt : Nat) (m : Master) (s : State) :=
  askWrite dt m 0x3400 0x15 [1] s
/-- WAKE (R383). -/
def execWake (dt : Nat) (m : Master) (s : State) :=
  askWrite dt m 0x3400 0x15 [2] s
/-- RECOVER (R376). -/
def execRecover (dt : Nat) (m : Master) (s : State) :=
  askWrite dt m 0x3400 0x1A [1] s
/-- UPDATE_REQUEST (R399). -/
def execUpdateRequest (dt : Nat) (m : Master) (record : BitVec 128) (s : State) :=
  askWrite dt m 0x7400 0x12 (toLE 16 record.toNat) s
/-- RAIL_COMMAND (R393). -/
def execRailCommand (dt : Nat) (m : Master) (s : State) :=
  askWrite dt m 0x7400 0x1E [1] s
/-- CLEAR_LATCH (R416). -/
def execClearLatch (dt : Nat) (m : Master) (val : Byte) (s : State) :=
  askWrite dt m 0x2200 0x0A [val] s
/-- RAISE (R424). -/
def execRaise (dt : Nat) (m : Master) (data : BitVec 64) (s : State) :=
  askWrite dt m 0x2200 0x0C (toLE 8 data.toNat) s
/-- CLEAR_NODE_CAPTURE (R421). -/
def execClearNodeCapture (dt : Nat) (m : Master) (val : Byte) (s : State) :=
  askWrite dt m 0x2200 0x12 [val] s
/-- CLEAR_VAT_CAPTURE (R421). -/
def execClearVatCapture (dt : Nat) (m : Master) (val : Byte) (s : State) :=
  askWrite dt m 0x2200 0x30 [val] s
/-- ISOLATION_RELEASE (R419). -/
def execIsolationRelease (dt : Nat) (m : Master) (src : BitVec 16) (s : State) :=
  askWrite dt m 0x2200 0x13 (toLE 2 src.toNat) s
/-- KIND_RULE_WRITE (R414), of the kind the master has selected. -/
def execKindRuleWrite (dt : Nat) (m : Master) (rule : BitVec 64) (s : State) :=
  askWrite dt m 0x2200 0x02 (toLE 8 rule.toNat) s
/-- OVERRIDE_COUNT_WRITE (R414). -/
def execOverrideCountWrite (dt : Nat) (m : Master) (count : BitVec 16) (s : State) :=
  askWrite dt m 0x2200 0x04 (toLE 2 count.toNat) s
/-- EXTEND (R437). -/
def execExtend (dt : Nat) (m : Master) (data : List Byte) (s : State) :=
  askWrite dt m 0x2300 0x05 data s
/-- QUOTE_REQUEST (R438). -/
def execQuoteRequest (dt : Nat) (m : Master) (data : List Byte) (s : State) :=
  askWrite dt m 0x2300 0x02 data s
/-- TAG_PAGE_WRITE (R444), of the page the master has selected. -/
def execTagPageWrite (dt : Nat) (m : Master) (data : List Byte) (s : State) :=
  askWrite dt m 0x3700 0x02 data s

/-- OD_READ (R76). -/
def execOdRead (dt : Nat) (m : Master) (idx : BitVec 16) (sub : Byte) (s : State) := askRead dt m idx.toNat sub.toNat s
/-- RECEIVE (R267): a read of an FSK receive object. -/
def execReceive (dt : Nat) (m : Master) (n : Fin 16) (s : State) := askRead dt m (fskIdx n) 0x02 s
/-- OD_INFORMATION (R77). -/
def execOdInformation (dt : Nat) (m : Master) (idx : BitVec 16) (sub : Byte) (s : State) :=
  actDone dt s fun n => n.when (n.asks m) fun n => n.serveInfo m .direct idx.toNat sub.toNat
/-- DATA_PORT_BURST (R94, R95, R98): a .04 access, of `data` for a write; `busy`: the target is locked or its data is
not there yet. -/
def execDataPortBurst (dt : Nat) (m : Master) (p : Fin 16) (data : Option (List Byte)) (busy : Bool) (s : State) :=
  actDone dt s fun n => n.when (n.asks m) fun n =>
    match data with
    | some bs => n.serveWrite m .direct (portIdx p) 0x04 bs busy
    | none => n.serveRead m .direct (portIdx p) 0x04 busy
/-- COUNTER_CLEAR (R253): a write of a point's occurrence or standing-time counter. -/
def execCounterClear (dt : Nat) (m : Master) (pt : Fin 16384) (standing : Bool) (value : BitVec 64) (s : State) :=
  askSelected dt m 0x6100 0x01 2 pt (if standing then 0x28 else 0x27) (toLE (if standing then 8 else 4) value.toNat) s
/-- POINT_CONFIG_WRITE (R222). -/
def execPointConfigWrite (dt : Nat) (m : Master) (pt : Fin 16384) (sub : Byte) (data : List Byte) (s : State) :=
  askSelected dt m 0x6100 0x01 2 pt sub.toNat data s
/-- GROUP_RELEASE (R272). -/
def execGroupRelease (dt : Nat) (m : Master) (g : Fin 3) (val : Byte) (s : State) :=
  askSelected dt m 0x7100 0x20 1 g 0x22 [val] s
/-- ANNUNCIATOR_RELEASE (R271): a write of 0x7100.10. -/
def execAnnunciatorRelease (dt : Nat) (m : Master) (a : Fin 24) (val : BitVec 16) (s : State) :=
  askSelected dt m 0x7100 0x01 1 a 0x10 (toLE 2 val.toNat) s

end Sys2Proof.Machine
end

