-- ==== Sys2Proof/Machine/Engines.lean ====
section
/-!
DEFINITION. Machine/Engines.lean: the queue engines (R117, R119 to R123): grants, what the engine of each type does with a
descriptor, and delivery.
-/
namespace Sys2Proof.Machine

/-! ## Grants (R123) -/

/-- A submission descriptor (Table 5-8) as the engine fetched it. -/
structure Desc where
  op : Nat
  flags : Nat
  tag : Nat
  addr : Nat
  len : Nat
  param : Nat
  aux : Nat
deriving DecidableEq, Repr

/-- The descriptor of queue `q` of vat `v` at position `pos`. -/
def Node.fetchDesc (n : Node) (mem : List Host.Cell) (v q pos : Nat) : Desc :=
  let b := memReads mem (vatAddr v (n.descAddr q pos)) 32
  { op := fieldLE b 0 1, flags := fieldLE b 1 1, tag := fieldLE b 4 4, addr := fieldLE b 8 8, len := fieldLE b 16 4,
    param := fieldLE b 20 4, aux := fieldLE b 24 8 }

/-- R123: RUNNING with work. A CAN send waits for a free transmit buffer (R380); the keeper takes nothing while it is in
reset (R42). -/
def Node.queueReady (n : Node) (mem : List Host.Cell) (v q : Nat) : Bool :=
  let t := n.oi q 0x9100 0x03
  let x := n.queue q
  n.oi q 0x9100 0x0B == 1 &&
  (if isSubmission t then
    x.fetched != n.pi q
      && (t != 5 || n.keeperUp)
      && (t != 3 || n.canRoom (bits (n.oi q 0x9100 0x0F) 25 24) (n.fetchDesc mem v q x.fetched).op)
  else x.wait != [] && decide (occupancy (n.pi q) (n.ci q) < n.depth q))

/-- The ready queues of vat `v` on the engine of a type. -/
def Node.readyOf (n : Node) (mem : List Host.Cell) (type v : Nat) : List Nat :=
  (n.queuesOfVat v).filter (fun q => n.oi q 0x9100 0x03 == type && n.queueReady mem v q)

/-- The first of `qs` at or after place `at_` of a block of `count` queues from `first`, wrapping. -/
def firstFrom (first count at_ : Nat) (qs : List Nat) : Nat :=
  let dist := fun q => (q - first + count - at_) % count
  match qs with
  | [] => 0
  | q :: rest => rest.foldl (fun a b => if dist b < dist a then b else a) q

/-- R123: the vat and the queue that the next grant goes to. -/
def Node.nextGrant (n : Node) (mem : List Host.Cell) (type : Nat) : Option (Nat × Nat) :=
  let vp := mapGet n.eng.vp type 0
  match ((List.range 16).map (fun i => (vp + i) % 16)).find? (fun v => n.readyOf mem type v != []) with
  | none => none
  | some v => some (v, firstFrom (n.vat v).firstQ (n.vat v).countQ (mapGet n.eng.qp (16 * type + v) 0) (n.readyOf mem type v))

/-- Both pointers advance on a grant. -/
def Node.granted (n : Node) (type v q : Nat) : Node :=
  let x := n.vat v
  { n with eng := { n.eng with
    vp := mapPut n.eng.vp type ((v + 1) % 16)
    qp := mapPut n.eng.qp (16 * type + v) ((q - x.firstQ + 1) % x.countQ) } }

/-! ## What the engines do (R119, R120, R313, R365, R380) -/

/-- Does the engine find every byte of a buffer inside the allotment? Otherwise the message of R119, at the first
byte outside, and STATUS 0x0606. `access` is 0 where it reads the buffer, 1 where it writes it. -/
def Node.engineBuffer (n : Node) (v q pos access : Nat) (d : Desc) (f : Node → Node) : Node :=
  if d.len = 0 ∨ n.inAllot v d.addr d.len then f n
  else
    let a := if n.inAllot v d.addr 1 then 0x80000000 + (n.vat v).allotMiB * 2 ^ 20 else d.addr
    (n.accessFault v a access 2 (n.oi q 0x9100 0x03)).complete { q := q, pos := pos, status := 0x0606 }

/-- The bytes at ADDR. -/
def bufferOf (mem : List Host.Cell) (v : Nat) (d : Desc) : List Byte := memReads mem (vatAddr v d.addr) d.len

/-- An OD service descriptor (R119, Table 5-9): one request of the vat. A length no value has is refused as one. -/
def Node.odService (n : Node) (mem : List Host.Cell) (v : Fin 16) (q pos : Nat) (d : Desc) (busy : Bool) : Node :=
  let m := Master.vat v
  let idx := bits d.param 23 8
  let sub := bits d.param 7 0
  let done := fun (n : Node) (code : Nat) (len : Option Nat) (data : List Byte) =>
    n.complete { q := q, pos := pos, status := code, len := len, data := data }
  if d.op = 0 ∨ 3 < d.op ∨ bits d.flags 7 3 ≠ 0 ∨ bits d.param 31 24 ≠ 0 ∨ d.aux ≠ 0 then done n 0x0606 none []
  else n.engineBuffer v q pos (if d.op = 2 then 0 else 1) d fun n =>
    if d.op = 2 then
      n.serveWrite m (.od q pos) idx sub (if d.len ≤ 1408 then bufferOf mem v d else zeros 1409) busy
    else if d.op = 1 then
      let r := n.readOne m idx sub busy
      if r.1 = 0 ∧ d.len < r.2.1.length then done n 0x0607 none []
      else if r.1 = 0 then done r.2.2 0 (some r.2.1.length) r.2.1
      else done r.2.2 r.1 none []
    else
      let r := n.information m idx sub
      if r.1 = 0 ∧ d.len < r.2.length then done n 0x0607 none [] else done n r.1 none r.2

/-- R120: the code of a point write. -/
def Node.pointWriteCode (n : Node) (v : Nat) (d : Desc) : Nat :=
  let p := bits d.param 13 0
  let q := bits d.param 19 16
  if n.limit ≤ p then 0x0601
  else firstFail [failIf (n.oi p 0x6100 0x15 != v) 0x0604, failIf (n.oi p 0x6100 0x03 != 8) 0x0603,
    failIf (d.op != 1 || bits d.flags 7 3 != 0 || d.len != 0 || bits d.param 31 20 != 0 || bits d.param 15 14 != 0
      || bits d.aux 63 32 != 0 || !([0, 1, 2, 6].contains q) || nan32 (bits d.aux 31 0)) 0x0606,
    failIf (d.addr == 0 && !n.copyValid (isleVat v)) 0x0608]

/-- A point write: its value crosses into the frame island. -/
def Node.pointWrite (n : Node) (v q pos : Nat) (d : Desc) : Node :=
  let code := n.pointWriteCode v d
  let n := n.complete { q := q, pos := pos, status := code }
  if code ≠ 0 then n
  else n.toFrame 8 (bits d.param 13 0)
    { value := bits d.aux 31 0, q := bits d.param 19 16, time := if d.addr = 0 then n.copy (isleVat v) else d.addr }

/-- R313: the code of a vat frame. None leaves the node in BOOT (Table 10-12, R24). -/
def Node.ringSendCode (n : Node) (q : Nat) (d : Desc) : Nat :=
  let b := n.oi q 0x9100 0x0F
  let type := bits d.param 7 0
  if d.op ≠ 1 ∨ bits d.flags 7 3 ≠ 0 ∨ d.len = 0 ∨ 1420 < d.len ∨ bits d.param 31 16 ≠ 0 ∨ d.aux ≠ 0
      ∨ type < bits b 7 0 ∨ bits b 15 8 < type ∨ bits d.param 15 8 = 255 then 0x0606
  else if n.curMode = 2 then 0x0605
  else failIf (!([0, 1].any (fun p => n.portUp p || n.portState p == 1))) 0x0608

/-- R305: the address of a frame to one identity: the one that the identity was last taken from, and the address to
all where none is known. -/
def Node.macOf (n : Node) (ident : Nat) : List Byte :=
  match n.ring.idents.find? (fun e => e.1 == ident && ident != 0) with
  | some (_, x) => toBE 6 x.mac
  | none => macAll

/-- A vat frame is handed to the ports. -/
def Node.ringTransmit (n : Node) (mem : List Host.Cell) (v q pos : Nat) (d : Desc) : Node :=
  n.engineBuffer v q pos 0 d fun n =>
    let code := n.ringSendCode q d
    let n := n.complete { q := q, pos := pos, status := code }
    if code ≠ 0 then n
    else
      let seq := mapGet n.ring.vatSeqs q 0
      let dst := bits d.param 15 8
      let n := { n with ring := { n.ring with vatSeqs := mapPut n.ring.vatSeqs q ((seq + 1) % 2 ^ 32) } }
      n.sendWoadTo (n.macOf dst) { type := bits d.param 7 0, dst := dst, seq := seq, body := bufferOf mem v d }

/-- R380, R381: a CAN transmit descriptor. -/
def Node.canTransmit (n : Node) (mem : List Host.Cell) (v q pos : Nat) (d : Desc) (begun : Bool) : Node :=
  if bits d.flags 7 3 ≠ 0 ∨ d.op = 0 ∨ 2 < d.op then n.complete { q := q, pos := pos, status := 0x0606 }
  else if d.op = 2 then n.canFetchCancel q pos d.aux begun
  else n.engineBuffer v q pos 0 d fun n =>
    n.canFetchSend q pos d.tag d.len d.param d.aux (if d.len ≤ 64 then bufferOf mem v d else [])

/-- R365: an archive read begins; its result is that of its fetch. -/
def Node.archiveRead (n : Node) (v q pos : Nat) (d : Desc) : Node :=
  n.engineBuffer v q pos 1 d fun n =>
    let kind := bits d.param 31 28
    let code := if d.op ≠ 1 ∨ bits d.flags 7 3 ≠ 0 ∨ d.len % 16 ≠ 0 ∨ d.len < 69632 ∨ kind = 0 ∨ 7 < kind then 0x0606
      else failIf (n.curMode == 2) 0x0605
    if code ≠ 0 then n.complete { q := q, pos := pos, status := code }
    else
      let r := n.readResult (bit (n.oi q 0x9100 0x0F) 0) kind (bits d.param 15 0) d.aux (bits d.param 27 16) d.len
      { n with sep := { n.sep with reads := n.sep.reads ++ [{ q := q, pos := pos, addr := d.addr, result := r }] } }

/-- The records of the queue's oldest archive read are in its buffer. -/
def Node.archiveReadDone (n : Node) (q : Nat) : Node :=
  match n.sep.reads.find? (fun (j : ReadJob) => j.q == q) with
  | some j => ({ n with sep := { n.sep with reads := n.sep.reads.erase j } }).complete { q := q, pos := j.pos, status := 0, data := j.result }
  | none => n

/-- A submission descriptor is fetched, and its engine acts on it. -/
def Node.submit (n : Node) (mem : List Host.Cell) (v : Fin 16) (q : Nat) (busy : Bool) : Node :=
  let x := n.queue q
  let pos := x.fetched
  let d := n.fetchDesc mem v q pos
  let n := n.setQueue q { x with fetched := (pos + 1) % 2 ^ 32, inFlight := x.inFlight ++ [pos] }
  let t := n.oi q 0x9100 0x03
  if t = 1 then n.ringTransmit mem v q pos d
  else if t = 3 then n.canTransmit mem v q pos d busy
  else if t = 5 then n.odService mem v q pos d busy
  else if t = 6 then n.archiveRead v q pos d
  else n.pointWrite v q pos d

/-- R121: a descriptor is delivered whole, with its data slot; the index moves, and the queue's source is raised. -/
def Node.deliverHead (n : Node) (v q : Nat) : Node × List (Nat × Byte) :=
  let x := n.queue q
  match x.wait with
  | [] => (n, [])
  | e :: rest =>
    let i := n.pi q
    let slot := n.oi q 0x9100 0x07
    let next := (i + 1) % 2 ^ 32
    let ws := n.guarded v (n.oi q 0x9100 0x08 + slot * (i % n.depth q)) (if slot = 0 then [] else e.data.take slot)
      ++ n.guarded v (n.descAddr q i) (padTo 32 e.desc) ++ n.writeBack q next
    (((n.setQueue q { x with wait := rest }).setI q 0x9100 0x0C next).irq v (n.oi q 0x9100 0x09), ws)

/-- R123: one grant of the engine of a type. -/
def Node.grant (n : Node) (mem : List Host.Cell) (type : Nat) (busy : Bool) : Node × List (Nat × Byte) :=
  match n.nextGrant mem type with
  | none => (n, [])
  | some (v, q) =>
    let n := n.granted type v q
    if isSubmission type then (n.submit mem (BitVec.ofNat 4 v).toFin q busy, []) else n.deliverHead v q

/-! ## Commands -/

/-- ENGINE_GRANT (R123): the engine is that of a queue type. `busy`: of a data-port burst, the target is locked or its
data not there yet; of a CAN cancel, an attempt of its send has begun on the bus. -/
def execEngineGrant (dt : Nat) (engine : Fin 10) (busy : Bool) (s : State) : Host.Outcome State Fault Refusal :=
  let n := s.node.begin dt
  let r := if n.up then n.grant s.vmem engine busy else (n, [])
  .next (settle { s with node := r.1, vmem := memWriteAll s.vmem r.2 })

/-- ARCHIVE_READ_DONE (R365). -/
def execArchiveReadDone (dt : Nat) (q : Fin 8192) (s : State) := actDone dt s fun n => n.whenUp fun n => n.archiveReadDone q

end Sys2Proof.Machine
end

