-- ==== Sys2Proof/Machine/Frame.lean ====
section
/-!
DEFINITION. Machine/Frame.lean: an evaluation frame (R212 to R215, R467): its close, the order of its work, the delivery
of its records, the Close message of an owner (R331), and the expiries that fall due between closes.
-/
namespace Sys2Proof.Machine

/-! ## Missed frames (R215) -/

/-- The frames missed are added to every count of a point that was running. -/
def Node.pointCatchUp (n : Node) (k p : Nat) (s : PointSt) : PointSt :=
  let stopped := n.po p 0x03 == 3 && n.crankState (n.po p 0x04 / 256) == 1
  { s with
    age := if s.aged && !stopped then min (s.age + k) 0xFFFFFFFF else s.age
    runOn := if 0 < s.runOn then s.runOn + k else 0
    runOff := if 0 < s.runOff then s.runOff + k else 0
    rel := if 0 < s.rel then s.rel + k else 0
    shelve := s.shelve.map (· - k)
    rateCount := if s.rateRun then s.rateCount + k else s.rateCount }

def Node.catchUp (n : Node) : Node :=
  let k := n.frame.missed
  if k = 0 then n else
  let n := { n with points := n.points.map (fun (e : Nat × PointSt) => (e.1, n.pointCatchUp k e.1 e.2)) }
  let n := (List.range 8).foldl (fun (n : Node) a => n.setArea a (areaTick k (n.area a))) n
  { n with frame := { n.frame with missed := 0 } }

/-! ## The work of a frame (R213) -/

/-- Restarts, scheduled actions, commands, points, groups, areas and calls, from the closed buffer. -/
def Node.evaluate (n : Node) (tk : Nat) (closed firsts : List (Nat × Reading)) : Node :=
  let n := n.catchUp
  let f : FrameIn := { closed := closed, firsts := firsts, prev := n.points, tk := tk }
  let n := ((n.points.filter (fun (e : Nat × PointSt) => e.2.restart)).map (·.1)).foldl (fun (n : Node) p => n.restartPoint p tk) n
  let n := (n.areasTick.runSchedule tk).runOps tk
  let n := n.pointsInUse.foldl (fun (n : Node) p => n.evalPoint f p) n
  let n := n.groupsInUse.foldl (fun (n : Node) g => n.groupStep tk g) n
  ({ n with frame := { n.frame with entries := [], remoteIn := [] } }).areasStep tk

/-! ## Delivery (R214, R230 to R232, R309) -/

/-- Table 8-5. -/
def Node.recBytes (n : Node) (num : Nat) (overran : Bool) (r : Rec) : List Byte :=
  toLE 2 r.point ++ toLE 1 n.ident ++ toLE 1 r.state ++ toLE 1 r.prio ++ toLE 1 r.qf ++ toLE 2 (r.detail + 256 * b2n overran)
    ++ toLE 8 r.time ++ toLE 4 r.value ++ toLE 4 num ++ toLE 6 (n.archPointer r.time) ++ zeros 2

/-- R231: ascending POINT, system records last. -/
def insertRecord (r : Rec) : List Rec → List Rec
  | [] => [r]
  | x :: xs => if r.point ≤ x.point then r :: x :: xs else x :: insertRecord r xs

/-- R232: does a queue with binding `b` take the record? The area and priority masks hold for system records too. -/
def Node.recFor (n : Node) (q b : Nat) (r : Rec) : Bool :=
  bit b (16 + r.area) && bit b r.prio && (if 0x8000 ≤ r.point then bit b 30 else !bit b 31 || r.owner == n.queueOwner q)

/-- One record: the archive, the alarm event streams. -/
def Node.deliverRec (n : Node) (num tk : Nat) (r : Rec) : Node :=
  let n := (n.incWrapI 64 0 0x6000 0x06 1).archive 5 0 tk [] (n.recBytes num false r)
  (n.queuesOf 7).foldl (fun n q =>
    if n.recFor q (n.oi q 0x9100 0x0F) r then
      let before := n.oi q 0x9100 0x0E
      let n := n.deliver q { desc := n.recBytes num (n.queue q).dropped r }
      if n.oi q 0x9100 0x0E = before then n.setQueue q { n.queue q with dropped := false } else n
    else n) n

/-- Frames handed to the ports in order. -/
def Node.sendAll (n : Node) (fs : List WoadOut) : Node := fs.foldl (fun n f => n.sendWoad f) n

/-- R312: records of BOOT that wait go first, once they may be sent and a port is UP; a standby in gap mode HOLD never
sends them. -/
def Node.flushHeld (n : Node) : Node :=
  if n.frame.held = [] then n
  else if n.actingMode = 5 ∧ n.o 0x2400 0x04 = 0 then { n with frame := { n.frame with held := [] } }
  else if n.mayPublish && n.ringUp then ({ n with frame := { n.frame with held := [] } }).sendAll n.frame.held
  else n

/-- The call messages that wait (Table 10-12). -/
def Node.sendCalls (n : Node) : Node :=
  let cs := n.frame.calls
  let n := { n with frame := { n.frame with calls := [] } }
  if n.mayCall then cs.foldl (fun n c => n.sendWoad { type := 5, seq := c.1, body := c.2 }) n else n

/-- The frame's records are delivered: archive, vat queues, and the ring's alarm events, which are answered. -/
def Node.deliverRecs (n : Node) (num tk : Nat) : List WoadOut × Node :=
  let recs := n.frame.recs.foldr insertRecord []
  let n := { n with frame := { n.frame with recs := [] } }
  let evs := eventFrames (num % 2 ^ 32) (recs.map (n.recBytes num false))
  let n := recs.foldl (fun n r => n.deliverRec num tk r) n
  (evs, if 1024 < recs.length then n.incSat 0x6000 0x0C else n)

/-- The frame's alarm events and publication go to the ports, wait for the end of BOOT, or are kept for a takeover
(R312, R337). -/
def Node.sendFrame (n : Node) (num : Nat) (evs pubs : List WoadOut) : Node :=
  let n := n.flushHeld
  let n := if n.curMode = 2 then { n with frame := { n.frame with held := n.frame.held ++ evs } }
    else if n.mayPublish then n.sendAll (evs ++ pubs) else n
  if n.actingMode = 5 then n.setTwin fun t => { t with unsent := t.unsent ++ [(num, evs ++ pubs)] }
  else n.setTwin fun t => { t with sent := num, unsent := [] }

/-- R308: the publication of a close that is due. Nothing counts as published in BOOT. -/
def Node.publish (n : Node) (tk : Nat) : List WoadOut × Node :=
  if n.pubDue tk then
    let r := n.publication tk
    if n.curMode = 2 then ([], { r.2 with points := r.2.points.map (fun (e : Nat × PointSt) => (e.1, { e.2 with sent := none })) }) else r
  else ([], n)

/-! ## The owner's side of the mirror (R331, R335) -/

/-- Table 11-3: the demands and set-points of the owner. -/
def Node.controlWord (n : Node) : Nat := (List.range 24).foldl (fun w b => w + b2n (n.an b 0x04 != 0) * 2 ^ b) 0
def Node.setpoints (n : Node) : List Byte := ((List.range 16).map (fun i => toLE 2 (n.lo i 0x03))).flatten

/-- Close continuations: 170 commands each (Table 11-2). -/
def Node.sendContinuations (n : Node) (num first : Nat) (parts : List (List (List Byte))) : Node :=
  match parts with
  | [] => n
  | c :: cs =>
    (n.twinSend 0x08 (toLE 8 num ++ toLE 2 first ++ toLE 2 c.length ++ zeros 4 ++ c.flatten)).sendContinuations num (first + c.length) cs

/-- The Close message of frame `num`, with the commands since the close before. -/
def Node.sendClose (n : Node) (num tk : Nat) : Node :=
  let cmds := n.twin.cmds
  let n := n.setTwin fun t => { t with cmds := [] }
  if n.twin.own && n.linkUp then
    let body := toLE 8 num ++ toLE 8 tk ++ toLE 8 n.twin.sent ++ toLE 1 n.curMode ++ zeros 1 ++ toLE 2 cmds.length
      ++ toLE 4 n.controlWord ++ n.setpoints ++ (cmds.take 168).flatten
    (n.twinSend 0x03 body).sendContinuations num 168 (chunks 170 cmds.length (cmds.drop 168))
  else n

/-- R335: at the end of a frame the owner sends a state image to a standby that is not in sync: one per transfer, or
again after the 200 ms in which a transfer ends. -/
def Node.sendImage (n : Node) : Node :=
  let due := !n.twin.imageSent || decide (n.twin.imageAt + ms 200 ≤ n.now)
  if n.twin.own && n.linkUp && !n.twin.silent && n.twin.peerMode == 5 && !bit (n.o 0x2400 0x08) 3 && due then
    (n.setTwin fun t => { t with imageSent := true, imageAt := n.now }).emit (.stateImage n.frame.num)
  else n

/-! ## The close -/

/-- Frame `num`, whose buffer closed at `tk`: evaluated in the mode in force before `tk` (R467), delivered; then what
the boundary applies. The time that evaluation takes is open within R213's bound. -/
def Node.frameDo (n : Node) (num tk : Nat) (closed firsts : List (Nat × Reading)) : Node :=
  let n := { n with frame := { n.frame with num := num, started := true, lastClose := tk, lastAt := n.now, stepped := false } }
  let n := n.evaluate tk closed firsts
  let (t, n) := n.draw
  let t := t % (n.framePeriod - 19999)
  let n := (n.set 0x6000 0x04 t).set 0x6000 0x05 (max t (n.o 0x6000 0x05))
  let (evs, n) := n.deliverRecs num tk
  let (pubs, n) := n.publish tk
  let n := (n.sendCalls.sendFrame num evs pubs).modeBoundary num
  let n := if n.twin.own then n.canToActive else n
  (n.shaftFrame.loopsFrame.repeatFrame.annFrame tk).sendImage

/-- R215: a close falls due while the time copy is invalid. -/
def Node.missClose (n : Node) : Node :=
  let n := n.incSat 0x6000 0x0E
  { n with frame := { n.frame with
    missed := n.frame.missed + 1
    num := if n.frame.started then (n.frame.num + 1) % 2 ^ 64 else n.frame.num
    lastClose := if n.frame.started then n.nextClose else n.frame.lastClose
    lastAt := n.now
    stepped := false } }

/-- Is this node the taker of an agreed handover that acts at the close of frame `num`? -/
def Node.takesAt (n : Node) (num : Nat) : Bool :=
  match n.twin.agreed with
  | some h => h.taker && h.acked && decide (h.close ≤ num)
  | none => false

/-- The node's own close (R212, R213). A node that mirrors closes its frames by the owner's messages (R331), but for the
close at which it takes over under R340. -/
def Node.ownClose (n : Node) : Node :=
  if !n.copyValid isleFrame then (if n.frame.lastAt + n.framePeriod ≤ n.now then n.missClose else n)
  else
    let p := n.framePeriod
    let tk := if n.frame.started then n.nextClose else n.copy isleFrame / p * p
    let num := if n.frame.started then (n.frame.num + 1) % 2 ^ 64 else tk / p
    if n.copy isleFrame < tk then n
    else if n.mirrors && !n.takesAt num then n
    else
      let n := n.handoverClose num
      if n.mirrors then n
      else
        let n := n.sendClose num tk
        ({ n with input := [], inputFirst := [] }).frameDo num tk n.input n.inputFirst

/-! ## Expiries between closes: what the close does for one point, group or area, with its records -/

/-- Groups and calls follow, and the records go out. Nothing is evaluated in a node that mirrors, nor while the time
copy is invalid. -/
def Node.between (n : Node) (f : Node → Node) : Node :=
  if n.mirrors || !n.copyValid isleFrame || !n.frame.started then n else
  let tk := n.copy isleFrame
  let n := f n
  let n := n.groupsInUse.foldl (fun (n : Node) g => n.groupStep tk g) n
  let n := { n with frame := { n.frame with entries := [], remoteIn := [] } }
  let n := if n.callsRun then (n.raisersOf n.frame.recs).foldl (fun (n : Node) e => n.raiseCall tk e.1 e.2) n else n
  let n := if n.callsRun then (List.range 8).foldl (fun (n : Node) a => n.callEnd a tk) n else n
  let (evs, n) := n.deliverRecs n.frame.num tk
  let n := n.sendCalls.flushHeld
  let n := if n.curMode = 2 then { n with frame := { n.frame with held := n.frame.held ++ evs } }
    else if n.mayPublish then n.sendAll evs else n
  n.annFrame tk

/-! ## Commands -/

/-- FRAME_CLOSE (R213). -/
def execFrameClose (dt : Nat) (s : State) := actDone dt s fun n => n.whenUp Node.ownClose
/-- ON_DELAY_EXPIRY (R224). -/
def execOnDelayExpiry (dt : Nat) (pt : Fin 16384) (s : State) := act dt s fun n => n.whenUp fun n => n.between fun n => n.onDelayExpiry pt
/-- OFF_DELAY_EXPIRY (R224). -/
def execOffDelayExpiry (dt : Nat) (pt : Fin 16384) (s : State) := act dt s fun n => n.whenUp fun n => n.between fun n => n.offDelayExpiry pt
/-- SUPPRESSION_RELEASE (R225). -/
def execSuppressionRelease (dt : Nat) (pt : Fin 16384) (s : State) := act dt s fun n => n.whenUp fun n =>
  n.between fun n => n.suppressionRelease pt
/-- STALE (R217). -/
def execStale (dt : Nat) (pt : Fin 16384) (s : State) := act dt s fun n => n.whenUp fun n => n.between fun n => n.staleExpiry pt
/-- RATE_WINDOW_END (R221). -/
def execRateWindowEnd (dt : Nat) (pt : Fin 16384) (s : State) := act dt s fun n => n.whenUp fun n => n.between fun n => n.rateWindowEnd pt
/-- SHELVE_EXPIRY (R226). -/
def execShelveExpiry (dt : Nat) (pt : Fin 16384) (s : State) := act dt s fun n => n.whenUp fun n => n.between fun n => n.shelveExpiry pt
/-- FIRST_OUT_WINDOW_END (R234). -/
def execFirstOutWindowEnd (dt : Nat) (g : Fin 1024) (s : State) := act dt s fun n => n.whenUp fun n => n.between fun n => n.firstOutEnd g
/-- CALL_ESCALATION (R248). -/
def execCallEscalation (dt : Nat) (a : Fin 8) (s : State) := act dt s fun n => n.whenUp fun n => n.between fun n =>
  if n.callsRun then n.escalate a (n.copy isleFrame) n.timerDue else n
/-- ANSWER_TIMEOUT (R248). -/
def execAnswerTimeout (dt : Nat) (a : Fin 8) (s : State) := act dt s fun n => n.whenUp fun n => n.between fun n =>
  if n.callsRun then n.answerTimeout a (n.copy isleFrame) n.timerDue else n
/-- TRANSFER_TIMEOUT (R239). -/
def execTransferTimeout (dt : Nat) (a : Fin 8) (s : State) := act dt s fun n => n.whenUp fun n =>
  n.between fun n => n.transferTimeout a n.timerDue
/-- ES_PREWARN (R251). -/
def execEsPrewarn (dt : Nat) (a : Fin 8) (s : State) := act dt s fun n => n.whenUp fun n =>
  n.between fun n => n.esPrewarn a (n.copy isleFrame) n.timerDue
/-- ES_EXPIRED (R251). -/
def execEsExpired (dt : Nat) (a : Fin 8) (s : State) := act dt s fun n => n.whenUp fun n =>
  n.between fun n => n.esExpired a (n.copy isleFrame) n.timerDue
/-- CALL_MESSAGE_REPEAT (R248). -/
def execCallMessageRepeat (dt : Nat) (a : Fin 8) (s : State) := act dt s fun n => n.whenUp fun n => n.between fun n =>
  if n.callsRun then n.callRepeat a else n
/-- REMOTE_STALE (R240). -/
def execRemoteStale (dt : Nat) (a : Fin 8) (s : State) := act dt s fun n => n.whenUp fun n => n.between fun n => n.remoteStale a

end Sys2Proof.Machine
end

