-- ==== Sys2Proof/Machine/Power.lean ====
section
/-!
DEFINITION. Machine/Power.lean: line power and the KEEP domain (R25 to R40, R448), start-up (Table 2-8, R430, R433), line
loss (Table 2-9), and NRESET_IN with the release of a node reset (Table 2-12).
-/
namespace Sys2Proof.Machine

/-! ## The line inputs (R26, R27, R33, R448) -/

def Node.setPwr (n : Node) (f : PowerSt → PowerSt) : Node := { n with pwr := f n.pwr }
def Node.lineIn (n : Node) (i : LineInput) : LineIn := match i with | .east => n.pwr.east | .west => n.pwr.west
def Node.setLineIn (n : Node) (i : LineInput) (x : LineIn) : Node := n.setPwr fun p =>
  match i with
  | .east => { p with east := x }
  | .west => { p with west := x }

/-- Does some input feed? -/
def Node.feeding (n : Node) : Bool := n.pwr.east.fedSince.isSome || n.pwr.west.fedSince.isSome

/-- 0x2000.05. -/
def Node.feedsRefresh (n : Node) : Node :=
  n.set 0x2000 0x05 (b2n n.pwr.east.fedSince.isSome + 2 * b2n n.pwr.west.fedSince.isSome)

/-- R26, R33: an input begins to feed. A gap shorter than 20 µs was a dip, ridden through. -/
def Node.feedStart (n : Node) (i : LineInput) : Node :=
  if (n.lineIn i).fedSince.isSome then n
  else
    let dip := n.up && !n.feeding && decide (n.now < n.pwr.lastFeedEnd + us 20)
    let n := (n.setLineIn i { n.lineIn i with fedSince := some n.now }).feedsRefresh
    n.when dip fun n => n.incSat 0x2000 0x06

/-- R26, R27: an input ceases to feed. Beside one that feeds, the loss is reported. -/
def Node.feedStop (n : Node) (i : LineInput) : Node :=
  if (n.lineIn i).fedSince.isNone then n
  else
    let n := (n.setLineIn i { n.lineIn i with fedSince := none }).feedsRefresh
    if n.feeding then
      (n.when n.up fun n => n.fault 0x000 0x02 (match i with | .east => 1 | .west => 2) 0)
    else n.setPwr fun p => { p with lastFeedEnd := n.now }

/-- R30: an input has fed for 10 ms, and VBULK stands above 40 V. -/
def Node.lineValid (n : Node) (vbulkMv : Nat) : Bool :=
  [n.pwr.east.fedSince, n.pwr.west.fedSince].any (fun t => t.any (fun t => decide (t + ms 10 ≤ n.now))) && decide (40000 < vbulkMv)

/-! ## The KEEP domain (R38 to R40) -/

/-- R40: KEEP memory and the RTC are lost; the RTC starts from 0 with OSF set once it is powered again. -/
def Node.keepLost (n : Node) : Node :=
  let n := (((n.set 0x2000 0x06 0).set 0x2000 0x07 0).set 0x2000 0x08 0).set 0x2000 0x0B 0
  let n := (n.set 0x1200 0x08 0).set 0x1200 0x06 1
  { n with
    rtc := {}
    pwr := { n.pwr with shortDue := false }
    sep := { n.sep with horizonLoss := 0 }
    cin := { n.cin with bootCount := 0, anchorCount := 0, anchor := List.replicate 48 0 } }

/-- Table 2-3: KEEP with a backup source, else OFF. -/
def Node.powerDown (n : Node) : Node :=
  if n.pwr.backup then (n.setPwr fun p => { p with phase := .keep }).set 0x1010 0x01 1
  else ((n.setPwr fun p => { p with phase := .off }).set 0x1010 0x01 0).keepLost

/-! ## Start-up (Table 2-8) -/

/-- What a start finds: the KEEP domain, the flash, the archive on the drives and the tag, the pins, and nothing else
(Table 2-10). KEEP memory holds its objects; 0x2000.09 stands until the next estimate. -/
def Node.wiped (n : Node) : Node :=
  let keep := fun (e : Nat × Nat) => keyIdx e.1 == 0x2000 || e.1 == key 0 0x1200 0x06
  let c := n.cin
  let t := n.twin
  let n := n.sepStart
  let fresh : Node := {
    now := n.now
    out := n.out
    fresh := n.fresh
    od := n.od.filter keep
    pwr := { n.pwr with phase := .on }
    rtc := n.rtc
    store := { n.store with job := none, erasing := none, applied := none }
    cin := { c with loaderFail := false, running := [] }
    tag := { n.tag with fieldHold := none, wiredHold := none }
    sep := n.sep
    ring := { hbAt := n.now, supAt := n.now, thbAt := n.now }
    ptp := { syncAt := n.now, annAt := n.now }
    mains := { since := n.now }
    areas := (List.range 8).map (fun a => (a, { heardAt := n.now }))
    twin := { ownIn := t.ownIn, ownInAt := t.ownInAt, forceIn := t.forceIn, det := t.det, fallTai := t.fallTai,
              lakeAt := n.now, loopAt := n.now, scrubAt := n.now, digestAt := n.now, hbAt := n.now, ringHbAt := n.now } }
  fresh.set 0x8000 0x18 (n.o 0x8000 0x18)

/-- R29: the estimate of C_BULK from the charge from 30 V to 40 V at 1.5 A, in µF; below 2.4 mF it is reported. -/
def Node.bulkEstimate (n : Node) (chargeUs : Nat) : Node :=
  let uF := chargeUs * 15 / 100
  let n := n.setF 0 0x2000 0x09 (ratio (chargeUs * 15) 100000)
  n.when (decide (chargeUs * 15 < 240000)) fun n => n.fault 0x000 0x03 0 uF

/-- R37: a sequence that was cut off is reported at the next start. -/
def Node.shortReport (n : Node) : Node :=
  if n.pwr.shortDue then
    (n.setPwr fun p => { p with shortDue := false }).fault 0x000 0x03 0 (roundNear (n.of32 0 0x2000 0x09 * 1000)).toNat
  else n

/-- R302, R304: identity and Ethertype in force since the start. -/
def Node.ringStart (n : Node) : Node :=
  let id := n.o 0x3000 0x02 + n.pwr.strap
  let n := { n with ring := { n.ring with etype := n.o 0x3000 0x05, opened := true } }
  if id = 0 ∨ 255 ≤ id then (n.set 0x1000 0x06 0).fault 0x0A2 0x52 n.pwr.strap 0
  else (n.set 0x1000 0x06 id).bypassCheck

/-- R433, R443: the tag is measured, and the commission flag is read; it is cleared on the entry to COMMISSION. -/
def Node.tagStart (n : Node) : Node :=
  let n := if n.commissionFlag then
      { n with mode := { n.mode with tagFlag := true, startCause := if n.mode.startCause = 0x20 then 0x12 else n.mode.startCause } }
    else n
  n.measure 21 11 n.tagString []

/-- R110, R131: the allotment of vat `v` with its queues, from pool offset `at_` in MiB. -/
def Node.vatPlace (n : Node) (v at_ : Nat) : Node :=
  n.setVat v { n.vat v with
    enabled := true, allotMiB := n.oi v 0x9000 0x03, base := (8192 + at_) * 2 ^ 20,
    firstQ := n.oi v 0x9000 0x05, countQ := n.oi v 0x9000 0x06 }

/-- R125, R430: vat `v`'s image is copied into its allotment and measured, and the vat is released. -/
def Node.vatLoad (n : Node) (v : Nat) : Node × List (Nat × Byte) :=
  match n.bootSlot (0x10 + v) (n.oi v 0x9000 0x09) with
  | (none, n) => ((n.setVat v { n.vat v with slot := 2 }).setI v 0x9000 0x07 3, [])
  | (some s, n) =>
    let bs := imageBytes (n.slotBytes (0x10 + v) s)
    let n := n.measure (4 + v) 2 bs (imageInfo (0x10 + v) s (imageVersion (n.slotBytes (0x10 + v) s)))
    let n := (n.setCin fun c => { c with running := c.running ++ [slotKey (0x10 + v) s] }).setVat v { n.vat v with slot := s, held := false }
    let n := n.setI v 0x9000 0x07 2
    (if n.causeHolds v 1 then n.irq v 1 else n, n.guarded v 0x80000000 bs)

/-- Every enabled vat, in order: placed, then loaded. -/
def Node.vatsStart (n : Node) : Nat → Nat → Node × List (Nat × Byte)
  | 0, _ => (n, [])
  | k + 1, at_ =>
    let v := 15 - k
    if n.obi v 0x9000 0x02 then
      let r := (n.vatPlace v at_).vatLoad v
      let rest := r.1.vatsStart k (at_ + n.oi v 0x9000 0x03)
      (rest.1, r.2 ++ rest.2)
    else n.vatsStart k at_

/-- What the configuration restored sets up: the frame's period, the areas, lakes and dynamic lakes that are disabled, the
local port, objects that vats declared and that are not kept, and what each block does with its settings. -/
def Node.configure (n : Node) (wakePeriod : Nat) : Node :=
  let n := { n with
    frame := { n.frame with code := n.o 0x6000 0x01 }
    lp := { n.lp with on := n.ob 0x3600 0x01 }
    areas := (List.range 8).map (fun a => (a, { holder := n.oi a 0x6300 0x03, heardAt := n.now })) }
  let n := (List.range 32).foldl (fun n u => n.when (!bit (n.o 0x4800 0x05) u) fun n => n.setUnitState u 6) n
  let n := (List.range 8).foldl (fun n k => n.when (!n.ob (unitIdx (32 + k)) 0x06) fun n => n.setUnitState (32 + k) 6) n
  let n := (List.range 16).foldl (fun n v =>
    (n.declared v).foldl (fun n e => n.when (!e.kept) fun n => n.set e.idx e.sub (declDefault e)) n) n
  let n := (n.od.map (·.1)).foldl (fun n k =>
    if keyIdx k = 0x6100 ∨ keyIdx k = 0x1200 ∨ keyIdx k = 0x3400 then n else n.written (keyIdx k) (keySub k) (keyInst k)) n
  let n := ([0, 1, 2, 3] : List Nat).foldl (fun n d => n.when (n.domI d 0x5400 0x0C != []) fun n => n.crankConfigWritten d) n
  let n := ([0, 1, 2, 3] : List Nat).foldl (fun n c => n.canStart c) n
  let n := n.slotsCheck
  if n.o 0x1200 0x05 = wakePeriod then n else n.setWakePeriod (n.o 0x1200 0x05)

/-- From the keeper's image on (600 ms of Table 2-8): without one the node stays in BOOT (R430). -/
def Node.keeperStart (n : Node) (wakePeriod : Nat) : Node × List (Nat × Byte) :=
  let active := match n.committedBank with
    | some b => mapGet (n.bank b).objs (key 0 0x1040 0x04) 0
    | none => 0
  match n.bootSlot 1 active with
  | (none, n) => (n.setPwr fun p => { p with phase := .boot }, [])
  | (some s, n) =>
    let n := n.measure 1 2 (imageBytes (n.slotBytes 1 s)) (imageInfo 1 s (imageVersion (n.slotBytes 1 s)))
    let n := n.setCin fun c => { c with running := c.running ++ [slotKey 1 s] }
    let r := n.restoreStore
    let n := r.2
    let n := { n with mode := { n.mode with startCause := if r.1 = 0 then 0x20 else r.1, roleDue := true } }
    let n := match n.committedBank with
      | some b => n.measure 2 3 (Config.storeImage (n.bank b).objs (n.bank b).doms) []
      | none => n
    let n := if n.store.stored = [] then n else n.measure 3 4 n.store.stored []
    let n := (n.tagStart).configure wakePeriod
    let n := n.ringStart
    let n := n.setTag fun t => { t with identNode := n.o 0x1000 0x06, identBoot := n.cin.bootCount }
    n.vatsStart 16 0

/-- From the loader on: with neither slot intact the Boot ROM tries again (R430). -/
def Node.loaderStart (n : Node) (wakePeriod : Nat) : Node × List (Nat × Byte) :=
  match n.bootSlot 0 0 with
  | (none, n) => ((n.setCin fun c => { c with loaderFail := true }).setPwr fun p => { p with phase := .boot }, [])
  | (some s, n) =>
    let n := n.setPwr fun p => { p with phase := .on }
    let n := n.measure 0 2 (imageBytes (n.slotBytes 0 s)) (imageInfo 0 s (imageVersion (n.slotBytes 0 s)))
    let n := n.setCin fun c => { c with loaderFail := false, running := [slotKey 0 s] }
    (n.recoverSectors n.pwr.bad).keeperStart wakePeriod

/-- R30, R45: a start with its cause; the stores are those of the vats' images into zeroed DRAM. -/
def Node.startUp (n : Node) (cause : Nat) (su : Startup) : Node × List (Nat × Byte) :=
  let old := n.curMode
  let wakePeriod := n.o 0x1200 0x05
  let n := n.wiped
  let n := (n.setPwr fun p => { p with strap := su.strap, prefStrap := su.prefStrap, bad := su.badSectors.map (·.val), nresetLow := n.pwr.nresetLow }).startTime
  let n := (((n.set 0x1010 0x01 2).set 0x1010 0x03 cause).set 0x1010 0x07 n.tai).feedsRefresh
  let n := (n.fault 0x000 0x01 2 (old * 256 + cause)).emit (.pin 4 true)
  let n := if cause = 0x00 ∨ cause = 0x03 then n.bulkEstimate su.chargeUs else n
  (n.shortReport.cinStart).loaderStart wakePeriod

/-- A command after which a start may follow: the vats' DRAM then holds what the start stores and 0 elsewhere. -/
def actStart (dt : Nat) (s : State) (due : Node → Bool) (f : Node → Node) (start : Node → Node × List (Nat × Byte)) :
    Host.Outcome State Fault Refusal :=
  let n := f (s.node.begin dt)
  if due n then
    let r := start n
    .next (settle { s with node := r.1, vmem := memWriteAll [] r.2 })
  else .next (settle { s with node := n })

/-! ## Line loss (R33 to R37, Table 2-9) -/

/-- Does the node draw from the line: in any state but OFF, KEEP and the sequence itself? -/
def Node.lineOn (n : Node) : Bool := n.up || n.pwr.phase == .inReset || n.pwr.phase == .boot

/-- R34: loss is declared: its time is stored, OWN and the stages drop, the panel is discharged, the vats halt. -/
def Node.lineLoss (n : Node) : Node :=
  if n.lineOn ∧ !n.feeding ∧ n.pwr.lastFeedEnd + us 20 ≤ n.now then
    let n := if n.up then ((n.dropOwn.abortFlights.discharge false).stageDisable).haltVats else n
    (n.set 0x2000 0x08 n.tai).setPwr fun p => { p with phase := .lineLoss, lossAt := p.lastFeedEnd }
  else n

/-- R34, R36: the sequence ends at 18 ms: the staging ring and the journal are written out, controllers and ports stop,
the line-loss record is written. -/
def Node.lossRecord (n : Node) (vbulkMv : Nat) : Node :=
  let valid := n.lineValid vbulkMv
  let n := (n.writeOut.flashCut.canStopAll).portsStop
  (n.incSat 0x2000 0x07).set 0x2000 0x0B (if valid then 3 else 1)

def Node.lossOver (n : Node) : Bool := n.pwr.phase == .lineLoss && decide (n.pwr.lossAt + ms 18 ≤ n.now)

/-- R37: VBULK falls below 24 V first: the node resets at once with result 2; what was not yet on drives is lost. -/
def Node.holdUpShort (n : Node) (vbulkMv : Nat) : Node :=
  if n.pwr.phase = .lineLoss ∧ vbulkMv < 24000 then
    let n := (n.cutOff.flashCut).set 0x2000 0x0B 2
    (n.setPwr fun p => { p with shortDue := true }).powerDown
  else n

/-! ## NRESET_IN (R45, Table 2-12) -/

/-- Is a node reset released now: 18 ms after its origin, and where NRESET_IN is low then, 1 ms after it rises? -/
def Node.releaseDue (n : Node) : Bool :=
  n.pwr.phase == .inReset && !n.pwr.nresetLow && decide (n.pwr.resetOrigin + ms 18 ≤ n.now)
    && (decide (n.pwr.nresetRise ≤ n.pwr.resetOrigin + ms 18) || decide (n.pwr.nresetRise + ms 1 ≤ n.now))

/-! ## Commands -/

/-- BACKUP_SOURCE_RISE (R18): above 1.8 V; from OFF the KEEP domain is powered. -/
def execBackupSourceRise (dt : Nat) (mv : Nat) (s : State) := act dt s fun n => n.when (decide (1800 < mv)) fun n =>
  let n := n.setPwr fun p => { p with backup := true }
  if n.pwr.phase = .off then (n.setPwr fun p => { p with phase := .keep }).set 0x1010 0x01 1 else n
/-- BACKUP_SOURCE_FALL (R18, R40): below 1.6 V; KEEP ends in OFF. -/
def execBackupSourceFall (dt : Nat) (mv : Nat) (s : State) := act dt s fun n => n.when (decide (mv < 1600)) fun n =>
  let n := n.setPwr fun p => { p with backup := false }
  if n.pwr.phase = .keep then n.powerDown else n
/-- LINE_INPUT_FEED_START (R26). -/
def execLineInputFeedStart (dt : Nat) (inp : LineInput) (mv : Nat) (s : State) := act dt s fun n =>
  n.when (decide (40000 < mv) && !(n.lineIn inp).held) fun n => n.feedStart inp
/-- LINE_INPUT_FEED_STOP (R26, R27). -/
def execLineInputFeedStop (dt : Nat) (inp : LineInput) (mv : Nat) (s : State) := act dt s fun n =>
  n.when (decide (mv < 38000)) fun n => n.feedStop inp
/-- OVERVOLTAGE_LOCKOUT_TRIP (R448). -/
def execOvervoltageLockoutTrip (dt : Nat) (inp : LineInput) (mv : Nat) (s : State) := act dt s fun n =>
  n.when (decide (60000 < mv)) fun n =>
    let n := n.feedStop inp
    n.setLineIn inp { n.lineIn inp with held := true }
/-- OVERVOLTAGE_LOCKOUT_RELEASE (R448): the input may feed again, and does above 40 V. -/
def execOvervoltageLockoutRelease (dt : Nat) (inp : LineInput) (mv : Nat) (s : State) := act dt s fun n =>
  n.when ((n.lineIn inp).held && decide (mv < 59000)) fun n =>
    let n := n.setLineIn inp { n.lineIn inp with held := false }
    if 40000 < mv then n.feedStart inp else n
/-- LINE_VALID (R30): from OFF or KEEP. -/
def execLineValid (dt : Nat) (vbulkMv : Nat) (su : Startup) (s : State) :=
  actStart dt s (fun n => (n.pwr.phase == .off || n.pwr.phase == .keep) && n.lineValid vbulkMv) id fun n => n.startUp 0x00 su
/-- LINE_LOSS_DETECTED (R33, R34). -/
def execLineLossDetected (dt : Nat) (s : State) := actDone dt s Node.lineLoss
/-- LINE_LOSS_SEQUENCE_END (R36): with line valid the node starts again with cause 0x03, else KEEP or OFF. -/
def execLineLossSequenceEnd (dt : Nat) (vbulkMv : Nat) (su : Startup) (s : State) :=
  actStart dt s (fun n => n.pwr.phase == .lineLoss && n.lossOver && n.lineValid vbulkMv)
    (fun n => if n.lossOver ∧ !n.lineValid vbulkMv then (n.lossRecord vbulkMv).powerDown else n)
    fun n => (n.lossRecord vbulkMv).startUp 0x03 su
/-- HOLD_UP_SHORT (R37). -/
def execHoldUpShort (dt : Nat) (vbulkMv : Nat) (s : State) := act dt s fun n => n.holdUpShort vbulkMv
/-- NRESET_IN_LOW (R45): low for 1 µs. -/
def execNresetInLow (dt : Nat) (s : State) := actDone dt s fun n =>
  (n.setPwr fun p => { p with nresetLow := true }).nodeReset 0x01
/-- NRESET_IN_HIGH (R45). -/
def execNresetInHigh (dt : Nat) (s : State) := act dt s fun n =>
  n.setPwr fun p => { p with nresetLow := false, nresetRise := n.now }
/-- NODE_RESET_RELEASE (R45): BOOT begins. -/
def execNodeResetRelease (dt : Nat) (su : Startup) (s : State) :=
  actStart dt s Node.releaseDue id fun n => n.startUp n.pwr.resetCause su
/-- LOADER_RETRY (R430): the Boot ROM tries both loader slots again. -/
def execLoaderRetry (dt : Nat) (s : State) :=
  actStart dt s (fun n => n.pwr.phase == .boot && n.cin.loaderFail && (n.slotIntact 0 0 || n.slotIntact 0 1)) id fun n =>
    n.loaderStart (n.o 0x1200 0x05)

end Sys2Proof.Machine
end

