-- ==== Sys2Proof/Machine/RingRx.lean ====
section
/-!
DEFINITION. Machine/RingRx.lean: a frame arrives at a ring port as bytes (R292 to R294, R305), and dictionary requests of
the ring (R307). A PTP message inside a frame is measured by the PTP rows; here it is only forwarded.
-/
namespace Sys2Proof.Machine

/-! ## Dictionary requests (R307) -/

/-- The requester of a frame: none for SRC 0 or 255, which are dropped. -/
def ringMaster (src : Byte) : Option Master :=
  if src = 0 ∨ src = 255 then none else some (.ring ⟨src.toNat, src.isLt⟩)

/-- A request that has been accepted: served under R76, or dropped while the keeper is in reset (R42). -/
def Node.takeRequest (n : Node) (f : WoadIn) : Node :=
  match ringMaster f.src with
  | none => n
  | some m =>
    if n.keeperUp ∧ 12 ≤ f.body.length then
      let via := Via.ring f.mac.toNat (fieldLE f.body 0 4) (fieldLE f.body 4 1)
      let len := fieldLE f.body 10 2
      if f.body.length = 12 + len then
        n.serveReq m via (fieldLE f.body 4 1) (fieldLE f.body 6 2) (fieldLE f.body 8 1) (slice f.body 12 len)
      else n.respond m via 0x0607 []
    else n

/-! ## Frames as bytes -/

/-- The frame's Woad part, from the header on. -/
def woadOf (p ago mac q : Nat) (toAll : Bool) (h : List Byte) : WoadIn := {
  port := if p = 0 then 0 else 1
  mac := BitVec.ofNat 48 mac
  hsrSeq := BitVec.ofNat 16 q
  toAll := toAll
  version := h.getD 0 0
  src := h.getD 2 0
  pub := h.getD 3 0
  dst := h.getD 4 0
  flags := h.getD 5 0
  seq := BitVec.ofNat 32 (fieldLE h 8 4)
  part := BitVec.ofNat 16 (fieldLE h 12 2)
  parts := BitVec.ofNat 16 (fieldLE h 14 2)
  body := slice h 16 (fieldLE h 6 2)
  agoNs := ago }

/-- An accepted Woad frame by its type (Table 10-7). A response, a call message, a heartbeat and a fault frame ask
nothing of this node. -/
def Node.woadTake (n : Node) (type : Nat) (f : WoadIn) : Node :=
  if type = 1 then n.takeRequest f
  else if type = 3 then n.takePublication f
  else if type = 4 then n.takeEvents f
  else if type = 7 then n.takeSnapFrame f
  else if 0x40 ≤ type ∧ type ≤ 0x7F then n.takeVatFrame type f
  else n

/-- A frame with the HSR tag from another node: taken, forwarded, or both (R292, R293). -/
def Node.taggedFrame (n : Node) (p ago dst mac : Nat) (bs : List Byte) : Node :=
  let q := fieldBE bs 16 2
  let etype := fieldBE bs 18 2
  let inner := (bs.take (bs.length - 4)).drop 20
  let group := fieldBE bs 0 1 % 2 == 1
  let n := if etype = 0x88FB ∧ toBE 6 dst = macSup then n.supervision p mac else n
  let (take, forward, n) := n.hsrArrive p mac q
  let n := if forward ∧ dst ≠ ownMac then n.handTo (1 - p) bs else n
  if take ∧ (group ∨ dst = ownMac) ∧ etype = n.ring.etype ∧ 16 ≤ inner.length then
    let type := fieldLE inner 1 1
    let f := woadOf p ago mac q group inner
    if f.body.length ≠ fieldLE inner 6 2 ∨ 1420 < f.body.length then n.discard
    else
      let r := n.woadAccept type f
      if r.1 then r.2.woadTake type f else r.2
  else n

/-- RING_FRAME_RECEIVED: the FCS, the length, the tag, and then R292. -/
def Node.ringFrame (n : Node) (p ago : Nat) (bs : List Byte) : Node :=
  if !n.portUp p then n
  else if bs.length < 18 ∨ crc32 (bs.take (bs.length - 4)) ≠ fieldLE bs (bs.length - 4) 4 then n.incSatI 32 p 0x3000 0x15 1
  else
    let n := n.incWrapI 64 p 0x3000 0x14 1
    let dst := fieldBE bs 0 6
    let mac := fieldBE bs 6 6
    let etype := fieldBE bs 12 2
    if 1528 < bs.length then n.incSat 0x3200 0x03
    else if etype = 0x892F ∧ 24 ≤ bs.length then
      if mac = ownMac then
        let n := n.incWrap 0x3200 0x04
        if fieldBE bs 18 2 = n.ring.etype ∧ fieldLE bs 21 1 = 7 then n.markerBack p (bs.drop 36) else n
      else n.taggedFrame p ago dst mac bs
    else if toBE 6 dst = macTwin ∧ etype = n.ring.etype then
      n.ringHeartbeat p (fieldLE bs 16 1) (slice bs 30 (fieldLE bs 20 2))
    else if dst = 0x0180C200000E then n
    else n.incSat 0x3200 0x03

/-! ## Commands -/

/-- RING_FRAME_RECEIVED (R292, R294): the whole frame with its FCS. -/
def execRingFrameReceived (dt : Nat) (p : Fin 2) (agoNs : Nat) (frame : List Byte) (s : State) :=
  actDone dt s fun n => n.whenUp fun n => n.ringFrame p agoNs frame
/-- DICTIONARY_REQUEST (R307). -/
def execDictionaryRequest (dt : Nat) (f : WoadIn) (s : State) :=
  actDone dt s fun n => n.whenUp fun n => n.woadIn 1 f fun n => n.takeRequest f

end Sys2Proof.Machine
end

