-- ==== Sys2Proof/Machine/Twin.lean ====
section
/-!
DEFINITION. Machine/Twin.lean: twin operation (chapter 11): the messages of the twin link, the mirror of a standby, takeover,
the FORCE path, planned handover, the standby's self-tests and the clone.
-/
namespace Sys2Proof.Machine

/-! ## Messages (R325) -/

/-- R325: is a message taken? One that fails its CRC or is not the next of its type is discarded; the count goes on
from a message whose CRC holds. -/
def Node.linkTake (n : Node) (type seq : Nat) (crcOk : Bool) : Bool × Node :=
  if !n.linkUp || !crcOk then (false, n)
  else
    let want := (n.twin.seqIn.find? (fun e => e.1 == type)).map (·.2)
    let n := n.setTwin fun t => { t with seqIn := mapPut t.seqIn type ((seq + 1) % 2 ^ 32) }
    match want with
    | none => (true, n)
    | some w => (w == seq, n)

/-- R335: a Readings or Close message was lost: SYNC ends. -/
def Node.mirrorLost (n : Node) : Node := if n.syncState = 3 then n.syncLostTwin else n

/-- A message of the mirror: taken by `f`, or lost. -/
def Node.mirrorMsg (n : Node) (type seq : Nat) (crcOk : Bool) (f : Node → Node) : Node :=
  if !n.linkUp then n else
  let r := n.linkTake type seq crcOk
  if r.1 then (if r.2.mirrors then f r.2 else r.2) else r.2.mirrorLost

/-- Any other message. -/
def Node.twinMsg (n : Node) (type seq : Nat) (crcOk : Bool) (f : Node → Node) : Node :=
  let r := n.linkTake type seq crcOk
  if r.1 then f r.2 else r.2

/-! ## The mirror (R331, R332, R334) -/

/-- One reading of a Readings message. -/
def Node.mirrorReading (n : Node) (bs : List Byte) : Node :=
  let k := srcKey (fieldLE bs 0 1) (fieldLE bs 4 4)
  let r : Reading := { value := fieldLE bs 8 4, q := fieldLE bs 12 1, time := fieldLE bs 16 8 }
  n.setTwin fun t => { t with rx := mapPut t.rx k r, rxFirst := if bit (fieldLE bs 1 1) 0 then mapPut t.rxFirst k r else t.rxFirst }

def Node.mirrorReadings (n : Node) (bs : List Byte) : Nat → Node
  | 0 => n
  | k + 1 => if bs.length < 24 then n else (n.mirrorReading (bs.take 24)).mirrorReadings (bs.drop 24) k

/-- R334: the own input of each point against the mirrored one. -/
def Node.countDisagreements (n : Node) : Node :=
  let tol := n.of32 0 0x2400 0x1A
  let differs := fun (p : Nat) =>
    let k := n.pointKey p
    match n.twin.ownLast.find? (fun (e : Nat × Reading) => e.1 == k), n.srcLast.find? (fun (e : Nat × Reading) => e.1 == k) with
    | some (_, a), some (_, b) => fin32 a.value && fin32 b.value
        && decide (tol * max (rabs (q32 b.value)) 1 < rabs (q32 a.value - q32 b.value))
    | _, _ => false
  let c := (n.pointsInUse.filter differs).length
  if c = 0 then n else n.incWrapI 32 0 0x2400 0x19 c

/-- R332: the owner's demands and set-points replace this node's. -/
def Node.mirrorOutputs (n : Node) (control : Nat) (setpoint : List Nat) : Node :=
  let n := (List.range 24).foldl (fun (n : Node) b => n.setI b 0x7100 0x04 (b2n (bit control b))) n
  (List.range 16).foldl (fun (n : Node) i =>
    let v := setpoint.getD i 0
    if n.lo i 0x03 = v then n else (n.set (loopIdx i) 0x03 v).setpointWritten i) n

/-- The command of a 16-byte record (Table 8-11). -/
def opOf (bs : List Byte) (late : Bool) : OpCmd := {
  op := fieldLE bs 0 1
  loc := fieldLE bs 1 1
  target := fieldLE bs 2 2
  param := fieldLE bs 4 4
  when_ := fieldLE bs 8 8
  late := late }

/-- One command of a Close message: applied, stored in the schedule, or cancelled. -/
def Node.mirrorCmd (n : Node) (tk : Nat) (bs : List Byte) : Node :=
  let kind := fieldLE bs 17 1
  let entry := fieldLE bs 18 2
  let c := opOf bs false
  if kind = 0 then { n with frame := { n.frame with ops := n.frame.ops ++ [{ c with loc := c.loc % 64 }] } }
  else if kind = 1 then { n with frame := { n.frame with sched := mapPut n.frame.sched entry { c with late := c.when_ < tk } } }
  else { n with frame := { n.frame with sched := n.frame.sched.filter (fun e => e.1 != entry) } }

/-- A configuration record in the point's objects. -/
def Node.setRecord (n : Node) (p : Nat) (r : List Byte) : Node :=
  pointFields.foldl (fun (n : Node) f => n.setI p 0x6100 f.1 (fieldLE r f.2.1 f.2.2)) n

/-- R335: while CONFIG_MATCH is clear, frames are evaluated with the owner's records of the points that differ. -/
def Node.withOwnerCfg (n : Node) (f : Node → Node) : Node :=
  if n.configMatch then f n else
  let cfg := n.twin.ownerCfg
  let mine := cfg.map (fun (e : Nat × List Byte) => (e.1, n.pointRecord e.1))
  mine.foldl (fun (n : Node) e => n.setRecord e.1 e.2) (f (cfg.foldl (fun (n : Node) e => n.setRecord e.1 e.2) n))

/-- An agreed handover whose close this frame was, and which did not act, is void. -/
def Node.handoverVoid (n : Node) (num : Nat) : Node :=
  match n.twin.agreed with
  | some h => if h.close ≤ num then n.setTwin fun t => { t with agreed := none } else n
  | none => n

/-- R331: a frame of the owner, evaluated here. -/
def Node.mirrorClose (n : Node) (c : CloseMsg) (rx rxFirst : List (Nat × Reading)) : Node :=
  let n := n.mirrorOutputs c.control c.setpoint
  let n := if c.mode = 7 then n.set 0x1010 0x08 1 else n
  let n := n.setTwin fun t => { t with
    control := c.control
    setpoint := c.setpoint
    sent := c.sent
    unsent := t.unsent.filter (fun (e : Nat × List WoadOut) => decide (c.sent < e.1)) }
  let n := c.cmds.foldl (fun (n : Node) b => n.mirrorCmd c.tclose b) n
  let n := { n with srcLast := rx.foldl (fun l (e : Nat × Reading) => mapPut l e.1 e.2) n.srcLast }
  let n := ({ n with input := [], inputFirst := [] }).countDisagreements
  (n.withOwnerCfg fun n => n.frameDo c.num c.tclose rx rxFirst).handoverVoid c.num

/-- A Close message that is complete: evaluated in SYNC, kept for the replay before. -/
def Node.closeWhole (n : Node) (c : CloseMsg) : Node :=
  let rx := n.twin.rx
  let rxFirst := n.twin.rxFirst
  let n := n.setTwin fun t => { t with rx := [], rxFirst := [], close := none }
  if n.syncState = 3 then
    if c.num = (n.frame.num + 1) % 2 ^ 64 then n.mirrorClose c rx rxFirst else n.mirrorLost
  else n.setTwin fun t => { t with replay := t.replay ++ [(c, rx, rxFirst)] }

def Node.closePart (n : Node) (c : CloseMsg) : Node :=
  if c.ncmd ≤ c.cmds.length then n.closeWhole c else n.setTwin fun t => { t with close := some c }

/-- CLOSE. -/
def Node.takeClose (n : Node) (b : List Byte) : Node :=
  n.closePart {
    num := fieldLE b 0 8
    tclose := fieldLE b 8 8
    sent := fieldLE b 16 8
    mode := fieldLE b 24 1
    ncmd := fieldLE b 26 2
    control := fieldLE b 28 4
    setpoint := (List.range 16).map (fun i => fieldLE b (32 + 2 * i) 2)
    cmds := chunks 24 168 (b.drop 64) }

/-- CLOSE_CONTINUATION. -/
def Node.takeContinuation (n : Node) (b : List Byte) : Node :=
  match n.twin.close with
  | some c =>
    if fieldLE b 0 8 = c.num ∧ fieldLE b 8 2 = c.cmds.length then n.closePart { c with cmds := c.cmds ++ chunks 24 170 (b.drop 16) }
    else (n.setTwin fun t => { t with close := none }).mirrorLost
  | none => n

/-! ## State transfer (R335) -/

def pointOf (x : PointImage) : PointSt := {
  onHH := bit x.on.toNat 3
  onH := bit x.on.toNat 2
  onL := bit x.on.toNat 1
  onLL := bit x.on.toNat 0
  raw := x.raw.toNat
  runOn := x.runOn
  runOff := x.runOff
  active := x.active
  cond := x.cond.toNat
  onset := x.onset.toNat
  onsetV := x.onsetV.toNat
  ret := x.ret.toNat
  retV := x.retV.toNat
  sup := x.sup
  rel := x.rel
  shelve := x.shelve
  oos := x.oos
  faultUnack := x.faultUnack
  st := x.st.toNat
  v := x.value.toNat
  q := x.quality.toNat
  t := x.time.toNat
  sim := x.quality.toNat == 6
  pubV := x.value.toNat
  pubQ := x.quality.toNat
  fault := faultQ x.quality.toNat
  age := x.age
  aged := true
  prio := x.prio.toNat }

def areaOf (old : AreaSt) (x : AreaImage) : AreaSt := { old with
  holder := x.holder.toNat
  attended := x.attended
  offer := x.offer.map (·.toNat)
  offerCount := x.offerCount
  call := x.call.toNat
  level := x.level.toNat
  ceiling := x.ceiling.toNat
  count := x.count
  point := x.point.toNat
  prio := x.prio.toNat
  seq := x.seq.toNat
  silenced := x.silenced
  es := x.es.toNat
  esCount := x.esCount
  esCall := x.esCall.map (·.toNat)
  esCallCount := x.esCallCount }

/-- A group of the owner's image; a capture in progress goes on from its first close. -/
def Node.loadGroup (n : Node) (x : GroupImage) : Node :=
  let g := x.group.val
  let n := ((n.setI g 0x6200 0x07 x.state.toNat).setI g 0x6200 0x08 x.first.toNat).setI g 0x6200 0x09 x.time.toNat
  let n := ((n.setI g 0x6200 0x0A x.ties.toNat).setI g 0x6200 0x0B x.tieList.toNat).setI g 0x6200 0x0E x.captures.toNat
  let n := (n.setI g 0x6200 0x0F x.flags.toNat).setI g 0x6200 0x10 x.start.toNat
  n.setGrp g { firstClose := x.start.toNat, cands := x.cands.map (fun c => { onset := c.onset.toNat, ident := c.ident.toNat, point := c.point.toNat }) }

/-- A point of the owner's image: its last reading is the source's, unless none has come or the source is no valid one. -/
def Node.loadReading (n : Node) (k v q t : Nat) : Node :=
  if q = 3 ∨ (q = 4 ∧ nan32 v) then n else { n with srcLast := mapPut n.srcLast k { value := v, q := q, time := t } }

/-- A block of the owner's image. -/
def Node.loadBlock (n : Node) : TwinBlock → Node
  | .point x =>
    let p := x.point.val
    let kind := fieldLE x.record 1 1
    let k := srcKey kind (if kind = 8 then p else fieldLE x.record 4 4)
    let n := ((n.setPt p { pointOf x with sent := (n.pt p).sent, kept := (n.pt p).kept }).setI p 0x6100 0x27 x.occ.toNat).setI p 0x6100 0x28
      x.standing.toNat
    let n := n.loadReading k x.value.toNat x.quality.toNat x.time.toNat
    n.setTwin fun t => { t with ownerCfg := if n.pointRecord p = x.record then mapErase t.ownerCfg p else mapPut t.ownerCfg p x.record }
  | .group x => n.loadGroup x
  | .area x => n.setArea x.area.val (areaOf (n.area x.area.val) x)
  | .sched e record late => { n with frame := { n.frame with sched := mapPut n.frame.sched e.val (opOf record late) } }
  | .limiters ps => (List.range 16).foldl (fun (n : Node) i => n.setLoop i { n.loop i with p := ps.getD i (n.loop i).p }) n
  | .frame num =>
    ({ n with frame := { n.frame with num := num.toNat, started := true } }).setTwin fun t => { t with loaded := true }

/-- STATE. -/
def Node.takeState (n : Node) (bs : List TwinBlock) : Node := if n.syncState = 1 then bs.foldl Node.loadBlock n else n

/-- STATE_TRANSFER_DONE. -/
def Node.transferDone (n : Node) : Node := if n.syncState = 1 ∧ n.twin.loaded then n.setSync 2 else n

/-- REPLAY_DONE: the frames kept, from the image's on. A frame that is missing ends SYNC as it is entered. -/
def Node.replayDone (n : Node) : Node :=
  if n.syncState ≠ 2 then n else
  let kept := n.twin.replay
  let n := n.setTwin fun t => { t with replay := [] }
  let n := kept.foldl (fun (n : Node) e => if e.1.num = (n.frame.num + 1) % 2 ^ 64 then n.mirrorClose e.1 e.2.1 e.2.2 else n) n
  let n := n.setSync 3
  match kept.getLast? with
  | some e => if n.frame.num < e.1.num then n.mirrorLost else n
  | none => n

/-! ## The link (R322, R325, R326, R449) -/

/-- R333: passed commands are answered 0x0608. -/
def Node.answerPassed (n : Node) (f : PassedCmd → Bool) : Node :=
  let late := n.twin.passed.filter f
  let n := n.setTwin fun t => { t with passed := t.passed.filter (fun c => !f c) }
  late.foldl (fun (n : Node) c => n.answerTo (c.master, c.via) 0x0608) n

/-- The link state 0x2400.09; TWIN_ACT_N is low while it is 3. -/
def Node.setLink (n : Node) (st : Nat) : Node :=
  let was := n.o 0x2400 0x09
  let n := n.set 0x2400 0x09 st
  if (was == 3) == (st == 3) then n else n.emit (.pin 1 (st != 3))

/-- No lane is left: nothing more comes, and what was passed is answered. -/
def Node.linkGone (n : Node) (st : Nat) : Node :=
  if 2 ≤ n.o 0x2400 0x09 then ((n.setLink st).syncLostTwin).answerPassed (fun _ => true) else n.setLink st

/-- TWIN_LINK_UP: one lane or both. -/
def Node.twinLinkUp (n : Node) (lanes : Nat) : Node :=
  if !n.twinOn || !n.twin.det || lanes == 0 then n else
  let was := n.o 0x2400 0x09
  let n := n.setLink (if lanes = 1 then 2 else 3)
  if 2 ≤ was then n else
  let n := n.setTwin fun t => { t with seqIn := [], imageSent := false }
  if n.curMode = 5 ∧ n.syncState = 0 then n.syncStart else n

/-- TWIN_LINK_LANE_LOST. -/
def Node.laneLost (n : Node) : Node :=
  if n.o 0x2400 0x09 = 3 then n.setLink 2 else if n.o 0x2400 0x09 = 2 then n.linkGone 1 else n

/-- TWIN_DET_N_CHANGE: the link trains only while TWIN_DET_N is low. -/
def Node.detChange (n : Node) (high : Bool) : Node :=
  let n := n.setTwin fun t => { t with det := !high }
  if high then n.linkGone 0 else if n.twinOn ∧ n.o 0x2400 0x09 = 0 then n.setLink 1 else n

/-- TWIN_LINK_HEARTBEAT_SEND. -/
def Node.heartbeatSend (n : Node) : Node :=
  if n.twinOn ∧ n.twin.hbSent + us 2 ≤ n.now then
    let n := (n.setTwin fun t => { t with hbSent := n.now }).takebackTrack
    n.twinSend 0x01 (n.heartbeatBody 1 n.health)
  else n

/-- TWIN_RING_HEARTBEAT_SEND: every 100 µs, or 10 µs while the link is silent. -/
def Node.ringHeartbeatSend (n : Node) : Node :=
  if n.twinOn ∧ n.ring.thbAt + us (if n.twin.silent then 10 else 100) ≤ n.now then n.sendTwinHeartbeat n.health else n

/-- TWIN_LINK_SILENT: 6 µs without a valid heartbeat. -/
def Node.linkSilent (n : Node) : Node :=
  if n.twinOn ∧ !n.twin.silent ∧ n.twin.hbAt + us 6 ≤ n.now then
    let n := (n.setTwin fun t => { t with silent := true, imageSent := false }).incSat 0x2400 0x12
    (n.syncLostTwin).sendTwinHeartbeat n.health
  else n

/-! ## Takeover (R336 to R338) -/

/-- A standby's tests end (R344): a lake under test is returned; loopbacks end. -/
def Node.testsAbort (n : Node) : Node :=
  match n.twin.lakeTest with
  | some u =>
    let n := n.setTwin fun t => { t with lakeTest := none }
    if n.unitState u = 3 then (n.setUnitState u 2).serviceApply u 3
    else if n.unitState u = 1 ∨ n.unitState u = 2 then ((n.takenOut u).setUnitState u 2).serviceApply u 3
    else n
  | none => n

/-- R252: a call message for every running call, at its present level. -/
def Node.callsAnew (n : Node) : Node :=
  let tk := n.copy isleFrame
  let n := (List.range 8).foldl (fun (n : Node) a =>
    let x := n.area a
    let n := if x.call = 1 then n.callMessage a 0 0 x.level (n.callPrio a) 0 x.point tk else n
    match x.esCall with
    | some l => n.esMessage a 0 l 0 tk
    | none => n) n
  n.sendCalls

/-- R337: this node takes over. `since` is when the cause was seen. -/
def Node.takeover (n : Node) (cause since : Nat) : Node :=
  let unsent := (n.twin.unsent.map (fun (e : Nat × List WoadOut) => e.2)).flatten
  let n := (n.testsAbort.setTwin fun t => { t with agreed := none, unsent := [] }).answerPassed (fun _ => true)
  let n := n.when (!n.configMatch) Node.restartDiffering
  let n := n.takeInputs.holdOwn none
  let n := (n.enterMode n.activeTarget cause).tookOver cause (n.now - since)
  (n.sendAll unsent).callsAnew.annFrame (n.copy isleFrame)

/-- R336: may a fit standby take over on the fall of OWN_IN? -/
def Node.takeoverDue (n : Node) : Bool :=
  let t := n.twin
  n.twinOn && n.curMode == 5 && fitFor n.health && !t.forceIn && !t.ownIn && decide (t.ownInAt + us 1 ≤ n.now)
    && (if t.fellSilent then t.ringAfter == 1 || (t.ringAfter == 0 && decide (t.ownInAt + us 12 ≤ n.now))
        else t.clearSeen || (t.silent && decide (t.hbAt + us 6 ≤ n.now)))

/-- TAKEOVER. -/
def Node.takeoverStep (n : Node) : Node := if n.takeoverDue then n.takeover 0x21 n.twin.ownInAt else n

/-- OWN_IN_FALL. -/
def Node.ownInFall (n : Node) : Node :=
  if !n.twin.ownIn then n else
  n.setTwin fun t => { t with
    ownIn := false
    ownInAt := n.now
    fallTai := n.tai
    fellSilent := t.silent
    clearSeen := false
    ringAfter := 0 }

/-- R329: within 5 µs of a claim the node with the higher identity withdraws. -/
def Node.withdraw (n : Node) : Node :=
  match n.twin.claimAt with
  | some t =>
    if (n.twinOn ∨ n.curMode = 3) ∧ n.now ≤ t ∧ n.twin.peerIdent < n.ident then
      let c := n.twin.claimCause
      if n.curMode = 3 then (n.dropOwn.setRole 0).canToListen else n.dropOwn.enterMode 5 c
    else n
  | none => n

/-- OWN_IN_RISE: a role wait ends at once (R32); a claim may be withdrawn. -/
def Node.ownInRise (n : Node) : Node :=
  if n.twin.ownIn then n else
  (n.setTwin fun t => { t with ownIn := true, ownInAt := n.now }).roleWaitEnd.withdraw

/-- TWIN_INTERLOCK_FAULT (R336). -/
def Node.interlockFault (n : Node) : Node :=
  let t := n.twin
  if n.twinOn ∧ n.curMode = 5 ∧ !t.ownIn ∧ t.ownInAt + us 10 ≤ n.now ∧ !t.silent ∧ bit (n.o 0x2400 0x08) 2 ∧ !t.ownFault then
    (n.setTwin fun t => { t with ownFault := true }).fault 0x00C 0x58 0 0
  else n

/-- OWN_DROP (R328): a heartbeat of the output pipeline or of the ring island is missing. -/
def Node.ownDrop (n : Node) : Node := (n.setTwin fun t => { t with pipe := false }).dropOwn

/-- FORCE_ASSERT (R338). -/
def Node.forceAssert (n : Node) : Node :=
  let t := n.twin
  if n.twinOn ∧ n.curMode = 5 ∧ fitFor n.health ∧ t.ownIn ∧ !t.forceIn ∧ !t.forceOut ∧ t.hbAt + us 50 ≤ n.now ∧ t.ringHbAt + us 50 ≤ n.now then
    ((n.setTwin fun t => { t with forceOut := true, forceAt := n.now }).incSat 0x2400 0x11).fault 0x00C 0x59 0 0
  else n

/-- FORCE_HOLD_END (R338). -/
def Node.forceHoldEnd (n : Node) : Node :=
  let t := n.twin
  if n.curMode = 5 ∧ t.forceOut ∧ t.forceAt + us 5 ≤ n.now ∧ !t.forceIn then
    (n.setTwin fun t => { t with ownFault := t.ownFault || t.ownIn }).takeover 0x22 t.forceAt
  else n

/-- FORCE_IN_RISE (R329, R338): a node that owns loses its stages and OWN, and enters STANDBY once its keeper runs. -/
def Node.forceInRise (n : Node) : Node :=
  let n := n.setTwin fun t => { t with forceIn := true }
  if !n.twinOn then n else
  let n := n.setTwin fun t => { t with agreed := none }
  if !n.twin.own then n.stageDisable
  else if n.curMode = 3 then (n.dropOwn.setRole 0).canToListen
  else if n.mode.keeperReset.isSome then
    ({ n.dropOwn.setRole 2 with mode := { n.mode with keeperHandedOver := true, standbyCause := 0x26 } }).syncStart.canToListen
  else n.enterMode 5 0x26

/-- FORCE_IN_FALL. -/
def Node.forceInFall (n : Node) : Node :=
  let n := n.setTwin fun t => { t with forceIn := false }
  if n.twin.claimAt.isSome then n else n.enableStages

/-! ## Handover and takeback (R340, R343) -/

/-- HANDOVER: a proposal is agreed or left unanswered; an acknowledgement completes the agreement. -/
def Node.takeHandover (n : Node) (nh kind : Nat) (ack : Bool) : Node :=
  if ack then
    match n.twin.agreed with
    | some h => if h.close = nh then n.setTwin fun t => { t with agreed := some { h with acked := true } } else n
    | none => n
  else if kind = 0x25 then
    (if n.curMode = 5 ∧ !n.twin.own ∧ !n.forceSeen then n.testsAbort.handTake { close := nh, cause := kind, taker := true, acked := true } else n)
  else if n.handoverOk then
    (n.setTwin fun t => { t with agreed := some { close := nh, cause := kind, taker := !t.own, acked := true } }).sendHandover nh kind true
  else n

/-- TAKEBACK_REQUEST (R343): the first close at least three frames later. -/
def Node.takebackRequest (n : Node) : Node :=
  let n := n.takebackTrack
  match n.twin.fitSince with
  | some t => if t + sec (n.o 0x2400 0x06) ≤ n.now ∧ n.handoverOk then n.propose (n.frame.num + 4) 0x24 else n
  | none => n

/-! ## Passed commands (R333) -/

/-- COMMAND on the owner: judged as a request of the master that sent it to the standby. -/
def Node.commandAsked (n : Node) (record : List Byte) (m : Master) : Node :=
  if !n.keeperUp then n
  else if n.curMode = 5 then n.twinSend 0x05 (toLE 2 0x0608)
  else
    let data := padTo 16 record
    let code := n.writeJudge m 0x6000 0x08 data
    let n := if code = 0 then n.opServe m data else n
    n.twinSend 0x05 (toLE 2 code)

/-- COMMAND on the standby: the owner's result. -/
def Node.commandAnswered (n : Node) (code : Nat) : Node :=
  match n.twin.passed with
  | c :: rest => (n.setTwin fun t => { t with passed := rest }).answerTo (c.master, c.via) code
  | [] => n

/-- COMMAND_REPLY_TIMEOUT. -/
def Node.replyTimeout (n : Node) : Node := n.answerPassed (fun c => !n.linkUp || decide (c.at_ + ms 1 ≤ n.now))

/-! ## Digest and clone (R341, R346) -/

/-- DIGEST_SEND. -/
def Node.digestSend (n : Node) : Node :=
  if n.twinOn ∧ n.twin.digestAt + sec 1 ≤ n.now then
    (n.setTwin fun t => { t with digestAt := n.now }).twinSend 0x07 (toLE 1 0 ++ toLE 8 (n.o 0x2400 0x0B))
  else n

/-- DIGEST. -/
def Node.takeDigest (n : Node) (d : Nat) : Node := (n.set 0x2400 0x0C d).setTwin fun t => { t with digestSeen := true }

/-- The store image of a clone: the twin's, with the node's own twin side and trim. -/
def Node.cloneObjs (n : Node) (objs : List (Nat × Nat)) : List (Nat × Nat) :=
  ([key 0 0x3000 0x0A, key 0 0x1200 0x03] : List Nat).foldl (fun l k => odPut l k (odGet n.od k))
    (objs.foldl (fun l (e : Nat × Nat) => odPut l e.1 e.2) [])

/-- CLONE_DONE: copied and committed, or failed. -/
def Node.cloneDone (n : Node) (ok : Bool) (objs : List (Nat × Nat)) (doms : List (Nat × List Byte)) (descr : List Byte) : Node :=
  match n.twin.clone with
  | none => n
  | some m =>
    let n := n.setTwin fun t => { t with clone := none }
    if !ok then n.set 0x2400 0x18 0x060C
    else
      let os := n.cloneObjs objs
      let t := !(n.committedBank.getD true)
      let seq := match n.committedBank with | some b => ((n.bank b).seq + 1) % 2 ^ 32 | none => 1
      let len := (Config.storeImage os doms).length
      let before := n.store.applied
      let n := n.setStore fun s => { s with
        job := some { bankB := t, objs := os, doms := doms, len := len, seq := seq, master := m, cycle := n.serviceCycle }
        applied := some descr
        erasing := none }
      let n := n.commitDone true
      let n := if n.storeResult = 0 then n.commissionEvent 9 m (Config.storeImage objs doms) []
        else n.setStore fun s => { s with applied := before }
      (n.set 0x1020 0x06 0).set 0x2400 0x18 n.storeResult

/-! ## The standby's tests (R344, R345) -/

/-- LAKE_SELF_TEST: the next enabled unit in service, in number order, is taken out, tested and returned. -/
def Node.lakeSelfTest (n : Node) : Node :=
  let gap := n.o 0x2400 0x13
  if n.curMode ≠ 5 ∨ gap = 0 ∨ n.twin.lakeTest.isSome ∨ n.now < n.twin.lakeAt + sec gap then n
  else
    let order := (List.range 40).map (fun i => (n.twin.lakeNext + i) % 40)
    match order.find? (fun u => n.unitState u == 0) with
    | some u => (n.setTwin fun t => { t with lakeAt := n.now, lakeNext := (u + 1) % 40, lakeTest := some u }).serviceApply u 1
    | none => n.setTwin fun t => { t with lakeAt := n.now }

/-- OUTPUT_LOOPBACK (R278): the next stage, AO0 to AO15 and then AN0 to AN23. -/
def Node.loopback (n : Node) (failed : Bool) : Node :=
  if n.curMode ≠ 5 ∨ n.now < n.twin.loopAt + sec (n.o 0x2400 0x14) then n
  else
    let i := n.twin.loopNext
    let n := n.setTwin fun t => { t with
      loopAt := n.now
      loopNext := (i + 1) % 40
      loopFail := setBit t.loopFail i failed
      updated := n.tai }
    if failed then n.fault (if i < 16 then 0x070 + i else 0x080 + (i - 16)) 0x46 i 0 else n

/-- MEMORY_SCRUB_PASS: what inline ECC fixed and could not fix. -/
def Node.scrubPass (n : Node) (fixed bad : Nat) : Node :=
  if n.curMode ≠ 5 ∨ n.now < n.twin.scrubAt + sec (3600 * n.o 0x2400 0x15) then n
  else n.setTwin fun t => { t with
    scrubAt := n.now
    scrubs := (t.scrubs + 1) % 2 ^ 32
    scrubFixed := min (t.scrubFixed + fixed) 0xFFFFFFFF
    scrubBad := min (t.scrubBad + bad) 0xFFFFFFFF
    updated := n.tai }

/-- INTERLOCK_LINE_TEST: a pulse on FORCE_OUT, and while owning a drop on OWN_OUT. -/
def Node.lineTestStep (n : Node) : Node :=
  if n.twinOn ∧ (n.twin.testAt = 0 ∨ n.twin.testAt + sec 1 ≤ n.now) then
    let n := (n.setTwin fun t => { t with
      testAt := n.now
      forceWait := some (t.forceWait.getD n.now)
      ownWait := if t.own then some (t.ownWait.getD n.now) else none }).emit (.pin 2 true)
    if n.twin.own then n.emit (.pin 3 false) else n
  else n

/-- A test that began at `t` has gone unreported for 3 s. -/
def unreported (now : Nat) (t : Option Nat) : Bool := match t with
  | some t => decide (t + sec 3 ≤ now)
  | none => false

/-- LINE_TEST_UNREPORTED. -/
def Node.lineTestLate (n : Node) : Node :=
  if unreported n.now n.twin.ownWait || unreported n.now n.twin.forceWait then
    n.setTwin fun t => { t with
      ownOk := t.ownOk && !unreported n.now t.ownWait
      forceOk := t.forceOk && !unreported n.now t.forceWait
      updated := n.tai }
  else n

/-! ## Commands -/

/-- TWIN_RING_HEARTBEAT_SEND (R311, R326). -/
def execTwinRingHeartbeatSend (dt : Nat) (s : State) := act dt s fun n => n.whenUp Node.ringHeartbeatSend
/-- TWIN_RING_HEARTBEAT (R311, R326). -/
def execTwinRingHeartbeat (dt : Nat) (p : Fin 2) (src : Byte) (body : List Byte) (s : State) := act dt s fun n => n.whenUp fun n =>
  n.ringHeartbeat p src.toNat body
/-- TWIN_LINK_HEARTBEAT_SEND (R326). -/
def execTwinLinkHeartbeatSend (dt : Nat) (s : State) := act dt s fun n => n.whenUp Node.heartbeatSend
/-- TWIN_LINK_HEARTBEAT (R326): the twin's edge detectors report the line tests with it (R344). -/
def execTwinLinkHeartbeat (dt : Nat) (g : LinkMsg) (seenOwn seenForce : Bool) (s : State) := act dt s fun n => n.whenUp fun n =>
  n.twinMsg 1 g.seq.toNat g.crcOk fun n => n.linkHeartbeat g.body seenOwn seenForce
/-- TWIN_LINK_SILENT (R326). -/
def execTwinLinkSilent (dt : Nat) (s : State) := act dt s fun n => n.whenUp Node.linkSilent
/-- READINGS (R331). -/
def execReadings (dt : Nat) (g : LinkMsg) (s : State) := act dt s fun n => n.whenUp fun n =>
  n.mirrorMsg 2 g.seq.toNat g.crcOk fun n => n.mirrorReadings (g.body.drop 4) (g.body.length / 24)
/-- CLOSE (R331). -/
def execClose (dt : Nat) (g : LinkMsg) (s : State) := actDone dt s fun n => n.whenUp fun n =>
  n.mirrorMsg 3 g.seq.toNat g.crcOk fun n => n.takeClose g.body
/-- CLOSE_CONTINUATION (R331). -/
def execCloseContinuation (dt : Nat) (g : LinkMsg) (s : State) := actDone dt s fun n => n.whenUp fun n =>
  n.mirrorMsg 8 g.seq.toNat g.crcOk fun n => n.takeContinuation g.body
/-- STATE (R335). -/
def execState (dt : Nat) (seq : BitVec 32) (crcOk : Bool) (blocks : List TwinBlock) (s : State) := act dt s fun n => n.whenUp fun n =>
  n.twinMsg 4 seq.toNat crcOk fun n => n.takeState blocks
/-- COMMAND (R333). -/
def execCommand (dt : Nat) (seq : BitVec 32) (crcOk : Bool) (cmd : LinkCommand) (s : State) := actDone dt s fun n => n.whenUp fun n =>
  n.twinMsg 5 seq.toNat crcOk fun n => match cmd with
    | .ask record m => n.commandAsked record m
    | .answer code => n.commandAnswered code.toNat
/-- COMMAND_REPLY_TIMEOUT (R333). -/
def execCommandReplyTimeout (dt : Nat) (s : State) := actDone dt s fun n => n.whenUp Node.replyTimeout
/-- HANDOVER (R340). -/
def execHandover (dt : Nat) (seq : BitVec 32) (crcOk : Bool) (nh : BitVec 64) (kind : Byte) (ack : Bool) (s : State) :=
  actDone dt s fun n => n.whenUp fun n => n.twinMsg 6 seq.toNat crcOk fun n => n.takeHandover nh.toNat kind.toNat ack
/-- DIGEST (R341). -/
def execDigest (dt : Nat) (seq : BitVec 32) (crcOk : Bool) (digest : BitVec 64) (s : State) := act dt s fun n => n.whenUp fun n =>
  n.twinMsg 7 seq.toNat crcOk fun n => n.takeDigest digest.toNat
/-- DIGEST_SEND (R341). -/
def execDigestSend (dt : Nat) (s : State) := act dt s fun n => n.whenUp Node.digestSend
/-- STATE_TRANSFER_DONE (R335). -/
def execStateTransferDone (dt : Nat) (s : State) := act dt s fun n => n.whenUp Node.transferDone
/-- REPLAY_DONE (R335). -/
def execReplayDone (dt : Nat) (s : State) := actDone dt s fun n => n.whenUp Node.replayDone
/-- OWN_IN_FALL (R336). -/
def execOwnInFall (dt : Nat) (s : State) := act dt s Node.ownInFall
/-- OWN_IN_RISE (R329). -/
def execOwnInRise (dt : Nat) (s : State) := actDone dt s fun n =>
  if n.up then n.ownInRise else n.setTwin fun t => { t with ownIn := true, ownInAt := n.now }
/-- TAKEOVER (R336, R337). -/
def execTakeover (dt : Nat) (s : State) := actDone dt s fun n => n.whenUp Node.takeoverStep
/-- TWIN_INTERLOCK_FAULT (R336). -/
def execTwinInterlockFault (dt : Nat) (s : State) := act dt s fun n => n.whenUp Node.interlockFault
/-- OWN_DROP (R328). -/
def execOwnDrop (dt : Nat) (s : State) := act dt s fun n => n.whenUp Node.ownDrop
/-- FORCE_ASSERT (R338). -/
def execForceAssert (dt : Nat) (s : State) := act dt s fun n => n.whenUp Node.forceAssert
/-- FORCE_HOLD_END (R338). -/
def execForceHoldEnd (dt : Nat) (s : State) := actDone dt s fun n => n.whenUp Node.forceHoldEnd
/-- FORCE_IN_RISE (R329, R338). -/
def execForceInRise (dt : Nat) (s : State) := actDone dt s fun n => if n.up then n.forceInRise else n.setTwin fun t => { t with forceIn := true }
/-- TAKEBACK_REQUEST (R343). -/
def execTakebackRequest (dt : Nat) (s : State) := act dt s fun n => n.whenUp Node.takebackRequest
/-- LAKE_SELF_TEST (R344). -/
def execLakeSelfTest (dt : Nat) (s : State) := act dt s fun n => n.whenUp Node.lakeSelfTest
/-- OUTPUT_LOOPBACK (R278, R344). -/
def execOutputLoopback (dt : Nat) (failed : Bool) (s : State) := act dt s fun n => n.whenUp fun n => n.loopback failed
/-- MEMORY_SCRUB_PASS (R344). -/
def execMemoryScrubPass (dt : Nat) (fixed bad : Nat) (s : State) := act dt s fun n => n.whenUp fun n => n.scrubPass fixed bad
/-- INTERLOCK_LINE_TEST (R344). -/
def execInterlockLineTest (dt : Nat) (s : State) := act dt s fun n => n.whenUp Node.lineTestStep
/-- LINE_TEST_UNREPORTED (R344). -/
def execLineTestUnreported (dt : Nat) (s : State) := act dt s fun n => n.whenUp Node.lineTestLate
/-- CLONE_DONE (R346). -/
def execCloneDone (dt : Nat) (ok : Bool) (objs : List (Nat × Nat)) (doms : List (Nat × List Byte)) (descr : List Byte) (s : State) :=
  act dt s fun n => n.whenUp fun n => n.cloneDone ok objs doms descr
/-- FORCE_IN_FALL (R338). -/
def execForceInFall (dt : Nat) (s : State) := act dt s fun n => if n.up then n.forceInFall else n.setTwin fun t => { t with forceIn := false }
/-- TWIN_LINK_UP (R335). -/
def execTwinLinkUp (dt : Nat) (lanes : Fin 3) (s : State) := act dt s fun n => n.whenUp fun n => n.twinLinkUp lanes
/-- TWIN_LINK_LANE_LOST (R325). -/
def execTwinLinkLaneLost (dt : Nat) (s : State) := actDone dt s fun n => n.whenUp Node.laneLost
/-- TWIN_DET_N_CHANGE (R449). -/
def execTwinDetNChange (dt : Nat) (high : Bool) (s : State) := actDone dt s fun n =>
  if n.up then n.detChange high else n.setTwin fun t => { t with det := !high }

end Sys2Proof.Machine
end

