-- ==== Sys2Proof/Machine/Dispatch.lean ====
section
/-!
DEFINITION. Machine/Dispatch.lean: one arm per command, each one direct call of the command's meaning.
-/
namespace Sys2Proof.Machine

def exec (i : Instr) (s : State) : Host.Outcome State Fault Refusal :=
  match i with
  | .backupSourceRise dt mv => Sys2Proof.Machine.execBackupSourceRise dt mv s
  | .backupSourceFall dt mv => Sys2Proof.Machine.execBackupSourceFall dt mv s
  | .lineInputFeedStart dt inp mv => Sys2Proof.Machine.execLineInputFeedStart dt inp mv s
  | .lineInputFeedStop dt inp mv => Sys2Proof.Machine.execLineInputFeedStop dt inp mv s
  | .overvoltageLockoutTrip dt inp mv => Sys2Proof.Machine.execOvervoltageLockoutTrip dt inp mv s
  | .overvoltageLockoutRelease dt inp mv => Sys2Proof.Machine.execOvervoltageLockoutRelease dt inp mv s
  | .lineValid dt vbulkMv su => Sys2Proof.Machine.execLineValid dt vbulkMv su s
  | .roleDecision dt => Sys2Proof.Machine.execRoleDecision dt s
  | .roleDecisionWaitExpiry dt => Sys2Proof.Machine.execRoleDecisionWaitExpiry dt s
  | .lineLossDetected dt => Sys2Proof.Machine.execLineLossDetected dt s
  | .lineLossSequenceEnd dt vbulkMv su => Sys2Proof.Machine.execLineLossSequenceEnd dt vbulkMv su s
  | .holdUpShort dt vbulkMv => Sys2Proof.Machine.execHoldUpShort dt vbulkMv s
  | .nresetInLow dt => Sys2Proof.Machine.execNresetInLow dt s
  | .nodeResetRelease dt su => Sys2Proof.Machine.execNodeResetRelease dt su s
  | .enterCommission dt m => Sys2Proof.Machine.execEnterCommission dt m s
  | .requestActive dt m => Sys2Proof.Machine.execRequestActive dt m s
  | .plannedHandoverToTwin dt m => Sys2Proof.Machine.execPlannedHandoverToTwin dt m s
  | .commandSafe dt m => Sys2Proof.Machine.execCommandSafe dt m s
  | .nodeResetCommand dt m key inst => Sys2Proof.Machine.execNodeResetCommand dt m key inst s
  | .keeperResetCommand dt m key inst => Sys2Proof.Machine.execKeeperResetCommand dt m key inst s
  | .vatResetCommand dt m key inst => Sys2Proof.Machine.execVatResetCommand dt m key inst s
  | .lakeResetCommand dt m key inst => Sys2Proof.Machine.execLakeResetCommand dt m key inst s
  | .dynamicLakeResetCommand dt m key inst => Sys2Proof.Machine.execDynamicLakeResetCommand dt m key inst s
  | .ringPortResetCommand dt m key inst => Sys2Proof.Machine.execRingPortResetCommand dt m key inst s
  | .pciePortResetCommand dt m key inst => Sys2Proof.Machine.execPciePortResetCommand dt m key inst s
  | .canResetCommand dt m key inst => Sys2Proof.Machine.execCanResetCommand dt m key inst s
  | .serialPortResetCommand dt m key inst => Sys2Proof.Machine.execSerialPortResetCommand dt m key inst s
  | .keeperLockstepMismatch dt stage => Sys2Proof.Machine.execKeeperLockstepMismatch dt stage s
  | .keeperServingAgain dt => Sys2Proof.Machine.execKeeperServingAgain dt s
  | .keeperResetHandover dt => Sys2Proof.Machine.execKeeperResetHandover dt s
  | .vatRestart dt v => Sys2Proof.Machine.execVatRestart dt v s
  | .canControllerReady dt n => Sys2Proof.Machine.execCanControllerReady dt n s
  | .serialPortReady dt p => Sys2Proof.Machine.execSerialPortReady dt p s
  | .pllLock dt isl => Sys2Proof.Machine.execPllLock dt isl s
  | .pllLockLost dt isl => Sys2Proof.Machine.execPllLockLost dt isl s
  | .timeToken dt isl tv => Sys2Proof.Machine.execTimeToken dt isl tv s
  | .latencyCalibration dt isl sumPs => Sys2Proof.Machine.execLatencyCalibration dt isl sumPs s
  | .broadcastIssue dt => Sys2Proof.Machine.execBroadcastIssue dt s
  | .broadcastAck dt => Sys2Proof.Machine.execBroadcastAck dt s
  | .timedBroadcastAct dt isl => Sys2Proof.Machine.execTimedBroadcastAct dt isl s
  | .rtcTrimWindow dt => Sys2Proof.Machine.execRtcTrimWindow dt s
  | .rtcTrimPulse dt => Sys2Proof.Machine.execRtcTrimPulse dt s
  | .rtcSecond dt => Sys2Proof.Machine.execRtcSecond dt s
  | .rtcShift dt m val => Sys2Proof.Machine.execRtcShift dt m val s
  | .rtcShiftApply dt => Sys2Proof.Machine.execRtcShiftApply dt s
  | .rtcSetTime dt m sec => Sys2Proof.Machine.execRtcSetTime dt m sec s
  | .periodicWake dt => Sys2Proof.Machine.execPeriodicWake dt s
  | .oscillatorStopped dt durNs => Sys2Proof.Machine.execOscillatorStopped dt durNs s
  | .timeStampCapture dt m val => Sys2Proof.Machine.execTimeStampCapture dt m val s
  | .captureLatch dt => Sys2Proof.Machine.execCaptureLatch dt s
  | .syncTimeout dt => Sys2Proof.Machine.execSyncTimeout dt s
  | .announceReceiptTimeout dt => Sys2Proof.Machine.execAnnounceReceiptTimeout dt s
  | .holdoverLimit dt => Sys2Proof.Machine.execHoldoverLimit dt s
  | .leapSecond dt => Sys2Proof.Machine.execLeapSecond dt s
  | .odRead dt m idx sub => Sys2Proof.Machine.execOdRead dt m idx sub s
  | .odInformation dt m idx sub => Sys2Proof.Machine.execOdInformation dt m idx sub s
  | .registerWrite dt m idx sub data => Sys2Proof.Machine.execRegisterWrite dt m idx sub data s
  | .commit dt m key => Sys2Proof.Machine.execCommit dt m key s
  | .commissioningReset dt m key => Sys2Proof.Machine.execCommissioningReset dt m key s
  | .discard dt m key => Sys2Proof.Machine.execDiscard dt m key s
  | .commitComplete dt verified => Sys2Proof.Machine.execCommitComplete dt verified s
  | .bankSectorErased dt verified => Sys2Proof.Machine.execBankSectorErased dt verified s
  | .dataPortClaim dt m p target => Sys2Proof.Machine.execDataPortClaim dt m p target s
  | .dataPortRelease dt m p => Sys2Proof.Machine.execDataPortRelease dt m p s
  | .dataPortSetOffset dt m p off => Sys2Proof.Machine.execDataPortSetOffset dt m p off s
  | .dataPortOpen dt m p len => Sys2Proof.Machine.execDataPortOpen dt m p len s
  | .dataPortBurst dt m p data busy => Sys2Proof.Machine.execDataPortBurst dt m p data busy s
  | .dataPortApplyDone dt p => Sys2Proof.Machine.execDataPortApplyDone dt p s
  | .dataPortHoldTimeout dt p => Sys2Proof.Machine.execDataPortHoldTimeout dt p s
  | .request dt frame => Sys2Proof.Machine.execRequest dt frame s
  | .status dt => Sys2Proof.Machine.execStatus dt s
  | .response dt => Sys2Proof.Machine.execResponse dt s
  | .resync dt => Sys2Proof.Machine.execResync dt s
  | .apply dt m val => Sys2Proof.Machine.execApply dt m val s
  | .vatAccessFault dt v addr kind => Sys2Proof.Machine.execVatAccessFault dt v addr kind s
  | .timerInterrupt dt v stores => Sys2Proof.Machine.execTimerInterrupt dt v stores s
  | .interruptClaim dt v ctx stores => Sys2Proof.Machine.execInterruptClaim dt v ctx stores s
  | .interruptComplete dt v ctx src stores => Sys2Proof.Machine.execInterruptComplete dt v ctx src stores s
  | .doorbellWrite dt v slot value stores => Sys2Proof.Machine.execDoorbellWrite dt v slot value stores s
  | .engineGrant dt engine busy => Sys2Proof.Machine.execEngineGrant dt engine busy s
  | .queueEnable dt m => Sys2Proof.Machine.execQueueEnable dt m s
  | .queueDisable dt m => Sys2Proof.Machine.execQueueDisable dt m s
  | .declare dt m v val => Sys2Proof.Machine.execDeclare dt m v val s
  | .scanStart dt lake conv => Sys2Proof.Machine.execScanStart dt lake conv s
  | .conversionEnd dt lake conv code cjTemp => Sys2Proof.Machine.execConversionEnd dt lake conv code cjTemp s
  | .lakeReadingRelease dt lake pin => Sys2Proof.Machine.execLakeReadingRelease dt lake pin s
  | .contactBandChange dt lake pin band agoNs => Sys2Proof.Machine.execContactBandChange dt lake pin band agoNs s
  | .wireBreak dt lake pin agoNs => Sys2Proof.Machine.execWireBreak dt lake pin agoNs s
  | .pulseTest dt lake pin pairUv => Sys2Proof.Machine.execPulseTest dt lake pin pairUv s
  | .breakClear dt lake pin => Sys2Proof.Machine.execBreakClear dt lake pin s
  | .mainsZeroCrossing dt => Sys2Proof.Machine.execMainsZeroCrossing dt s
  | .mainsFrequencySend dt => Sys2Proof.Machine.execMainsFrequencySend dt s
  | .mainsReferenceLost dt => Sys2Proof.Machine.execMainsReferenceLost dt s
  | .takeOut dt m unit => Sys2Proof.Machine.execTakeOut dt m unit s
  | .test dt m unit => Sys2Proof.Machine.execTest dt m unit s
  | .returnToService dt m unit => Sys2Proof.Machine.execReturnToService dt m unit s
  | .takingOutEnd dt unit => Sys2Proof.Machine.execTakingOutEnd dt unit s
  | .testDone dt unit failed => Sys2Proof.Machine.execTestDone dt unit failed s
  | .returningEnd dt unit => Sys2Proof.Machine.execReturningEnd dt unit s
  | .lakeResetDone dt unit => Sys2Proof.Machine.execLakeResetDone dt unit s
  | .sampleSlotDelivery dt q => Sys2Proof.Machine.execSampleSlotDelivery dt q s
  | .repeatPeriodEnd dt a => Sys2Proof.Machine.execRepeatPeriodEnd dt a s
  | .dynamicSample dt ch code => Sys2Proof.Machine.execDynamicSample dt ch code s
  | .dynamicSummary dt k => Sys2Proof.Machine.execDynamicSummary dt k s
  | .rmsPeakUpdate dt ch => Sys2Proof.Machine.execRmsPeakUpdate dt ch s
  | .overload dt ch => Sys2Proof.Machine.execOverload dt ch s
  | .chargeResetEnd dt ch => Sys2Proof.Machine.execChargeResetEnd dt ch s
  | .integratorReset dt m ch val => Sys2Proof.Machine.execIntegratorReset dt m ch val s
  | .iepeBiasFault dt ch mv => Sys2Proof.Machine.execIepeBiasFault dt ch mv s
  | .dynamicReferenceCheck dt k ppm => Sys2Proof.Machine.execDynamicReferenceCheck dt k ppm s
  | .shaftEdge dt sh rising aLeads both agoNs => Sys2Proof.Machine.execShaftEdge dt sh rising aLeads both agoNs s
  | .standstillTimeout dt sh => Sys2Proof.Machine.execStandstillTimeout dt sh s
  | .speedWindowEnd dt sh => Sys2Proof.Machine.execSpeedWindowEnd dt sh s
  | .shaftOpen dt sh mv => Sys2Proof.Machine.execShaftOpen dt sh mv s
  | .compareFire dt d entry => Sys2Proof.Machine.execCompareFire dt d entry s
  | .comparePulseEnd dt a => Sys2Proof.Machine.execComparePulseEnd dt a s
  | .compareEntriesWrite dt m val => Sys2Proof.Machine.execCompareEntriesWrite dt m val s
  | .angleSample dt ch angle => Sys2Proof.Machine.execAngleSample dt ch angle s
  | .cycleWindowEnd dt d cyl => Sys2Proof.Machine.execCycleWindowEnd dt d cyl s
  | .serialRequest dt p lineHigh => Sys2Proof.Machine.execSerialRequest dt p lineHigh s
  | .serialFrameEnd dt p startNs frame endMark trailerZero lowAtEnd monoNs => Sys2Proof.Machine.execSerialFrameEnd dt p startNs frame endMark trailerZero lowAtEnd monoNs s
  | .frameClose dt => Sys2Proof.Machine.execFrameClose dt s
  | .onDelayExpiry dt pt => Sys2Proof.Machine.execOnDelayExpiry dt pt s
  | .offDelayExpiry dt pt => Sys2Proof.Machine.execOffDelayExpiry dt pt s
  | .suppressionRelease dt pt => Sys2Proof.Machine.execSuppressionRelease dt pt s
  | .stale dt pt => Sys2Proof.Machine.execStale dt pt s
  | .rateWindowEnd dt pt => Sys2Proof.Machine.execRateWindowEnd dt pt s
  | .shelveExpiry dt pt => Sys2Proof.Machine.execShelveExpiry dt pt s
  | .firstOutWindowEnd dt g => Sys2Proof.Machine.execFirstOutWindowEnd dt g s
  | .callEscalation dt a => Sys2Proof.Machine.execCallEscalation dt a s
  | .answerTimeout dt a => Sys2Proof.Machine.execAnswerTimeout dt a s
  | .transferTimeout dt a => Sys2Proof.Machine.execTransferTimeout dt a s
  | .esPrewarn dt a => Sys2Proof.Machine.execEsPrewarn dt a s
  | .esExpired dt a => Sys2Proof.Machine.execEsExpired dt a s
  | .callMessageRepeat dt a => Sys2Proof.Machine.execCallMessageRepeat dt a s
  | .remoteStale dt a => Sys2Proof.Machine.execRemoteStale dt a s
  | .ackPoint dt m loc target param when_ => Sys2Proof.Machine.execAckPoint dt m loc target param when_ s
  | .ackGroup dt m loc target param when_ => Sys2Proof.Machine.execAckGroup dt m loc target param when_ s
  | .ackArea dt m loc target param when_ => Sys2Proof.Machine.execAckArea dt m loc target param when_ s
  | .silence dt m loc target param when_ => Sys2Proof.Machine.execSilence dt m loc target param when_ s
  | .shelve dt m loc target param when_ => Sys2Proof.Machine.execShelve dt m loc target param when_ s
  | .unshelve dt m loc target param when_ => Sys2Proof.Machine.execUnshelve dt m loc target param when_ s
  | .outOfService dt m loc target param when_ => Sys2Proof.Machine.execOutOfService dt m loc target param when_ s
  | .inService dt m loc target param when_ => Sys2Proof.Machine.execInService dt m loc target param when_ s
  | .offer dt m loc target param when_ => Sys2Proof.Machine.execOffer dt m loc target param when_ s
  | .accept dt m loc target param when_ => Sys2Proof.Machine.execAccept dt m loc target param when_ s
  | .reject dt m loc target param when_ => Sys2Proof.Machine.execReject dt m loc target param when_ s
  | .take dt m loc target param when_ => Sys2Proof.Machine.execTake dt m loc target param when_ s
  | .attended dt m loc target param when_ => Sys2Proof.Machine.execAttended dt m loc target param when_ s
  | .unattended dt m loc target param when_ => Sys2Proof.Machine.execUnattended dt m loc target param when_ s
  | .answer dt m loc target param when_ => Sys2Proof.Machine.execAnswer dt m loc target param when_ s
  | .esOn dt m loc target param when_ => Sys2Proof.Machine.execEsOn dt m loc target param when_ s
  | .esReset dt m loc target param when_ => Sys2Proof.Machine.execEsReset dt m loc target param when_ s
  | .esOff dt m loc target param when_ => Sys2Proof.Machine.execEsOff dt m loc target param when_ s
  | .rearm dt m loc target param when_ => Sys2Proof.Machine.execRearm dt m loc target param when_ s
  | .cancelScheduled dt m entry => Sys2Proof.Machine.execCancelScheduled dt m entry s
  | .counterClear dt m pt standing value => Sys2Proof.Machine.execCounterClear dt m pt standing value s
  | .pointConfigWrite dt m pt sub data => Sys2Proof.Machine.execPointConfigWrite dt m pt sub data s
  | .limiterTick dt => Sys2Proof.Machine.execLimiterTick dt s
  | .loopConditionSet dt n short => Sys2Proof.Machine.execLoopConditionSet dt n short s
  | .loopConditionClear dt n cond mv => Sys2Proof.Machine.execLoopConditionClear dt n cond mv s
  | .loopSupplyLow dt g mv => Sys2Proof.Machine.execLoopSupplyLow dt g mv s
  | .transmit dt m n data => Sys2Proof.Machine.execTransmit dt m n data s
  | .transmitDone dt n => Sys2Proof.Machine.execTransmitDone dt n s
  | .characterReceived dt n ch parityOk => Sys2Proof.Machine.execCharacterReceived dt n ch parityOk s
  | .receive dt m n => Sys2Proof.Machine.execReceive dt m n s
  | .blankingEnd dt a => Sys2Proof.Machine.execBlankingEnd dt a s
  | .hardShort dt a => Sys2Proof.Machine.execHardShort dt a s
  | .softOvercurrent dt a => Sys2Proof.Machine.execSoftOvercurrent dt a s
  | .openLoad dt a mv => Sys2Proof.Machine.execOpenLoad dt a mv s
  | .restartDelayExpiry dt a => Sys2Proof.Machine.execRestartDelayExpiry dt a s
  | .failureCountRestart dt a => Sys2Proof.Machine.execFailureCountRestart dt a s
  | .groupRelease dt m g val => Sys2Proof.Machine.execGroupRelease dt m g val s
  | .automaticRestart dt g => Sys2Proof.Machine.execAutomaticRestart dt g s
  | .restartSlot dt g => Sys2Proof.Machine.execRestartSlot dt g s
  | .annunciatorRelease dt m a val => Sys2Proof.Machine.execAnnunciatorRelease dt m a val s
  | .annunciatorSupplyLow dt g mv => Sys2Proof.Machine.execAnnunciatorSupplyLow dt g mv s
  | .annunciatorSupplyRestored dt g mv => Sys2Proof.Machine.execAnnunciatorSupplyRestored dt g mv s
  | .linkUp dt p gig lengthM mdix phyMaster snr => Sys2Proof.Machine.execLinkUp dt p gig lengthM mdix phyMaster snr s
  | .linkLost dt p => Sys2Proof.Machine.execLinkLost dt p s
  | .trainingTimeout dt p => Sys2Proof.Machine.execTrainingTimeout dt p s
  | .failedAttempt dt p => Sys2Proof.Machine.execFailedAttempt dt p s
  | .marginLow dt p deciDb => Sys2Proof.Machine.execMarginLow dt p deciDb s
  | .marginClear dt p deciDb => Sys2Proof.Machine.execMarginClear dt p deciDb s
  | .bypassChangeDone dt => Sys2Proof.Machine.execBypassChangeDone dt s
  | .bypassForceClose dt m => Sys2Proof.Machine.execBypassForceClose dt m s
  | .bypassRelease dt m => Sys2Proof.Machine.execBypassRelease dt m s
  | .ringFrameReceived dt p agoNs frame => Sys2Proof.Machine.execRingFrameReceived dt p agoNs frame s
  | .hsrSupervision dt => Sys2Proof.Machine.execHsrSupervision dt s
  | .nodeForget dt mac => Sys2Proof.Machine.execNodeForget dt mac s
  | .ringOpen dt => Sys2Proof.Machine.execRingOpen dt s
  | .ptpSyncReceived dt p gm domain seq twoStep origin corr agoNs resNs => Sys2Proof.Machine.execPtpSyncReceived dt p gm domain seq twoStep origin corr agoNs resNs s
  | .ptpFollowUpReceived dt p gm domain seq origin corr => Sys2Proof.Machine.execPtpFollowUpReceived dt p gm domain seq origin corr s
  | .pdelayReqSend dt => Sys2Proof.Machine.execPdelayReqSend dt s
  | .pdelayReqReceived dt p seq agoNs => Sys2Proof.Machine.execPdelayReqReceived dt p seq agoNs s
  | .pdelayRespReceived dt p seq followUp twoStep ts corr agoNs => Sys2Proof.Machine.execPdelayRespReceived dt p seq followUp twoStep ts corr agoNs s
  | .announceReceived dt p domain ann => Sys2Proof.Machine.execAnnounceReceived dt p domain ann s
  | .ptpSyncSend dt => Sys2Proof.Machine.execPtpSyncSend dt s
  | .dictionaryRequest dt f => Sys2Proof.Machine.execDictionaryRequest dt f s
  | .publication dt f => Sys2Proof.Machine.execPublication dt f s
  | .alarmEvents dt f => Sys2Proof.Machine.execAlarmEvents dt f s
  | .heartbeat dt f => Sys2Proof.Machine.execHeartbeat dt f s
  | .nodeHeartbeatSend dt => Sys2Proof.Machine.execNodeHeartbeatSend dt s
  | .twinRingHeartbeatSend dt => Sys2Proof.Machine.execTwinRingHeartbeatSend dt s
  | .twinRingHeartbeat dt p src body => Sys2Proof.Machine.execTwinRingHeartbeat dt p src body s
  | .snapshotMarkerCommand dt m flags fire => Sys2Proof.Machine.execSnapshotMarkerCommand dt m flags fire s
  | .snapshotScheduledCommand dt m flags fire => Sys2Proof.Machine.execSnapshotScheduledCommand dt m flags fire s
  | .marker dt f => Sys2Proof.Machine.execMarker dt f s
  | .order dt f => Sys2Proof.Machine.execOrder dt f s
  | .ack dt f => Sys2Proof.Machine.execAck dt f s
  | .snapshotCollectionEnd dt => Sys2Proof.Machine.execSnapshotCollectionEnd dt s
  | .vatFrame dt type f => Sys2Proof.Machine.execVatFrame dt type f s
  | .twinLinkHeartbeatSend dt => Sys2Proof.Machine.execTwinLinkHeartbeatSend dt s
  | .twinLinkHeartbeat dt g seenOwn seenForce => Sys2Proof.Machine.execTwinLinkHeartbeat dt g seenOwn seenForce s
  | .twinLinkSilent dt => Sys2Proof.Machine.execTwinLinkSilent dt s
  | .readings dt g => Sys2Proof.Machine.execReadings dt g s
  | .close dt g => Sys2Proof.Machine.execClose dt g s
  | .closeContinuation dt g => Sys2Proof.Machine.execCloseContinuation dt g s
  | .state dt seq crcOk blocks => Sys2Proof.Machine.execState dt seq crcOk blocks s
  | .command dt seq crcOk cmd => Sys2Proof.Machine.execCommand dt seq crcOk cmd s
  | .commandReplyTimeout dt => Sys2Proof.Machine.execCommandReplyTimeout dt s
  | .handover dt seq crcOk nh kind ack => Sys2Proof.Machine.execHandover dt seq crcOk nh kind ack s
  | .digest dt seq crcOk digest => Sys2Proof.Machine.execDigest dt seq crcOk digest s
  | .digestSend dt => Sys2Proof.Machine.execDigestSend dt s
  | .stateTransferDone dt => Sys2Proof.Machine.execStateTransferDone dt s
  | .replayDone dt => Sys2Proof.Machine.execReplayDone dt s
  | .ownInFall dt => Sys2Proof.Machine.execOwnInFall dt s
  | .ownInRise dt => Sys2Proof.Machine.execOwnInRise dt s
  | .takeover dt => Sys2Proof.Machine.execTakeover dt s
  | .twinInterlockFault dt => Sys2Proof.Machine.execTwinInterlockFault dt s
  | .ownDrop dt => Sys2Proof.Machine.execOwnDrop dt s
  | .forceAssert dt => Sys2Proof.Machine.execForceAssert dt s
  | .forceHoldEnd dt => Sys2Proof.Machine.execForceHoldEnd dt s
  | .forceInRise dt => Sys2Proof.Machine.execForceInRise dt s
  | .takebackRequest dt => Sys2Proof.Machine.execTakebackRequest dt s
  | .lakeSelfTest dt => Sys2Proof.Machine.execLakeSelfTest dt s
  | .outputLoopback dt failed => Sys2Proof.Machine.execOutputLoopback dt failed s
  | .memoryScrubPass dt fixed bad => Sys2Proof.Machine.execMemoryScrubPass dt fixed bad s
  | .interlockLineTest dt => Sys2Proof.Machine.execInterlockLineTest dt s
  | .lineTestUnreported dt => Sys2Proof.Machine.execLineTestUnreported dt s
  | .clone dt m => Sys2Proof.Machine.execClone dt m s
  | .cloneDone dt ok objs doms descr => Sys2Proof.Machine.execCloneDone dt ok objs doms descr s
  | .pcieLinkUp dt px speed width found => Sys2Proof.Machine.execPcieLinkUp dt px speed width found s
  | .presenceChange dt px present => Sys2Proof.Machine.execPresenceChange dt px present s
  | .adopt dt m => Sys2Proof.Machine.execAdopt dt m s
  | .prepareRemoval dt m => Sys2Proof.Machine.execPrepareRemoval dt m s
  | .keep dt m => Sys2Proof.Machine.execKeep dt m s
  | .forget dt m => Sys2Proof.Machine.execForget dt m s
  | .removalReady dt slot => Sys2Proof.Machine.execRemovalReady dt slot s
  | .nvmeCompletion dt slot fatal => Sys2Proof.Machine.execNvmeCompletion dt slot fatal s
  | .nvmeCommandTimeout dt slot => Sys2Proof.Machine.execNvmeCommandTimeout dt slot s
  | .smartRead dt slot pct mediaErrors readOnly => Sys2Proof.Machine.execSmartRead dt slot pct mediaErrors readOnly s
  | .asynchronousEvent dt slot readOnly => Sys2Proof.Machine.execAsynchronousEvent dt slot readOnly s
  | .sealAge dt kind src => Sys2Proof.Machine.execSealAge dt kind src s
  | .recordWriteComplete dt slot => Sys2Proof.Machine.execRecordWriteComplete dt slot s
  | .indexCheckpoint dt => Sys2Proof.Machine.execIndexCheckpoint dt s
  | .indexRebuildDone dt => Sys2Proof.Machine.execIndexRebuildDone dt s
  | .archiveReadDone dt q => Sys2Proof.Machine.execArchiveReadDone dt q s
  | .query dt m kind flags src from_ to_ => Sys2Proof.Machine.execQuery dt m kind flags src from_ to_ s
  | .queryReady dt m => Sys2Proof.Machine.execQueryReady dt m s
  | .thinningSegment dt => Sys2Proof.Machine.execThinningSegment dt s
  | .canFrameReceived dt n ident fdf brs esi data agoNs => Sys2Proof.Machine.execCanFrameReceived dt n ident fdf brs esi data agoNs s
  | .canIntegration dt n => Sys2Proof.Machine.execCanIntegration dt n s
  | .busOffRecovery dt n => Sys2Proof.Machine.execBusOffRecovery dt n s
  | .canError dt n kind tx step => Sys2Proof.Machine.execCanError dt n kind tx step s
  | .canFrameSent dt n acked => Sys2Proof.Machine.execCanFrameSent dt n acked s
  | .sleep dt m => Sys2Proof.Machine.execSleep dt m s
  | .wake dt m => Sys2Proof.Machine.execWake dt m s
  | .dominantWake dt n => Sys2Proof.Machine.execDominantWake dt n s
  | .recover dt m => Sys2Proof.Machine.execRecover dt m s
  | .initRead dt n f64 toggle idx sub => Sys2Proof.Machine.execInitRead dt n f64 toggle idx sub s
  | .initWrite dt n f64 toggle idx sub len bytes => Sys2Proof.Machine.execInitWrite dt n f64 toggle idx sub len bytes s
  | .info dt n f64 toggle idx sub => Sys2Proof.Machine.execInfo dt n f64 toggle idx sub s
  | .segment dt n f64 toggle bytes => Sys2Proof.Machine.execSegment dt n f64 toggle bytes s
  | .abort dt n code => Sys2Proof.Machine.execAbort dt n code s
  | .sessionTimeout dt n => Sys2Proof.Machine.execSessionTimeout dt n s
  | .updateRequest dt m record => Sys2Proof.Machine.execUpdateRequest dt m record s
  | .copyDone dt => Sys2Proof.Machine.execCopyDone dt s
  | .panelChecks dt milliohm crcBad => Sys2Proof.Machine.execPanelChecks dt milliohm crcBad s
  | .panelFrameBoundary dt => Sys2Proof.Machine.execPanelFrameBoundary dt s
  | .railStep dt b0 b1 b2 b3 => Sys2Proof.Machine.execRailStep dt b0 b1 b2 b3 s
  | .railFault dt rail ballUv => Sys2Proof.Machine.execRailFault dt rail ballUv s
  | .railIdle dt => Sys2Proof.Machine.execRailIdle dt s
  | .railCommand dt m => Sys2Proof.Machine.execRailCommand dt m s
  | .dischargeEnd dt => Sys2Proof.Machine.execDischargeEnd dt s
  | .faultMessage dt src hw => Sys2Proof.Machine.execFaultMessage dt src hw s
  | .bucketBoundary dt => Sys2Proof.Machine.execBucketBoundary dt s
  | .clearLatch dt m val => Sys2Proof.Machine.execClearLatch dt m val s
  | .raise dt m data => Sys2Proof.Machine.execRaise dt m data s
  | .clearNodeCapture dt m val => Sys2Proof.Machine.execClearNodeCapture dt m val s
  | .clearVatCapture dt m val => Sys2Proof.Machine.execClearVatCapture dt m val s
  | .isolationRelease dt m src => Sys2Proof.Machine.execIsolationRelease dt m src s
  | .kindRuleWrite dt m rule => Sys2Proof.Machine.execKindRuleWrite dt m rule s
  | .overrideCountWrite dt m count => Sys2Proof.Machine.execOverrideCountWrite dt m count s
  | .faultFrameSend dt => Sys2Proof.Machine.execFaultFrameSend dt s
  | .extend dt m data => Sys2Proof.Machine.execExtend dt m data s
  | .quoteRequest dt m data => Sys2Proof.Machine.execQuoteRequest dt m data s
  | .quoteReady dt => Sys2Proof.Machine.execQuoteReady dt s
  | .loaderRetry dt => Sys2Proof.Machine.execLoaderRetry dt s
  | .inventory dt afi maskLen mask slots => Sys2Proof.Machine.execInventory dt afi maskLen mask slots s
  | .stayQuiet dt uid => Sys2Proof.Machine.execStayQuiet dt uid s
  | .select dt uid => Sys2Proof.Machine.execSelect dt uid s
  | .resetToReady dt addr => Sys2Proof.Machine.execResetToReady dt addr s
  | .getSystemInformation dt addr => Sys2Proof.Machine.execGetSystemInformation dt addr s
  | .extendedGetSystemInformation dt addr => Sys2Proof.Machine.execExtendedGetSystemInformation dt addr s
  | .extendedReadSingleBlock dt addr sec block => Sys2Proof.Machine.execExtendedReadSingleBlock dt addr sec block s
  | .extendedWriteSingleBlock dt addr block data => Sys2Proof.Machine.execExtendedWriteSingleBlock dt addr block data s
  | .extendedReadMultipleBlocks dt addr sec block count => Sys2Proof.Machine.execExtendedReadMultipleBlocks dt addr sec block count s
  | .unsupportedTagCommand dt addr => Sys2Proof.Machine.execUnsupportedTagCommand dt addr s
  | .tagPageWrite dt m data => Sys2Proof.Machine.execTagPageWrite dt m data s
  | .nresetInHigh dt => Sys2Proof.Machine.execNresetInHigh dt s
  | .forceInFall dt => Sys2Proof.Machine.execForceInFall dt s
  | .twinLinkUp dt lanes => Sys2Proof.Machine.execTwinLinkUp dt lanes s
  | .twinLinkLaneLost dt => Sys2Proof.Machine.execTwinLinkLaneLost dt s
  | .twinDetNChange dt high => Sys2Proof.Machine.execTwinDetNChange dt high s
  | .carrierChange dt n mvpp => Sys2Proof.Machine.execCarrierChange dt n mvpp s
  | .fieldPresentChange dt on => Sys2Proof.Machine.execFieldPresentChange dt on s

end Sys2Proof.Machine
end

