-- ==== Sys2Proof/Safety.lean ====
section
/-!
DEFINITION. Safety.lean: what claims about runs are stated in: the invariant of the vats' DRAM, and what an outcome is.
-/
namespace Sys2Proof.Machine

/-- The vats' DRAM is in its one canonical form. -/
def State.Inv (s : State) : Prop := memWf s.vmem = true

/-- The state that an outcome goes on with, if it goes on. -/
def nextOf : Host.Outcome State Fault Refusal → Option State
  | .next t => some t
  | _ => none

/-- The command's outcome is a next state, and `P` holds of that state. -/
def Answers (c : Instr) (s : State) (P : State → Prop) : Prop := ∃ t, exec c s = .next t ∧ P t

/-- The node's state when the command acts: `dt` ns after the command before it. -/
def State.at_ (s : State) (dt : Nat) : Node := s.node.begin dt

/-- The node takes master `m`'s write of `data` to object `idx.sub`: the keeper serves, the master runs, and no check of
Table 4-4 refuses it (R76). -/
abbrev Takes (s : State) (dt : Nat) (m : Master) (idx sub : Nat) (data : List Byte) : Prop :=
  (s.at_ dt).asks m = true ∧ (s.at_ dt).writeJudge m idx sub data = 0

/-- The node has answered master `m` with 0x0000. -/
abbrev Done (m : Master) (t : State) : Prop := Out.reply m 0 [] ∈ t.node.out

/-- Queue and DRAM are as they were. -/
abbrev Rests (s t : State) : Prop := t.pending = s.pending ∧ t.vmem = s.vmem

/-- The objects whose key is not among `ks` read as in `n`. -/
def SameObjects (n n' : Node) (ks : List Nat) : Prop := ∀ k, k ∉ ks → odGet n'.od k = odGet n.od k

/-- A Woad frame of a type that the node takes: its port is UP, another node sent it, it is for this node, and neither
HSR nor R303 nor R306 discards it. -/
def Node.hears (n : Node) (type : Nat) (f : WoadIn) : Prop :=
  n.portUp f.port.val = true ∧ f.mac.toNat ≠ ownMac ∧ f.version = 1 ∧ knownType type = true ∧ (f.dst = 0 ∨ f.dst.toNat = n.ident) ∧
  (∀ e ∈ n.ring.seen, e.1 ≠ f.mac.toNat * 65536 + f.hsrSeq.toNat) ∧
  (∀ e, n.ring.idents.find? (fun e => e.1 == f.src.toNat) = some e → e.2.mac = f.mac.toNat) ∧
  (∀ e ∈ n.ring.keys, e.1 ≠ ((f.pub.toNat * 256 + type) * 2 ^ 32 + f.seq.toNat) * 65536 + f.part.toNat)

/-- Indices whose objects, when written, bring nothing with them but the value (Serve.lean, `Node.written`). -/
def plainIdx (idx : Nat) : Bool :=
  [0x1000, 0x1100, 0x2000, 0x2400, 0x3000, 0x3200, 0x3300, 0x4000, 0x4001, 0x5000, 0x5002, 0x5600, 0x6000, 0x6200, 0x6300, 0x7001,
    0x7200, 0x8000, 0x9000].contains (canonIdx idx)

end Sys2Proof.Machine
end

