-- ==== Sys2Proof/Certificates/Slice0/Obligations.lean ====
section
/-!
DEFINITION. Certificates/Slice0/Obligations.lean: the statements for the provers. Safety.lean says what `Answers`, `Takes`,
`Done`, `Rests` and `SameObjects` mean. In each, `u` is the node at the instant the command acts, and `t` the state after it.
-/
set_option linter.unusedVariables false

open Sys2Proof Sys2Proof.Machine

/-- A step takes the command at the front of the queue (R81). With a command at the front of the queue, step is exec of
that command on the state with the rest of the queue. The queue is the model's own (assumption log 100). -/
def Obligations.StepTakesTheFront : Prop := ∀ (c : Instr) (rest : List Instr) (s : State), s.pending = c :: rest →
  step s = exec c { s with pending := rest }

/-- On an empty queue the block idles (R81). A step on an empty queue changes nothing. This is the model's choice
(assumption log 100): time passes only with commands. -/
def Obligations.EmptyQueuesIdle : Prop := ∀ s : State, s.pending = [] → step s = .next s

/-- Every command ends in a next state and leaves the queue alone (R76, R79). exec of every command on every state answers
a next state whose queue is the one before: no command faults or is refused by the model. -/
def Obligations.CommandsEndInANextState : Prop := ∀ (c : Instr) (s : State), ∃ t, exec c s = .next t ∧ t.pending = s.pending

/-- The reset state has the invariant and an empty queue (R3, R110). The DRAM of the reset state is in its canonical form,
and no command waits. What DRAM holds at reset is the model's choice (assumption log 104). -/
def Obligations.ResetHasInv : Prop := State.reset.Inv ∧ State.reset.pending = []

/-- Every step keeps DRAM in its canonical form (R110, R111). From every state whose DRAM is in canonical form (addresses
strictly rising, no cell that equals what an unlisted one reads), every step that goes on leads to such a state. -/
def Obligations.StepKeepsInv : Prop := ∀ s t : State, s.Inv → step s = .next t → t.Inv

/-- What the reset state holds (R3, R17, R32, R432, R422). Right after reset the node is in BOOT with OSF set, an empty
store, the tag erased, OWN not held, the stages off, measurement registers of zeros, an empty fault log, no vat
running, nothing isolated, panel rails OFF, CAN controllers DISABLED, drive slots EMPTY and data ports free. The
states of units the spec starts later are the model's choice (assumption log 2). -/
def Obligations.ResetStands : Prop :=
  let n := State.reset.node
  n.curMode = 2 ∧ n.o 0x1200 0x06 = 1 ∧ n.committedBank = none ∧ n.store.bankA.blank = true ∧ n.store.bankB.blank = true ∧ n.twin.own = false
    ∧ n.stages = false ∧ n.tag.mem = [] ∧ (∀ r, n.measureReg r = zeros 48) ∧ n.ver.log = [] ∧ n.ver.pairs = [] ∧ n.o 0x1100 0x03 = 0
    ∧ (∀ v < 16, n.vatRuns v = false) ∧ (∀ u < 40, n.unitIsolated u = false) ∧ n.railState = 0 ∧ (∀ c < 4, n.canState c = 0)
    ∧ (∀ d < 32, n.driveState d = 0) ∧ n.ports.all (fun e => e.2.holder == none) = true

/-- A request that the keeper cannot serve does nothing (R42, R103). A write, read or information request of a master that
cannot ask (the node is not up, its keeper is in reset, or the master is a vat that does not run) leaves the state as
it was, but for the time that passed. -/
def Obligations.RequestsNeedTheKeeper : Prop := ∀ (s : State) (dt : Nat) (m : Master) (idx : BitVec 16) (sub : Byte) (data : List Byte),
  (s.at_ dt).asks m = false →
  exec (.registerWrite dt m idx sub data) s = .next { s with node := s.at_ dt } ∧
  exec (.odRead dt m idx sub) s = .next { s with node := s.at_ dt } ∧
  exec (.odInformation dt m idx sub) s = .next { s with node := s.at_ dt }

/-- Reads and information requests answer (R72, R76, R77). A read that no check refuses answers 0x0000 with the object's
value in its type's bytes and changes no object; an information request answers with the record of Table 4-5. Objects
whose reading does more, and measured ones, are left to other statements. -/
def Obligations.ReadsAnswer : Prop := ∀ (s : State) (dt : Nat) (m : Master) (idx : BitVec 16) (sub : Byte) (r : Row),
  let u := s.at_ dt
  u.asks m = true → u.rowFor idx.toNat sub.toNat = some r →
  (u.readCode m idx.toNat sub.toNat = 0 → canonIdx idx.toNat ≠ 0xF000 → measured idx.toNat sub.toNat = false →
    Answers (.odRead dt m idx sub) s fun t => Rests s t ∧ t.node.od = s.node.od ∧
      t.node.out = [.reply m 0 (toLE r.ty.size (u.valueOf m idx.toNat sub.toNat (u.instOf m idx.toNat sub.toNat) r))]) ∧
  (u.indexExists idx.toNat = true → Answers (.odInformation dt m idx sub) s fun t => Rests s t ∧ t.node.od = s.node.od ∧
    t.node.out = [.reply m 0 (toLE 2 r.ty.code ++ toLE 1 r.acc.code ++ toLE 1 (b2n r.kept + 2 * b2n r.nan)
      ++ toLE 2 (u.ownerMask m idx.toNat sub.toNat) ++ zeros 2 ++ toLE 8 r.ty.maxLen)])

/-- A refused request has no side effect (R76, R79). A write or read that a check of Table 4-4 refuses answers with that
check's code and changes nothing else. Indices 0x2300 and 0x3700, whose refusals are counted, and the data ports'
reads are left out. -/
def Obligations.RefusedRequestsChangeNoObject : Prop := ∀ (s : State) (dt : Nat) (m : Master) (idx : BitVec 16) (sub : Byte) (data : List Byte),
  let u := s.at_ dt
  u.asks m = true → idx.toNat ≠ 0x2300 → idx.toNat ≠ 0x3700 →
  (u.writeJudge m idx.toNat sub.toNat data ≠ 0 → exec (.registerWrite dt m idx sub data) s =
    .next { s with node := u.emit (.reply m (u.writeJudge m idx.toNat sub.toNat data) []) }) ∧
  (u.readCode m idx.toNat sub.toNat ≠ 0 → canonIdx idx.toNat ≠ 0xF000 → exec (.odRead dt m idx sub) s =
    .next { s with node := u.emit (.reply m (u.readCode m idx.toNat sub.toNat) []) })

/-- An accepted write stores its value (R72, R76, R82, R91). An accepted write to an object of an index whose writes bring
nothing with them is answered with 0x0000 and stores the value at the master's instance; no other object changes but
the uncommitted flag, which a kept object sets. -/
def Obligations.PlainWritesStore : Prop := ∀ (s : State) (dt : Nat) (m : Master) (idx : BitVec 16) (sub : Byte) (data : List Byte),
  let u := s.at_ dt
  let i := u.instOf m idx.toNat sub.toNat
  Takes s dt m idx.toNat sub.toNat data → plainIdx idx.toNat = true → ¬ (idx = 0x6000 ∧ sub = 0x08) →
  u.writeNode m idx.toNat sub.toNat i (ofLE data) data = none → u.writeBlock m idx.toNat sub.toNat i (ofLE data) data = none →
  Answers (.registerWrite dt m idx sub data) s fun t => Done m t ∧ Rests s t ∧ t.node.oi i idx.toNat sub.toNat = ofLE data
    ∧ SameObjects s.node t.node [key i idx.toNat sub.toNat, key 0 0x1020 0x06]
    ∧ (u.keptKey (key 0 idx.toNat sub.toNat) = true → u.store.job = none → t.node.o 0x1020 0x06 = 1)

/-- A vat may reset only itself (R44). A reset of any domain but the vat's own that a running vat writes to 0x1010.06 is
refused with 0x0604 and does nothing; the reset of itself is accepted outside BOOT, and puts that vat in reset. -/
def Obligations.VatsResetOnlyThemselves : Prop := ∀ (s : State) (dt : Nat) (v : Fin 16),
  let u := s.at_ dt
  let m : Master := .vat v
  u.asks m = true →
  (∀ kind inst : Byte, 1 ≤ kind.toNat → kind.toNat ≤ 9 → ¬ (kind = 3 ∧ inst.toNat = v.val) →
    Answers (.registerWrite dt m 0x1010 0x06 (resetWord 0xA5 kind.toNat inst)) s fun t =>
      Rests s t ∧ t.node.od = s.node.od ∧ t.node.out = [.reply m 0x0604 []]) ∧
  (u.curMode ≠ 2 → Answers (.vatResetCommand dt m 0xA5 (BitVec.ofNat 8 v.val)) s fun t => Done m t ∧ t.node.oi v 0x9000 0x07 = 3
    ∧ (t.node.vat v).pc = 0x80000000 ∧ (t.node.vat v).held = true)

/-- Masters raise messages of kind 0xF0 to 0xFF (R424). A write of 0x2200.0C by any master that can ask, outside BOOT,
queues one message with KIND, DETAIL and ADDRESS of the record under the master's SOURCE, with a vat as the owning vat
of its own; a KIND outside 0xF0 to 0xFF is refused with 0x0606 and queues nothing. -/
def Obligations.MastersRaiseFaults : Prop := ∀ (s : State) (dt : Nat) (m : Master) (data : BitVec 64),
  let u := s.at_ dt
  let d := data.toNat
  let source := match m with
    | .vat v => 0x010 + v.val
    | .localPort => 0x004
    | .can c => 0x0A4 + c.val
    | .ring id => 0x200 + id.val
  let vat := match m with | .vat v => v.val | _ => 0
  let word := source * 2 ^ 52 + (d % 256) * 2 ^ 44 + vat * 2 ^ 40 + (d / 256 % 256) * 2 ^ 32 + d / 2 ^ 32
  let q := mapGet u.ver.queues source {}
  u.asks m = true → u.curMode ≠ 2 →
  (d % 256 < 0xF0 → Answers (.raise dt m data) s fun t => Rests s t ∧ t.node.od = s.node.od ∧ t.node.ver = u.ver ∧ t.node.out = [.reply m 0x0606 []]) ∧
  (0xF0 ≤ d % 256 → d / 65536 % 65536 = 0 → Answers (.raise dt m data) s fun t => Rests s t ∧ t.node.od = s.node.od ∧ t.node.out = [.reply m 0 []]
    ∧ ∃ g : FaultMsg, g.word = word ∧ u.owningVat g = (match m with | .vat v => some v.val | _ => none)
      ∧ mapGet t.node.ver.queues source {} = (if q.msgs.length < 16 then { q with msgs := q.msgs ++ [g] } else { q with lost := q.lost + 1 }))

/-- Masters extend registers 22 and 23 (R437). A write of the 81-byte record to 0x2300.05 by any master that can ask,
outside BOOT, extends register 22 or 23 by DIGEST and logs it; another REG is refused with 0x0606, and with 3,840
entries since start the write is refused with 0x060A. The node's own events are always logged. -/
def Obligations.MastersExtendRegisters : Prop := (∀ (s : State) (dt : Nat) (m : Master) (data : List Byte),
    let u := s.at_ dt
    let x := u.cin
    let reg := fieldLE data 0 1
    u.asks m = true → u.curMode ≠ 2 → data.length = 81 →
    (reg ≠ 22 → reg ≠ 23 → Answers (.extend dt m data) s fun t => Rests s t ∧ t.node.od = s.node.od ∧ t.node.cin = x ∧ t.node.out = [.reply m 0x0606 []]) ∧
    ((reg = 22 ∨ reg = 23) → 3840 ≤ x.count → Answers (.extend dt m data) s fun t => Rests s t ∧ t.node.od = s.node.od ∧ t.node.cin = x
      ∧ t.node.out = [.reply m 0x060A []]) ∧
    ((reg = 22 ∨ reg = 23) → x.count < 3840 → Answers (.extend dt m data) s fun t => Rests s t ∧ t.node.od = s.node.od ∧ t.node.out = [.reply m 0 []]
      ∧ t.node.measureReg reg = sha384 (u.measureReg reg ++ slice data 1 48) ∧ (∀ r, r ≠ reg → t.node.measureReg r = u.measureReg r)
      ∧ t.node.cin.count = x.count + 1
      ∧ t.node.cin.log.getLast? = some (logEntry x.count reg 12 (masterSource m) u.keeperTime (slice data 1 48) (slice data 49 32)))) ∧
  (∀ (n : Node) r type data info, (n.measure r type data info).cin.count = n.cin.count + 1) ∧
  (∀ (n : Node) type master data info, (n.commissionEvent type master data info).cin.count = n.cin.count + 1)

/-- Mode commands wait for their boundary; reset commands begin their reset (R21, R23, R41, R43, R45, R466). An accepted
mode command is answered and waits, and 0x1010.02 reads it. An accepted reset command of each domain begins that
domain's reset. -/
def Obligations.ModeAndResetCommandsAct : Prop :=
  (∀ (s : State) (dt : Nat) (m : Master),
  let waits := fun (v : Nat) (t : State) =>
    Done m t ∧ Rests s t ∧ t.node.o 0x1010 0x02 = v ∧ t.node.mode = { s.node.mode with cmds := s.node.mode.cmds ++ [v] }
      ∧ SameObjects s.node t.node [key 0 0x1010 0x02]
  (Takes s dt m 0x1010 0x02 [3] → Answers (.enterCommission dt m) s (waits 3)) ∧
  (Takes s dt m 0x1010 0x02 [4] → Answers (.requestActive dt m) s (waits 4)) ∧
  (Takes s dt m 0x1010 0x02 [5] → Answers (.plannedHandoverToTwin dt m) s (waits 5)) ∧
  (Takes s dt m 0x1010 0x02 [7] → Answers (.commandSafe dt m) s (waits 7))) ∧
  (∀ (s : State) (dt : Nat) (m : Master) (inst : Byte),
  let word := fun (kind : Nat) => resetWord 0xA5 kind inst
  (Takes s dt m 0x1010 0x06 (word 1) →
    Answers (.nodeResetCommand dt m 0xA5 inst) s fun t => t.node.pwr.phase = .inReset ∧ t.node.pwr.resetCause = 2 ∧ t.node.pwr.resetOrigin = s.node.now + dt) ∧
  (Takes s dt m 0x1010 0x06 (word 2) →
    Answers (.keeperResetCommand dt m 0xA5 inst) s fun t => Done m t ∧ t.node.mode.keeperReset = some (s.node.now + dt)) ∧
  (Takes s dt m 0x1010 0x06 (word 3) →
    Answers (.vatResetCommand dt m 0xA5 inst) s fun t => Done m t ∧ t.node.oi inst.toNat 0x9000 0x07 = 3) ∧
  (Takes s dt m 0x1010 0x06 (word 4) →
    Answers (.lakeResetCommand dt m 0xA5 inst) s fun t => Done m t ∧ Rests s t ∧ t.node.unitState inst.toNat = 5) ∧
  (Takes s dt m 0x1010 0x06 (word 5) →
    Answers (.dynamicLakeResetCommand dt m 0xA5 inst) s fun t => Done m t ∧ Rests s t ∧ t.node.unitState (32 + inst.toNat) = 5) ∧
  (Takes s dt m 0x1010 0x06 (word 6) →
    Answers (.ringPortResetCommand dt m 0xA5 inst) s fun t => Done m t ∧ Rests s t ∧ t.node.portUp inst.toNat = false ∧
      (s.node.portUp inst.toNat = true → t.node.portState inst.toNat = 1)) ∧
  (Takes s dt m 0x1010 0x06 (word 7) →
    Answers (.pciePortResetCommand dt m 0xA5 inst) s fun t => Done m t ∧ Rests s t ∧
      ∀ d : Fin 32, (s.node.drive d).port = inst.toNat → t.node.driveState d ≠ 2 ∧ t.node.driveState d ≠ 5) ∧
  (Takes s dt m 0x1010 0x06 (word 8) →
    Answers (.canResetCommand dt m 0xA5 inst) s fun t => Done m t ∧ t.node.canState inst.toNat = 0 ∧
      t.node.oi inst.toNat 0x3400 0x18 = 0 ∧ t.node.oi inst.toNat 0x3400 0x19 = 0) ∧
  (Takes s dt m 0x1010 0x06 (word 9) →
    Answers (.serialPortResetCommand dt m 0xA5 inst) s fun t => Done m t ∧ Rests s t ∧
      t.node.oi inst.toNat 0x5600 0x14 = 4 ∧ (t.node.serialPort inst.toNat).inReset = true))

/-- Line inputs, the backup source and NRESET_IN (R18, R26, R27, R33, R34, R37, R40, R45, R448). Feeding, ceasing to feed
and the lockout of a line input, the rise and fall of the backup source, the detection of line loss, a hold-up that is
too short, and NRESET_IN: what each leaves in phase, mode, KEEP memory and counters. What a hold-up that is too short
leaves of records being written is free (assumption log 138). -/
def Obligations.PowerInputsAct : Prop := ∀ (s : State) (dt : Nat) (inp : LineInput) (mv : Nat),
  let u := s.at_ dt
  let x := u.pwr
  let line := fun (t : State) => t.node.lineIn inp
  let feeds := fun (t : State) => (match inp with | .east => bit (t.node.o 0x2000 0x05) 0 | .west => bit (t.node.o 0x2000 0x05) 1)
  (1800 < mv → Answers (.backupSourceRise dt mv) s fun t => Rests s t ∧ t.node.pwr.backup = true
    ∧ t.node.pwr.phase = (if x.phase = .off then .keep else x.phase) ∧ t.node.o 0x1010 0x01 = (if x.phase = .off then 1 else u.o 0x1010 0x01)
    ∧ SameObjects s.node t.node [key 0 0x1010 0x01]) ∧
  (mv < 1600 → x.phase ≠ .keep → Answers (.backupSourceFall dt mv) s fun t => Rests s t ∧ t.node.od = s.node.od ∧ t.node.pwr = { x with backup := false }) ∧
  (mv < 1600 → x.phase = .keep → Answers (.backupSourceFall dt mv) s fun t => Rests s t ∧ t.node.pwr.phase = .off ∧ t.node.o 0x1010 0x01 = 0
    ∧ t.node.o 0x2000 0x06 = 0 ∧ t.node.o 0x2000 0x07 = 0 ∧ t.node.o 0x2000 0x08 = 0 ∧ t.node.o 0x2000 0x0B = 0 ∧ t.node.o 0x1200 0x06 = 1
    ∧ t.node.rtc = {} ∧ t.node.cin.bootCount = 0 ∧ t.node.cin.anchor = List.replicate 48 0) ∧
  (40000 < mv → (u.lineIn inp).held = false → (u.lineIn inp).fedSince = none → Answers (.lineInputFeedStart dt inp mv) s fun t => Rests s t
    ∧ (line t).fedSince = some u.now ∧ feeds t = true
    ∧ t.node.o 0x2000 0x06 = (if u.up && !u.feeding && decide (u.now < x.lastFeedEnd + 20000) then min (u.o 0x2000 0x06 + 1) (2 ^ 32 - 1) else u.o 0x2000 0x06)
    ∧ SameObjects s.node t.node [key 0 0x2000 0x05, key 0 0x2000 0x06]) ∧
  (mv < 38000 → (u.lineIn inp).fedSince.isSome = true → Answers (.lineInputFeedStop dt inp mv) s fun t => Rests s t
    ∧ (line t).fedSince = none ∧ feeds t = false ∧ SameObjects s.node t.node [key 0 0x2000 0x05]
    ∧ (t.node.feeding = true → u.up = true → t.node.ver = (u.fault 0x000 0x02 (match inp with | .east => 1 | .west => 2) 0).ver)
    ∧ (t.node.feeding = false → t.node.pwr.lastFeedEnd = u.now)) ∧
  (60000 < mv → Answers (.overvoltageLockoutTrip dt inp mv) s fun t => Rests s t ∧ (line t).held = true ∧ (line t).fedSince = none) ∧
  ((u.lineIn inp).held = true → mv < 59000 → Answers (.overvoltageLockoutRelease dt inp mv) s fun t => Rests s t ∧ (line t).held = false
    ∧ (40000 < mv → (line t).fedSince.isSome = true) ∧ (mv ≤ 40000 → t.node.od = s.node.od)) ∧
  (x.phase = .lineLoss → mv < 24000 → Answers (.holdUpShort dt mv) s fun t => Rests s t
    ∧ t.node.pwr.phase = (if x.backup then .keep else .off) ∧ t.node.o 0x1010 0x01 = (if x.backup then 1 else 0)
    ∧ (x.backup = true → t.node.o 0x2000 0x0B = 2 ∧ t.node.pwr.shortDue = true)) ∧
  Answers (.nresetInHigh dt) s (fun t => Rests s t ∧ t.node.od = s.node.od ∧ t.node.pwr = { x with nresetLow := false, nresetRise := u.now }) ∧
  (s.node.up = true → Answers (.nresetInLow dt) s fun t => t.pending = s.pending ∧ t.node.pwr.phase = .inReset ∧ t.node.pwr.nresetLow = true
    ∧ t.node.pwr.resetCause = 0x01 ∧ t.node.pwr.resetOrigin = u.now ∧ Out.pin 4 false ∈ t.node.out ∧ t.node.twin.own = false) ∧
  (s.node.up = true → u.feeding = false → x.lastFeedEnd + 20000 ≤ u.now → Answers (.lineLossDetected dt) s fun t => t.pending = s.pending
    ∧ t.node.pwr.phase = .lineLoss ∧ t.node.pwr.lossAt = x.lastFeedEnd ∧ t.node.o 0x2000 0x08 = u.tai ∧ t.node.twin.own = false)

/-- When the node starts (R30, R36, R45, R430, R435). Line valid, the release of a node reset and the end of the line-loss
sequence with line valid start the node: NRESET_OUT rises and BOOT_COUNT goes up by one; without line valid the node
stays, or goes to KEEP or OFF. The loader is tried again once one of its slots is intact. That all steps of a start
act at its row is the model's reading (assumption log 140). -/
def Obligations.NodesStart : Prop := ∀ (s : State) (dt : Nat),
  let u := s.at_ dt
  let x := u.pwr
  let started := fun (t : State) => t.pending = s.pending ∧ (t.node.pwr.phase = .on ∨ t.node.pwr.phase = .boot) ∧ Out.pin 4 true ∈ t.node.out
    ∧ t.node.cin.bootCount = (u.cin.bootCount + 1) % 2 ^ 32 ∧ t.node.mode.cmds = [] ∧ t.node.mode.keeperReset = none
  (∀ mv su, (x.phase = .off ∨ x.phase = .keep) → u.lineValid mv = true → Answers (.lineValid dt mv su) s started) ∧
  (∀ mv su, (x.phase = .off ∨ x.phase = .keep) → u.lineValid mv = false → Answers (.lineValid dt mv su) s fun t => Rests s t ∧ t.node = u) ∧
  (∀ su, u.releaseDue = true → Answers (.nodeResetRelease dt su) s started) ∧
  (∀ mv su, u.lossOver = true → u.lineValid mv = true → Answers (.lineLossSequenceEnd dt mv su) s started) ∧
  (∀ mv su, u.lossOver = true → u.lineValid mv = false → Answers (.lineLossSequenceEnd dt mv su) s fun t => t.pending = s.pending
    ∧ t.node.pwr.phase = (if x.backup then .keep else .off) ∧ t.node.o 0x1010 0x01 = (if x.backup then 1 else 0)
    ∧ (x.backup = true → t.node.o 0x2000 0x0B = 1 ∧ t.node.o 0x2000 0x07 = min (u.o 0x2000 0x07 + 1) (2 ^ 32 - 1))) ∧
  (x.phase = .boot → u.cin.loaderFail = true → (u.slotIntact 0 0 || u.slotIntact 0 1) = true → Answers (.loaderRetry dt) s fun t => t.pending = s.pending
    ∧ t.node.cin.loaderFail = false ∧ slotKey 0 (if u.slotIntact 0 0 then 0 else 1) ∈ t.node.cin.running) ∧
  (x.phase = .boot → u.slotIntact 0 0 = false → u.slotIntact 0 1 = false → Answers (.loaderRetry dt) s fun t => Rests s t ∧ t.node = u)

/-- The role decision, and a keeper reset from its beginning to its end (R21, R32, R41, R42, R342). The role decision and
the end of its wait lead to COMMISSION, STANDBY or a mode that owns, as R32 says; a keeper lockstep mismatch begins a
keeper reset, which ends with the keeper serving, in STANDBY where it handed over. Which modes hand over at a keeper
reset is the model's reading (assumption log 69). -/
def Obligations.RolesAreDecided : Prop := ∀ (s : State) (dt : Nat), s.node.up = true →
  let u := s.at_ dt
  let x := u.mode
  let owns := fun (t : State) => t.pending = s.pending ∧ (t.node.curMode = 4 ∨ t.node.curMode = 6 ∨ t.node.curMode = 7) ∧ t.node.twin.own = true
  let follows := fun (cause : Nat) (t : State) => t.pending = s.pending ∧ t.node.curMode = 5 ∧ t.node.twin.own = false ∧ t.node.o 0x1010 0x03 = cause
  (u.curMode = 2 → x.roleDue = true →
    ((x.startCause = 0x10 ∨ x.startCause = 0x11 ∨ x.startCause = 0x12) → Answers (.roleDecision dt) s fun t => t.pending = s.pending ∧ t.node.curMode = 3
      ∧ t.node.o 0x1010 0x03 = x.startCause ∧ t.node.mode.roleDue = false) ∧
    (x.startCause = 0x20 →
      (u.twinOn = false → Answers (.roleDecision dt) s fun t => owns t ∧ t.node.o 0x1010 0x03 = 0x20) ∧
      (u.twinOn = true → u.twin.ownIn = true → Answers (.roleDecision dt) s (follows 0x20)) ∧
      (u.twinOn = true → u.twin.ownIn = false → u.preferred = true → Answers (.roleDecision dt) s fun t => owns t ∧ t.node.o 0x1010 0x03 = 0x20) ∧
      (u.twinOn = true → u.twin.ownIn = false → u.preferred = false → Answers (.roleDecision dt) s fun t => Rests s t ∧ t.node.od = s.node.od
        ∧ t.node.mode.roleWait = some { since := u.now, cause := 0x20 }))) ∧
  (∀ w, x.roleWait = some w →
    (u.twin.ownIn = true → Answers (.roleDecisionWaitExpiry dt) s (follows w.cause)) ∧
    (u.twin.ownIn = false → u.now < w.since + 500000000 → Answers (.roleDecisionWaitExpiry dt) s fun t => Rests s t ∧ t.node = u) ∧
    (u.twin.ownIn = false → w.since + 500000000 ≤ u.now → u.twin.hbSeen = true → Answers (.roleDecisionWaitExpiry dt) s (follows w.cause)) ∧
    (u.twin.ownIn = false → w.since + 500000000 ≤ u.now → u.twin.hbSeen = false → Answers (.roleDecisionWaitExpiry dt) s fun t =>
      owns t ∧ t.node.o 0x1010 0x03 = w.cause)) ∧
  (∀ stage, x.keeperReset = none → Answers (.keeperLockstepMismatch dt stage) s fun t => t.pending = s.pending ∧ t.node.mode.keeperReset = some u.now
    ∧ t.node.lp.outstanding = [] ∧ t.node.twin.passed = [] ∧ t.node.curMode = u.curMode ∧ t.node.twin.own = u.twin.own) ∧
  (∀ at_, x.keeperReset = some at_ → x.keeperHandedOver = false → Answers (.keeperServingAgain dt) s fun t => t.pending = s.pending
    ∧ t.node.mode.keeperReset = none ∧ t.node.curMode = u.curMode) ∧
  (∀ at_, x.keeperReset = some at_ → x.keeperHandedOver = true → Answers (.keeperServingAgain dt) s fun t =>
    follows x.standbyCause t ∧ t.node.mode.keeperReset = none ∧ t.node.syncState = u.syncState) ∧
  (∀ at_, x.keeperReset = some at_ → u.twin.own = true → (u.curMode = 4 ∨ u.curMode = 6 ∨ u.curMode = 7) → u.twinFitPlanned = true → u.twin.agreed = none →
    at_ + 10000 ≤ u.now → Answers (.keeperResetHandover dt) s fun t => t.pending = s.pending ∧ t.node.twin.own = false ∧ t.node.curMode = u.curMode
      ∧ t.node.mode.keeperHandedOver = true ∧ t.node.mode.standbyCause = 0x25)

/-- The RTC: its writes, trim, shift, oscillator and periodic wake (R59, R60, R61, R62, R63, R64). An accepted RTC shift
waits with its status bit set; an accepted RTC time write sets seconds and subseconds and drops a waiting shift; a
capture write arms the capture. The trim window takes the trim object, each trim pulse moves the count by one, a shift
is applied once, an oscillator stop loses its ticks and sets OSF from 4 ms on, and the periodic wake is due again
after its period. When a written time takes effect within the trim window is the model's reading (assumption log 13). -/
def Obligations.ClocksAreSet : Prop :=
  (∀ (s : State) (dt : Nat) (m : Master),
  (∀ val : BitVec 32, Takes s dt m 0x1200 0x04 (toLE 4 val.toNat) → Answers (.rtcShift dt m val) s fun t =>
    Done m t ∧ Rests s t ∧ t.node.rtc = { (s.at_ dt).rtc with shift := some (toI 32 val.toNat) } ∧ bit (t.node.o 0x1200 0x06) 3 = true
      ∧ SameObjects s.node t.node [key 0 0x1200 0x06]) ∧
  (∀ sec : BitVec 64, Takes s dt m 0x1200 0x01 (toLE 8 sec.toNat) → Answers (.rtcSetTime dt m sec) s fun t =>
    Done m t ∧ Rests s t ∧ t.node.rtcSeconds = sec.toNat ∧ t.node.rtcSub = 0 ∧ t.node.rtc.shift = none
      ∧ bit (t.node.o 0x1200 0x06) 3 = false ∧ bit (t.node.o 0x1200 0x06) 0 = false ∧ SameObjects s.node t.node [key 0 0x1200 0x06]) ∧
  (Takes s dt m 0x1100 0x08 [1] → Answers (.timeStampCapture dt m 1) s fun t =>
    Done m t ∧ Rests s t ∧ t.node.rtc = { (s.at_ dt).rtc with capture := true } ∧ bit (t.node.o 0x1200 0x06) 1 = true
      ∧ SameObjects s.node t.node [key 0 0x1200 0x06])) ∧
  (∀ (s : State) (dt : Nat), s.node.pwr.phase ≠ .off →
  let u := s.at_ dt
  Answers (.rtcTrimWindow dt) s (fun t => Rests s t ∧ t.node.rtc.trim = t.node.oint 16 0 0x1200 0x03
    ∧ t.node.rtc.trimLeft = t.node.rtc.trim.natAbs ∧ t.node.rtc.winValid = true) ∧
  (u.rtc.trimLeft ≠ 0 → Answers (.rtcTrimPulse dt) s fun t => Rests s t ∧ t.node.rtc.trimLeft + 1 = u.rtc.trimLeft
    ∧ t.node.rtc.ticks = (if 0 < u.rtc.trim then u.rtc.ticks + 1 else u.rtc.ticks - 1) ∧ t.node.od = s.node.od) ∧
  (∀ d, u.rtc.shift = some d → Answers (.rtcShiftApply dt) s fun t => Rests s t ∧ t.node.rtc.shift = none
    ∧ t.node.rtc.ticks = ((u.rtc.ticks : Int) + d).toNat ∧ bit (t.node.o 0x1200 0x06) 3 = false) ∧
  (∀ durNs, Answers (.oscillatorStopped dt durNs) s fun t => Rests s t ∧ t.node.rtc.ticks = u.rtc.ticks - durNs * 32768 / 1000000000
    ∧ (4000000 ≤ durNs → bit (t.node.o 0x1200 0x06) 0 = true) ∧ (durNs < 2000000 → t.node.od = s.node.od)) ∧
  (∀ d, u.rtc.wakeDue = some d → d ≤ u.rtc.ticks → u.o 0x1200 0x05 ≠ 0 → Answers (.periodicWake dt) s fun t =>
    Rests s t ∧ t.node.rtc.wakeDue = some (d + u.o 0x1200 0x05 * 32)
      ∧ (u.up = true → bit (t.node.o 0x1200 0x06) 2 = true ∧ ∀ v : Fin 16, 1 ∈ (t.node.vat v).pend ∨ 1 ∈ (t.node.vat v).claimed)
      ∧ (u.pwr.phase = .keep → t.node.o 0x1200 0x08 = min (u.o 0x1200 0x08 + 1) 65535)))

/-- The time island, the islands' time copies and broadcasts (R49, R52, R55, R56, R58, R66, R69). The states of the time
island, captures and leap seconds; PLL lock and its loss, time tokens and the latency calibration of an island; the
issue, acknowledgement and action of broadcasts. -/
def Obligations.TimeIslandsAct : Prop :=
  (∀ (s : State) (dt : Nat), s.node.up = true →
  let u := s.at_ dt
  (u.o 0x1100 0x03 = 1 → Answers (.rtcSecond dt) s fun t => Rests s t ∧ t.node.od = s.node.od
    ∧ t.node.time = { u.time with slewLeft := u.rtcPhase, slewPpm := 100 }) ∧
  (u.rtc.capture = true → Answers (.captureLatch dt) s fun t => Rests s t ∧ t.node.rtc.capture = false ∧ bit (t.node.o 0x1200 0x06) 1 = false
    ∧ t.node.o 0x1100 0x0B = u.tai ∧ t.node.o 0x1100 0x0C = u.rtc.ticks % 2 ^ 63
    ∧ SameObjects s.node t.node [key 0 0x1100 0x0B, key 0 0x1100 0x0C, key 0 0x1100 0x0D, key 0 0x1100 0x0E, key 0 0x1200 0x06]) ∧
  (u.o 0x1100 0x03 = 2 → u.time.lastSync + 3000000000 ≤ u.now → Answers (.syncTimeout dt) s fun t => Rests s t
    ∧ t.node.o 0x1100 0x03 = 3 ∧ t.node.o 0x1100 0x04 = 0 ∧ t.node.time.holdSince = u.now ∧ t.node.time.rate = u.time.rate) ∧
  (u.o 0x1100 0x03 = 3 → u.time.holdSince + u.o 0x1100 0x09 * 1000000000 < u.now → Answers (.holdoverLimit dt) s fun t => Rests s t
    ∧ t.node.o 0x1100 0x03 = (if bit (u.o 0x1200 0x06) 0 then 0 else 1) ∧ t.node.time.rate = 0) ∧
  (u.o 0x1100 0x03 = 2 → u.time.utcValid = true → (u.time.leap59 || u.time.leap61) = true → Answers (.leapSecond dt) s fun t => Rests s t
    ∧ t.node.time.leap59 = false ∧ t.node.time.leap61 = false ∧ t.node.tai = u.tai
    ∧ t.node.oint 16 0 0x1100 0x02 = max 0 (min 1000 (u.oint 16 0 0x1100 0x02 + (if u.time.leap61 then 1 else -1)))
    ∧ SameObjects s.node t.node [key 0 0x1100 0x02])) ∧
  (∀ (s : State) (dt : Nat) (i : Fin 61), s.node.up = true →
  let u := s.at_ dt
  (u.oi i 0x2100 0x03 ≠ 2 → Answers (.pllLock dt i) s fun t => Rests s t ∧ t.node.oi i 0x2100 0x03 = 2 ∧ (t.node.isl i).tokens = 0
    ∧ SameObjects s.node t.node [key i 0x2100 0x03]) ∧
  (u.oi i 0x2100 0x03 = 2 → Answers (.pllLockLost dt i) s fun t => Rests s t ∧ t.node.oi i 0x2100 0x03 = 3 ∧ t.node.oi i 0x2100 0x06 = 0
    ∧ t.node.oi i 0x2100 0x08 = min (u.oi i 0x2100 0x08 + 1) (2 ^ 32 - 1) ∧ t.node.ver = (u.fault (0x100 + i) 0x04 0 0).ver
    ∧ SameObjects s.node t.node [key i 0x2100 0x03, key i 0x2100 0x06, key i 0x2100 0x08]) ∧
  (∀ tv, i.val ≠ 0 → Answers (.timeToken dt i tv) s fun t => Rests s t
    ∧ (t.node.isl i).target = tv + u.oi i 0x2100 0x07 / 1000
    ∧ (u.copy i < (t.node.isl i).target → t.node.copy i = (t.node.isl i).target)
    ∧ (u.copyValid i = true → u.copy i ≤ t.node.copy i)
    ∧ (u.oi i 0x2100 0x03 = 2 → (u.isl i).tokens = 3 → t.node.copyValid i = true)) ∧
  (∀ sumPs, Answers (.latencyCalibration dt i sumPs) s fun t => Rests s t ∧ t.node.oi i 0x2100 0x07 = sumPs / 128 % 2 ^ 32
    ∧ SameObjects s.node t.node [key i 0x2100 0x07])) ∧
  (∀ (s : State) (dt : Nat), s.node.up = true →
  let u := s.at_ dt
  (∀ b rest, u.bc.chain = none → u.bc.waiting = b :: rest → Answers (.broadcastIssue dt) s fun t => Rests s t ∧ t.node.od = s.node.od ∧
    ∃ late, t.node.bc =
      { chain := some ({ b with late := late }, u.now), waiting := rest, armed := u.bc.armed ++ [⟨{ b with late := late }, List.range 61⟩] } ∧
      (∀ at_, b.time = some at_ → b.late = false → late = decide (at_ < u.tai + 3400)) ∧ (b.time = none → late = true)) ∧
  (∀ b from_, u.bc.chain = some (b, from_) → Answers (.broadcastAck dt) s fun t => Rests s t ∧ t.node.bc = { u.bc with chain := none }
    ∧ t.node.o 0x2100 0x09 = (u.now - from_) % 2 ^ 32 ∧ SameObjects s.node t.node [key 0 0x2100 0x09]) ∧
  (∀ (i : Fin 61) a rest, u.bc.armed = a :: rest → u.bcastDue i a = true → Answers (.timedBroadcastAct dt i) s fun t => Rests s t
    ∧ t.node.bc.armed = (if a.islands.filter (· != i.val) = [] then rest else { a with islands := a.islands.filter (· != i.val) } :: rest)
    ∧ (∀ d, a.b.kind = .timeStep d → i.val ≠ 0 → t.node.copy i = ((u.copy i : Int) + d).toNat)
    ∧ (∀ d, a.b.kind = .timeStep d → i.val = 0 → t.node.tai = ((u.tai : Int) + d).toNat
        ∧ t.node.o 0x1100 0x0A = min (u.o 0x1100 0x0A + 1) (2 ^ 32 - 1))))

/-- Commit, commissioning reset and discard (R90, R91). An accepted commit takes its snapshot of the kept objects or
reports that the image is too long; its completion makes the inactive bank the committed one. Commissioning reset and
discard set the objects to their defaults or to the committed bank's values. The image's bytes are the model's opaque
function (assumption log 21). What the uncommitted flag reads after discard and commissioning reset is the model's
choice (assumption log 11). -/
def Obligations.StoreActs : Prop :=
  (∀ (s : State) (dt : Nat) (m : Master),
  let u := s.at_ dt
  let image := Config.storeImage u.keptObjs u.keptDoms
  let plain := (∀ e ∈ s.node.od, plainIdx (keyIdx e.1) = true ∨ keyIdx e.1 = 0x1010 ∨ keyIdx e.1 = 0x1020) ∧ s.node.dom = []
  (Takes s dt m 0x1020 0x01 [0x01, 0, 0, 0xA5] → Answers (.commit dt m 0xA5) s fun t => Done m t ∧ Rests s t
    ∧ t.node.o 0x1020 0x04 = u.tai ∧ t.node.o 0x1020 0x06 = 0
    ∧ (image.length ≤ storeMax → ∃ j, t.node.store.job = some j ∧ j.objs = u.keptObjs ∧ j.doms = u.keptDoms
        ∧ j.bankB = !(u.committedBank.getD true) ∧ (t.node.bank j.bankB).valid = false)
    ∧ (storeMax < image.length → t.node.store.job = none ∧ t.node.o 0x1020 0x02 / 65536 = 0x060A)) ∧
  (Takes s dt m 0x1020 0x01 [0x02, 0, 0, 0xA5] → plain → s.node.store.job = none →
    Answers (.commissioningReset dt m 0xA5) s fun t => Done m t ∧ Rests s t ∧ t.node.store.applied = none
      ∧ t.node.o 0x1020 0x06 = 1 ∧ ∀ k, settable k = true → odGet t.node.od k = odDefault k) ∧
  (Takes s dt m 0x1020 0x01 [0x03, 0, 0, 0xA5] → Answers (.discard dt m 0xA5) s fun t => Done m t ∧ Rests s t ∧ t.node.o 0x1020 0x06 = 0
    ∧ (plain → u.committedBank = none → ∀ k, settable k = true → odGet t.node.od k = odDefault k)
    ∧ (plain → ∀ b, u.committedBank = some b → (u.bank b).doms = [] → mapSorted (u.bank b).objs = true →
        (∀ e ∈ (u.bank b).objs, plainIdx (keyIdx e.1) = true) → ∀ k, (rowOf (keyIdx k) (keySub k)).any (·.kept) = true →
        keyIdx k ≠ 0x1020 → keyIdx k ≠ 0x2300 → odGet t.node.od k = mapGet (u.bank b).objs k (odDefault k)))) ∧
  (∀ (s : State) (dt : Nat), s.node.up = true →
  let u := s.at_ dt
  (∀ j, u.store.job = some j → j.len ≤ storeMax → u.bankUnusable j.bankB = false → (u.bank j.bankB).valid = false →
    Answers (.commitComplete dt true) s fun t =>
    Rests s t ∧ t.node.store.job = none ∧ t.node.committedBank = some j.bankB
      ∧ (t.node.bank j.bankB).objs = j.objs ∧ (t.node.bank j.bankB).doms = j.doms ∧ (t.node.bank j.bankB).seq = j.seq
      ∧ t.node.o 0x1020 0x03 = j.seq ∧ t.node.o 0x1020 0x05 = j.len ∧ t.node.o 0x1020 0x02 / 65536 = 0) ∧
  (∀ b, u.store.erasing = some b → 0 < (u.bank b).left → u.store.job = none → Answers (.bankSectorErased dt true) s fun t =>
    Rests s t ∧ (t.node.bank b).left = (u.bank b).left - 1 ∧ ((u.bank b).left = 1 → (t.node.bank b).blank = true)))

/-- Data ports (R92, R93, R94, R95, R96, R97, R98). Claim, release, offset, open and burst of a data port, the end of
applying, and the hold timeout: the port's state, position, buffer and holder, and the DOMAIN that an applied transfer
stores. -/
def Obligations.DataPortsAct : Prop :=
  (∀ (s : State) (dt : Nat) (m : Master) (p : Fin 16),
  let u := s.at_ dt
  let x := u.port p
  (∀ target : BitVec 32, target ≠ 0 → Takes s dt m (portIdx p) 0x01 (toLE 4 target.toNat) → Answers (.dataPortClaim dt m p target) s fun t =>
    Done m t ∧ Rests s t ∧ t.node.portTarget p = target.toNat ∧ (t.node.port p).state = .claimed ∧ (t.node.port p).holder = some m
      ∧ (t.node.port p).buf = [] ∧ SameObjects s.node t.node [key 0 (portIdx p) 0x01]) ∧
  (Takes s dt m (portIdx p) 0x01 (zeros 4) → Answers (.dataPortRelease dt m p) s fun t => Done m t ∧ Rests s t ∧ t.node.portTarget p = 0
    ∧ (t.node.port p).state = (if x.state = .opened ∨ x.state = .hold then .abandoned else .idle) ∧ (t.node.port p).buf = []) ∧
  (∀ off : BitVec 64, Takes s dt m (portIdx p) 0x02 (toLE 8 off.toNat) → Answers (.dataPortSetOffset dt m p off) s fun t =>
    Done m t ∧ Rests s t ∧ t.node.o (portIdx p) 0x02 = off.toNat
      ∧ (t.node.port p).state = (if x.state = .hold then .opened else x.state)) ∧
  (∀ len : BitVec 64, Takes s dt m (portIdx p) 0x03 (toLE 8 len.toNat) → Answers (.dataPortOpen dt m p len) s fun t =>
    Done m t ∧ Rests s t ∧ t.node.o (portIdx p) 0x03 = len.toNat ∧ t.node.o (portIdx p) 0x06 = 0
      ∧ (t.node.port p).state = .opened ∧ (t.node.port p).holder = some m) ∧
  (∀ bs, Takes s dt m (portIdx p) 0x04 bs → u.burstCode m p true false bs.length = 0 → Answers (.dataPortBurst dt m p (some bs) false) s fun t =>
    Done m t ∧ Rests s t ∧ (t.node.port p).buf = x.buf ++ bs ∧ t.node.o (portIdx p) 0x06 = u.o (portIdx p) 0x06 + bs.length
      ∧ (t.node.port p).state = (if u.portPos p + bs.length = u.portEnd p then .applying else .opened)) ∧
  (u.asks m = true → u.readCode m (portIdx p) 0x04 = 0 → u.burstCode m p false false (min 1408 (u.portEnd p - u.portPos p)) = 0 →
    Answers (.dataPortBurst dt m p none false) s fun t => Rests s t
      ∧ t.node.out = [.reply m 0 (slice x.buf (u.portPos p - x.base) (min 1408 (u.portEnd p - u.portPos p)))])) ∧
  (∀ (s : State) (dt : Nat) (p : Fin 16), s.node.up = true →
  let u := s.at_ dt
  let x := u.port p
  let t := u.portTarget p
  let code := fun (m : Master) => firstFail [u.targetCode m t x.inst, u.domApplyCode (targetIdx t) (targetSub t) x.inst x.base x.buf]
  (∀ m, x.holder = some m → x.state = .applying → Answers (.dataPortApplyDone dt p) s fun r => Rests s r
    ∧ (code m = 0 → (r.node.port p).state = .done ∧ (r.node.port p).buf = [])
    ∧ (code m = 0 → plainIdx (targetIdx t) = true → r.node.domI x.inst (targetIdx t) (targetSub t)
        = u.domSpliced (targetIdx t) (targetSub t) x.inst x.base x.buf)
    ∧ (code m ≠ 0 → (r.node.port p).state = .abandoned ∧ (r.node.port p).lastAbort = code m ∧ r.node.dom = s.node.dom)) ∧
  (x.state = .claimed ∨ x.state = .opened ∨ x.state = .hold → x.lastAccess + u.o (portIdx p) 0x07 * 1000000000 ≤ u.now →
    Answers (.dataPortHoldTimeout dt p) s fun r => Rests s r ∧ r.node.od = s.node.od
      ∧ (r.node.port p).state = (if x.state = .claimed then .idle else .abandoned)))

/-- The local port (R101, R102, R103). A request frame whose length does not fit its header counts as a CRC error, one in
good order is answered into the response queue; status, response and resync answer or empty what the port holds. -/
def Obligations.LocalPortCommandsAct : Prop := ∀ (s : State) (dt : Nat), s.node.up = true → s.node.lp.on = true →
  let u := s.at_ dt
  (∀ (tag : Byte) (idx : BitVec 16) (sub : Byte),
    let body : List Byte := [tag, 1] ++ toLE 2 idx.toNat ++ [sub, 0, 0, 0]
    u.mode.keeperReset = none → u.lpFree ≠ 0 → u.lp.outstanding.contains u.lp.serial = false →
    Answers (.request dt (body ++ toLE 4 (crc32 (1 :: body)))) s fun t => Rests s t ∧ t.node.lp.outstanding = u.lp.outstanding
      ∧ ∃ code data, t.node.lp.ready = u.lp.ready ++ [lpResponse tag.toNat 1 code data]) ∧
  (∀ frame, frame.length ≠ 12 + fieldLE frame 6 2 → Answers (.request dt frame) s fun t => Rests s t ∧ t.node.lp = { u.lp with crcErr := true }
    ∧ t.node.o 0x3600 0x02 = min (u.o 0x3600 0x02 + 1) (2 ^ 32 - 1)) ∧
  Answers (.status dt) s (fun t => Rests s t ∧ t.node.out = [.spi (toLE 4 u.lpStatus)] ∧ t.node.lp = { u.lp with overrun := false, crcErr := false }) ∧
  (∀ r rest, u.lp.ready = r :: rest → Answers (.response dt) s fun t => Rests s t ∧ t.node.out = [.spi r] ∧ t.node.lp.ready = rest) ∧
  (u.lp.ready = [] → Answers (.response dt) s fun t => Rests s t ∧ t.node.out = [.spi (zeros 8)] ∧ t.node.lp = u.lp) ∧
  Answers (.resync dt) s (fun t => Rests s t ∧ t.node.lp.outstanding = [] ∧ t.node.lp.ready = [] ∧ t.node.od = s.node.od)

/-- Applying a configuration description (R104, R105). Apply reports a line that does not parse, the code and line of the
first entry that fails with nothing changed, or success with the number of entries. The codes and the order of judging
are the model's readings (assumption logs 83, 98 and 99). -/
def Obligations.CezelApplies : Prop := ∀ (s : State) (dt : Nat) (m : Master),
  let u := s.at_ dt
  let text := if u.domI 1 0x1030 0x01 = [] then u.store.stored else u.domI 1 0x1030 0x01
  Takes s dt m 0x1030 0x02 [1] →
  (∀ line, cezParse text = .error line → Answers (.apply dt m 1) s fun t => Done m t ∧ Rests s t ∧ t.node.o 0x1030 0x03 = 0x0607
    ∧ t.node.o 0x1030 0x04 = line ∧ SameObjects s.node t.node [key 0 0x1030 0x03, key 0 0x1030 0x04]) ∧
  (∀ es code line, cezParse text = .ok es → u.entriesDo m es = .inl (code, line) → Answers (.apply dt m 1) s fun t => Done m t ∧ Rests s t
    ∧ t.node.o 0x1030 0x03 = code ∧ t.node.o 0x1030 0x04 = line ∧ SameObjects s.node t.node [key 0 0x1030 0x03, key 0 0x1030 0x04]) ∧
  (∀ es n', cezParse text = .ok es → u.entriesDo m es = .inr n' → Answers (.apply dt m 1) s fun t => Done m t ∧ t.node.o 0x1030 0x03 = 0
    ∧ t.node.o 0x1030 0x04 = 0 ∧ t.node.o 0x1030 0x05 = es.length ∧ t.node.store.applied = some text)

/-- The vats: access faults, timers, interrupts, restart and doorbells (R108, R109, R113, R117, R118, R125). A core's
access fault is kept and reported; timers become pending; a claim takes the highest-priority source and a completion
lets it come again; a vat restarts, halted only while the function VATS is stopped; a doorbell moves the vat's index,
or stops the queue in ERROR where it may not. -/
def Obligations.VatsAct : Prop :=
  (∀ (s : State) (dt : Nat) (v : Fin 16), s.node.vatRuns v = true →
  let u := s.at_ dt
  let x := u.vat v
  (∀ (addr : BitVec 64) (kind : AccessKind), u.vatMayAccess v addr.toNat (kind == .write || kind == .atomic) = false →
    Answers (.vatAccessFault dt v addr kind) s fun t => Rests s t ∧ t.node.od = s.node.od
      ∧ (t.node.vat v).accessFault = some (addr.toNat, accessCode kind)
      ∧ t.node.ver = (u.raiseMsg ⟨faultWord (0x010 + v) 0x20 v (accessCode kind) (addr.toNat % 2 ^ 32), addr.toNat, 1, v, accessCode kind⟩).ver) ∧
  (Answers (.timerInterrupt dt v []) s fun t => Rests s t ∧ t.node.vat v =
    { x with mtip := x.mtip || decide (x.mtimecmp ≤ u.vatTime v), stip := x.stip || decide (x.stimecmp ≤ u.vatTime v) }) ∧
  (∀ ctx, Answers (.interruptClaim dt v ctx []) s fun t => Rests s t ∧ t.node.od = s.node.od ∧ t.node.out = [.claim v (claimSource x ctx)]
    ∧ (claimSource x ctx ≠ 0 → claimSource x ctx ∉ (t.node.vat v).pend ∧ claimSource x ctx ∈ (t.node.vat v).claimed)) ∧
  (∀ ctx (src : Byte), enabledIn x ctx src.toNat = true → src.toNat ∈ x.claimed → src.toNat ∉ x.pend → src.toNat ≠ 0 →
    Answers (.interruptComplete dt v ctx src []) s fun t => Rests s t ∧ t.node.od = s.node.od ∧ src.toNat ∉ (t.node.vat v).claimed
      ∧ (src.toNat ∈ (t.node.vat v).pend ↔ u.causeHolds v src.toNat = true))) ∧
  (∀ (s : State) (dt : Nat) (v : Fin 16),
  s.node.up = true → s.node.oi v 0x9000 0x07 = 3 → bit (s.node.o 0x2200 0x16) v = false → (s.node.vat v).slot < 2 →
  Answers (.vatRestart dt v) s fun t => Rests s t ∧ (t.node.vat v).pc = 0x80000000 ∧ (t.node.vat v).priv = 3 ∧ (t.node.vat v).held = bit (s.node.o 0x1010 0x04) 7
    ∧ t.node.oi v 0x9000 0x07 = (if bit (s.node.o 0x1010 0x04) 7 then 4 else 2) ∧ SameObjects s.node t.node [key v 0x9000 0x07]) ∧
  (∀ (s : State) (dt : Nat) (v : Fin 16) (slot : Fin 8192) (value : BitVec 32),
  let u := s.at_ dt
  let q := (u.vat v).firstQ + slot
  let sends := isSubmission (u.oi q 0x9100 0x03)
  let old := occupancy (u.pi q) (u.ci q)
  s.node.vatRuns v = true → slot.val < (u.vat v).countQ →
  (u.oi q 0x9100 0x0B = 1 → sends = true → old ≤ occupancy value.toNat (u.ci q) → occupancy value.toNat (u.ci q) ≤ u.depth q →
    Answers (.doorbellWrite dt v slot value []) s fun t => Rests s t ∧ t.node.oi q 0x9100 0x0C = value.toNat ∧ (t.node.queue q).written = value.toNat
      ∧ SameObjects s.node t.node [key q 0x9100 0x0C]) ∧
  (u.oi q 0x9100 0x0B = 1 → sends = false → occupancy (u.pi q) value.toNat ≤ old →
    Answers (.doorbellWrite dt v slot value []) s fun t => Rests s t ∧ t.node.oi q 0x9100 0x0D = value.toNat ∧ (t.node.queue q).written = value.toNat
      ∧ SameObjects s.node t.node [key q 0x9100 0x0D]) ∧
  (u.oi q 0x9100 0x0B = 1 → ((sends = true ∧ (occupancy value.toNat (u.ci q) < old ∨ u.depth q < occupancy value.toNat (u.ci q)))
      ∨ (sends = false ∧ old < occupancy (u.pi q) value.toNat)) →
    Answers (.doorbellWrite dt v slot value []) s fun t => Rests s t ∧ t.node.oi q 0x9100 0x0B = 2
      ∧ (6 ∈ (t.node.vat v).pend ∨ 6 ∈ (t.node.vat v).claimed) ∧ t.node.ver = (u.fault (0x010 + v) 0x21 0 q).ver
      ∧ SameObjects s.node t.node [key q 0x9100 0x0B]) ∧
  (u.oi q 0x9100 0x0B ≠ 1 → Answers (.doorbellWrite dt v slot value []) s fun t => Rests s t ∧ t.node.od = s.node.od
    ∧ (t.node.queue q).written = value.toNat))

/-- A claim takes the ready source of highest priority (R113). The source that a claim takes is 0 exactly if none is
pending, enabled and above the threshold; otherwise it is such a source of highest priority, the lowest number among
equals. -/
def Obligations.ClaimsTakeTheHighestPriority : Prop := ∀ (x : VatSt) (c : IrqContext), 0 ∉ x.pend →
  let ready := fun (i : Nat) => i ∈ x.pend ∧ enabledIn x c i = true ∧ threshOf x c < prioOf x i
  (claimSource x c = 0 ↔ ∀ i, ¬ ready i) ∧
  (claimSource x c ≠ 0 → ready (claimSource x c) ∧ ∀ i, ready i →
    prioOf x i < prioOf x (claimSource x c) ∨ (prioOf x i = prioOf x (claimSource x c) ∧ claimSource x c ≤ i))

/-- A vat's stores stay in its allotment (R110, R111). Whatever stores a vat's core makes with its commands, every byte of
DRAM outside that vat's allotment reads as before. -/
def Obligations.VatStoresStayInTheirAllotment : Prop := ∀ (s t : State) (dt : Nat) (v : Fin 16) (stores : List VatStore) (c : Instr),
  (c = .timerInterrupt dt v stores ∨ (∃ ctx, c = .interruptClaim dt v ctx stores) ∨ (∃ ctx src, c = .interruptComplete dt v ctx src stores)
    ∨ ∃ slot value, c = .doorbellWrite dt v slot value stores) →
  nextOf (exec c s) = some t →
  ∀ a, ¬ (vatAddr v 0x80000000 ≤ a ∧ a < vatAddr v (0x80000000 + (s.node.vat v).allotMiB * 2 ^ 20)) → memRead t.vmem a = memRead s.vmem a

/-- Enabling and disabling a queue; declaring private objects (R124, R127). Enabling a queue starts it afresh with both
indices 0, disabling it empties it and is answered once nothing is in flight; a declaration that parses, passes its
checks and is no longer than 524,288 bytes comes into force, and one that does not parse or fails a check reports code
and line and leaves the declarations. How a declaration reports is the model's reading (assumption log 101). -/
def Obligations.QueuesAndDeclarationsAct : Prop :=
  (∀ (s : State) (dt : Nat) (m : Master),
  let u := s.at_ dt
  let q := u.sel m 0x9100 0x01
  (Takes s dt m 0x9100 0x0A [1] → u.obi q 0x9100 0x0A = false → Answers (.queueEnable dt m) s fun t => Done m t ∧ Rests s t
    ∧ t.node.oi q 0x9100 0x0A = 1 ∧ (t.node.oi q 0x9100 0x0B = 1 ∨ t.node.oi q 0x9100 0x0B = 3)
    ∧ t.node.oi q 0x9100 0x0C = 0 ∧ t.node.oi q 0x9100 0x0D = 0 ∧ t.node.oi q 0x9100 0x0E = 0 ∧ (t.node.queue q).fetched = 0) ∧
  (Takes s dt m 0x9100 0x0A [0] → u.obi q 0x9100 0x0A = true → Answers (.queueDisable dt m) s fun t => Rests s t
    ∧ t.node.oi q 0x9100 0x0A = 0 ∧ t.node.oi q 0x9100 0x0B = 0 ∧ (t.node.queue q).wait = []
    ∧ ((u.queue q).inFlight = [] → t.node.out = [.reply m 0 []])
    ∧ ((u.queue q).inFlight ≠ [] → t.node.out = [] ∧ (t.node.queue q).closing = (u.queue q).closing ++ [(m, .direct)]))) ∧
  (∀ (s : State) (dt : Nat) (m : Master) (v : Fin 16),
  let u := s.at_ dt
  let text := u.domI 0 (privIdx v) 0x01
  Takes s dt m (privIdx v) 0x02 [1] →
  (∀ line, cezParse text = .error line → Answers (.declare dt m v 1) s fun t => Done m t ∧ Rests s t
    ∧ t.node.o (privIdx v) 0x03 = 0x0607 ∧ t.node.o (privIdx v) 0x04 = line ∧ t.node.dom = s.node.dom) ∧
  (∀ es code line, cezParse text = .ok es → declCheck v [] es = some (code, line) → Answers (.declare dt m v 1) s fun t => Done m t ∧ Rests s t
    ∧ t.node.o (privIdx v) 0x03 = code ∧ t.node.o (privIdx v) 0x04 = line ∧ t.node.dom = s.node.dom) ∧
  (∀ es, cezParse text = .ok es → declCheck v [] es = none → declBytes es ≤ 524288 → Answers (.declare dt m v 1) s fun t => Done m t ∧ Rests s t
    ∧ t.node.o (privIdx v) 0x03 = 0 ∧ t.node.o (privIdx v) 0x04 = 0 ∧ t.node.domI 1 (privIdx v) 0x01 = text))

/-- Engines grant their queues in turn (R123, R365). The vat that an engine grants next is the first in rotation with a
ready queue, the grant fetches that queue's descriptor or delivers the oldest waiting data, and a finished archive
read leaves its descriptor complete. -/
def Obligations.EnginesAct : Prop :=
  (∀ (s : State) (dt : Nat) (e : Fin 10) (busy : Bool) (v q : Nat),
  let u := s.at_ dt
  s.node.up = true → u.nextGrant s.vmem e = some (v, q) →
  (v < 16 ∧ u.readyOf s.vmem e v ≠ [] ∧ q ∈ u.readyOf s.vmem e v
    ∧ ∀ k, k < (v + 16 - mapGet u.eng.vp e 0 % 16) % 16 → u.readyOf s.vmem e ((mapGet u.eng.vp e 0 + k) % 16) = []) ∧
  ((e.val = 5 → (u.fetchDesc s.vmem v q (u.queue q).fetched).op = 3) → Answers (.engineGrant dt e busy) s fun t =>
    mapGet t.node.eng.vp e 0 = (v + 1) % 16
    ∧ (isSubmission e = true → (t.node.queue q).fetched = ((u.queue q).fetched + 1) % 2 ^ 32)
    ∧ (isDelivery e = true → ∀ x rest, (u.queue q).wait = x :: rest → (t.node.queue q).wait = rest
        ∧ t.node.oi q 0x9100 0x0C = (u.pi q + 1) % 2 ^ 32))) ∧
  (∀ (s : State) (dt : Nat) (q : Fin 8192) (j : ReadJob), s.node.up = true →
  s.node.sep.reads.find? (fun (j : ReadJob) => j.q == q) = some j →
  Answers (.archiveReadDone dt q) s fun t => t.node.sep.reads = s.node.sep.reads.erase j ∧ j.pos ∉ (t.node.queue q).inFlight)

/-- Lake scans and conversions (R137, R139, R140). A scan takes the active configuration, or counts an overrun; a
conversion's end holds its reading for release, or discards it; the release puts the reading into the pin's objects. -/
def Obligations.ScansConvert : Prop := ∀ (s : State) (dt : Nat) (l : Fin 32) (k : Fin 2), s.node.up = true →
  let u := s.at_ dt
  let c := u.conv l k
  let cfg := u.lakeCfg l
  let slot := c.list.getD c.pos 0xFF
  let mode := pinCfg c.cfg l slot 0x01
  let window := windowNs (pinCfg c.cfg l slot 0x02) (pinCfg c.cfg l slot 0x03 == 1) mode (q32 c.freq)
  ((u.lakeState l = 0 ∨ u.lakeState l = 4) → c.running = false → Answers (.scanStart dt l k) s fun t => Rests s t
    ∧ t.node.o (convIdx l k) 0x05 = listObject (activeList cfg l k) ∧ (t.node.conv l k).cfg = cfg
    ∧ (t.node.conv l k).running = (activeList cfg l k).any (u.slotTakesTime cfg l)) ∧
  ((u.lakeState l = 0 ∨ u.lakeState l = 4) → c.running = true → u.o (convIdx l k) 0x02 = 1 → Answers (.scanStart dt l k) s fun t => Rests s t
    ∧ t.node.o (convIdx l k) 0x07 = min (u.o (convIdx l k) 0x07 + 1) (2 ^ 32 - 1) ∧ (t.node.conv l k).late = true
    ∧ SameObjects s.node t.node [key 0 (convIdx l k) 0x07]) ∧
  (∀ code cj, u.lakeConverts l = true → c.running = true → c.discard = false → c.phaseA = none → u.copyValid (isleLake l) = true → slot < 8 →
    ¬ (mode = 3 ∧ pinCfg c.cfg l slot 0x17 = 1) → Answers (.conversionEnd dt l k code cj) s fun t => Rests s t ∧
      ∃ h, (t.node.lake l).held = (u.lake l).held ++ [h] ∧ h.pin = slot ∧ h.raw = code.toNat ∧ h.ready = u.now + 250000
        ∧ h.r.time = u.copy (isleLake l) - window / 2 ∧ h.r.q = (u.formReading c.cfg l slot none code.toInt c.refBad).q) ∧
  (∀ code cj, u.lakeConverts l = true → c.running = true → (c.discard = true ∨ u.copyValid (isleLake l) = false) →
    Answers (.conversionEnd dt l k code cj) s fun t => Rests s t ∧ (t.node.lake l).held = (u.lake l).held
      ∧ t.node.o (lakeIdx l) 0x08 = min (u.o (lakeIdx l) 0x08 + 1) (2 ^ 32 - 1)) ∧
  (∀ (p : Fin 8) h, (u.lake l).held.find? (fun h => h.pin == p.val) = some h → h.ready ≤ u.now → u.lakeConverts l = true →
    Answers (.lakeReadingRelease dt l p) s fun t => Rests s t ∧ t.node.o (pinRes l p) 0x01 = h.r.value ∧ t.node.o (pinRes l p) 0x02 = h.r.q
      ∧ t.node.o (pinRes l p) 0x03 = h.r.time ∧ t.node.o (pinRes l p) 0x05 = h.status ∧ (t.node.lake l).held = (u.lake l).held.erase h)

/-- Contact bands, breaks, pulse tests and the mains reference (R149, R151, R153, R160, R161, R162, R163). A qualified
change of a contact's band sets band, quality, time and count; a wire break declares the break; the second failing
pulse declares it stamped at the first; a break ends 100 ms after the last bad sample. A zero crossing that completes
nine sets the measured frequency, the frequency goes to every lake, and a reference lost for 100 ms falls back to
nominal with its message. -/
def Obligations.PinsAndMainsAct : Prop :=
  (∀ (s : State) (dt : Nat) (l : Fin 32) (p : Fin 8), s.node.up = true → s.node.lakeConverts l = true →
  let u := s.at_ dt
  let x := u.pin l p
  let cfg := u.lakeCfg l
  (∀ (band : Fin 4) ago, contactMode (u.o (pinIdx l p) 0x01) = true → bandOk (u.o (pinIdx l p) 0x01) band = true → u.copyValid (isleLake l) = true →
    x.band ≠ some band.val → (if band.val < 2 then 20000 + u.o (pinIdx l p) 0x14 * 1000000 else 20000) ≤ ago + 1000 →
    Answers (.contactBandChange dt l p band ago) s fun t => Rests s t ∧ (t.node.pin l p).band = some band.val
      ∧ t.node.o (pinRes l p) 0x02 = (if band.val < 2 then 0 else 2) ∧ t.node.o (pinRes l p) 0x03 = u.copy (isleLake l) - ago
      ∧ t.node.o (pinRes l p) 0x07 = (u.o (pinRes l p) 0x07 + 1) % 2 ^ 32 ∧ t.node.o (pinRes l p) 0x05 / 256 = band) ∧
  (∀ ago, 31000 ≤ ago → u.copyValid (isleLake l) = true → x.broken = false → primaryOf cfg l p = p → setOk cfg l p = true →
    windowWatched (pinCfg cfg l p 0x01) = true → Answers (.wireBreak dt l p ago) s fun t => Rests s t ∧ (t.node.pin l p).broken = true
      ∧ t.node.o (pinRes l p) 0x06 = min (u.o (pinRes l p) 0x06 + 1) (2 ^ 32 - 1) ∧ t.node.o (pinRes l p) 0x08 = u.copy (isleLake l) - ago) ∧
  (∀ uv : Int, u.copyValid (isleLake l) = true → pulseOn cfg l p = true → setOk cfg l p = true →
    ((uv : Rat) ≤ pulseLimitUv cfg l p → Answers (.pulseTest dt l p uv) s fun t => Rests s t ∧ t.node.od = s.node.od ∧ (t.node.pin l p).failRun = 0)
    ∧ (pulseLimitUv cfg l p < (uv : Rat) → x.failRun = 0 → Answers (.pulseTest dt l p uv) s fun t => Rests s t ∧ t.node.od = s.node.od
        ∧ (t.node.pin l p).failRun = 1 ∧ (t.node.pin l p).failFirst = u.copy (isleLake l))
    ∧ (pulseLimitUv cfg l p < (uv : Rat) → 1 ≤ x.failRun → x.broken = false → Answers (.pulseTest dt l p uv) s fun t => Rests s t
        ∧ (t.node.pin l p).broken = true ∧ t.node.o (pinRes l p) 0x08 = x.failFirst)) ∧
  (x.broken = true → convMode (u.o (pinIdx l p) 0x01) = true → x.lastBad + 100000000 ≤ u.now → Answers (.breakClear dt l p) s fun t => Rests s t
    ∧ (t.node.pin l p).broken = false ∧ bit (t.node.o (pinRes l p) 0x05) 2 = false ∧ SameObjects s.node t.node [key 0 (pinRes l p) 0x05])) ∧
  (∀ (s : State) (dt : Nat), s.node.up = true →
  let u := s.at_ dt
  let cs := (u.copy isleKeeper :: u.mains.cross).take 9
  Answers (.mainsZeroCrossing dt) s (fun t => Rests s t ∧ t.node.mains.cross = cs
    ∧ (∀ f, mainsFreq cs = some f → t.node.mains.lastValid = some (r32 f) ∧ t.node.mains.since = u.now ∧ t.node.o 0x4800 0x03 = r32 f
        ∧ (u.ob 0x4800 0x02 = true → t.node.o 0x4800 0x04 = 1))
    ∧ (mainsFreq cs = none → t.node.od = s.node.od ∧ t.node.mains.lastValid = u.mains.lastValid)
    ∧ SameObjects s.node t.node [key 0 0x4800 0x03, key 0 0x4800 0x04]) ∧
  (∀ f, u.mains.lastValid = some f → u.ob 0x4800 0x02 = true → u.mode.keeperReset = none → u.now < u.mains.since + 100000000 →
    Answers (.mainsFrequencySend dt) s fun t => Rests s t ∧ t.node.od = s.node.od ∧ ∀ l : Fin 32, (t.node.lake l).freq = f) ∧
  (u.ob 0x4800 0x02 = true → u.o 0x4800 0x04 ≠ 2 → u.mains.since + 100000000 ≤ u.now → Answers (.mainsReferenceLost dt) s fun t => Rests s t
    ∧ t.node.o 0x4800 0x04 = 2 ∧ (∀ l : Fin 32, (t.node.lake l).freq = u.o 0x4800 0x01) ∧ t.node.ver = (u.fault 0x005 0x33 0 0).ver
    ∧ SameObjects s.node t.node [key 0 0x4800 0x04]))

/-- Service states of lakes and dynamic lakes (R169, R170, R171). Taking out, test, return to service, and the ends of
taking out, testing, returning and reset of a lake or dynamic lake move its service state to the one that Table 6-12
names, and change no other object but those named. -/
def Obligations.UnitsAreServiced : Prop := ∀ (s : State) (dt : Nat) (un : Fin 40),
  let u := s.at_ dt
  (∀ m, Takes s dt m (unitIdx un) 0x01 [1] → Answers (.takeOut dt m un) s fun t => Done m t ∧ Rests s t ∧ t.node.unitState un = 1
    ∧ SameObjects s.node t.node [key 0 (unitIdx un) 0x02]) ∧
  (∀ m, Takes s dt m (unitIdx un) 0x01 [2] → Answers (.test dt m un) s fun t => Done m t ∧ Rests s t ∧ t.node.unitState un = 3
    ∧ mapGet t.node.svcPrev un 0 = u.unitState un ∧ SameObjects s.node t.node [key 0 (unitIdx un) 0x02]) ∧
  (∀ m, Takes s dt m (unitIdx un) 0x01 [3] → Answers (.returnToService dt m un) s fun t => Done m t ∧ Rests s t ∧ t.node.unitState un = 4
    ∧ t.node.unitIsolated un = false) ∧
  (s.node.up = true → u.unitState un = 1 → u.twin.lakeTest = none → Answers (.takingOutEnd dt un) s fun t => Rests s t ∧ t.node.unitState un = 2
    ∧ (un.val < 32 → (t.node.conv un 0).running = false ∧ (t.node.conv un 1).running = false) ∧ SameObjects s.node t.node [key 0 (unitIdx un) 0x02]) ∧
  (∀ failed, s.node.up = true → u.unitState un = 3 → u.twin.lakeTest = none → Answers (.testDone dt un failed) s fun t => Rests s t
    ∧ t.node.unitState un = mapGet u.svcPrev un 2 ∧ t.node.o (unitIdx un) 0x03 = failed.toNat % 2 ^ abortedBit un
    ∧ SameObjects s.node t.node [key 0 (unitIdx un) 0x02, key 0 (unitIdx un) 0x03, key 0 (unitIdx un) 0x04]) ∧
  (s.node.up = true → u.unitState un = 4 → (32 ≤ un.val ∨ (u.lake un).toReturn = []) → Answers (.returningEnd dt un) s fun t => Rests s t
    ∧ t.node.unitState un = 0 ∧ SameObjects s.node t.node [key 0 (unitIdx un) 0x02]) ∧
  (s.node.up = true → u.unitState un = 5 → Answers (.lakeResetDone dt un) s fun t => Rests s t ∧ t.node.unitState un =
      (if mapGet u.svcPrev un 0 = 7 then 7 else if mapGet u.svcPrev un 0 = 0 ∨ mapGet u.svcPrev un 0 = 1 ∨ mapGet u.svcPrev un 0 = 4 then 0 else 2)
    ∧ SameObjects s.node t.node [key 0 (unitIdx un) 0x02, key 0 0x1010 0x04])

/-- Dynamic channels (R176, R177, R178, R179). A sample gives the channel its value, the time its filter delay before the
copy, and quality GOOD where no condition holds; one without a valid copy is counted and kept out. A summary sends the
present reading to the frame. RMS and peak are formed over the last ten blocks. Overload, the end of a charge reset,
the integrator reset, an IEPE bias fault and the reference check set and clear the status bits they are for. -/
def Obligations.DynamicChannelsAct : Prop := ∀ (s : State) (dt : Nat) (ch : Fin 32), s.node.up = true → s.node.dynRuns (ch / 4) = true →
  let u := s.at_ dt
  let k := ch.val / 4
  let x := u.dynCh ch
  let mode := u.o (dynIdx ch) 0x01
  (∀ code, mode ≠ 0 → u.copyValid (isleDyn k) = true → u.dynConfigBad ch = false → Answers (.dynamicSample dt ch code) s fun t => Rests s t
    ∧ t.node.o (dynRes ch) 0x01 = r32 (u.dynValue ch code.toInt)
    ∧ t.node.o (dynRes ch) 0x03 = u.copy (isleDyn k) - dynDelay (u.o (dynIdx ch) 0x06) ∧ (t.node.dynCh ch).block.seen = x.block.seen + 1
    ∧ (x.lastBad = none → (∀ i : Fin 6, 0 < i.val → u.dynBit ch i = false) → t.node.o (dynRes ch) 0x02 = 0)) ∧
  (∀ code, mode ≠ 0 → u.copyValid (isleDyn k) = false → Answers (.dynamicSample dt ch code) s fun t => Rests s t
    ∧ t.node.o (dlIdx k) 0x05 = min (u.o (dlIdx k) 0x05 + 1) (2 ^ 32 - 1) ∧ t.node.o (dynRes ch) 0x01 = u.o (dynRes ch) 0x01) ∧
  (∀ j : Fin 8, j.val = k → mode ≠ 0 → u.o (dynRes ch) 0x03 ≠ 0 → Answers (.dynamicSummary dt j) s fun t => Rests s t ∧ t.node.od = s.node.od
    ∧ mapGet t.node.input (srcKey 2 (4 * ch)) {} = { value := u.o (dynRes ch) 0x01, q := u.o (dynRes ch) 0x02, time := u.o (dynRes ch) 0x03 }) ∧
  Answers (.rmsPeakUpdate dt ch) s (fun t => Rests s t ∧ (t.node.dynCh ch).block = {} ∧ (t.node.dynCh ch).blocks = (x.block :: x.blocks).take 10
    ∧ SameObjects s.node t.node [key 0 (dynRes ch) 0x04, key 0 (dynRes ch) 0x05]
    ∧ (∀ w, w = ((x.block :: x.blocks).take 10).foldl blockJoin {} → w.seen ≠ 0 → w.count ≠ 0 →
        t.node.o (dynRes ch) 0x04 = r32 (sqrt64 (w.sumSq / (w.count : Rat) - w.sum / (w.count : Rat) * (w.sum / (w.count : Rat)))))) ∧
  (mode ≠ 0 → Answers (.overload dt ch) s fun t => Rests s t ∧ t.node.dynBit ch 1 = true ∧ (t.node.dynCh ch).resetting = (mode == 1)
    ∧ (t.node.dynCh ch).lastBad = some u.now
    ∧ t.node.o (dynRes ch) 0x08 = (if u.dynBit ch 1 then u.o (dynRes ch) 0x08 else min (u.o (dynRes ch) 0x08 + 1) (2 ^ 32 - 1))) ∧
  (x.resetting = true → Answers (.chargeResetEnd dt ch) s fun t => Rests s t ∧ (t.node.dynCh ch).resetting = false ∧ t.node.dynBit ch 1 = false
    ∧ SameObjects s.node t.node [key 0 (dynRes ch) 0x06]) ∧
  (∀ m val, Takes s dt m (dynIdx ch) 0x0E [val] → mode = 1 → Answers (.integratorReset dt m ch val) s fun t => Done m t ∧ Rests s t
    ∧ t.node.dynBit ch 1 = true ∧ (t.node.dynCh ch).resetting = true ∧ SameObjects s.node t.node [key 0 (dynRes ch) 0x06]) ∧
  (∀ mv, mode = 3 → Answers (.iepeBiasFault dt ch mv) s fun t => Rests s t ∧ t.node.o (dynRes ch) 0x07 = r32 (ratio mv 1000)
    ∧ t.node.dynBit ch 3 = decide (24000 < mv) ∧ t.node.dynBit ch 2 = decide (mv < 2000)
    ∧ SameObjects s.node t.node [key 0 (dynRes ch) 0x06, key 0 (dynRes ch) 0x07]) ∧
  (∀ (j : Fin 8) (ppm : Int), j.val = k → Answers (.dynamicReferenceCheck dt j ppm) s fun t => Rests s t
    ∧ t.node.dynBit ch 4 = decide (500 < ppm.natAbs) ∧ ∀ i : Fin 4, t.node.dynBit (4 * k + i) 4 = decide (500 < ppm.natAbs))

/-- Shaft inputs (R183, R184, R185, R187). A rising edge of a single input gives the speed from the time since the
history's last stamp and the edge is counted; an encoder edge moves the count, an edge with both channels changed
counts an error and sends a synchronised domain to seek its index; a cam edge synchronises a four-count domain that
seeks; standstill sets speed 0 and empties the history; the speed window's end gives the speed of its edges; an open
input sets its bit. -/
def Obligations.ShaftsAct : Prop := ∀ (s : State) (dt : Nat) (i : Fin 16), s.node.up = true →
  let u := s.at_ dt
  let x := u.shaft i
  (∀ aLeads both ago t0 rest, u.sh i 0x02 = 1 → u.sh i 0x07 = 0 → u.sh i 0x09 = 1 → x.hist = t0 :: rest →
    Answers (.shaftEdge dt i true aLeads both ago) s fun t => Rests s t ∧ t.node.sh i 0x13 = (u.sh i 0x13 + 1) % 2 ^ 32
      ∧ t.node.sh i 0x11 = u.copy isleFrame - ago ∧ (t.node.shaft i).standstill = false ∧ t.node.sh i 0x0F =
        r32 (if u.astern i then -rpmOf 1 (u.ppr i) (u.copy isleFrame - ago - t0) else rpmOf 1 (u.ppr i) (u.copy isleFrame - ago - t0))) ∧
  (∀ rising aLeads ago, u.sh i 0x02 = 2 → u.shaftConfigBad i = false → Answers (.shaftEdge dt i rising aLeads false ago) s fun t => Rests s t
    ∧ t.node.sh i 0x13 = (u.sh i 0x13 + 1) % 2 ^ 32) ∧
  (∀ rising aLeads ago, u.sh i 0x02 = 2 → u.shaftConfigBad i = false → Answers (.shaftEdge dt i rising aLeads true ago) s fun t => Rests s t
    ∧ t.node.sh i 0x13 = u.sh i 0x13 ∧ bit (t.node.sh i 0x12) 6 = true ∧ t.node.sh i 0x15 = min (u.sh i 0x15 + 1) (2 ^ 32 - 1)
    ∧ ∀ d : Fin 4, u.cd d 0x04 = i → u.crankState d = 4 → t.node.crankState d = 2) ∧
  (∀ aLeads both ago, u.sh i 0x02 = 4 → Answers (.shaftEdge dt i true aLeads both ago) s fun t => Rests s t
    ∧ t.node.sh i 0x13 = (u.sh i 0x13 + 1) % 2 ^ 32
    ∧ ∀ d : Fin 4, u.cd d 0x05 = i → u.crankState d = 2 → u.cd d 0x03 = 0 → t.node.crankState d = 4) ∧
  (u.standstillDue i = true → Answers (.standstillTimeout dt i) s fun t => Rests s t ∧ (t.node.shaft i).standstill = true
    ∧ t.node.sh i 0x0F = 0 ∧ (t.node.shaft i).hist = []
    ∧ ∀ d : Fin 4, x.standstill = false → u.cd d 0x04 = i → u.crankState d ≠ 0 → t.node.crankState d = 1) ∧
  (u.sh i 0x07 = 1 → (u.sh i 0x02 = 1 ∨ u.sh i 0x02 = 2) → Answers (.speedWindowEnd dt i) s fun t => Rests s t
    ∧ (t.node.shaft i).winCount = 0 ∧ t.node.sh i 0x11 = u.copy isleFrame ∧ (x.winCount < 2 → t.node.sh i 0x0F = 0)
    ∧ (2 ≤ x.winCount → u.astern i = false → t.node.sh i 0x0F = r32 (rpmOf (x.winCount - 1) (u.ppr i) (x.winLast - x.winFirst)))
    ∧ SameObjects s.node t.node [key i 0x5500 0x0F, key i 0x5500 0x11]) ∧
  (∀ mv, u.obi i 0x5500 0x0E = true → u.sh i 0x02 = 1 → u.sh i 0x03 < 2 → Answers (.shaftOpen dt i mv) s fun t => Rests s t
    ∧ bit (t.node.sh i 0x12) 5 = decide (3000 < mv) ∧ SameObjects s.node t.node [key i 0x5500 0x12])

/-- Crank domains (R189, R190, R191, R192, R193, R197). A compare table written goes in force at the next cycle; a compare
entry that fires in SYNCHRONISED acts once per cycle with its action; an angle sample is the resampled value at the
instant of its angle; a whole cycle window gives peak pressure and its angle, and a window whose channel does not
sample by angle repeats its result with quality BAD_CONFIG. -/
def Obligations.CranksAct : Prop := ∀ (s : State) (dt : Nat) (d : Fin 4), s.node.up = true →
  let u := s.at_ dt
  let x := u.crank d
  (∀ m (val : BitVec 16), Takes s dt m 0x5400 0x0E (toLE 2 val.toNat) → u.sel m 0x5400 0x01 = d → Answers (.compareEntriesWrite dt m val) s fun t =>
    Done m t ∧ Rests s t ∧ t.node.cd d 0x0E = val.toNat ∧ (t.node.crank d).next = some (tableEntries val.toNat (u.domI d 0x5400 0x0D))
      ∧ (t.node.crank d).table = x.table ∧ SameObjects s.node t.node [key d 0x5400 0x0E, key 0 0x1020 0x06]) ∧
  (∀ (e : Fin 1024) w, x.table[e.val]? = some w → u.crankState d = 4 → e.val ∉ x.fired → Answers (.compareFire dt d e) s fun t => Rests s t
    ∧ (t.node.crank d).fired = x.fired ++ [e.val]
    ∧ (entryAction w = 2 → mapGet t.node.pulses (entryTarget w) 0 = max (mapGet u.pulses (entryTarget w) 0) (u.now + entryWidth w * 1000))
    ∧ (entryAction w = 3 → t.node.cd d 0x19 = e)) ∧
  (∀ (ch : Fin 32) (a : Fin 7200) ta y q, u.o (dynIdx ch) 0x08 = d → u.dynRuns (ch / 4) = true → u.crankState d = 4 → u.samplesAt ch a = true →
    bracket (u.cycleTenths d) ((a.val : Nat) : Rat) x.counts = some ta → resample ta (u.dynCh ch).samples = some (y, q) →
    Answers (.angleSample dt ch a) s fun t => Rests s t ∧
      (t.node.dynCh ch).angles = { angle := a, value := r32 y, time := ta.floor.toNat, q := q } :: (u.dynCh ch).angles.take 14399) ∧
  (∀ (c : Fin 20) (ch : Nat), u.crankState d = 4 → c.val < u.cd d 0x0B → bit u.mode.reactionFns 1 = false → u.oi (cylInst d c) 0x5400 0x22 = ch →
    let step := u.o (dynIdx ch) 0x09
    let cycle := u.cycleTenths d
    let as := ((u.dynCh ch).angles.take (cycle / step)).reverse
    let xs := as.map fun (a : AngleSample) => (phiOf cycle (u.cd d 0x09) (u.oi (cylInst d c) 0x5400 0x21) a.angle, a)
    let f := figures step (volumes (u.domI d 0x5400 0x0C)) (xs.map fun e => (e.1, q32 e.2.value))
    (ch < 32 → u.o (dynIdx ch) 0x07 = 1 → u.o (dynIdx ch) 0x08 = d → (u.domI d 0x5400 0x0C).length = 14400 → step ≠ 0 →
      as.length = cycle / step → wholeWindow cycle step xs = true → c.val ∉ x.stopped → u.cd d 0x0F = 0 → u.of32 0 (dynIdx ch) 0x0D = 0 →
      Answers (.cycleWindowEnd dt d c) s fun t => Rests s t ∧ t.node.oi (cylInst d c) 0x5400 0x23 = (f.pMax.elim (t.node.oi (cylInst d c) 0x5400 0x23) r32)
        ∧ t.node.oi (cylInst d c) 0x5400 0x24 = (f.phiPeak.elim (t.node.oi (cylInst d c) 0x5400 0x24) r32) ∧ (c.val = 0 → t.node.cd d 0x15 = (u.cd d 0x15 + 1) % 2 ^ 32)) ∧
    (ch < 32 → c.val ∉ x.stopped → u.o (dynIdx ch) 0x07 ≠ 1 → Answers (.cycleWindowEnd dt d c) s fun t => Rests s t
        ∧ t.node.oi (cylInst d c) 0x5400 0x27 / 4096 = 3 ∧ t.node.oi (cylInst d c) 0x5400 0x23 = u.oi (cylInst d c) 0x5400 0x23))

/-- Serial position ports (R203, R204, R205, R207). A request stamps the frame, or reports a bad configuration, or an
overrun where one is in progress; a frame whose checks pass gives the scaled value, one that fails gives BAD_SENSOR,
its status bits and a counted error; a port reset ends; a sample slot that is due is delivered where its queue has
room. -/
def Obligations.SerialPortsAct : Prop := ∀ (s : State) (dt : Nat) (p : Fin 8), s.node.up = true →
  let u := s.at_ dt
  let x := u.serialPort p
  (∀ high, u.sp p 0x02 ≠ 0 → x.inReset = false → x.stamp = none → u.serialConfigBad p = false → Answers (.serialRequest dt p high) s fun t =>
    Rests s t ∧ t.node.od = s.node.od ∧ t.node.serialPort p = { x with stamp := some (u.copy isleFrame + u.sp p 0x10), notReady := !high }) ∧
  (∀ high, u.sp p 0x02 ≠ 0 → x.inReset = false → x.stamp = none → u.serialConfigBad p = true → Answers (.serialRequest dt p high) s fun t =>
    Rests s t ∧ t.node.sp p 0x14 = 3 ∧ t.node.sp p 0x17 = 2 ∧ (t.node.serialPort p).stamp = none) ∧
  (∀ high at_, u.sp p 0x02 ≠ 0 → x.inReset = false → x.stamp = some at_ → Answers (.serialRequest dt p high) s fun t =>
    Rests s t ∧ bit (t.node.sp p 0x17) 2 = true ∧ t.node.sp p 0x18 = min (u.sp p 0x18 + 1) (2 ^ 32 - 1) ∧ t.node.serialPort p = x) ∧
  (∀ start (frame : BitVec 64) endMark trailer low mono at_, x.stamp = some at_ →
    let bad := u.serialChecks p x.notReady start endMark trailer low mono
    let f := frame.toNat % 2 ^ u.sp p 0x04
    (bad = 0 → Answers (.serialFrameEnd dt p start frame endMark trailer low mono) s fun t => Rests s t ∧ (t.node.serialPort p).stamp = none
      ∧ t.node.sp p 0x15 = at_ ∧ t.node.sp p 0x16 = f ∧ t.node.sp p 0x18 = u.sp p 0x18
      ∧ t.node.sp p 0x13 = r32 (u.of32 p 0x5600 0x12 + (u.serialCode p f : Rat) * u.of32 p 0x5600 0x11)
      ∧ (64 ≤ u.sp p 0x0A → t.node.sp p 0x14 = 0 ∧ t.node.sp p 0x17 = 0)) ∧
    (bad ≠ 0 → Answers (.serialFrameEnd dt p start frame endMark trailer low mono) s fun t => Rests s t ∧ (t.node.serialPort p).stamp = none
      ∧ t.node.sp p 0x15 = at_ ∧ t.node.sp p 0x17 = bad ∧ t.node.sp p 0x14 = 2 ∧ t.node.sp p 0x13 = u.sp p 0x13
      ∧ t.node.sp p 0x18 = min (u.sp p 0x18 + 1) (2 ^ 32 - 1))) ∧
  Answers (.serialPortReady dt p) s (fun t => Rests s t ∧ t.node.od = s.node.od ∧ t.node.serialPort p = { x with inReset := false }) ∧
  (∀ (q : Fin 8192) (e : Nat × List Byte) rest, (u.queue q).fill = e :: rest → u.oi q 0x9100 0x03 = 8 →
    e.1 + u.o 0x4800 0x07 * 1000000 < u.copy isleArchive → Answers (.sampleSlotDelivery dt q) s fun t => Rests s t ∧ (t.node.queue q).fill = []
      ∧ (u.oi q 0x9100 0x0B = 1 → occupancy (u.pi q) (u.ci q) + (u.queue q).wait.length < u.depth q →
          ∃ en, (t.node.queue q).wait = (u.queue q).wait ++ [en] ∧ en.data = ((e :: rest).map (·.2)).flatten))

/-- Loop outputs and their modems (R264, R265, R267, R268). The limiter moves the driven value towards its target by its
rates; OPEN, SHORT and low supply are set with count and message and cleared; a transmit write sets the carrier and
its end counts the characters; a received character enters the FIFO or sets OVERRUN at 256; the carrier's bit follows
the level outside 80 to 120 mV; a receive read empties the FIFO. -/
def Obligations.LoopsAct : Prop := ∀ (s : State) (dt : Nat) (i : Fin 16), s.node.up = true →
  let u := s.at_ dt
  let x := u.loop i
  let status := fun (n : Node) (b : Nat) => bit (n.lo i 0x15) b
  let fsk := fun (n : Node) (b : Nat) => bit (n.o (fskIdx i) 0x03) b
  Answers (.limiterTick dt) s (fun t => Rests s t ∧ (t.node.loop i).target = x.target ∧ (x.hold = true → (t.node.loop i).p = x.p)
    ∧ (x.hold = false → (t.node.loop i).p = limiterStep (u.of32 0 (loopIdx i) 0x0A) (u.of32 0 (loopIdx i) 0x0B) x.target x.p)) ∧
  (∀ short : Bool, u.loopDrives i = true → status u (b2n short) = false → (short = true ∨ 2500 ≤ x.target) →
    Answers (.loopConditionSet dt i short) s fun t => Rests s t ∧ status t.node (b2n short) = true
      ∧ t.node.lo i (if short then 0x17 else 0x16) = min (u.lo i (if short then 0x17 else 0x16) + 1) (2 ^ 32 - 1)
      ∧ t.node.ver = (u.fault (0x070 + i) (if short then 0x41 else 0x40) 0 0).ver
      ∧ SameObjects s.node t.node [key 0 (loopIdx i) 0x15, key 0 (loopIdx i) 0x16, key 0 (loopIdx i) 0x17]) ∧
  (∀ (cond : Fin 3) mv, (cond.val = 2 → 17000 < mv) → Answers (.loopConditionClear dt i cond mv) s fun t => Rests s t
    ∧ (cond.val = 0 → status t.node 0 = false ∧ status t.node 2 = false) ∧ (cond.val = 1 → status t.node 1 = false)
    ∧ (cond.val = 2 → status t.node 6 = false ∧ t.node.lo i 0x18 = r32 (ratio mv 1000))) ∧
  (∀ (g : Fin 4) mv, mv < 16000 → bit (u.lo (4 * g) 0x15) 6 = false → Answers (.loopSupplyLow dt g mv) s fun t => Rests s t
    ∧ (i.val / 4 = g → status t.node 6 = true ∧ t.node.lo i 0x18 = r32 (ratio mv 1000)) ∧ t.node.ver = (u.fault (0x09C + g) 0x44 0 mv).ver) ∧
  (∀ m data, Takes s dt m (fskIdx i) 0x01 data → u.loopDrives i = true → Answers (.transmit dt m i data) s fun t => Done m t ∧ Rests s t
    ∧ fsk t.node 1 = true ∧ (t.node.loop i).sending = fieldLE data 0 2 ∧ SameObjects s.node t.node [key 0 (fskIdx i) 0x03]) ∧
  (fsk u 1 = true → Answers (.transmitDone dt i) s fun t => Rests s t ∧ fsk t.node 1 = false
    ∧ t.node.o (fskIdx i) 0x04 = (u.o (fskIdx i) 0x04 + x.sending) % 2 ^ 32 ∧ SameObjects s.node t.node [key 0 (fskIdx i) 0x03, key 0 (fskIdx i) 0x04]) ∧
  (∀ ch parityOk, fsk u 1 = false → x.fifo.length < 256 → Answers (.characterReceived dt i ch parityOk) s fun t => Rests s t
    ∧ (t.node.loop i).fifo = x.fifo ++ [ch] ∧ (parityOk = false → fsk t.node 4 = true)
    ∧ t.node.o (fskIdx i) 0x05 = (u.o (fskIdx i) 0x05 + 1) % 2 ^ 32 ∧ SameObjects s.node t.node [key 0 (fskIdx i) 0x03, key 0 (fskIdx i) 0x05]) ∧
  (∀ ch parityOk, fsk u 1 = false → 256 ≤ x.fifo.length → Answers (.characterReceived dt i ch parityOk) s fun t => Rests s t
    ∧ t.node.loop i = x ∧ fsk t.node 3 = true ∧ SameObjects s.node t.node [key 0 (fskIdx i) 0x03]) ∧
  (∀ mv, fsk u 1 = false → Answers (.carrierChange dt i mv) s fun t => Rests s t ∧ (120 < mv → fsk t.node 2 = true) ∧ (mv < 80 → fsk t.node 2 = false)
    ∧ SameObjects s.node t.node [key 0 (fskIdx i) 0x03]) ∧
  (∀ m, u.asks m = true → u.readCode m (fskIdx i) 0x02 = 0 → Answers (.receive dt m i) s fun t => Rests s t
    ∧ t.node.out = [.reply m 0 (u.receiveData i)] ∧ (t.node.loop i).fifo = [] ∧ t.node.od = s.node.od)

/-- Annunciators and their supply groups (R269, R270, R271, R272, R273). The repeat period restarts with the next
frequency; a compare pulse ends; blanking leads to ON; a hard short and a soft overcurrent lead to the restart delay
or to LATCHED and are counted; a second short in the group within 100 µs latches the group; open load sets its bit;
the restart delay and the failure count end. A latched group restarts one output at a time, by time or by release; low
supply takes its outputs to SUPPLY_LOW and back; a release unlatches one output. -/
def Obligations.AnnunciatorsAct : Prop :=
  (∀ (s : State) (dt : Nat) (a : Fin 24), s.node.up = true →
  let u := s.at_ dt
  let x := u.ann a
  let st := u.annState a
  let g := a.val / 8
  let demanded := if (u.annGroup g).low then 6 else if u.annDemand a then 1 else 0
  let retry := if x.fails + 1 ≤ u.an a 0x0B then 3 else 4
  (u.an a 0x02 = 3 → 0 < x.waveLen → x.waveAt + x.waveLen ≤ u.now → Answers (.repeatPeriodEnd dt a) s fun t => Rests s t ∧ (t.node.ann a).waveAt = u.now
    ∧ t.node.oi a 0x7200 0x0D = r32 x.nextFreq
    ∧ (t.node.ann a).waveLen = (if x.nextFreq ≤ 0 then 0 else (1000000000 / x.nextFreq).floor.toNat)) ∧
  (mapGet u.pulses a 0 ≤ u.now → Answers (.comparePulseEnd dt a) s fun t => Rests s t ∧ mapGet t.node.pulses a 0 = 0
    ∧ (u.curMode = 4 → u.an a 0x02 = 4 → u.stages = true → st = 1 ∨ st = 2 → t.node.annState a = 0)) ∧
  (st = 1 → x.blankAt + u.an a 0x06 * 1000 ≤ u.now → Answers (.blankingEnd dt a) s fun t => Rests s t ∧ t.node.annState a = 2
    ∧ (t.node.ann a).onAt = u.now ∧ bit (t.node.an a 0x10) 0 = true) ∧
  ((st = 1 ∨ st = 2) → u.oi g 0x7100 0x21 ≠ 1 → (u.annGroup g).short = none → Answers (.hardShort dt a) s fun t => Rests s t
    ∧ t.node.annState a = retry ∧ t.node.an a 0x12 = min (u.an a 0x12 + 1) (2 ^ 32 - 1) ∧ bit (t.node.an a 0x10) 2 = true
    ∧ (t.node.annGroup g).short = some (a.val, u.now)) ∧
  (∀ c at_, (st = 1 ∨ st = 2) → u.oi g 0x7100 0x21 ≠ 1 → (u.annGroup g).short = some (c, at_) → c ≠ a → u.now ≤ at_ + 100000 →
    Answers (.hardShort dt a) s fun t => Rests s t ∧ t.node.annState a = 4 ∧ t.node.annState c = 4 ∧ t.node.oi g 0x7100 0x21 = 1
      ∧ t.node.oi g 0x7100 0x25 = min (u.oi g 0x7100 0x25 + 1) (2 ^ 32 - 1)) ∧
  (st = 2 → Answers (.softOvercurrent dt a) s fun t => Rests s t ∧ t.node.annState a = retry
    ∧ t.node.an a 0x11 = min (u.an a 0x11 + 1) (2 ^ 32 - 1) ∧ bit (t.node.an a 0x10) 1 = true) ∧
  (∀ mv, st = 0 → u.an a 0x0C ≠ 0 → Answers (.openLoad dt a mv) s fun t => Rests s t ∧ bit (t.node.an a 0x10) 3 = decide (mv < 1000)
    ∧ SameObjects s.node t.node [key a 0x7100 0x10]) ∧
  (st = 3 → x.waitAt + u.an a 0x0A * 1000000 ≤ u.now → Answers (.restartDelayExpiry dt a) s fun t => Rests s t ∧ t.node.annState a = demanded) ∧
  (st = 2 → x.onAt + 1000000000 ≤ u.now → Answers (.failureCountRestart dt a) s fun t => Rests s t ∧ t.node.od = s.node.od
    ∧ t.node.ann a = { x with fails := 0 })) ∧
  (∀ (s : State) (dt : Nat) (g : Fin 3), s.node.up = true →
  let u := s.at_ dt
  let x := u.annGroup g
  let latched := (u.latchedOf g).filter fun b => !u.annIsolated b
  let wanted := fun (b : Nat) => if u.annDemand b then 1 else 0
  let demanded := fun (b : Nat) => if x.low then 6 else wanted b
  let restarts := fun (t : State) => t.node.oi g 0x7100 0x21 = (if latched.tail = [] then 0 else 2) ∧ ∀ b rest, latched = b :: rest →
    t.node.annState b = demanded b ∧ (t.node.annGroup g).slots = rest
  (u.oi g 0x7100 0x21 = 1 → u.oi g 0x7100 0x23 ≠ 0 → x.latchedAt + u.oi g 0x7100 0x23 * 1000000000 ≤ u.now →
    Answers (.automaticRestart dt g) s fun t => Rests s t ∧ restarts t) ∧
  (∀ m val, Takes s dt m 0x7100 0x20 (toLE 1 g) → (u.writeOne m .direct 0x7100 0x20 (toLE 1 g) false).2.1.writeJudge m 0x7100 0x22 [val] = 0 →
    u.oi g 0x7100 0x21 = 1 → Answers (.groupRelease dt m g val) s fun t => Done m t ∧ Rests s t ∧ restarts t) ∧
  (∀ b rest, u.oi g 0x7100 0x21 = 2 → x.slots = b :: rest → x.slotAt ≤ u.now → Answers (.restartSlot dt g) s fun t => Rests s t ∧ (t.node.annGroup g).slots = rest
    ∧ t.node.oi g 0x7100 0x21 = (if rest = [] then 0 else 2) ∧ (u.annState b = 4 → t.node.annState b = demanded b)) ∧
  (∀ mv, mv < 16000 → x.low = false → Answers (.annunciatorSupplyLow dt g mv) s fun t => Rests s t ∧ (t.node.annGroup g).low = true
    ∧ t.node.oi g 0x7100 0x24 = r32 (ratio mv 1000)
    ∧ ∀ i : Fin 8, bit (t.node.an (8 * g + i) 0x10) 6 = true ∧ t.node.annState (8 * g + i) =
        (if u.annState (8 * g + i) = 4 ∨ u.annState (8 * g + i) = 5 then u.annState (8 * g + i) else 6)) ∧
  (∀ mv, 17000 < mv → x.low = true → Answers (.annunciatorSupplyRestored dt g mv) s fun t => Rests s t ∧ (t.node.annGroup g).low = false
    ∧ t.node.oi g 0x7100 0x24 = r32 (ratio mv 1000)
    ∧ ∀ i : Fin 8, bit (t.node.an (8 * g + i) 0x10) 6 = false ∧ t.node.annState (8 * g + i) =
        (if u.annState (8 * g + i) = 6 then wanted (8 * g + i) else u.annState (8 * g + i))) ∧
  (∀ (a : Fin 24) m (val : BitVec 16), Takes s dt m 0x7100 0x01 (toLE 1 a) →
    (u.writeOne m .direct 0x7100 0x01 (toLE 1 a) false).2.1.writeJudge m 0x7100 0x10 (toLE 2 val.toNat) = 0 → u.annState a = 4 → bit val.toNat 4 = true →
    Answers (.annunciatorRelease dt m a val) s fun t => Done m t ∧ Rests s t ∧ (t.node.ann a).fails = 0 ∧ t.node.annState a = demanded a))

/-- Operator commands wait for their frame (R242, R243, R244). Each of the 19 operator commands, once accepted, is
answered and waits: with WHEN 0 for the next close, otherwise in a free entry of the schedule; on a standby it is
passed to the owner instead and is not yet answered. -/
def Obligations.OperatorCommandsWait : Prop := ∀ (s : State) (dt : Nat) (m : Master) (loc : Byte) (target : BitVec 16) (param : BitVec 32) (w : BitVec 64),
  let u := s.at_ dt
  let cmd := fun (op l : Nat) (late : Bool) => ({ op := op, loc := l, target := target.toNat, param := param.toNat, when_ := w.toNat, late := late } : OpCmd)
  let waits := fun (op : Nat) (c : Instr) => Takes s dt m 0x6000 0x08 (opRecord op loc target param w) →
    (u.curMode ≠ 5 → Answers c s fun t => Done m t ∧ Rests s t ∧ t.node.od = s.node.od ∧ t.node.points = s.node.points ∧ t.node.areas = s.node.areas
      ∧ (w = 0 → t.node.frame = { u.frame with ops := u.frame.ops ++ [cmd op (loc.toNat % 64) false] })
      ∧ (w ≠ 0 → t.node.frame = { u.frame with sched := mapPut u.frame.sched u.freeEntry (cmd op loc.toNat (decide (w.toNat < u.nextClose))) }))
    ∧ (u.curMode = 5 → Answers c s fun t => Rests s t ∧ t.node.od = s.node.od ∧ t.node.frame = s.node.frame ∧ ¬ Done m t
      ∧ t.node.twin.passed = u.twin.passed ++ [{ rec_ := opRecord op loc target param w, master := m, via := .direct, at_ := u.now }])
  waits 0x01 (.ackPoint dt m loc target param w) ∧ waits 0x02 (.ackGroup dt m loc target param w) ∧ waits 0x03 (.ackArea dt m loc target param w)
    ∧ waits 0x04 (.silence dt m loc target param w) ∧ waits 0x05 (.shelve dt m loc target param w) ∧ waits 0x06 (.unshelve dt m loc target param w)
    ∧ waits 0x07 (.outOfService dt m loc target param w) ∧ waits 0x08 (.inService dt m loc target param w) ∧ waits 0x09 (.offer dt m loc target param w)
    ∧ waits 0x0A (.accept dt m loc target param w) ∧ waits 0x0B (.reject dt m loc target param w) ∧ waits 0x0C (.take dt m loc target param w)
    ∧ waits 0x0D (.attended dt m loc target param w) ∧ waits 0x0E (.unattended dt m loc target param w) ∧ waits 0x0F (.answer dt m loc target param w)
    ∧ waits 0x10 (.esOn dt m loc target param w) ∧ waits 0x11 (.esReset dt m loc target param w) ∧ waits 0x12 (.esOff dt m loc target param w)
    ∧ waits 0x13 (.rearm dt m loc target param w)

/-- Writes of the points' objects (R219, R243, R244, R258). Cancelling a scheduled entry removes it and no other; a write
of a point's counters sets them and ends their saturation; a write of a point's configuration stores it and asks for a
restart of the point where the value changed. -/
def Obligations.PointWritesTake : Prop := ∀ (s : State) (dt : Nat) (m : Master),
  let u := s.at_ dt
  (∀ entry : BitVec 16, Takes s dt m 0x6000 0x0B (toLE 2 entry.toNat) → Answers (.cancelScheduled dt m entry) s fun t => Done m t ∧ Rests s t
    ∧ t.node.od = s.node.od ∧ t.node.frame = { u.frame with sched := u.frame.sched.filter fun x => x.1 != entry.toNat }) ∧
  (∀ (p : Fin 16384) (standing : Bool) (v : BitVec 64),
    let sub := if standing then 0x28 else 0x27
    let size := if standing then 8 else 4
    let chosen := (u.writeOne m .direct 0x6100 0x01 (toLE 2 p) false).2.1
    Takes s dt m 0x6100 0x01 (toLE 2 p) → chosen.writeJudge m 0x6100 sub (toLE size v.toNat) = 0 →
      Answers (.counterClear dt m p standing v) s fun t => Done m t ∧ Rests s t ∧ t.node.po p sub = v.toNat % 2 ^ (8 * size)
        ∧ (standing = true → (t.node.pt p).satStand = false) ∧ (standing = false → (t.node.pt p).satOcc = false)
        ∧ SameObjects s.node t.node [key (masterCode m) 0x6100 0x01, key p 0x6100 sub]) ∧
  (∀ (p : Fin 16384) (sub : Byte) (data : List Byte),
    let chosen := (u.writeOne m .direct 0x6100 0x01 (toLE 2 p) false).2.1
    pointConfig sub.toNat = true → Takes s dt m 0x6100 0x01 (toLE 2 p) → chosen.writeJudge m 0x6100 sub.toNat data = 0 →
      Answers (.pointConfigWrite dt m p sub data) s fun t => Done m t ∧ Rests s t ∧ t.node.po p sub.toNat = ofLE data
        ∧ (u.po p sub.toNat ≠ ofLE data → (t.node.pt p).restart = true)
        ∧ SameObjects s.node t.node [key (masterCode m) 0x6100 0x01, key p 0x6100 sub.toNat, key 0 0x1020 0x06])

/-- Frame close (R212, R213, R214). A frame that is due on a node that does not mirror closes: its number goes up by one,
the commands that waited are gone, and no scheduled action due by then is left; before its time nothing happens;
without a valid copy the frame is missed and counted, and no point changes. When a close is due, what a missed frame
counts and that the mode boundary follows the evaluation are the model's readings (assumption logs 106, 107 and 108). -/
def Obligations.FramesClose : Prop := ∀ (s : State) (dt : Nat), s.node.up = true → s.node.frame.started = true →
  let u := s.at_ dt
  (u.copyValid isleFrame = true → u.mirrors = false → u.twin.agreed = none → u.nextClose ≤ u.copy isleFrame → Answers (.frameClose dt) s fun t =>
    t.pending = s.pending ∧ t.node.frame.num = (u.frame.num + 1) % 2 ^ 64 ∧ t.node.frame.lastClose = u.nextClose ∧ t.node.frame.lastAt = u.now
      ∧ t.node.frame.ops = [] ∧ t.node.frame.missed = 0 ∧ ∀ e ∈ t.node.frame.sched, u.nextClose < e.2.when_) ∧
  (u.copyValid isleFrame = true → u.mirrors = false → u.copy isleFrame < u.nextClose →
    exec (.frameClose dt) s = .next { s with node := u }) ∧
  (u.copyValid isleFrame = false → u.frame.lastAt + u.framePeriod ≤ u.now → Answers (.frameClose dt) s fun t => Rests s t
    ∧ t.node.frame.missed = u.frame.missed + 1 ∧ t.node.o 0x6000 0x0E = min (u.o 0x6000 0x0E + 1) (2 ^ 32 - 1)
    ∧ t.node.points = s.node.points ∧ SameObjects s.node t.node [key 0 0x6000 0x0E])

/-- What runs out for points and areas (R224, R226, R234, R248, R251). On- and off-delays make a point active and
inactive; suppression releases; a stale point turns bad with its fault; the rate window starts afresh; shelving ends.
A call escalates one level, an answer times out, a transfer is withdrawn, the engineer-safety timer goes to PREWARN
and EXPIRED, a call is repeated every 2 s, a silent area master makes its area stale, and a first-out group is
decided. That these expiries act both by frames and by time is the model's choice (assumption log 51). -/
def Obligations.ExpiriesAct : Prop :=
  (∀ (s : State) (dt : Nat) (p : Fin 16384), s.node.up = true →
  let u := s.at_ dt
  let x := u.pt p
  u.mirrors = false → u.copyValid isleFrame = true → s.node.frame.started = true → u.pointUsed p = true →
  (x.raw ≠ 0 → 0 < x.runOn → x.active = false → u.tenths (u.po p 0x0B) < x.runOn → Answers (.onDelayExpiry dt p) s fun t => Rests s t
    ∧ (t.node.pt p).active = true ∧ (t.node.pt p).cond = x.raw) ∧
  (x.raw = 0 → 0 < x.runOff → x.active = true → u.tenths (u.po p 0x0C) < x.runOff → Answers (.offDelayExpiry dt p) s fun t => Rests s t
    ∧ (t.node.pt p).active = false ∧ (t.node.pt p).cond = 0) ∧
  (x.sup = true → 0 < x.rel → u.tenths (u.po p 0x0E) < x.rel → Answers (.suppressionRelease dt p) s fun t => Rests s t
    ∧ (t.node.pt p).sup = false) ∧
  (∀ l, u.staleLimit p = some l → l < x.age → x.aged = true → u.po p 0x2C = 0 → x.q < 3 → Answers (.stale dt p) s fun t => Rests s t
    ∧ (t.node.pt p).q = 4 ∧ (t.node.pt p).fault = true ∧ (u.po p 0x02 ≠ 4 → (t.node.pt p).cond = 0)) ∧
  (u.po p 0x02 = 1 → x.rateRun = true → x.fault = false → u.tenths (u.po p 0x14) ≤ x.rateCount → Answers (.rateWindowEnd dt p) s fun t => Rests s t
    ∧ (t.node.pt p).rateCount = 0 ∧ (t.node.pt p).rateV = x.v ∧ (t.node.pt p).rateT = x.t ∧ (t.node.pt p).rateAt = u.now) ∧
  (x.shelve = some 0 → Answers (.shelveExpiry dt p) s fun t => Rests s t ∧ (t.node.pt p).shelve = none)) ∧
  (∀ (s : State) (dt : Nat) (a : Fin 8), s.node.up = true →
  let u := s.at_ dt
  let x := u.area a
  u.mirrors = false → u.copyValid isleFrame = true → s.node.frame.started = true → u.curMode ≠ 2 → s.node.frame.recs = [] →
  (∀ k, u.raising a ≠ [] → x.call = 1 → u.levelFrames a = some k → k ≤ x.count → Answers (.callEscalation dt a) s fun t => Rests s t
    ∧ (t.node.area a).level = u.levelFor (x.level + 1) x.ceiling ∧ (t.node.area a).call = 1 ∧ (t.node.area a).count = 0) ∧
  (u.raising a ≠ [] → x.call = 2 → u.seconds (u.ao a 0x0B) ≤ x.count → Answers (.answerTimeout dt a) s fun t => Rests s t
    ∧ (t.node.area a).call = 1 ∧ (t.node.area a).level = u.levelFor (min (x.level + 1) x.ceiling) x.ceiling) ∧
  (x.offer ≠ none → u.seconds (u.ao a 0x07) ≤ x.offerCount → Answers (.transferTimeout dt a) s fun t => Rests s t ∧ (t.node.area a).offer = none
    ∧ (t.node.area a).holder = x.holder) ∧
  (x.es = 1 → u.seconds (u.ao a 0x11 - u.ao a 0x12) ≤ x.esCount → Answers (.esPrewarn dt a) s fun t => Rests s t ∧ (t.node.area a).es = 2) ∧
  (x.es = 2 → u.seconds (u.ao a 0x11) ≤ x.esCount → Answers (.esExpired dt a) s fun t => Rests s t ∧ (t.node.area a).es = 3
    ∧ (t.node.area a).esCall = some 2) ∧
  (x.call ≠ 0 → u.raising a ≠ [] → x.repAt + 2000000000 ≤ u.now → Answers (.callMessageRepeat dt a) s fun t => Rests s t
    ∧ (t.node.area a).rep = (x.rep + 1) % 256 ∧ (t.node.area a).repAt = x.repAt + 2000000000 ∧ (t.node.area a).call = x.call) ∧
  (u.isAreaMaster a = false → x.heardAt + 3000000000 ≤ u.now → Answers (.remoteStale dt a) s fun t => Rests s t ∧ (t.node.area a).remoteStale = true) ∧
  (∀ g : Fin 1024, s.node.frame.entries = [] → s.node.frame.remoteIn = [] → u.go g 0x07 = 1 → (u.grp g).firstClose + u.go g 0x03 * 1000000 ≤ u.copy isleFrame →
    Answers (.firstOutWindowEnd dt g) s fun t => Rests s t ∧ (t.node.grp g).cands = [] ∧ (t.node.go g 0x07 = 2 ∨ t.node.go g 0x07 = 0)
      ∧ t.node.go g 0x0E = (u.go g 0x0E + 1) % 2 ^ 32
      ∧ ∀ c rest, firstOnes (u.go g 0x04) (u.grp g).cands = c :: rest → t.node.go g 0x08 = c.ident * 65536 + c.point ∧ t.node.go g 0x09 = c.onset))

/-- Ring ports, bypass and HSR (R285, R287, R290, R291, R293, R295, R314). Link-up, loss, training timeout, failed
attempts and margin move a port's state, bits and counts; the bypass opens and closes by command and at the end of its
change. Supervision and heartbeat frames are sent when due; silent nodes are forgotten; RING_OPEN follows the node
table; a frame with a wrong FCS is counted; a good frame of another node that is not for this one is forwarded once by
the other port. -/
def Obligations.RingAct : Prop :=
  (∀ (s : State) (dt : Nat) (p : Fin 2), s.node.up = true →
  let u := s.at_ dt
  let x := u.rport p
  (∀ gig (len : BitVec 16) mdix master (snr : BitVec 32), (u.portState p = 1 ∨ u.portState p = 4) → ¬ (gig = true ∧ x.only100 = true) →
    Answers (.linkUp dt p gig len mdix master snr) s fun t => Rests s t ∧ t.node.portState p = (if gig then 2 else 3)
      ∧ t.node.oi p 0x3000 0x11 = (u.oi p 0x3000 0x11 + 1) % 2 ^ 32 ∧ t.node.oi p 0x3000 0x0F = len.toNat
      ∧ bit (t.node.oi p 0x3000 0x0E) 0 = true ∧ bit (t.node.oi p 0x3000 0x0E) 4 = !gig
      ∧ (t.node.rport p).queue = [] ∧ t.node.out = x.queue.map fun f => .ring (2 ^ p.val) f) ∧
  (u.portUp p = true → Answers (.linkLost dt p) s fun t => Rests s t ∧ t.node.portState p = 1
    ∧ t.node.oi p 0x3000 0x11 = (u.oi p 0x3000 0x11 + 1) % 2 ^ 32 ∧ bit (t.node.oi p 0x3000 0x0E) 0 = false) ∧
  (u.portState p = 1 → x.trainAt + 3000000000 ≤ u.now → Answers (.trainingTimeout dt p) s fun t => Rests s t ∧ t.node.portState p = 4
    ∧ (t.node.rport p).queue = []) ∧
  ((u.portState p = 1 ∨ u.portState p = 4) → x.only100 = false → Answers (.failedAttempt dt p) s fun t => Rests s t ∧ t.node.od = s.node.od
    ∧ (t.node.rport p).fails = x.fails + 1 ∧ (t.node.rport p).only100 = decide (3 ≤ x.fails + 1)) ∧
  (∀ d, u.portState p = 2 → d < 30 → bit (u.oi p 0x3000 0x0E) 6 = false → Answers (.marginLow dt p d) s fun t => Rests s t
    ∧ bit (t.node.oi p 0x3000 0x0E) 6 = true ∧ t.node.oi p 0x3000 0x10 = r32 (ratio d 10) ∧ t.node.ver = (u.fault (0x0A0 + p) 0x51 0 d).ver
    ∧ SameObjects s.node t.node [key p 0x3000 0x0E, key p 0x3000 0x10]) ∧
  (∀ d, u.portState p = 2 → 40 ≤ d → Answers (.marginClear dt p d) s fun t => Rests s t ∧ bit (t.node.oi p 0x3000 0x0E) 6 = false
    ∧ SameObjects s.node t.node [key p 0x3000 0x0E, key p 0x3000 0x10]) ∧
  (u.o 0x3000 0x16 = 1 → Answers (.bypassChangeDone dt) s fun t => Rests s t ∧ t.node.portState p = 1
    ∧ t.node.o 0x3000 0x16 = (if u.wantOpen then 2 else 3)) ∧
  (u.o 0x3000 0x16 = 3 → Answers (.bypassChangeDone dt) s fun t => Rests s t ∧ t.node.portState p = 0
    ∧ t.node.o 0x3000 0x16 = (if u.wantOpen then 1 else 0)) ∧
  (∀ m, Takes s dt m 0x3000 0x17 [1] → Answers (.bypassForceClose dt m) s fun t => Done m t ∧ Rests s t
    ∧ t.node.ring = { u.ring with forced := true } ∧ t.node.o 0x3000 0x16 = (if u.o 0x3000 0x16 = 2 then 3 else u.o 0x3000 0x16)
    ∧ SameObjects s.node t.node [key 0 0x3000 0x16]) ∧
  (∀ m, Takes s dt m 0x3000 0x17 [2] → Answers (.bypassRelease dt m) s fun t => Done m t ∧ Rests s t
    ∧ t.node.ring = { u.ring with forced := false } ∧ SameObjects s.node t.node [key 0 0x3000 0x16]
    ∧ (u.o 0x3000 0x16 = 0 → u.ring.opened = true → u.ident ≠ 0 → bit (u.o 0x2200 0x15) 8 = false → t.node.o 0x3000 0x16 = 1))) ∧
  (∀ (s : State) (dt : Nat), s.node.up = true →
  let u := s.at_ dt
  (u.ring.supAt + u.o 0x3200 0x05 * 1000000 ≤ u.now → Answers (.hsrSupervision dt) s fun t => Rests s t ∧ t.node.ring.supAt = u.now
    ∧ mapGet t.node.ring.seqs 0x100 0 = (mapGet u.ring.seqs 0x100 0 + 1) % 2 ^ 32 ∧ t.node.o 0x3200 0x09 = (u.o 0x3200 0x09 + 1) % 65536) ∧
  (∀ (mac : BitVec 48) k x, u.ring.nodes.find? (fun e => e.1 == mac.toNat) = some (k, x) → x.last + u.o 0x3200 0x06 * 1000000000 ≤ u.now →
    Answers (.nodeForget dt mac) s fun t => Rests s t ∧ t.node.ring.nodes = mapErase u.ring.nodes mac.toNat
      ∧ t.node.o 0x3200 0x01 = t.node.ring.nodes.length ∧ SameObjects s.node t.node [key 0 0x3200 0x01, key 0 0x3200 0x0A]) ∧
  Answers (.ringOpen dt) s (fun t => Rests s t ∧ bit (t.node.o 0x3200 0x0A) 0 = u.ring.nodes.any (fun e => u.oneSided e.2)
    ∧ t.node.ring = u.ring ∧ SameObjects s.node t.node [key 0 0x3200 0x0A]) ∧
  (u.ring.hbAt + u.o 0x3000 0x09 * 1000000 ≤ u.now → Answers (.nodeHeartbeatSend dt) s fun t => Rests s t ∧ t.node.ring.hbAt = u.now
    ∧ mapGet t.node.ring.seqs 6 0 = (mapGet u.ring.seqs 6 0 + 1) % 2 ^ 32 ∧ t.node.o 0x3200 0x09 = (u.o 0x3200 0x09 + 1) % 65536) ∧
  (∀ (p : Fin 2) ago bs, u.portUp p = true → (bs.length < 18 ∨ crc32 (bs.take (bs.length - 4)) ≠ fieldLE bs (bs.length - 4) 4) →
    Answers (.ringFrameReceived dt p ago bs) s fun t => Rests s t ∧ t.node.oi p 0x3000 0x15 = min (u.oi p 0x3000 0x15 + 1) (2 ^ 32 - 1)
      ∧ SameObjects s.node t.node [key p 0x3000 0x15]) ∧
  (∀ (p : Fin 2) ago bs, u.portUp p = true → 24 ≤ bs.length → bs.length ≤ 1528 →
    crc32 (bs.take (bs.length - 4)) = fieldLE bs (bs.length - 4) 4 → fieldBE bs 12 2 = 0x892F → fieldBE bs 6 6 ≠ ownMac → fieldBE bs 0 6 ≠ ownMac →
    fieldBE bs 18 2 ≠ 0x88FB → fieldBE bs 18 2 ≠ u.ring.etype → (∀ e ∈ u.ring.seen, e.1 ≠ fieldBE bs 6 6 * 65536 + fieldBE bs 16 2) →
    u.portUp (1 - p.val) = true → Answers (.ringFrameReceived dt p ago bs) s fun t => Rests s t ∧ t.node.out = [.ring (2 ^ (1 - p.val)) bs]
      ∧ t.node.oi p 0x3000 0x14 = (u.oi p 0x3000 0x14 + 1) % 2 ^ 64
      ∧ SameObjects s.node t.node [key p 0x3000 0x14, key (1 - p.val) 0x3000 0x13]))

/-- Woad frames (R303, R305, R306, R307, R308, R310, R312). A frame that the node hears is counted at its port and its
source's address and time are noted. A publication's entries become the readings of remote sources, alarm events the
states of remote points, a vat frame goes to every queue bound to it that has room, and a dictionary request is
answered. -/
def Obligations.WoadFramesAct : Prop := ∀ (s : State) (dt : Nat) (f : WoadIn), s.node.up = true →
  let u := s.at_ dt
  let counted := fun (t : State) => Rests s t ∧ t.node.oi f.port 0x3000 0x14 = (u.oi f.port 0x3000 0x14 + 1) % 2 ^ 64
    ∧ (mapGet t.node.ring.idents f.src.toNat {}).mac = f.mac.toNat ∧ (mapGet t.node.ring.idents f.src.toNat {}).at_ = u.now
  (u.hears 6 f → Answers (.heartbeat dt f) s counted) ∧
  (u.hears 3 f → Answers (.publication dt f) s fun t => counted t ∧ mapGet t.node.refresh f.pub.toNat 0 = fieldLE f.body 2 2
    ∧ ∀ k, fieldLE f.body 4 2 = k + 1 → k < 88 → 24 + 16 * k ≤ f.body.length →
      mapGet t.node.input (srcKey 6 (f.pub.toNat * 65536 + fieldLE f.body (8 + 16 * k) 2)) {} =
        { value := fieldLE f.body (12 + 16 * k) 4, q := fieldLE f.body (11 + 16 * k) 1 % 16, time := fieldLE f.body (16 + 16 * k) 8 }) ∧
  (u.hears 4 f → Answers (.alarmEvents dt f) s fun t => counted t
    ∧ ∀ k, fieldLE f.body 0 2 = k + 1 → k < 44 → 36 + 32 * k ≤ f.body.length →
      let r := slice f.body (4 + 32 * k) 32
      fieldLE r 0 2 < 16384 → mapGet t.node.frame.remote (f.pub.toNat * 65536 + fieldLE r 0 2) 0 = fieldLE r 3 1) ∧
  (∀ type : Byte, 0x40 ≤ type.toNat → type.toNat ≤ 0x7F → u.hears type.toNat f → Answers (.vatFrame dt type f) s fun t => counted t
    ∧ ∀ q, q ∈ u.queuesOf 2 → (u.queuesOf 2).Nodup → u.oi q 0x9100 0x0B = 1 → occupancy (u.pi q) (u.ci q) + (u.queue q).wait.length < u.depth q →
      bits (u.oi q 0x9100 0x0F) 7 0 ≤ type.toNat → type.toNat ≤ bits (u.oi q 0x9100 0x0F) 15 8 →
      (bits (u.oi q 0x9100 0x0F) 23 16 = 0 ∨ bits (u.oi q 0x9100 0x0F) 23 16 = f.src.toNat) →
      ∃ en, (t.node.queue q).wait = (u.queue q).wait ++ [en] ∧ en.data = f.body) ∧
  (u.hears 1 f → f.src ≠ 0 → f.src ≠ 255 → u.mode.keeperReset = none → u.curMode ≠ 2 → f.body.length = 12 → fieldLE f.body 10 2 = 0 →
    fieldLE f.body 4 1 = 1 ∨ fieldLE f.body 4 1 = 3 → Answers (.dictionaryRequest dt f) s fun t => counted t
      ∧ mapGet t.node.ring.seqs 2 0 = (mapGet u.ring.seqs 2 0 + 1) % 2 ^ 32 ∧ ∃ fr, Out.ring (2 ^ f.port.val) fr ∈ t.node.out)

/-- Snapshots (R316, R317, R318, R319). Both snapshot commands begin a snapshot of this node with a fresh identity, the
scheduled one by a timed broadcast; a marker is counted; an order waits for its time, or is late; acknowledgements are
counted; collecting ends in state COMPLETE exactly where every node of the table answered in time and none failed,
otherwise in PARTIAL. -/
def Obligations.SnapshotsAct : Prop := ∀ (s : State) (dt : Nat),
  let u := s.at_ dt
  let id := u.ident * 2 ^ 24 + u.ring.snapCount
  let asked := fun (m : Master) (scheduled : Bool) (fire : Nat) (t : State) => Done m t ∧ Rests s t ∧ t.node.o 0x3000 0x19 = 1
    ∧ t.node.o 0x3000 0x1A = id ∧ t.node.o 0x3000 0x1C = 0 ∧ t.node.o 0x3000 0x1D = 0
    ∧ t.node.ring.snap = some { id := id, scheduled := scheduled, fire := fire } ∧ t.node.ring.snapCount = (u.ring.snapCount + 1) % 2 ^ 24
  (∀ m flags (fire : BitVec 64), Takes s dt m 0x3000 0x18 ([0, flags] ++ zeros 6 ++ toLE 8 fire.toNat) →
    Answers (.snapshotMarkerCommand dt m flags fire) s fun t => asked m false 0 t ∧ t.node.o 0x3000 0x20 = (u.o 0x3000 0x20 + 1) % 2 ^ 32) ∧
  (∀ m flags (fire : BitVec 64), Takes s dt m 0x3000 0x18 ([1, flags] ++ zeros 6 ++ toLE 8 fire.toNat) →
    Answers (.snapshotScheduledCommand dt m flags fire) s fun t => asked m true fire.toNat t
      ∧ t.node.bc.waiting = u.bc.waiting ++ [{ kind := .snapshot u.ident id, time := some fire.toNat, late := u.bcastLate fire.toNat }]) ∧
  (∀ f : WoadIn, s.node.up = true → u.hears 7 f → u.curMode ≠ 2 → Answers (.marker dt f) s fun t => Rests s t
    ∧ t.node.o 0x3000 0x20 = (u.o 0x3000 0x20 + 1) % 2 ^ 32) ∧
  (∀ f : WoadIn, s.node.up = true → u.hears 7 f → u.curMode ≠ 2 → u.bcastLate (fieldLE f.body 8 8) = false → Answers (.order dt f) s fun t =>
    Rests s t ∧ t.node.o 0x3000 0x20 = u.o 0x3000 0x20 ∧ t.node.bc.waiting = u.bc.waiting ++
      [{ kind := .snapshot (fieldLE f.body 2 1) (fieldLE f.body 4 4), time := some (fieldLE f.body 8 8), late := false }]) ∧
  (∀ f : WoadIn, s.node.up = true → u.hears 7 f → u.curMode ≠ 2 → u.bcastLate (fieldLE f.body 8 8) = true → Answers (.order dt f) s fun t =>
    Rests s t ∧ t.node.bc = u.bc ∧ t.node.o 0x3000 0x20 =
      (if bit (fieldLE f.body 1 1) 0 then (u.o 0x3000 0x20 + 1) % 2 ^ 32 else u.o 0x3000 0x20)) ∧
  (∀ (f : WoadIn) x, s.node.up = true → u.hears 7 f → u.ring.snap = some x → u.o 0x3000 0x19 = 1 → fieldLE f.body 4 4 = x.id →
    fieldLE f.body 2 1 = u.ident → Answers (.ack dt f) s fun t => Rests s t
      ∧ t.node.o 0x3000 0x1C = (if bit (fieldLE f.body 1 1) 1 then min (u.o 0x3000 0x1C + 1) 65535 else u.o 0x3000 0x1C)
      ∧ t.node.o 0x3000 0x1D = (if bit (fieldLE f.body 1 1) 2 || bit (fieldLE f.body 1 1) 3 then min (u.o 0x3000 0x1D + 1) 65535
          else u.o 0x3000 0x1D)) ∧
  (∀ x, s.node.up = true → u.ring.snap = some x → u.o 0x3000 0x19 = 1 → x.scheduled = true → x.fire + 10000000 ≤ u.tai →
    Answers (.snapshotCollectionEnd dt) s fun t => Rests s t ∧ (t.node.o 0x3000 0x19 = 2 ∨ t.node.o 0x3000 0x19 = 3)
      ∧ (t.node.o 0x3000 0x19 = 2 ↔ (∀ e ∈ u.ring.nodes, e.1 ∈ x.good) ∧ x.late = false) ∧ SameObjects s.node t.node [key 0 0x3000 0x19]) ∧
  (∀ x at_, s.node.up = true → u.ring.snap = some x → u.o 0x3000 0x19 = 1 → x.scheduled = false → x.endAt = some at_ → at_ ≤ u.now →
    Answers (.snapshotCollectionEnd dt) s fun t => Rests s t ∧ (t.node.o 0x3000 0x19 = 2 ∨ t.node.o 0x3000 0x19 = 3))

/-- PTP (R298, R299, R300, R301). Sync and Follow_Up are forwarded with residence and link delay added and give the offset
of the selected grandmaster; the peer delay exchange sends, answers and gives the link delay; Announce notes its
master; a silent grandmaster leads to HOLDOVER and is forgotten; a grandmaster sends its Sync by both ports. -/
def Obligations.PtpAct : Prop := ∀ (s : State) (dt : Nat) (p : Fin 2), s.node.up = true → s.node.clockMode ≠ 0 →
  let u := s.at_ dt
  let x := u.pport p
  let link : Nat := u.oi p 0x3100 0x0C / 1000
  let used := fun (gm : BitVec 64) (domain : Byte) => u.ptpUses gm.toNat domain.toNat = true ∧ u.o 0x3100 0x0D = p ∧ u.o 0x1100 0x03 = 2
  (∀ gm domain (seq : BitVec 16) twoStep (origin : BitVec 64) (corr : Int) ago res, u.portUp p = true →
    Answers (.ptpSyncReceived dt p gm domain seq twoStep origin corr ago res) s fun t => Rests s t
      ∧ Out.ptp (1 - p) 0 seq.toNat (if twoStep then corr else corr + ((res + link) * 65536 : Nat)) ∈ t.node.out
      ∧ t.node.o 0x3100 0x10 = max (u.o 0x3100 0x10) res
      ∧ (used gm domain → t.node.o 0x3100 0x11 = (u.o 0x3100 0x11 + 1) % 2 ^ 32)
      ∧ (used gm domain → twoStep = false → t.node.time.lastSync = u.now ∧ t.node.time.offsets =
          ((((u.tai - ago : Nat) : Int) - origin.toNat - (corr / 65536 + link)) :: u.time.offsets).take 8)) ∧
  (∀ gm domain (seq : BitVec 16) (origin : BitVec 64) (corr c1 : Int) t2 res, u.portUp p = true → x.sync = some (seq.toNat, t2, c1, res) →
    Answers (.ptpFollowUpReceived dt p gm domain seq origin corr) s fun t => Rests s t
      ∧ Out.ptp (1 - p) 1 seq.toNat (corr + ((res + link) * 65536 : Nat)) ∈ t.node.out ∧ (t.node.pport p).sync = none
      ∧ (used gm domain → t.node.time.offsets = (((t2 : Int) - origin.toNat - ((c1 + corr) / 65536 + link)) :: u.time.offsets).take 8)) ∧
  (u.portUp p = true → Answers (.pdelayReqSend dt) s fun t => Rests s t ∧ t.node.od = s.node.od
    ∧ t.node.pport p = { x with reqSeq := (x.reqSeq + 1) % 65536, t1 := u.tai, resp := none } ∧ Out.ptp p 2 ((x.reqSeq + 1) % 65536) 0 ∈ t.node.out) ∧
  (∀ (seq : BitVec 16) ago, u.portUp p = true → Answers (.pdelayReqReceived dt p seq ago) s fun t => Rests s t ∧ t.node.od = s.node.od
    ∧ t.node.out = (if u.o 0x3100 0x06 = 1 then [.ptp p 3 seq.toNat ((ago * 65536 : Nat) : Int)]
        else [.ptp p 3 seq.toNat 0, .ptp p 4 seq.toNat ((ago * 65536 : Nat) : Int)])) ∧
  (∀ (seq : BitVec 16) (ts : BitVec 64) (corr : Int) ago, seq.toNat = x.reqSeq → Answers (.pdelayRespReceived dt p seq false false ts corr ago) s
    fun t => Rests s t ∧ t.node.oi p 0x3100 0x0C = (max 0 (((((u.tai - ago : Nat) : Int) - x.t1) - corr / 65536) * 500)).toNat
      ∧ SameObjects s.node t.node [key p 0x3100 0x0C]) ∧
  (∀ (seq : BitVec 16) (ts : BitVec 64) (corr : Int) ago, seq.toNat = x.reqSeq → Answers (.pdelayRespReceived dt p seq false true ts corr ago) s
    fun t => Rests s t ∧ (t.node.pport p).resp = some (ts.toNat, u.tai - ago, corr) ∧ t.node.od = s.node.od) ∧
  (∀ (seq : BitVec 16) twoStep (ts : BitVec 64) (corr c : Int) ago (t2 t4 : Nat), seq.toNat = x.reqSeq → x.resp = some (t2, t4, c) →
    Answers (.pdelayRespReceived dt p seq true twoStep ts corr ago) s fun t => Rests s t ∧ (t.node.pport p).resp = none
      ∧ t.node.oi p 0x3100 0x0C = (max 0 ((((t4 : Int) - x.t1) - ((ts.toNat : Int) - t2) - (c + corr) / 65536) * 500)).toNat) ∧
  (∀ (domain : Byte) (ann : Announce), u.clockMode = 1 → domain.toNat = u.o 0x3100 0x02 → u.portUp p = true → 0 < u.announceSpan →
    Answers (.announceReceived dt p domain ann) s fun t => Rests s t ∧ (mapGet t.node.ptp.masters ann.ident.toNat {}).at_ = u.now
      ∧ (mapGet t.node.ptp.masters ann.ident.toNat {}).prio1 = ann.prio1.toNat
      ∧ (t.node.grandmaster = ann.ident.toNat → t.node.ptp.mine = false → t.node.time.lastAnnounce = u.now ∧ t.node.time.utcValid = ann.utcValid)) ∧
  (u.ptp.mine = false → u.time.lastAnnounce + u.announceSpan ≤ u.now → Answers (.announceReceiptTimeout dt) s fun t => Rests s t
    ∧ t.node.o 0x1100 0x03 = (if u.o 0x1100 0x03 = 2 then 3 else u.o 0x1100 0x03)
    ∧ t.node.ptp.masters = u.ptp.masters.filter fun e => decide (u.now < e.2.at_ + u.announceSpan)) ∧
  (u.ptp.mine = true → u.clockMode = 1 → u.ptp.syncAt + logSec (u.oint 8 0 0x3100 0x07) ≤ u.now → Answers (.ptpSyncSend dt) s fun t => Rests s t
    ∧ t.node.od = s.node.od ∧ t.node.ptp.syncAt = u.now ∧ t.node.ptp.syncSeq = (u.ptp.syncSeq + 1) % 65536
    ∧ Out.ptp 0 0 ((u.ptp.syncSeq + 1) % 65536) 0 ∈ t.node.out ∧ Out.ptp 1 0 ((u.ptp.syncSeq + 1) % 65536) 0 ∈ t.node.out)

/-- Twin link, heartbeats, digest and clone (R326, R327, R341, R346). Ring and link heartbeats are sent when due and note
the twin's health, mode and time; a silent link ends SYNC and is counted; digests are sent each second and noted;
lanes come and go; TWIN_DET_N ends the link; a clone begins on command, and its end replaces the inactive bank or
reports 0x060C. The code 0x060C is the model's choice (assumption log 122). -/
def Obligations.TwinLinkAct : Prop := ∀ (s : State) (dt : Nat), s.node.up = true →
  let u := s.at_ dt
  let x := u.twin
  let taken := fun (type : Nat) (seq : BitVec 32) => (u.linkTake type seq.toNat true).1 = true
  (u.twinOn = true → u.ring.thbAt + (if x.silent then 10000 else 100000) ≤ u.now → u.o 0x3000 0x0A ≠ 0 → Answers (.twinRingHeartbeatSend dt) s fun t =>
    Rests s t ∧ t.node.ring.thbAt = u.now ∧ mapGet t.node.ring.seqs 6 0 = (mapGet u.ring.seqs 6 0 + 1) % 2 ^ 32 ∧ t.node.twin = u.twin) ∧
  (∀ (p : Fin 2) (src : Byte) body, u.portUp p = true → u.o 0x3000 0x0A = p.val + 1 → u.twinOn = true → fieldLE body 0 1 = 1 →
    Answers (.twinRingHeartbeat dt p src body) s fun t => Rests s t ∧ t.node.o 0x2400 0x08 = fieldLE body 4 4 ∧ t.node.twin.hbSeen = true
      ∧ t.node.twin.peerMode = fieldLE body 1 1 ∧ t.node.twin.peerIdent = (if src = 0 then x.peerIdent else src.toNat)) ∧
  (u.twinOn = true → x.hbSent + 2000 ≤ u.now → Answers (.twinLinkHeartbeatSend dt) s fun t => Rests s t ∧ t.node.twin.hbSent = u.now
    ∧ (u.linkUp = true → ∃ bs, t.node.out = [.twin 1 bs])) ∧
  (∀ (g : LinkMsg) seenOwn seenForce, taken 1 g.seq → g.crcOk = true → Answers (.twinLinkHeartbeat dt g seenOwn seenForce) s fun t => Rests s t
    ∧ t.node.o 0x2400 0x08 = fieldLE g.body 4 4 ∧ t.node.twin.hbAt = u.now ∧ t.node.twin.silent = false
    ∧ (seenOwn = true → t.node.twin.ownOk = true) ∧ (seenForce = true → t.node.twin.forceOk = true)) ∧
  (u.twinOn = true → x.silent = false → x.hbAt + 6000 ≤ u.now → Answers (.twinLinkSilent dt) s fun t => Rests s t ∧ t.node.twin.silent = true
    ∧ t.node.o 0x2400 0x12 = min (u.o 0x2400 0x12 + 1) (2 ^ 32 - 1)
    ∧ t.node.syncState = (if u.syncState = 1 ∨ u.syncState = 2 ∨ u.syncState = 3 then 0 else u.syncState)) ∧
  (u.twinOn = true → x.digestAt + 1000000000 ≤ u.now → Answers (.digestSend dt) s fun t => Rests s t ∧ t.node.od = s.node.od
    ∧ t.node.twin.digestAt = u.now ∧ (u.linkUp = true → ∃ bs, t.node.out = [.twin 7 bs])) ∧
  (∀ (seq : BitVec 32) (d : BitVec 64), taken 7 seq → Answers (.digest dt seq true d) s fun t => Rests s t ∧ t.node.o 0x2400 0x0C = d.toNat
    ∧ t.node.twin.digestSeen = true ∧ SameObjects s.node t.node [key 0 0x2400 0x0C]) ∧
  (∀ lanes : Fin 3, lanes.val ≠ 0 → u.twinOn = true → x.det = true → Answers (.twinLinkUp dt lanes) s fun t => Rests s t
    ∧ t.node.o 0x2400 0x09 = lanes.val + 1 ∧ (u.o 0x2400 0x09 < 2 → t.node.twin.seqIn = [])) ∧
  (u.o 0x2400 0x09 = 3 → Answers (.twinLinkLaneLost dt) s fun t => Rests s t ∧ t.node.o 0x2400 0x09 = 2 ∧ t.node.out = [.pin 1 true]) ∧
  (u.o 0x2400 0x09 = 2 → Answers (.twinLinkLaneLost dt) s fun t => t.pending = s.pending ∧ t.node.o 0x2400 0x09 = 1 ∧ t.node.twin.passed = []) ∧
  (Answers (.twinDetNChange dt true) s fun t => t.pending = s.pending ∧ t.node.twin.det = false ∧ t.node.o 0x2400 0x09 = 0) ∧
  (u.twinOn = true → u.o 0x2400 0x09 = 0 → Answers (.twinDetNChange dt false) s fun t => Rests s t ∧ t.node.twin.det = true ∧ t.node.o 0x2400 0x09 = 1) ∧
  (∀ m, Takes s dt m 0x2400 0x17 [1] → Answers (.clone dt m) s fun t => Done m t ∧ Rests s t ∧ t.node.od = s.node.od
    ∧ t.node.twin.clone = some (masterSource m)) ∧
  (∀ m objs doms descr, x.clone = some m → Answers (.cloneDone dt false objs doms descr) s fun t => Rests s t ∧ t.node.twin.clone = none
    ∧ t.node.o 0x2400 0x18 = 0x060C ∧ t.node.store = u.store) ∧
  (∀ m objs doms descr, x.clone = some m → Answers (.cloneDone dt true objs doms descr) s fun t => Rests s t ∧ t.node.twin.clone = none
    ∧ t.node.o 0x1020 0x06 = 0
    ∧ ((Config.storeImage (u.cloneObjs objs) doms).length ≤ storeMax → u.bankUnusable (!(u.committedBank.getD true)) = false →
        t.node.store.stored = descr ∧ (t.node.bank (!(u.committedBank.getD true))).objs = u.cloneObjs objs
          ∧ (t.node.bank (!(u.committedBank.getD true))).doms = doms))

/-- A mirroring standby follows the owner (R245, R331, R333, R335). Readings wait for their Close; a Close in SYNC closes
the mirror's frame, otherwise it waits for replay, with its continuations; the state image sets what it holds;
transfer, replay and SYNC follow each other; an owner judges and answers a passed command; the standby gives the
answer to the master that asked, or 0x0608 after 1 ms or without a link. That the standby answers when the owner's
answer comes is the model's reading (assumption log 123). -/
def Obligations.MirrorsFollow : Prop := ∀ (s : State) (dt : Nat), s.node.up = true →
  let u := s.at_ dt
  let x := u.twin
  let taken := fun (type : Nat) (seq : BitVec 32) => (u.linkTake type seq.toNat true).1 = true
  (∀ (g : LinkMsg) k, taken 2 g.seq → g.crcOk = true → u.mirrors = true → g.body.length = 28 + 24 * k → Answers (.readings dt g) s fun t => Rests s t
    ∧ t.node.od = s.node.od ∧ (let r := g.body.drop (4 + 24 * k)
        mapGet t.node.twin.rx (srcKey (fieldLE r 0 1) (fieldLE r 4 4)) {} = { value := fieldLE r 8 4, q := fieldLE r 12 1, time := fieldLE r 16 8 })) ∧
  (∀ g : LinkMsg, taken 3 g.seq → g.crcOk = true → u.mirrors = true → fieldLE g.body 26 2 ≤ (chunks 24 168 (g.body.drop 64)).length →
    (u.syncState = 3 → fieldLE g.body 0 8 = (u.frame.num + 1) % 2 ^ 64 → Answers (.close dt g) s fun t => t.pending = s.pending
      ∧ t.node.frame.num = (u.frame.num + 1) % 2 ^ 64) ∧
    (u.syncState ≠ 3 → Answers (.close dt g) s fun t => Rests s t ∧ t.node.od = s.node.od ∧ t.node.frame = u.frame ∧ t.node.twin.rx = []
      ∧ ∃ c, c.num = fieldLE g.body 0 8 ∧ c.tclose = fieldLE g.body 8 8 ∧ t.node.twin.replay = x.replay ++ [(c, x.rx, x.rxFirst)])) ∧
  (∀ (g : LinkMsg) c, taken 8 g.seq → g.crcOk = true → u.mirrors = true → x.close = some c → fieldLE g.body 0 8 = c.num →
    fieldLE g.body 8 2 = c.cmds.length →
    let all := c.cmds ++ chunks 24 170 (g.body.drop 16)
    (all.length < c.ncmd → Answers (.closeContinuation dt g) s fun t => Rests s t ∧ t.node.twin.close = some { c with cmds := all }) ∧
    (c.ncmd ≤ all.length → u.syncState ≠ 3 → Answers (.closeContinuation dt g) s fun t => Rests s t ∧ t.node.twin.close = none
      ∧ t.node.twin.replay = x.replay ++ [({ c with cmds := all }, x.rx, x.rxFirst)]) ∧
    (c.ncmd ≤ all.length → u.syncState = 3 → c.num = (u.frame.num + 1) % 2 ^ 64 → Answers (.closeContinuation dt g) s fun t =>
      t.pending = s.pending ∧ t.node.frame.num = c.num)) ∧
  (∀ (seq : BitVec 32) blocks b, taken 4 seq → u.syncState = 1 → blocks.getLast? = some b → Answers (.state dt seq true blocks) s fun t => Rests s t
    ∧ (∀ num : BitVec 64, b = .frame num → t.node.frame.num = num.toNat ∧ t.node.twin.loaded = true)
    ∧ (∀ y : AreaImage, b = .area y → (t.node.area y.area).holder = y.holder.toNat ∧ (t.node.area y.area).call = y.call.toNat)
    ∧ (∀ y : PointImage, b = .point y → (t.node.pt y.point).st = y.st.toNat ∧ (t.node.pt y.point).v = y.value.toNat)
    ∧ (∀ (e : Fin 256) rec_ late, b = .sched e rec_ late → mapGet t.node.frame.sched e {} = opOf rec_ late)) ∧
  (u.syncState = 1 → x.loaded = true → Answers (.stateTransferDone dt) s fun t => Rests s t ∧ t.node.syncState = 2
    ∧ SameObjects s.node t.node [key 0 0x2400 0x0A]) ∧
  (u.syncState = 2 → Answers (.replayDone dt) s fun t => t.pending = s.pending ∧ (t.node.syncState = 3 ∨ t.node.syncState = 0) ∧ t.node.twin.replay = []
    ∧ (x.replay = [] → t.node.syncState = 3)) ∧
  (∀ (seq : BitVec 32) record m, taken 5 seq → u.mode.keeperReset = none → u.curMode ≠ 5 →
    let code := u.writeJudge m 0x6000 0x08 (padTo 16 record)
    Answers (.command dt seq true (.ask record m)) s fun t => Rests s t ∧ t.node.od = s.node.od ∧ (∃ bs, t.node.out = [.twin 5 bs])
      ∧ (code ≠ 0 → t.node.frame = u.frame) ∧ (code = 0 → fieldLE (padTo 16 record) 8 8 = 0 → t.node.frame.ops.length = u.frame.ops.length + 1)
      ∧ (code = 0 → fieldLE (padTo 16 record) 8 8 ≠ 0 → t.node.frame.ops = u.frame.ops)) ∧
  (∀ (seq : BitVec 32) (code : BitVec 16) c rest, taken 5 seq → x.passed = c :: rest → Answers (.command dt seq true (.answer code)) s fun t =>
    t.pending = s.pending ∧ t.node.twin.passed = rest ∧ (c.via = .direct → Rests s t ∧ t.node.out = [.reply c.master code.toNat []])) ∧
  Answers (.commandReplyTimeout dt) s (fun t => t.pending = s.pending
    ∧ t.node.twin.passed = x.passed.filter (fun c => u.linkUp && decide (u.now < c.at_ + 1000000))
    ∧ ∀ c ∈ x.passed, c.via = .direct → (u.linkUp = false ∨ c.at_ + 1000000 ≤ u.now) → Out.reply c.master 0x0608 [] ∈ t.node.out)

/-- Takeover and handover (R328, R329, R336, R337, R338, R340, R343). OWN_IN's edges are noted; a takeover, the end of
FORCE_OUT's hold and a handover at once make this node own, with its cause and count; a handover that is offered,
acknowledged or asked for by takeback is agreed for its close; an interlock fault is declared; OWN dropped disables
the stages; FORCE_OUT is asserted at a silent twin; FORCE_IN disables the stages of either node and makes an owner the
standby. That a handover of kind 0x25 is taken at once, and which close an agreed one has, are the model's readings
(assumption logs 121 and 68). -/
def Obligations.TwinsTakeOver : Prop := ∀ (s : State) (dt : Nat),
  let u := s.at_ dt
  let x := u.twin
  let owns := fun (cause : Nat) (t : State) => t.pending = s.pending ∧ t.node.twin.own = true ∧ t.node.o 0x2400 0x03 = 1
    ∧ (t.node.curMode = 4 ∨ t.node.curMode = 6 ∨ t.node.curMode = 7) ∧ t.node.o 0x2400 0x0F = cause
    ∧ t.node.o 0x2400 0x0D = (u.o 0x2400 0x0D + 1) % 2 ^ 32
  (x.ownIn = true → Answers (.ownInFall dt) s fun t => Rests s t ∧ t.node.od = s.node.od ∧ t.node.twin.ownIn = false ∧ t.node.twin.ownInAt = u.now
    ∧ t.node.twin.fallTai = u.tai) ∧
  (x.ownIn = false → Answers (.ownInRise dt) s fun t => t.pending = s.pending ∧ t.node.twin.ownIn = true ∧ t.node.twin.ownInAt = u.now) ∧
  (s.node.up = true → u.takeoverDue = true → Answers (.takeover dt) s (owns 0x21)) ∧
  (s.node.up = true → u.curMode = 5 → x.forceOut = true → x.forceAt + 5000 ≤ u.now → x.forceIn = false → Answers (.forceHoldEnd dt) s (owns 0x22)) ∧
  (∀ (seq : BitVec 32) (nh : BitVec 64), s.node.up = true → (u.linkTake 6 seq.toNat true).1 = true → u.curMode = 5 → x.own = false → u.forceSeen = false →
    Answers (.handover dt seq true nh 0x25 false) s (owns 0x25)) ∧
  (∀ (seq : BitVec 32) (nh : BitVec 64) kind, s.node.up = true → (u.linkTake 6 seq.toNat true).1 = true → kind ≠ 0x25 → u.handoverOk = true →
    Answers (.handover dt seq true nh kind false) s fun t => Rests s t ∧ t.node.od = s.node.od
      ∧ t.node.twin.agreed = some { close := nh.toNat, cause := kind.toNat, taker := !x.own, acked := true } ∧ ∃ bs, t.node.out = [.twin 6 bs]) ∧
  (∀ (seq : BitVec 32) (nh : BitVec 64) kind h, s.node.up = true → (u.linkTake 6 seq.toNat true).1 = true → x.agreed = some h → h.close = nh.toNat →
    Answers (.handover dt seq true nh kind true) s fun t => Rests s t ∧ t.node.od = s.node.od ∧ t.node.twin.agreed = some { h with acked := true }) ∧
  (∀ at_, s.node.up = true → u.takebackTrack.twin.fitSince = some at_ → at_ + u.o 0x2400 0x06 * 1000000000 ≤ u.now → u.handoverOk = true →
    Answers (.takebackRequest dt) s fun t => Rests s t ∧ t.node.od = s.node.od
      ∧ t.node.twin.agreed = some { close := u.frame.num + 4, cause := 0x24, taker := !x.own }) ∧
  (s.node.up = true → u.twinOn = true → u.curMode = 5 → x.ownIn = false → x.ownInAt + 10000 ≤ u.now → x.silent = false → bit (u.o 0x2400 0x08) 2 = true →
    x.ownFault = false → Answers (.twinInterlockFault dt) s fun t => Rests s t ∧ t.node.od = s.node.od ∧ t.node.twin.ownFault = true
      ∧ t.node.ver = (u.fault 0x00C 0x58 0 0).ver) ∧
  (s.node.up = true → Answers (.ownDrop dt) s fun t => Rests s t ∧ t.node.twin.pipe = false ∧ t.node.twin.own = false
    ∧ (x.own = true → t.node.stages = false ∧ t.node.syncState = 0)) ∧
  (s.node.up = true → u.twinOn = true → u.curMode = 5 → fitFor u.health = true → x.ownIn = true → x.forceIn = false → x.forceOut = false →
    x.hbAt + 50000 ≤ u.now → x.ringHbAt + 50000 ≤ u.now → Answers (.forceAssert dt) s fun t => Rests s t ∧ t.node.twin.forceOut = true
      ∧ t.node.twin.forceAt = u.now ∧ t.node.o 0x2400 0x11 = min (u.o 0x2400 0x11 + 1) (2 ^ 32 - 1) ∧ t.node.ver = (u.fault 0x00C 0x59 0 0).ver
      ∧ SameObjects s.node t.node [key 0 0x2400 0x11]) ∧
  (s.node.up = true → u.twinOn = true → x.own = true → u.curMode ≠ 3 → u.mode.keeperReset = none → Answers (.forceInRise dt) s fun t =>
    t.pending = s.pending ∧ t.node.twin.forceIn = true ∧ t.node.twin.own = false ∧ t.node.stages = false ∧ t.node.curMode = 5 ∧ t.node.o 0x1010 0x03 = 0x26) ∧
  (s.node.up = true → u.twinOn = true → x.own = false → Answers (.forceInRise dt) s fun t => Rests s t ∧ t.node.twin.forceIn = true
    ∧ t.node.stages = false ∧ t.node.curMode = u.curMode) ∧
  (s.node.up = true → Answers (.forceInFall dt) s fun t => Rests s t ∧ t.node.twin.forceIn = false ∧ (x.own = true → x.claimAt = none → t.node.stages = true))

/-- Standby tests (R344, R345). On a standby each next lake in service is taken out for its test, outputs are looped back
in turn and memory is scrubbed at their intervals; the interlock lines are tested each second by both nodes; a line
test that nothing reported for 3 s is a failure of its line. That the intervals are measured from the start is the
model's reading (assumption log 48). -/
def Obligations.StandbyTestsRun : Prop := ∀ (s : State) (dt : Nat), s.node.up = true →
  let u := s.at_ dt
  let x := u.twin
  (∀ un, u.curMode = 5 → u.o 0x2400 0x13 ≠ 0 → x.lakeTest = none → x.lakeAt + u.o 0x2400 0x13 * 1000000000 ≤ u.now →
    ((List.range 40).map fun i => (x.lakeNext + i) % 40).find? (fun u' => u.unitState u' == 0) = some un → Answers (.lakeSelfTest dt) s fun t => Rests s t
      ∧ t.node.twin.lakeTest = some un ∧ t.node.twin.lakeAt = u.now ∧ t.node.twin.lakeNext = (un + 1) % 40 ∧ t.node.unitState un = 1
      ∧ SameObjects s.node t.node [key 0 (unitIdx un) 0x02]) ∧
  (∀ failed, u.curMode = 5 → x.loopAt + u.o 0x2400 0x14 * 1000000000 ≤ u.now → Answers (.outputLoopback dt failed) s fun t => Rests s t
    ∧ t.node.od = s.node.od ∧ t.node.twin.loopNext = (x.loopNext + 1) % 40 ∧ bit t.node.twin.loopFail x.loopNext = failed
    ∧ t.node.twin.loopAt = u.now ∧ t.node.twin.updated = u.tai) ∧
  (∀ fixed bad, u.curMode = 5 → x.scrubAt + 3600 * u.o 0x2400 0x15 * 1000000000 ≤ u.now → Answers (.memoryScrubPass dt fixed bad) s fun t => Rests s t
    ∧ t.node.od = s.node.od ∧ t.node.twin.scrubs = (x.scrubs + 1) % 2 ^ 32 ∧ t.node.twin.scrubFixed = min (x.scrubFixed + fixed) 0xFFFFFFFF
    ∧ t.node.twin.scrubBad = min (x.scrubBad + bad) 0xFFFFFFFF ∧ t.node.twin.scrubAt = u.now) ∧
  (u.twinOn = true → (x.testAt = 0 ∨ x.testAt + 1000000000 ≤ u.now) → Answers (.interlockLineTest dt) s fun t => Rests s t ∧ t.node.od = s.node.od
    ∧ t.node.twin.testAt = u.now ∧ t.node.out = (if x.own then [.pin 2 true, .pin 3 false] else [.pin 2 true])) ∧
  (∀ at_, x.ownWait = some at_ → at_ + 3000000000 ≤ u.now → Answers (.lineTestUnreported dt) s fun t => Rests s t ∧ t.node.od = s.node.od
    ∧ t.node.twin.ownOk = false) ∧
  (∀ at_, x.forceWait = some at_ → at_ + 3000000000 ≤ u.now → Answers (.lineTestUnreported dt) s fun t => Rests s t ∧ t.node.od = s.node.od
    ∧ t.node.twin.forceOk = false)

/-- Drives of the archive (R349, R350, R351, R353). A link-up finds members, blank and foreign drives by their content,
and nothing at an isolated port; removal makes members MISSING; ADOPT, PREPARE_REMOVAL, KEEP and FORGET move the slot;
a drained slot is READY; failures, three timeouts and read-only drives make a member FAILED; health is read. Which
slot a found drive takes is the model's reading (assumption logs 62 and 135). -/
def Obligations.DrivesAct : Prop := ∀ (s : State) (dt : Nat), s.node.up = true →
  let u := s.at_ dt
  let on := fun (sl : Nat) (r : ArchRec) => decide (r.addr.map (· / 2 ^ 47) = some sl)
  (∀ (px : Fin 4) speed width found, bit (u.o 0x2200 0x15) (10 + px) = true → Answers (.pcieLinkUp dt px speed width found) s fun t =>
    Rests s t ∧ t.node.od = s.node.od ∧ t.node.sep = u.sep) ∧
  (∀ (px : Fin 4) speed width (f : Namespace), bit (u.o 0x2200 0x15) (10 + px) = false →
    let usable := f.lba4k && decide (2 ^ 40 ≤ f.size.toNat)
    let found := fun (sl st : Nat) (t : State) => Rests s t ∧ t.node.driveState sl = st ∧ t.node.oi sl 0x8000 0x23 = f.size.toNat
      ∧ t.node.oi sl 0x8000 0x25 = f.serial.toNat ∧ t.node.drive sl = { port := px, index := f.index }
    (∀ sl : Fin 32, usable = true → f.content = .member sl → (u.driveState sl = 0 ∨ u.driveState sl = 6 ∨ u.driveState sl = 7) →
      Answers (.pcieLinkUp dt px speed width [f]) s (found sl 2)) ∧
    (∀ sl, usable = true → f.content = .blank → u.slotFor px f.serial.toNat = some sl → Answers (.pcieLinkUp dt px speed width [f]) s (found sl 3)) ∧
    (∀ sl, (usable = false ∨ f.content = .foreign) → u.slotFor px f.serial.toNat = some sl →
      Answers (.pcieLinkUp dt px speed width [f]) s (found sl 4))) ∧
  (∀ px, Answers (.presenceChange dt px true) s fun t => Rests s t ∧ t.node.od = s.node.od ∧ t.node.sep = u.sep) ∧
  (∀ px : Fin 4, Answers (.presenceChange dt px false) s fun t => Rests s t ∧ ∀ sl < 32, t.node.driveState sl =
    (if (u.driveState sl = 2 ∨ u.driveState sl = 5) ∧ (u.drive sl).port = px then 6 else u.driveState sl)) ∧
  (∀ m, Takes s dt m 0x8000 0x27 [1] → let sl := u.sel m 0x8000 0x20
    Answers (.adopt dt m) s fun t => Done m t ∧ Rests s t ∧ ∃ d, (u.driveState d = 0 ∨ d = sl) ∧ (∀ k < d, k < 32 → u.driveState k ≠ 0)
      ∧ t.node.driveState d = 2 ∧ Out.nvme d 9 0 (u.oi sl 0x8000 0x23) ∈ t.node.out ∧ Out.nvme d 1 0 4096 ∈ t.node.out) ∧
  (∀ m, Takes s dt m 0x8000 0x27 [2] → let sl := u.sel m 0x8000 0x20
    Answers (.prepareRemoval dt m) s fun t => Done m t ∧ Rests s t ∧ t.node.driveState sl = 5 ∧ Out.nvme sl 0 0 0 ∈ t.node.out) ∧
  (∀ m, Takes s dt m 0x8000 0x27 [3] → let sl := u.sel m 0x8000 0x20
    Answers (.keep dt m) s fun t => Done m t ∧ Rests s t ∧ t.node.driveState sl = 2 ∧ bit (t.node.oi sl 0x8000 0x22) 18 = false) ∧
  (∀ m, Takes s dt m 0x8000 0x27 [4] → let sl := u.sel m 0x8000 0x20
    Answers (.forget dt m) s fun t => Done m t ∧ Rests s t ∧ (∀ sub ∈ ([0x21, 0x22, 0x23, 0x25, 0x26, 0x28] : List Nat), t.node.oi sl 0x8000 sub = 0)
      ∧ t.node.sep.done = u.sep.done.filter (fun r => !on sl r) ∧ (∀ g ∈ t.node.sep.segs, g.slot ≠ sl)
      ∧ SameObjects s.node t.node (([0x21, 0x22, 0x23, 0x25, 0x26, 0x28] : List Nat).map (key sl 0x8000))) ∧
  (∀ sl : Fin 32, u.driveState sl = 5 → u.sep.flight.any (on sl) = false → Answers (.removalReady dt sl) s fun t => Rests s t
    ∧ bit (t.node.oi sl 0x8000 0x22) 18 = true ∧ SameObjects s.node t.node [key sl 0x8000 0x22]) ∧
  (∀ sl : Fin 32, Answers (.nvmeCompletion dt sl false) s fun t => Rests s t ∧ t.node.od = s.node.od ∧ t.node.drive sl = { u.drive sl with timeouts := 0 }) ∧
  (∀ sl : Fin 32, u.driveState sl = 2 → Answers (.nvmeCompletion dt sl true) s fun t => Rests s t ∧ t.node.driveState sl = 7
    ∧ sl.val ∉ t.node.sep.copies) ∧
  (∀ sl : Fin 32, u.driveState sl ≠ 0 → u.driveState sl ≠ 6 → u.driveState sl ≠ 7 → Answers (.nvmeCommandTimeout dt sl) s fun t => Rests s t
    ∧ (t.node.drive sl).timeouts = (u.drive sl).timeouts + 1 ∧ Out.nvme sl 8 0 0 ∈ t.node.out
    ∧ t.node.driveState sl = (if u.driveState sl = 2 ∧ 3 ≤ (u.drive sl).timeouts + 1 then 7 else u.driveState sl)) ∧
  (∀ (sl : Fin 32) pct errs ro, u.driveState sl ≠ 0 → u.driveState sl ≠ 6 → Answers (.smartRead dt sl pct errs ro) s fun t => Rests s t
    ∧ t.node.oi sl 0x8000 0x26 = pct.toNat ∧ t.node.oi sl 0x8000 0x28 = min errs.toNat 0xFFFFFFFF
    ∧ t.node.driveState sl = (if ro = true ∧ u.driveState sl = 2 then 7 else u.driveState sl)) ∧
  (∀ (sl : Fin 32) ro, Answers (.asynchronousEvent dt sl ro) s fun t => Rests s t ∧ Out.nvme sl 12 0 0 ∈ t.node.out
    ∧ t.node.driveState sl = (if ro = true ∧ u.driveState sl = 2 then 7 else u.driveState sl))

/-- Sealing, index, queries and thinning (R359, R362, R363, R366, R368). An open record that is old is sealed with the
next sequence number; a written record is journalled and counted; the checkpoint sets rates and writes superblocks to
every copy; a rebuild adds copies; a query's result is the records of its kind, source and span; thinning replaces the
oldest segment by a thinned one. -/
def Obligations.ArchiveCommandsAct : Prop := ∀ (s : State) (dt : Nat), s.node.up = true →
  let u := s.at_ dt
  let x := u.sep
  (∀ (kind : Byte) (src : BitVec 16), let k := recKey kind.toNat src.toNat
    (mapGet u.sepOpen k {}).count ≠ 0 → (mapGet u.sepOpen k {}).since + ms (u.o 0x8000 0x03) < u.now →
      Answers (.sealAge dt kind src) s fun t => Rests s t ∧ (mapGet t.node.sepOpen k {}).count = 0
        ∧ mapGet t.node.sep.seqs k 0 = (mapGet x.seqs k 0 + 1) % 2 ^ 32) ∧
  (∀ (sl : Fin 32) r, x.flight.find? (fun r => decide (r.addr.map (· / 2 ^ 47) = some sl.val)) = some r → Answers (.recordWriteComplete dt sl) s fun t =>
    Rests s t ∧ t.node.sep.done = x.done ++ [r] ∧ r ∉ t.node.sep.flight ∧ t.node.o 0x8000 0x0D = (u.o 0x8000 0x0D + 1) % 2 ^ 64
      ∧ t.node.sep.journal = x.journal ++ [journalEntry r]) ∧
  (let rates := ((x.rawSec, x.codedSec) :: x.rates).take 60
   Answers (.indexCheckpoint dt) s fun t => Rests s t ∧ t.node.o 0x8000 0x08 = r32 (ratio x.codedSec 1000000)
      ∧ t.node.o 0x8000 0x09 = r32 (ratio x.rawSec 1000000) ∧ t.node.sep.rates = rates
      ∧ (sumNat (rates.map (·.2)) ≠ 0 → t.node.o 0x8000 0x0A = r32 (ratio (sumNat (rates.map (·.1))) (sumNat (rates.map (·.2)))))
      ∧ (bit (u.o 0x1010 0x04) 4 = false → u.liveCopies ≠ [] → t.node.out = u.liveCopies.map (fun c => Out.nvme c 1 0 4096)
          ∧ t.node.sep.super = x.super + 1 ∧ t.node.o 0x8000 0x17 = u.copy isleArchive)) ∧
  (u.liveCopies.length < 2 → x.done ≠ [] →
    let live := u.liveCopies
    Answers (.indexRebuildDone dt) s fun t => Rests s t
      ∧ t.node.sep.copies = live ++ (u.indexable.filter (fun c => !live.contains c)).take (if live = [] then 2 else 1)) ∧
  (∀ m kind flags (src : BitVec 16) (from_ to_ : BitVec 64),
    Takes s dt m 0x8000 0x30 ([kind, flags] ++ toLE 2 src.toNat ++ zeros 4 ++ toLE 8 from_.toNat ++ toLE 8 to_.toNat) →
      Answers (.query dt m kind flags src from_ to_) s fun t => Done m t ∧ Rests s t ∧ t.node.od = s.node.od ∧ masterCode m ∉ t.node.sep.ready
        ∧ mapGet t.node.sep.queries (masterCode m) [] =
          ((u.outRecs (flags == 1) (touching from_.toNat to_.toNat (u.sealedOf kind.toNat src.toNat)) none).map (·.1)).flatten) ∧
  (∀ m, x.queries.any (fun e => e.1 == masterCode m) = true → Answers (.queryReady dt m) s fun t => Rests s t ∧ t.node.od = s.node.od
    ∧ masterCode m ∈ t.node.sep.ready ∧ t.node.sep.queries = x.queries) ∧
  (∀ g d, bit (u.o 0x1010 0x04) 4 = false → u.thinNext = some g → u.nextMember x.last0 = some d → Answers (.thinningSegment dt) s fun t => Rests s t
    ∧ g ∉ t.node.sep.segs ∧ t.node.sep.seq0 = x.seq0 + 1 ∧ (∃ idx used, ({ slot := d, idx := idx, log := 0, seq := x.seq0 + 1, used := used, thinned := true } : Seg) ∈ t.node.sep.segs)
    ∧ (∀ r ∈ x.done, r.addr.map segOf = some (g.slot, g.idx) → r ∉ t.node.sep.done ∧ r.last ≤ t.node.o 0x8000 0x15)
    ∧ SameObjects s.node t.node [key 0 0x8000 0x15])

/-- CAN controllers (R374, R376, R377, R380, R383). Integration, fault confinement, sent frames, sleep, wake, recovery and
reset move a controller as Table 13-3 says. The steps of its error counts are those of ISO 11898-1 (assumption logs 70
and 72). -/
def Obligations.CanControllersAct : Prop := ∀ (s : State) (dt : Nat) (c : Fin 4), s.node.up = true →
  let u := s.at_ dt
  let x := u.canSt c
  let sound := u.co c 0x18 ≤ 127 ∧ u.co c 0x19 ≤ 127
  (u.canState c = 1 → u.canListens c = true → Answers (.canIntegration dt c) s fun t => Rests s t ∧ t.node.canState c = 6) ∧
  (u.canState c = 1 → u.canListens c = false → sound → Answers (.canIntegration dt c) s fun t => Rests s t ∧ t.node.canState c = 2
    ∧ t.node.co c 0x18 = u.co c 0x18 ∧ SameObjects s.node t.node [key c 0x3400 0x16, key c 0x3400 0x17]) ∧
  (u.canState c = 4 → (u.co c 0x0F = 0 ∨ x.recover = true) → Answers (.busOffRecovery dt c) s fun t => Rests s t ∧ t.node.canState c = 1
    ∧ t.node.co c 0x18 = 0 ∧ t.node.co c 0x19 = 0 ∧ (t.node.canSt c).recover = false) ∧
  (∀ tx step, ([2, 3, 6] : List Nat).contains (u.canState c) = true → Answers (.canError dt c 7 tx step) s fun t => Rests s t ∧ t.node.canState c = 1
    ∧ bit (t.node.co c 0x17) 7 = true ∧ t.node.co c 0x1E = min (u.co c 0x1E + 1) (2 ^ 32 - 1)) ∧
  (∀ (kind : Fin 8) (step : Fin 9), kind ≠ 7 → u.canState c = 2 → sound → u.co c 0x18 + step.val ≤ 127 → Answers (.canError dt c kind true step) s fun t =>
    Rests s t ∧ bits (t.node.co c 0x17) 5 3 = kind.val ∧ t.node.co c 0x18 = u.co c 0x18 + step.val ∧ t.node.canState c = 2
      ∧ SameObjects s.node t.node [key c 0x3400 0x17, key c 0x3400 0x18]) ∧
  (∀ (kind : Fin 8) (step : Fin 9), kind ≠ 7 → u.canState c = 2 → sound → 127 < u.co c 0x18 + step.val → Answers (.canError dt c kind true step) s fun t =>
    Rests s t ∧ t.node.canState c = 3 ∧ t.node.ver = (u.fault (0x0A4 + c) 0x68 0 (u.co c 0x18 + step.val + 256 * u.co c 0x19)).ver) ∧
  (∀ (kind : Fin 8) (step : Fin 9), kind ≠ 7 → u.canState c = 3 → u.co c 0x18 ≤ 255 → 255 < u.co c 0x18 + step.val →
    Answers (.canError dt c kind true step) s fun t => t.pending = s.pending ∧ t.node.canState c = 4 ∧ (t.node.canSt c).bufs = []
      ∧ t.node.co c 0x1D = min (u.co c 0x1D + 1) (2 ^ 32 - 1)) ∧
  (∀ (kind : Fin 8) (step : Fin 9), kind ≠ 7 → (u.canState c = 2 ∨ u.canState c = 3) → u.co c 0x18 ≤ 255 → u.co c 0x19 ≤ 255 →
    Answers (.canError dt c kind false step) s fun t => Rests s t ∧ t.node.co c 0x19 = min (u.co c 0x19 + step.val) 255
      ∧ bits (t.node.co c 0x17) 5 3 = kind.val ∧ t.node.co c 0x18 = u.co c 0x18) ∧
  (∀ b, (u.canState c = 2 ∨ u.canState c = 3) → x.bufs = [b] → x.resp = [] → Answers (.canFrameSent dt c true) s fun t => t.pending = s.pending
    ∧ Out.canFrame c b.ident b.data ∈ t.node.out ∧ (t.node.canSt c).bufs = [] ∧ t.node.co c 0x1C = (u.co c 0x1C + 1) % 2 ^ 32) ∧
  (∀ b, (u.canState c = 2 ∨ u.canState c = 3) → x.bufs = [b] → x.resp = [] → u.obi c 0x3400 0x0E = true → b.cancels = [] →
    Answers (.canFrameSent dt c false) s fun t => Rests s t ∧ t.node.od = s.node.od ∧ t.node.canSt c = x) ∧
  (∀ r rest, (u.canState c = 2 ∨ u.canState c = 3) → u.co c 0x18 ≤ 255 → x.bufs = [] → x.resp = r :: rest → Answers (.canFrameSent dt c true) s fun t => Rests s t
    ∧ t.node.out = [.canFrame c (u.co c 0x11) r] ∧ (t.node.canSt c).resp = rest) ∧
  (u.canState c = 5 → u.co c 0x12 = 0 → Answers (.dominantWake dt c) s fun t => Rests s t ∧ t.node.canState c = 1 ∧ bit (t.node.co c 0x17) 6 = true) ∧
  (∀ m, Takes s dt m 0x3400 0x15 [1] → u.sel m 0x3400 0x01 = c → ([2, 3, 6] : List Nat).contains (u.canState c) = true → Answers (.sleep dt m) s fun t =>
    Done m t ∧ t.pending = s.pending ∧ t.node.canState c = 5 ∧ (t.node.canSt c).sess = none ∧ (t.node.canSt c).bufs = [] ∧ (x.bufs = [] → Rests s t)) ∧
  (∀ m, Takes s dt m 0x3400 0x15 [2] → u.sel m 0x3400 0x01 = c → u.canState c = 5 → Answers (.wake dt m) s fun t =>
    Done m t ∧ Rests s t ∧ t.node.canState c = 1 ∧ bit (t.node.co c 0x17) 6 = true) ∧
  (∀ m, Takes s dt m 0x3400 0x1A [1] → u.sel m 0x3400 0x01 = c → Answers (.recover dt m) s fun t =>
    Done m t ∧ Rests s t ∧ t.node.od = s.node.od ∧ t.node.canSt c = { x with recover := true }) ∧
  (x.inReset = true → timingValid (u.canTiming c) = true → u.obi c 0x3400 0x02 = true → bit (u.o 0x2200 0x15) (14 + c) = false →
    Answers (.canControllerReady dt c) s fun t => Rests s t ∧ (t.node.canSt c).inReset = false ∧ (t.node.canSt c).timing = u.canTiming c
      ∧ t.node.canState c = (if bit (u.o 0x1010 0x04) 6 then 7 else 1)) ∧
  (x.inReset = true → timingValid (u.canTiming c) = false → u.obi c 0x3400 0x02 = true → Answers (.canControllerReady dt c) s fun t =>
    Rests s t ∧ (t.node.canSt c).inReset = false ∧ t.node.canState c = 0 ∧ bit (t.node.co c 0x17) 8 = true)

/-- CAN frames received (R373, R378, R382). A frame that nothing takes is counted as received and as unmatched, an FD
frame at a classical-only controller is a protocol exception, and a frame that a value slot matches gives the slot its
value, quality and stamp. The protocol exception follows ISO 11898-1 (assumption log 77). -/
def Obligations.CanFramesArrive : Prop := ∀ (s : State) (dt : Nat) (c : Fin 4) (ident : BitVec 32) (brs esi : Bool) (data : List Byte) (ago : Nat),
  s.node.up = true →
  let u := s.at_ dt
  let w := ident.toNat % 2 ^ 31
  (u.canState c = 2 ∨ u.canState c = 3 ∨ u.canState c = 6) → u.co c 0x18 ≤ 255 → identExact w (u.co c 0x10) = false →
  (∀ fdf, (fdf = true → u.co c 0x03 ≠ 0) → u.slotsFor c w = [] → u.filterIn c 0 63 w = none →
    Answers (.canFrameReceived dt c ident fdf brs esi data ago) s fun t => Rests s t ∧ t.node.co c 0x1B = (u.co c 0x1B + 1) % 2 ^ 32
      ∧ t.node.co c 0x1F = (u.co c 0x1F + 1) % 2 ^ 32) ∧
  (u.co c 0x03 = 0 → Answers (.canFrameReceived dt c ident true brs esi data ago) s fun t => Rests s t ∧ t.node.canState c = 1
    ∧ t.node.co c 0x1E = min (u.co c 0x1E + 1) (2 ^ 32 - 1)) ∧
  (∀ k, bit w 29 = false → u.slotsFor c w = [k] →
    let d := u.oi k 0x3400 0x21
    let start := slotField d 2 2
    let width := slotField d 8 1
    let raw := rawField (bit (slotField d 1 1) 0) data start width
    let scaled := r32 ((raw : Rat) * q32 (slotField d 12 4) + q32 (slotField d 16 4))
    start + width ≤ 8 * data.length → slotField d 9 1 = 0 → (bit (slotField d 1 1) 1 = false ∨ raw ≠ 2 ^ width - 1) → fin32 scaled = true →
    Answers (.canFrameReceived dt c ident false brs esi data ago) s fun t => t.pending = s.pending ∧ t.node.oi k 0x3400 0x22 = scaled
      ∧ t.node.oi k 0x3400 0x23 = 0 ∧ t.node.oi k 0x3400 0x24 = u.stamp isleRing ago)

/-- The dictionary over CAN (R385, R386). INIT_READ, INFO, INIT_WRITE, SEGMENT and ABORT are answered by the frames of
Table 13-7, and a session without requests for 100 ms is aborted. The TOGGLE of an abort that answers no request is
free (assumption logs 3 and 79). -/
def Obligations.CanSessionsAct : Prop := ∀ (s : State) (dt : Nat) (c : Fin 4) (f64 toggle : Bool), s.node.up = true →
  let u := s.at_ dt
  let x := u.canSt c
  let size := if f64 then 64 else 8
  let answers := fun (t : State) (size cmd : Nat) (toggle : Bool) (bs : List Byte) =>
    ∃ more, (t.node.canSt c).resp = x.resp ++ [padTo size (canHead cmd toggle ++ bs ++ more)]
  (u.keeperUp = true → (u.canState c = 2 ∨ u.canState c = 3) → u.co c 0x18 ≤ 255 → u.canListens c = false → bit (u.co c 0x10) 31 = false →
    (f64 = true → u.co c 0x03 ≠ 0) →
    (∀ (idx : BitVec 16) sub, canonIdx idx.toNat ≠ 0xF000 → Answers (.initRead dt c f64 toggle idx sub) s fun t => Rests s t ∧ answers t size 6 toggle []
      ∧ (u.indexExists idx.toNat = false → answers t size 6 toggle (toLE 2 0x0601))) ∧
    (∀ (idx : BitVec 16) sub, Answers (.info dt c f64 toggle idx sub) s fun t => Rests s t ∧ answers t size 6 toggle []
      ∧ (u.indexExists idx.toNat = false → answers t size 6 toggle (toLE 2 0x0601))) ∧
    (∀ (idx : BitVec 16) sub (len : BitVec 16) bytes, (len = 0 ∨ 1408 < len.toNat) → Answers (.initWrite dt c f64 toggle idx sub len bytes) s fun t =>
      Rests s t ∧ answers t size 6 toggle (toLE 2 0x0607) ∧ (t.node.canSt c).sess = none) ∧
    (∀ (idx : BitVec 16) sub (len : BitVec 16) bytes, size - 6 < len.toNat → len.toNat ≤ 1408 → Answers (.initWrite dt c f64 toggle idx sub len bytes) s fun t =>
      Rests s t ∧ answers t size 5 toggle [] ∧ ∃ y, (t.node.canSt c).sess = some y ∧ y.write = true ∧ y.idx = idx.toNat ∧ y.sub = sub.toNat
        ∧ y.len = len.toNat ∧ y.buf = padTo (size - 6) bytes ∧ y.toggle = false ∧ y.last = u.now) ∧
    (∀ (idx : BitVec 16) sub (len : BitVec 16) bytes, 0 < len.toNat → len.toNat ≤ size - 6 → u.indexExists idx.toNat = false →
      Answers (.initWrite dt c f64 toggle idx sub len bytes) s fun t => Rests s t ∧ answers t size 6 toggle (toLE 2 0x0601)
        ∧ (t.node.canSt c).sess = none) ∧
    (∀ bytes, x.sess = none → Answers (.segment dt c f64 toggle bytes) s fun t => Rests s t ∧ answers t size 4 toggle (toLE 2 0x0607)) ∧
    (∀ bytes y, x.sess = some y → x.waits = none → y.size = size → y.toggle = toggle → y.write = false → Answers (.segment dt c f64 toggle bytes) s fun t =>
      Rests s t ∧ answers t size 3 toggle (y.buf.take (size - 1))
        ∧ (t.node.canSt c).sess = (if y.buf.length ≤ size - 1 then none else some { y with buf := y.buf.drop (size - 1), toggle := !toggle, last := u.now })) ∧
    (∀ bytes y, x.sess = some y → x.waits = none → y.size = size → y.toggle = toggle → y.write = true → y.buf.length + (size - 1) < y.len →
      Answers (.segment dt c f64 toggle bytes) s fun t => Rests s t ∧ answers t size 5 toggle []
        ∧ (t.node.canSt c).sess = some { y with buf := y.buf ++ padTo (size - 1) bytes, toggle := !toggle, last := u.now })) ∧
  (∀ code, u.keeperUp = true → (u.canState c = 2 ∨ u.canState c = 3) → u.co c 0x18 ≤ 255 → u.canListens c = false → bit (u.co c 0x10) 31 = false →
    u.co c 0x03 ≠ 0 → Answers (.abort dt c code) s fun t => Rests s t ∧ (t.node.canSt c).sess = none ∧ (t.node.canSt c).resp = x.resp) ∧
  (∀ y, x.sess = some y → y.last + ms 100 ≤ u.now → Answers (.sessionTimeout dt c) s fun t => Rests s t ∧ t.node.od = s.node.od
    ∧ (t.node.canSt c).sess = none ∧ ∃ tog, answers t y.size 4 tog (toLE 2 0x0608))

/-- The alarm panel: requests, frames, checks and rails (R392, R393, R399, R400, R401, R402, R403, R405). An accepted
request joins the queue with its copy; the end of a copy starts the rails; a failed check before the boundary rejects
what is due; a boundary completes, advances or starts rectangles, and one that was rejected completes with no pixel
changed. The rails rise and fall one step at a time, a rail out of its limits leads to FAULT or discharge with its
message, idleness leads to the fall, and the rail command leaves FAULT. The fields of a completion that drove nothing
are the model's reading (assumption log 150). -/
def Obligations.PanelsAct : Prop :=
  (∀ (s : State) (dt : Nat), s.node.up = true →
  let u := s.at_ dt
  let x := u.umb
  let due := dueAt (u.now + 1000000) (u.staying.map (fun g => g.req)) x.pend u.staying.length
  (∀ m (record : BitVec 128), Takes s dt m 0x7400 0x12 (toLE 16 record.toNat) → Answers (.updateRequest dt m record) s fun t => Done m t ∧ Rests s t
    ∧ (∃ r, t.node.umb.pend = x.pend ++ [r] ∧ { r with staged := none, crc := 0 } = reqOf record.toNat ∧ (u.imageApplying = false → r.staged.isSome = true))
    ∧ t.node.uo 0x17 = x.pend.length + 1 ∧ SameObjects s.node t.node [key 0 0x7400 0x16, key 0 0x7400 0x17]) ∧
  (∀ r rest, x.pend = r :: rest → r.copied = none → r.staged.isSome = true → Answers (.copyDone dt) s fun t => Rests s t
    ∧ t.node.umb.pend.head? = some { r with copied := some u.now }
    ∧ (u.railState = 0 → u.ob 0x7400 0x01 = true → u.panelStopped = false → u.umberIsolated = false → t.node.railState = 1 ∧ t.node.umb.rails = 1)) ∧
  (∀ milliohm bad, u.railState = 2 → u.panelStopped = false → due.any (fun d => d.2) = true → (∀ m, milliohm = some m → 200000 < m) →
    Answers (.panelChecks dt milliohm bad) s fun t => Rests s t ∧ bit (t.node.uo 0x15) 0 = true ∧ t.node.uo 0x1B = min (u.uo 0x1B + 1) (2 ^ 32 - 1)
      ∧ t.node.uo 0x1A = (match milliohm with | some m => r32 (ratio m 1000) | none => nanBits)
      ∧ ∀ (i : Nat) (r : UmbReq), due[i]? = some (r, true) → t.node.umb.pend[i]?.map UmbReq.verdict = some 1) ∧
  (∀ m, u.railState = 2 → u.panelStopped = false → due.any (fun d => d.2) = true → m ≤ 200000 → Answers (.panelChecks dt (some m) []) s fun t => Rests s t
    ∧ t.node.uo 0x1A = r32 (ratio m 1000) ∧ t.node.umb = x ∧ SameObjects s.node t.node [key 0 0x7400 0x1A]) ∧
  (∀ g, u.railState = 2 → x.fly = [g] → x.pend = [] → g.count ≤ g.phase → Answers (.panelFrameBoundary dt) s fun t => Rests s t ∧ t.node.umb.fly = []
    ∧ t.node.uo 0x16 = 0 ∧ t.node.uo 0x19 = (u.uo 0x19 + 1) % 2 ^ 32
    ∧ ∀ k l, ((rectPixels g.req).zip (g.req.staged.getD [])).getLast? = some (k, l) → (t.node.pix k).level = l ∧ (t.node.pix k).known = true) ∧
  (∀ g, u.railState = 2 → x.fly = [g] → x.pend = [] → g.phase < g.count → Answers (.panelFrameBoundary dt) s fun t => Rests s t
    ∧ t.node.umb.fly = [{ g with phase := g.phase + 1 }] ∧ t.node.uo 0x16 = 1 ∧ SameObjects s.node t.node [key 0 0x7400 0x16, key 0 0x7400 0x17]) ∧
  (∀ r c, u.railState = 2 → u.panelStopped = false → x.fly = [] → x.pend = [r] → r.verdict = 0 → r.copied = some c → c + 1000000 < u.now →
    u.phaseCount u.panelBand.1 ≠ 0 → Answers (.panelFrameBoundary dt) s fun t => Rests s t ∧ t.node.umb.pend = [] ∧ t.node.uo 0x21 = u.panelBand.1
      ∧ ∃ g, t.node.umb.fly = [g] ∧ g.req = r ∧ g.band = u.panelBand.1 ∧ g.count = u.phaseCount u.panelBand.1 ∧ g.phase = 1) ∧
  (∀ r c, u.railState = 2 → u.panelStopped = false → x.fly = [] → x.pend = [r] → r.verdict ≠ 0 → r.copied = some c → c + 1000000 < u.now →
    Answers (.panelFrameBoundary dt) s fun t => Rests s t ∧ t.node.umb.pend = [] ∧ t.node.umb.fly = [] ∧ t.node.uo 0x19 = (u.uo 0x19 + 1) % 2 ^ 32
      ∧ t.node.umb.pix = x.pix)) ∧
  (∀ (s : State) (dt : Nat), s.node.up = true →
  let u := s.at_ dt
  let x := u.umb
  let on := railsOn x.rails
  let rails := fun (state mask : Nat) (t : State) => Rests s t ∧ t.node.railState = state ∧ t.node.umb.rails = mask
  (∀ a b c d, u.now < x.stepAt + us (u.uo 0x0E) → Answers (.railStep dt a b c d) s (rails u.railState x.rails)) ∧
  (∀ a b c d, x.stepAt + us (u.uo 0x0E) ≤ u.now →
    (u.railState = 1 → on < 5 → u.railGood (on - 1) ([a, b, c, d].getD (on - 1) 0) = true →
      Answers (.railStep dt a b c d) s (rails 1 (2 ^ (on + 1) - 1))) ∧
    (u.railState = 1 → on = 5 → u.panelStopped = false → u.ob 0x7400 0x01 = true → Answers (.railStep dt a b c d) s (rails 2 x.rails)) ∧
    (u.railState = 3 → 2 ≤ on → Answers (.railStep dt a b c d) s (rails 3 (2 ^ (on - 1) - 1))) ∧
    (u.railState = 3 → on ≤ 1 → x.pend = [] → Answers (.railStep dt a b c d) s (rails 0 0))) ∧
  (∀ (r : Fin 4) uv, u.railGood r uv = false → (u.railState = 2 ∨ u.railState = 1 ∧ on = r + 1 ∧ x.stepAt + ms 5 ≤ u.now) →
    Answers (.railFault dt r uv) s fun t => Rests s t ∧ bit (t.node.uo 0x15) 2 = true ∧ t.node.railState = (if x.rails = 0 then 4 else 5)
      ∧ (x.rails ≠ 0 → t.node.umb.fly = [] ∧ t.node.umb.fromFault = true)
      ∧ t.node.ver = (u.fault 0x00B 0x70 r (ofI 32 (roundNear (u.railVolt r uv * 1000)))).ver) ∧
  (∀ (r : Fin 4) uv, u.railGood r uv = true → Answers (.railFault dt r uv) s fun t => Rests s t ∧ t.node.od = s.node.od ∧ t.node.umb = x) ∧
  (u.railState = 2 → x.fly = [] → x.idleAt + ms (u.uo 0x0F) ≤ u.now → Answers (.railIdle dt) s (rails 3 0xF)) ∧
  (u.railState = 5 → x.fromFault = true → Answers (.dischargeEnd dt) s fun t => rails 4 0 t ∧ bit (t.node.uo 0x15) 4 = true) ∧
  (u.railState = 5 → x.fromFault = false → x.pend = [] → Answers (.dischargeEnd dt) s fun t => rails 0 0 t ∧ bit (t.node.uo 0x15) 4 = true) ∧
  (∀ m, Takes s dt m 0x7400 0x1E [1] → x.pend = [] → Answers (.railCommand dt m) s fun t => Done m t ∧ Rests s t ∧ t.node.railState = 0
    ∧ SameObjects s.node t.node [key 0 0x7400 0x13]))

/-- The collector: counting, rules, latches, captures and release (R411, R414, R415, R416, R419, R421, R423, R424). A
message arrives and is logged and counted in its pair's buckets; bucket boundaries and cleared latches end SEVERE;
fault frames are sent; captures are cleared, isolations released and rules written. -/
def Obligations.FaultsAct : Prop :=
  (∀ (s : State) (dt : Nat), s.node.up = true →
  let u := s.at_ dt
  let at_ := fun (n : Node) (p : Nat) => n.ver.pairs.find? (fun e => e.1 == p)
  (∀ (src : BitVec 12) m rest, (mapGet u.ver.queues src.toNat {}).msgs = m :: rest → Answers (.faultMessage dt src none) s fun t => t.pending = s.pending
    ∧ t.node.o 0x2200 0x0E = (u.o 0x2200 0x0E + 1) % 2 ^ 64 ∧ t.node.ver.log.getLast? = some (m.word, u.copy isleKeeper)) ∧
  (∀ (src : BitVec 12) m rest x, (mapGet u.ver.queues src.toNat {}).msgs = m :: rest →
    let p := 256 * msgSource m.word + msgKind m.word
    let rule := u.ruleFor (msgSource m.word) (msgKind m.word)
    let y := (x.shiftTo (u.copy isleKeeper / bucketNs (ruleW rule))).count
    at_ u p = some (p, x) → Answers (.faultMessage dt src none) s fun t => ∃ z, at_ t.node p = some (p, z) ∧ z.buckets = y.buckets ∧ z.occ = y.occ
      ∧ z.last = u.copy isleKeeper ∧ z.severe = (x.severe || decide (ruleN rule ≤ sumBuckets y.buckets))) ∧
  (∀ src : BitVec 12, (mapGet u.ver.queues src.toNat {}).msgs = [] → Answers (.faultMessage dt src none) s fun t => Rests s t ∧ t.node.od = s.node.od
    ∧ t.node.ver = u.ver) ∧
  Answers (.bucketBoundary dt) s (fun t => Rests s t ∧ t.node.ver.pairs = u.ver.pairs.map (fun e => (e.1, u.pairBoundary e.1 e.2))
    ∧ t.node.o 0x2200 0x0B = (t.node.ver.pairs.filter (fun e => e.2.severe)).length ∧ t.node.o 0x2200 0x18 = u.ver.pairs.length
    ∧ SameObjects s.node t.node [key 0 0x2200 0x0B, key 0 0x2200 0x18]) ∧
  (u.ver.pub ≠ [] → (∀ at_, u.ver.lastFrame = some at_ → at_ + ms 1 ≤ u.now) → u.ob 0x2200 0x17 = true → u.curMode ≠ 2 → u.ringUp = true →
    Answers (.faultFrameSend dt) s fun t => Rests s t ∧ t.node.ver.pub = u.ver.pub.drop 59 ∧ t.node.ver.pubLost = 0 ∧ t.node.ver.lastFrame = some u.now
      ∧ t.node.out ≠ []) ∧
  (∀ m val x, Takes s dt m 0x2200 0x0A [val] → at_ u (u.selectedPair m) = some (u.selectedPair m, x) → x.severe = true →
    Answers (.clearLatch dt m val) s fun t => Done m t ∧ Rests s t
      ∧ at_ t.node (u.selectedPair m) = some (u.selectedPair m, u.pairBoundary (u.selectedPair m) { x with unlatch := true })) ∧
  (∀ m (data : BitVec 64), Takes s dt m 0x2200 0x0C (toLE 8 data.toNat) → let d := data.toNat
    Answers (.raise dt m data) s fun t => Done m t ∧ Rests s t ∧ t.node.od = s.node.od
      ∧ t.node.ver = (u.fault (masterSource m) (bits d 7 0) (bits d 15 8) (bits d 63 32)).ver)) ∧
  (∀ (s : State) (dt : Nat) (m : Master), s.node.up = true →
  let u := s.at_ dt
  let at_ := fun (n : Node) (p : Nat) => n.ver.pairs.find? (fun e => e.1 == p)
  (∀ val, Takes s dt m 0x2200 0x12 [val] → Answers (.clearNodeCapture dt m val) s fun t => Done m t ∧ Rests s t ∧ t.node.o 0x2200 0x10 = 0
    ∧ SameObjects s.node t.node [key 0 0x2200 0x10]) ∧
  (∀ val, Takes s dt m 0x2200 0x30 [val] → Answers (.clearVatCapture dt m val) s fun t => Done m t ∧ Rests s t ∧ t.node.o 0x2200 (0x20 + val.toNat) = 0
    ∧ SameObjects s.node t.node [key 0 0x2200 (0x20 + val.toNat)]) ∧
  (∀ src : BitVec 16, Takes s dt m 0x2200 0x13 (toLE 2 src.toNat) → Answers (.isolationRelease dt m src) s fun t => Done m t ∧ Rests s t
    ∧ (∀ un, unitOfSource src.toNat = some un → t.node.unitState un = 4)
    ∧ (0x010 ≤ src.toNat → src.toNat < 0x020 → bit (t.node.o 0x2200 0x16) (src.toNat - 0x010) = false)
    ∧ (∀ b, unitOfSource src.toNat = none → isolationBit src.toNat = some b → bit (t.node.o 0x2200 0x15) b = false)) ∧
  (∀ rule : BitVec 64, Takes s dt m 0x2200 0x02 (toLE 8 rule.toNat) → let k := u.sel m 0x2200 0x01
    Answers (.kindRuleWrite dt m rule) s fun t => Done m t ∧ Rests s t ∧ t.node.oi k 0x2200 0x02 = rule.toNat
      ∧ SameObjects s.node t.node [key k 0x2200 0x02, key 0 0x1020 0x06]
      ∧ ∀ p x, p % 256 = k → (∀ e ∈ overrideEntries (u.o 0x2200 0x04) (u.domI 0 0x2200 0x03), e.1 ≠ p) → at_ u p = some (p, x) →
          at_ t.node p = some (p, { x with buckets := List.replicate 16 0 })) ∧
  (∀ count : BitVec 16, Takes s dt m 0x2200 0x04 (toLE 2 count.toNat) → Answers (.overrideCountWrite dt m count) s fun t => Done m t ∧ Rests s t
    ∧ t.node.o 0x2200 0x04 = count.toNat ∧ t.node.domI 0 0x2200 0x03 = u.domI 0 0x2200 0x03
    ∧ SameObjects s.node t.node [key 0 0x2200 0x04, key 0 0x1020 0x06]))

/-- Quotes and the wired side of the tag (R438, R439, R444). A quote request waits its turn, a signed quote is read padded
to 1,328 bytes, and a wired write stores its page. The signature is the model's opaque function (assumption log 23). -/
def Obligations.MeasurementsAct : Prop := ∀ (s : State) (dt : Nat), s.node.up = true →
  let u := s.at_ dt
  let x := u.cin
  (∀ m data, Takes s dt m 0x2300 0x02 data → Answers (.quoteRequest dt m data) s fun t => Done m t ∧ Rests s t ∧ t.node.od = s.node.od
    ∧ (∃ q, t.node.cin.waiting = x.waiting ++ [q] ∧ q.master = masterCode m ∧ q.nonce = slice data 0 32 ∧ q.mask = fieldLE data 32 4
        ∧ (x.waiting = [] → q.body = u.quoteBody q.nonce q.mask))
    ∧ mapGet t.node.cin.lastReq (masterCode m) 0 = u.now) ∧
  (∀ r rest, x.waiting = r :: rest → Answers (.quoteReady dt) s fun t => Rests s t ∧ t.node.cin.waiting.length = rest.length
    ∧ mapGet t.node.cin.ready r.master [] = padTo 1328 (r.body ++ toBE 96 (Config.quoteSignature u.fresh r.body))
    ∧ t.node.o 0x2300 0x0A = (u.o 0x2300 0x0A + 1) % 2 ^ 32 ∧ SameObjects s.node t.node [key 0 0x2300 0x0A]) ∧
  (∀ m data, Takes s dt m 0x3700 0x02 data → data.length = 256 → let p := u.sel m 0x3700 0x01
    Answers (.tagPageWrite dt m data) s fun t => Done m t ∧ Rests s t ∧ t.node.od = s.node.od ∧ t.node.tagBytes (256 * p) 256 = data
      ∧ t.node.tag.wiredHold = some (p, u.now + 50000))

/-- The commissioning tag in the field (R441, R442, R444). Each command of a reader's field is counted and answered, or
left without an answer, as R441 to R444 say; reads return blocks, writes store them where the map allows. Error code
0x10, the system information and the security status follow ISO/IEC 15693-3 (assumption log 82), and the spans of a
hold are the model's reading (assumption log 81). -/
def Obligations.TagAnswers : Prop := ∀ (s : State) (dt : Nat),
  let u := s.at_ dt
  let x := u.tag
  let counted := fun (out : List Out) (t : State) => Rests s t ∧ t.node.out = out ∧ t.node.o 0x3700 0x05 = (u.o 0x3700 0x05 + 1) % 2 ^ 32
    ∧ SameObjects s.node t.node [key 0 0x3700 0x05]
  let busy := fun (t : State) => Rests s t ∧ t.node.out = [.tag [1, 0xA1]] ∧ t.node.o 0x3700 0x06 = min (u.o 0x3700 0x06 + 1) (2 ^ 32 - 1)
    ∧ t.node.tag = x
  (∀ on, Answers (.fieldPresentChange dt on) s fun t => Rests s t ∧ t.node.od = s.node.od ∧ t.node.tag = { x with fieldOn := on, state := .ready }) ∧
  (x.fieldOn = true →
    (∀ afi maskLen (mask : BitVec 64) slots, x.state ≠ .quiet → (afi = none ∨ afi = some 0) → Config.tagUid % 2 ^ maskLen = mask.toNat % 2 ^ maskLen →
      Answers (.inventory dt afi maskLen mask slots) s (counted [.tag (0 :: 0 :: toLE 8 Config.tagUid)])) ∧
    (∀ afi maskLen mask slots, (x.state = .quiet ∨ ∃ a, afi = some a ∧ a ≠ 0) → Answers (.inventory dt afi maskLen mask slots) s (counted [])) ∧
    (∀ uid : BitVec 64, Answers (.stayQuiet dt uid) s fun t => counted [] t
      ∧ t.node.tag = { x with state := if uid.toNat = Config.tagUid then .quiet else x.state }) ∧
    (∀ uid : BitVec 64, Answers (.select dt uid) s fun t => counted (if uid.toNat = Config.tagUid then [.tag [0]] else []) t
      ∧ t.node.tag = { x with state := if uid.toNat = Config.tagUid then .selected else if x.state = .selected then .ready else x.state }) ∧
    (∀ addr, u.tagFor addr = false → ∀ sec (block count : BitVec 16) data, Answers (.resetToReady dt addr) s (fun t => counted [] t ∧ t.node.tag = x)
      ∧ Answers (.extendedReadMultipleBlocks dt addr sec block count) s (fun t => counted [] t ∧ t.node.tag = x)
      ∧ Answers (.extendedWriteSingleBlock dt addr block data) s (fun t => counted [] t ∧ t.node.tag = x)) ∧
    (∀ addr, u.tagFor addr = true →
      Answers (.resetToReady dt addr) s (fun t => counted [.tag [0]] t ∧ t.node.tag = { x with state := .ready }) ∧
      Answers (.getSystemInformation dt addr) s (fun t => ∃ b, counted [.tag ([0, 7] ++ toLE 8 Config.tagUid ++ [0, 0, b, 3])] t) ∧
      Answers (.extendedGetSystemInformation dt addr) s (counted [.tag ([0, 7] ++ toLE 8 Config.tagUid ++ [0, 0, 0xFF, 7, 3])]) ∧
      Answers (.unsupportedTagCommand dt addr) s (fun t => counted [.tag [1, 0x01]] t ∧ t.node.tag = x) ∧
      (∀ sec (block : BitVec 16), let b := block.toNat
        (2048 ≤ b → Answers (.extendedReadSingleBlock dt addr sec block) s (counted [.tag [1, 0x10]])) ∧
        (b < 2048 → u.wiredHolds (b / 64) = true → Answers (.extendedReadSingleBlock dt addr sec block) s busy) ∧
        (b < 2048 → u.wiredHolds (b / 64) = false → Answers (.extendedReadSingleBlock dt addr sec block) s fun t =>
          counted [.tag (0 :: u.blocksOut sec b 1)] t ∧ t.node.tag = { x with fieldHold := some (b / 64, u.now + 330000) })) ∧
      (∀ sec (block count : BitVec 16), let b := block.toNat
        let c := count.toNat
        c ≠ 0 → c ≤ 64 → b + c ≤ 2048 → b / 64 = (b + c - 1) / 64 → u.wiredHolds (b / 64) = false →
        Answers (.extendedReadMultipleBlocks dt addr sec block count) s fun t => counted [.tag (0 :: u.blocksOut sec b c)] t
          ∧ t.node.tag = { x with fieldHold := some (b / 64, u.now + 330000) }) ∧
      (∀ (block : BitVec 16) (data : BitVec 32), let b := block.toNat
        (b < 2048 → u.wiredHolds (b / 64) = true → Answers (.extendedWriteSingleBlock dt addr block data) s busy) ∧
        (b < 2048 → u.wiredHolds (b / 64) = false → u.fieldWritable b = false → Answers (.extendedWriteSingleBlock dt addr block data) s fun t =>
          counted [.tag [1, 0x12]] t ∧ t.node.tag.mem = x.mem) ∧
        (b < 2048 → b ≠ 576 → u.wiredHolds (b / 64) = false → u.fieldWritable b = true → Answers (.extendedWriteSingleBlock dt addr block data) s fun t =>
          counted [.tag [0]] t ∧ t.node.tagBytes (4 * b) 4 = toLE 4 data.toNat) ∧
        (b = 576 → u.wiredHolds 9 = false → u.fieldWritable 576 = true → Answers (.extendedWriteSingleBlock dt addr block data) s fun t =>
          counted [.tag [0]] t ∧ t.node.tagByte 2304 = BitVec.ofNat 8 data.toNat ∧ t.node.tagByte 2305 = u.tagByte 2305))))
end

