-- ==== Sys2Proof/Laws/Maps.lean ====
section
/-!
SUPPORT. Laws/Maps.lean: the sparse maps, the object store and the vats' DRAM: what a read after a write gives, and that
every write keeps the canonical form.
-/
namespace Sys2Proof.Machine

section maps
variable {α : Type}

theorem mapGet_mapErase_self (m : List (Nat × α)) (k : Nat) (d : α) : mapGet (mapErase m k) k d = d := by
  induction m with
  | nil => rfl
  | cons e r ih =>
    obtain ⟨j, v⟩ := e
    by_cases h : j = k
    · simp [mapErase, h, ih]
    · simp [mapErase, mapGet, h, ih]

theorem mapGet_mapErase_ne (m : List (Nat × α)) {k j : Nat} (h : j ≠ k) (d : α) :
    mapGet (mapErase m k) j d = mapGet m j d := by
  induction m with
  | nil => rfl
  | cons e r ih =>
    obtain ⟨i, v⟩ := e
    by_cases hi : i = k
    · simp [mapErase, mapGet, hi, ih, Ne.symm h]
    · simp [mapErase, mapGet, hi, ih]

theorem mapGet_mapInsert_ne (m : List (Nat × α)) {k j : Nat} (v : α) (h : j ≠ k) (d : α) :
    mapGet (mapInsert m k v) j d = mapGet m j d := by
  induction m with
  | nil => simp [mapInsert, mapGet, Ne.symm h]
  | cons e r ih =>
    obtain ⟨i, w⟩ := e
    by_cases hi : k < i
    · simp [mapInsert, mapGet, hi, Ne.symm h]
    · simp [mapInsert, mapGet, hi, ih]

theorem mapGet_mapInsert_erased (m : List (Nat × α)) (k : Nat) (v d : α) :
    mapGet (mapInsert (mapErase m k) k v) k d = v := by
  induction m with
  | nil => simp [mapErase, mapInsert, mapGet]
  | cons e r ih =>
    obtain ⟨j, w⟩ := e
    by_cases h : j = k
    · simp [mapErase, h, ih]
    · by_cases hk : k < j
      · simp [mapErase, h, mapInsert, hk, mapGet]
      · simp [mapErase, h, mapInsert, hk, mapGet, ih]

/-- A read after a write of the same key. -/
@[simp] theorem mapGet_mapPut_self (m : List (Nat × α)) (k : Nat) (v d : α) : mapGet (mapPut m k v) k d = v :=
  mapGet_mapInsert_erased m k v d

/-- A write leaves every other key alone. -/
theorem mapGet_mapPut_ne (m : List (Nat × α)) {k j : Nat} (v : α) (h : j ≠ k) (d : α) :
    mapGet (mapPut m k v) j d = mapGet m j d := by
  rw [mapPut, mapGet_mapInsert_ne _ _ h, mapGet_mapErase_ne _ h]

/-! Sortedness, through the list of keys. -/

theorem mapSorted_cons {j : Nat} {v : α} {r : List (Nat × α)} :
    mapSorted ((j, v) :: r) = true ↔ (∀ e ∈ r, j < e.1) ∧ mapSorted r = true := by
  induction r generalizing j v with
  | nil => simp [mapSorted]
  | cons f q ih =>
    obtain ⟨k, w⟩ := f
    simp only [mapSorted, Bool.and_eq_true, decide_eq_true_eq, List.mem_cons, forall_eq_or_imp, ih]
    exact ⟨fun h => ⟨⟨h.1, fun e he => Nat.lt_trans h.1 (h.2.1 e he)⟩, h.2⟩, fun h => ⟨h.1.1, h.2⟩⟩

theorem mapSorted_pairwise (m : List (Nat × α)) : mapSorted m = true ↔ (m.map (·.1)).Pairwise (· < ·) := by
  induction m with
  | nil => simp [mapSorted]
  | cons e r ih =>
    obtain ⟨j, v⟩ := e
    rw [mapSorted_cons, ih]
    simp [List.pairwise_cons]

theorem mapErase_eq_filter (m : List (Nat × α)) (k : Nat) : mapErase m k = m.filter (fun e => decide (e.1 ≠ k)) := by
  induction m with
  | nil => rfl
  | cons e r ih =>
    obtain ⟨j, v⟩ := e
    by_cases h : j = k <;> simp [mapErase, h, ih]

theorem mapSorted_mapErase {m : List (Nat × α)} (h : mapSorted m = true) (k : Nat) : mapSorted (mapErase m k) = true := by
  rw [mapSorted_pairwise] at *
  rw [mapErase_eq_filter]
  exact h.sublist (List.filter_sublist.map _)

theorem mem_mapInsert {m : List (Nat × α)} {k : Nat} {v : α} {e : Nat × α} :
    e ∈ mapInsert m k v ↔ e = (k, v) ∨ e ∈ m := by
  induction m with
  | nil => simp [mapInsert]
  | cons f r ih =>
    obtain ⟨j, w⟩ := f
    by_cases h : k < j
    · simp [mapInsert, h]
    · simp [mapInsert, h, ih, or_left_comm]

theorem mapSorted_mapInsert {m : List (Nat × α)} (h : mapSorted m = true) {k : Nat} (v : α) (hk : ∀ e ∈ m, e.1 ≠ k) :
    mapSorted (mapInsert m k v) = true := by
  rw [mapSorted_pairwise] at *
  induction m with
  | nil => simp [mapInsert]
  | cons f r ih =>
    obtain ⟨j, w⟩ := f
    simp only [List.map_cons, List.pairwise_cons, List.mem_map, forall_exists_index, and_imp] at h
    by_cases hj : k < j
    · simp only [mapInsert, hj, if_true, List.map_cons, List.pairwise_cons, List.mem_cons, List.mem_map]
      refine ⟨?_, ?_, h.2⟩
      · rintro a (rfl | ⟨x, hx, rfl⟩)
        · exact hj
        · exact Nat.lt_trans hj (h.1 _ x hx rfl)
      · rintro a ⟨x, hx, rfl⟩; exact h.1 _ x hx rfl
    · have hlt : j < k := Nat.lt_of_le_of_ne (Nat.le_of_not_lt hj) (hk (j, w) (List.mem_cons_self ..))
      simp only [mapInsert, hj, if_false, List.map_cons, List.pairwise_cons, List.mem_map]
      refine ⟨?_, ih h.2 (fun e he => hk e (List.mem_cons_of_mem _ he))⟩
      rintro a ⟨x, hx, rfl⟩
      rcases mem_mapInsert.mp hx with rfl | hx
      · exact hlt
      · exact h.1 _ x hx rfl

/-- A write keeps the keys strictly rising. -/
theorem mapSorted_mapPut {m : List (Nat × α)} (h : mapSorted m = true) (k : Nat) (v : α) : mapSorted (mapPut m k v) = true := by
  refine mapSorted_mapInsert (mapSorted_mapErase h k) v fun e he => ?_
  rw [mapErase_eq_filter, List.mem_filter] at he
  exact of_decide_eq_true he.2

end maps

/-! ## The object store -/

@[simp] theorem odGet_odPut_self (od : List (Nat × Nat)) (k v : Nat) : odGet (odPut od k v) k = v := by
  by_cases h : v = odDefault k
  · simp [odPut, odGet, h, mapGet_mapErase_self]
  · simp [odPut, odGet, h]

theorem odGet_odPut_ne (od : List (Nat × Nat)) {k j : Nat} (v : Nat) (h : j ≠ k) : odGet (odPut od k v) j = odGet od j := by
  by_cases hv : v = odDefault k
  · simp [odPut, odGet, hv, mapGet_mapErase_ne _ h]
  · simp [odPut, odGet, hv, mapGet_mapPut_ne _ _ h]

theorem odWf_odPut {od : List (Nat × Nat)} (h : odWf od = true) (k v : Nat) : odWf (odPut od k v) = true := by
  simp only [odWf, Bool.and_eq_true, List.all_eq_true] at *
  by_cases hv : v = odDefault k
  · simp only [odPut, hv, if_true]
    refine ⟨mapSorted_mapErase h.1 k, fun e he => ?_⟩
    rw [mapErase_eq_filter, List.mem_filter] at he
    exact h.2 e he.1
  · simp only [odPut, hv, if_false]
    refine ⟨mapSorted_mapPut h.1 k v, fun e he => ?_⟩
    rcases mem_mapInsert.mp he with rfl | he
    · simp [hv]
    · rw [mapErase_eq_filter, List.mem_filter] at he
      exact h.2 e he.1

/-- An object just written reads what was written. -/
@[simp] theorem Node.oi_setI_self (n : Node) (i idx sub v : Nat) : (n.setI i idx sub v).oi i idx sub = v :=
  odGet_odPut_self ..

/-- A write leaves every other object alone. -/
theorem Node.oi_setI_ne (n : Node) {i idx sub j jdx jub : Nat} (v : Nat) (h : key j jdx jub ≠ key i idx sub) :
    (n.setI i idx sub v).oi j jdx jub = n.oi j jdx jub := odGet_odPut_ne _ _ h

@[simp] theorem Node.o_set_self (n : Node) (idx sub v : Nat) : (n.set idx sub v).o idx sub = v := odGet_odPut_self ..

/-- Keys of well-sized parts differ where a part differs. -/
theorem key_inj {i idx sub j jdx jub : Nat} (h1 : idx < 65536) (h2 : sub < 256) (h3 : jdx < 65536) (h4 : jub < 256) :
    key i idx sub = key j jdx jub ↔ i = j ∧ idx = jdx ∧ sub = jub := by
  unfold key
  constructor
  · intro h; omega
  · rintro ⟨rfl, rfl, rfl⟩; rfl

/-! ## The vats' DRAM -/

@[simp] theorem memRead_memWrite_self (m : List Host.Cell) (a : Nat) (b : Byte) : memRead (memWrite m a b) a = b := by
  by_cases h : b = memDefault
  · simp [memWrite, memRead, h, mapGet_mapErase_self]
  · simp [memWrite, memRead, h]

theorem memRead_memWrite_ne (m : List Host.Cell) {a c : Nat} (b : Byte) (h : c ≠ a) :
    memRead (memWrite m a b) c = memRead m c := by
  by_cases hb : b = memDefault
  · simp [memWrite, memRead, hb, mapGet_mapErase_ne _ h]
  · simp [memWrite, memRead, hb, mapGet_mapPut_ne _ _ h]

theorem memWf_memWrite {m : List Host.Cell} (h : memWf m = true) (a : Nat) (b : Byte) : memWf (memWrite m a b) = true := by
  simp only [memWf, Bool.and_eq_true, List.all_eq_true] at *
  by_cases hb : b = memDefault
  · simp only [memWrite, hb, if_true]
    refine ⟨mapSorted_mapErase h.1 a, fun e he => ?_⟩
    rw [mapErase_eq_filter, List.mem_filter] at he
    exact h.2 e he.1
  · simp only [memWrite, hb, if_false]
    refine ⟨mapSorted_mapPut h.1 a b, fun e he => ?_⟩
    rcases mem_mapInsert.mp he with rfl | he
    · simp [hb]
    · rw [mapErase_eq_filter, List.mem_filter] at he
      exact h.2 e he.1

/-- Every store of several bytes keeps the canonical form. -/
theorem memWf_memWriteAll {m : List Host.Cell} (h : memWf m = true) (ws : List (Nat × Byte)) :
    memWf (memWriteAll m ws) = true := by
  induction ws generalizing m with
  | nil => exact h
  | cons w ws ih => exact ih (memWf_memWrite h w.1 w.2)

/-- A byte that no store names is unchanged. -/
theorem memRead_memWriteAll_other {m : List Host.Cell} {ws : List (Nat × Byte)} {a : Nat} (h : ∀ w ∈ ws, w.1 ≠ a) :
    memRead (memWriteAll m ws) a = memRead m a := by
  induction ws generalizing m with
  | nil => rfl
  | cons w ws ih =>
    rw [memWriteAll, List.foldl_cons]
    refine (ih fun x hx => h x (List.mem_cons_of_mem _ hx)).trans ?_
    exact memRead_memWrite_ne _ _ (Ne.symm (h w (List.mem_cons_self ..)))

end Sys2Proof.Machine
end

