-- ==== Sys2Proof/Laws/State.lean ====
section
/-!
SUPPORT. Laws/State.lean: for each update of the node, what it leaves of each field: one lemma per field and update, true by
unfolding, so that no proof unfolds a record update.
-/
namespace Sys2Proof.Machine

/-! `begin` -/

@[simp] theorem Node.begin_fresh (n : Node) (dt : Nat) : (n.begin dt).fresh = n.fresh := rfl
@[simp] theorem Node.begin_od (n : Node) (dt : Nat) : (n.begin dt).od = n.od := rfl
@[simp] theorem Node.begin_dom (n : Node) (dt : Nat) : (n.begin dt).dom = n.dom := rfl
@[simp] theorem Node.begin_pwr (n : Node) (dt : Nat) : (n.begin dt).pwr = n.pwr := rfl
@[simp] theorem Node.begin_mode (n : Node) (dt : Nat) : (n.begin dt).mode = n.mode := rfl
@[simp] theorem Node.begin_islands (n : Node) (dt : Nat) : (n.begin dt).islands = n.islands := rfl
@[simp] theorem Node.begin_bc (n : Node) (dt : Nat) : (n.begin dt).bc = n.bc := rfl
@[simp] theorem Node.begin_store (n : Node) (dt : Nat) : (n.begin dt).store = n.store := rfl
@[simp] theorem Node.begin_ports (n : Node) (dt : Nat) : (n.begin dt).ports = n.ports := rfl
@[simp] theorem Node.begin_lp (n : Node) (dt : Nat) : (n.begin dt).lp = n.lp := rfl
@[simp] theorem Node.begin_vats (n : Node) (dt : Nat) : (n.begin dt).vats = n.vats := rfl
@[simp] theorem Node.begin_queues (n : Node) (dt : Nat) : (n.begin dt).queues = n.queues := rfl
@[simp] theorem Node.begin_ver (n : Node) (dt : Nat) : (n.begin dt).ver = n.ver := rfl
@[simp] theorem Node.begin_input (n : Node) (dt : Nat) : (n.begin dt).input = n.input := rfl
@[simp] theorem Node.begin_lakes (n : Node) (dt : Nat) : (n.begin dt).lakes = n.lakes := rfl
@[simp] theorem Node.begin_mains (n : Node) (dt : Nat) : (n.begin dt).mains = n.mains := rfl
@[simp] theorem Node.begin_cin (n : Node) (dt : Nat) : (n.begin dt).cin = n.cin := rfl
@[simp] theorem Node.begin_tag (n : Node) (dt : Nat) : (n.begin dt).tag = n.tag := rfl
@[simp] theorem Node.begin_sepOpen (n : Node) (dt : Nat) : (n.begin dt).sepOpen = n.sepOpen := rfl
@[simp] theorem Node.begin_svcPrev (n : Node) (dt : Nat) : (n.begin dt).svcPrev = n.svcPrev := rfl
@[simp] theorem Node.begin_dyn (n : Node) (dt : Nat) : (n.begin dt).dyn = n.dyn := rfl
@[simp] theorem Node.begin_shafts (n : Node) (dt : Nat) : (n.begin dt).shafts = n.shafts := rfl
@[simp] theorem Node.begin_cranks (n : Node) (dt : Nat) : (n.begin dt).cranks = n.cranks := rfl
@[simp] theorem Node.begin_pulses (n : Node) (dt : Nat) : (n.begin dt).pulses = n.pulses := rfl
@[simp] theorem Node.begin_serial (n : Node) (dt : Nat) : (n.begin dt).serial = n.serial := rfl
@[simp] theorem Node.begin_srcLast (n : Node) (dt : Nat) : (n.begin dt).srcLast = n.srcLast := rfl
@[simp] theorem Node.begin_inputFirst (n : Node) (dt : Nat) : (n.begin dt).inputFirst = n.inputFirst := rfl
@[simp] theorem Node.begin_points (n : Node) (dt : Nat) : (n.begin dt).points = n.points := rfl
@[simp] theorem Node.begin_groups (n : Node) (dt : Nat) : (n.begin dt).groups = n.groups := rfl
@[simp] theorem Node.begin_areas (n : Node) (dt : Nat) : (n.begin dt).areas = n.areas := rfl
@[simp] theorem Node.begin_frame (n : Node) (dt : Nat) : (n.begin dt).frame = n.frame := rfl
@[simp] theorem Node.begin_refresh (n : Node) (dt : Nat) : (n.begin dt).refresh = n.refresh := rfl
@[simp] theorem Node.begin_stages (n : Node) (dt : Nat) : (n.begin dt).stages = n.stages := rfl
@[simp] theorem Node.begin_loops (n : Node) (dt : Nat) : (n.begin dt).loops = n.loops := rfl
@[simp] theorem Node.begin_anns (n : Node) (dt : Nat) : (n.begin dt).anns = n.anns := rfl
@[simp] theorem Node.begin_annGroups (n : Node) (dt : Nat) : (n.begin dt).annGroups = n.annGroups := rfl
@[simp] theorem Node.begin_sep (n : Node) (dt : Nat) : (n.begin dt).sep = n.sep := rfl
@[simp] theorem Node.begin_ring (n : Node) (dt : Nat) : (n.begin dt).ring = n.ring := rfl
@[simp] theorem Node.begin_ptp (n : Node) (dt : Nat) : (n.begin dt).ptp = n.ptp := rfl
@[simp] theorem Node.begin_twin (n : Node) (dt : Nat) : (n.begin dt).twin = n.twin := rfl
@[simp] theorem Node.begin_can (n : Node) (dt : Nat) : (n.begin dt).can = n.can := rfl
@[simp] theorem Node.begin_umb (n : Node) (dt : Nat) : (n.begin dt).umb = n.umb := rfl
@[simp] theorem Node.begin_oi (n : Node) (dt : Nat) (j y c : Nat) : (n.begin dt).oi j y c = n.oi j y c := rfl
@[simp] theorem Node.begin_o (n : Node) (dt : Nat) (y c : Nat) : (n.begin dt).o y c = n.o y c := rfl

/-! `setI` -/

@[simp] theorem Node.setI_now (n : Node) (i x b v : Nat) : (n.setI i x b v).now = n.now := rfl
@[simp] theorem Node.setI_tai (n : Node) (i x b v : Nat) : (n.setI i x b v).tai = n.tai := rfl
@[simp] theorem Node.setI_out (n : Node) (i x b v : Nat) : (n.setI i x b v).out = n.out := rfl
@[simp] theorem Node.setI_fresh (n : Node) (i x b v : Nat) : (n.setI i x b v).fresh = n.fresh := rfl
@[simp] theorem Node.setI_dom (n : Node) (i x b v : Nat) : (n.setI i x b v).dom = n.dom := rfl
@[simp] theorem Node.setI_pwr (n : Node) (i x b v : Nat) : (n.setI i x b v).pwr = n.pwr := rfl
@[simp] theorem Node.setI_mode (n : Node) (i x b v : Nat) : (n.setI i x b v).mode = n.mode := rfl
@[simp] theorem Node.setI_islands (n : Node) (i x b v : Nat) : (n.setI i x b v).islands = n.islands := rfl
@[simp] theorem Node.setI_bc (n : Node) (i x b v : Nat) : (n.setI i x b v).bc = n.bc := rfl
@[simp] theorem Node.setI_rtc (n : Node) (i x b v : Nat) : (n.setI i x b v).rtc = n.rtc := rfl
@[simp] theorem Node.setI_time (n : Node) (i x b v : Nat) : (n.setI i x b v).time = n.time := rfl
@[simp] theorem Node.setI_store (n : Node) (i x b v : Nat) : (n.setI i x b v).store = n.store := rfl
@[simp] theorem Node.setI_ports (n : Node) (i x b v : Nat) : (n.setI i x b v).ports = n.ports := rfl
@[simp] theorem Node.setI_lp (n : Node) (i x b v : Nat) : (n.setI i x b v).lp = n.lp := rfl
@[simp] theorem Node.setI_vats (n : Node) (i x b v : Nat) : (n.setI i x b v).vats = n.vats := rfl
@[simp] theorem Node.setI_queues (n : Node) (i x b v : Nat) : (n.setI i x b v).queues = n.queues := rfl
@[simp] theorem Node.setI_eng (n : Node) (i x b v : Nat) : (n.setI i x b v).eng = n.eng := rfl
@[simp] theorem Node.setI_ver (n : Node) (i x b v : Nat) : (n.setI i x b v).ver = n.ver := rfl
@[simp] theorem Node.setI_input (n : Node) (i x b v : Nat) : (n.setI i x b v).input = n.input := rfl
@[simp] theorem Node.setI_lakes (n : Node) (i x b v : Nat) : (n.setI i x b v).lakes = n.lakes := rfl
@[simp] theorem Node.setI_mains (n : Node) (i x b v : Nat) : (n.setI i x b v).mains = n.mains := rfl
@[simp] theorem Node.setI_cin (n : Node) (i x b v : Nat) : (n.setI i x b v).cin = n.cin := rfl
@[simp] theorem Node.setI_tag (n : Node) (i x b v : Nat) : (n.setI i x b v).tag = n.tag := rfl
@[simp] theorem Node.setI_sepOpen (n : Node) (i x b v : Nat) : (n.setI i x b v).sepOpen = n.sepOpen := rfl
@[simp] theorem Node.setI_svcPrev (n : Node) (i x b v : Nat) : (n.setI i x b v).svcPrev = n.svcPrev := rfl
@[simp] theorem Node.setI_dyn (n : Node) (i x b v : Nat) : (n.setI i x b v).dyn = n.dyn := rfl
@[simp] theorem Node.setI_shafts (n : Node) (i x b v : Nat) : (n.setI i x b v).shafts = n.shafts := rfl
@[simp] theorem Node.setI_cranks (n : Node) (i x b v : Nat) : (n.setI i x b v).cranks = n.cranks := rfl
@[simp] theorem Node.setI_pulses (n : Node) (i x b v : Nat) : (n.setI i x b v).pulses = n.pulses := rfl
@[simp] theorem Node.setI_serial (n : Node) (i x b v : Nat) : (n.setI i x b v).serial = n.serial := rfl
@[simp] theorem Node.setI_srcLast (n : Node) (i x b v : Nat) : (n.setI i x b v).srcLast = n.srcLast := rfl
@[simp] theorem Node.setI_inputFirst (n : Node) (i x b v : Nat) : (n.setI i x b v).inputFirst = n.inputFirst := rfl
@[simp] theorem Node.setI_points (n : Node) (i x b v : Nat) : (n.setI i x b v).points = n.points := rfl
@[simp] theorem Node.setI_groups (n : Node) (i x b v : Nat) : (n.setI i x b v).groups = n.groups := rfl
@[simp] theorem Node.setI_areas (n : Node) (i x b v : Nat) : (n.setI i x b v).areas = n.areas := rfl
@[simp] theorem Node.setI_frame (n : Node) (i x b v : Nat) : (n.setI i x b v).frame = n.frame := rfl
@[simp] theorem Node.setI_refresh (n : Node) (i x b v : Nat) : (n.setI i x b v).refresh = n.refresh := rfl
@[simp] theorem Node.setI_stages (n : Node) (i x b v : Nat) : (n.setI i x b v).stages = n.stages := rfl
@[simp] theorem Node.setI_loops (n : Node) (i x b v : Nat) : (n.setI i x b v).loops = n.loops := rfl
@[simp] theorem Node.setI_anns (n : Node) (i x b v : Nat) : (n.setI i x b v).anns = n.anns := rfl
@[simp] theorem Node.setI_annGroups (n : Node) (i x b v : Nat) : (n.setI i x b v).annGroups = n.annGroups := rfl
@[simp] theorem Node.setI_sep (n : Node) (i x b v : Nat) : (n.setI i x b v).sep = n.sep := rfl
@[simp] theorem Node.setI_ring (n : Node) (i x b v : Nat) : (n.setI i x b v).ring = n.ring := rfl
@[simp] theorem Node.setI_ptp (n : Node) (i x b v : Nat) : (n.setI i x b v).ptp = n.ptp := rfl
@[simp] theorem Node.setI_twin (n : Node) (i x b v : Nat) : (n.setI i x b v).twin = n.twin := rfl
@[simp] theorem Node.setI_can (n : Node) (i x b v : Nat) : (n.setI i x b v).can = n.can := rfl
@[simp] theorem Node.setI_umb (n : Node) (i x b v : Nat) : (n.setI i x b v).umb = n.umb := rfl

/-! `set` -/

@[simp] theorem Node.set_now (n : Node) (x b v : Nat) : (n.set x b v).now = n.now := rfl
@[simp] theorem Node.set_tai (n : Node) (x b v : Nat) : (n.set x b v).tai = n.tai := rfl
@[simp] theorem Node.set_out (n : Node) (x b v : Nat) : (n.set x b v).out = n.out := rfl
@[simp] theorem Node.set_fresh (n : Node) (x b v : Nat) : (n.set x b v).fresh = n.fresh := rfl
@[simp] theorem Node.set_dom (n : Node) (x b v : Nat) : (n.set x b v).dom = n.dom := rfl
@[simp] theorem Node.set_pwr (n : Node) (x b v : Nat) : (n.set x b v).pwr = n.pwr := rfl
@[simp] theorem Node.set_mode (n : Node) (x b v : Nat) : (n.set x b v).mode = n.mode := rfl
@[simp] theorem Node.set_islands (n : Node) (x b v : Nat) : (n.set x b v).islands = n.islands := rfl
@[simp] theorem Node.set_bc (n : Node) (x b v : Nat) : (n.set x b v).bc = n.bc := rfl
@[simp] theorem Node.set_rtc (n : Node) (x b v : Nat) : (n.set x b v).rtc = n.rtc := rfl
@[simp] theorem Node.set_time (n : Node) (x b v : Nat) : (n.set x b v).time = n.time := rfl
@[simp] theorem Node.set_store (n : Node) (x b v : Nat) : (n.set x b v).store = n.store := rfl
@[simp] theorem Node.set_ports (n : Node) (x b v : Nat) : (n.set x b v).ports = n.ports := rfl
@[simp] theorem Node.set_lp (n : Node) (x b v : Nat) : (n.set x b v).lp = n.lp := rfl
@[simp] theorem Node.set_vats (n : Node) (x b v : Nat) : (n.set x b v).vats = n.vats := rfl
@[simp] theorem Node.set_queues (n : Node) (x b v : Nat) : (n.set x b v).queues = n.queues := rfl
@[simp] theorem Node.set_eng (n : Node) (x b v : Nat) : (n.set x b v).eng = n.eng := rfl
@[simp] theorem Node.set_ver (n : Node) (x b v : Nat) : (n.set x b v).ver = n.ver := rfl
@[simp] theorem Node.set_input (n : Node) (x b v : Nat) : (n.set x b v).input = n.input := rfl
@[simp] theorem Node.set_lakes (n : Node) (x b v : Nat) : (n.set x b v).lakes = n.lakes := rfl
@[simp] theorem Node.set_mains (n : Node) (x b v : Nat) : (n.set x b v).mains = n.mains := rfl
@[simp] theorem Node.set_cin (n : Node) (x b v : Nat) : (n.set x b v).cin = n.cin := rfl
@[simp] theorem Node.set_tag (n : Node) (x b v : Nat) : (n.set x b v).tag = n.tag := rfl
@[simp] theorem Node.set_sepOpen (n : Node) (x b v : Nat) : (n.set x b v).sepOpen = n.sepOpen := rfl
@[simp] theorem Node.set_svcPrev (n : Node) (x b v : Nat) : (n.set x b v).svcPrev = n.svcPrev := rfl
@[simp] theorem Node.set_dyn (n : Node) (x b v : Nat) : (n.set x b v).dyn = n.dyn := rfl
@[simp] theorem Node.set_shafts (n : Node) (x b v : Nat) : (n.set x b v).shafts = n.shafts := rfl
@[simp] theorem Node.set_cranks (n : Node) (x b v : Nat) : (n.set x b v).cranks = n.cranks := rfl
@[simp] theorem Node.set_pulses (n : Node) (x b v : Nat) : (n.set x b v).pulses = n.pulses := rfl
@[simp] theorem Node.set_serial (n : Node) (x b v : Nat) : (n.set x b v).serial = n.serial := rfl
@[simp] theorem Node.set_srcLast (n : Node) (x b v : Nat) : (n.set x b v).srcLast = n.srcLast := rfl
@[simp] theorem Node.set_inputFirst (n : Node) (x b v : Nat) : (n.set x b v).inputFirst = n.inputFirst := rfl
@[simp] theorem Node.set_points (n : Node) (x b v : Nat) : (n.set x b v).points = n.points := rfl
@[simp] theorem Node.set_groups (n : Node) (x b v : Nat) : (n.set x b v).groups = n.groups := rfl
@[simp] theorem Node.set_areas (n : Node) (x b v : Nat) : (n.set x b v).areas = n.areas := rfl
@[simp] theorem Node.set_frame (n : Node) (x b v : Nat) : (n.set x b v).frame = n.frame := rfl
@[simp] theorem Node.set_refresh (n : Node) (x b v : Nat) : (n.set x b v).refresh = n.refresh := rfl
@[simp] theorem Node.set_stages (n : Node) (x b v : Nat) : (n.set x b v).stages = n.stages := rfl
@[simp] theorem Node.set_loops (n : Node) (x b v : Nat) : (n.set x b v).loops = n.loops := rfl
@[simp] theorem Node.set_anns (n : Node) (x b v : Nat) : (n.set x b v).anns = n.anns := rfl
@[simp] theorem Node.set_annGroups (n : Node) (x b v : Nat) : (n.set x b v).annGroups = n.annGroups := rfl
@[simp] theorem Node.set_sep (n : Node) (x b v : Nat) : (n.set x b v).sep = n.sep := rfl
@[simp] theorem Node.set_ring (n : Node) (x b v : Nat) : (n.set x b v).ring = n.ring := rfl
@[simp] theorem Node.set_ptp (n : Node) (x b v : Nat) : (n.set x b v).ptp = n.ptp := rfl
@[simp] theorem Node.set_twin (n : Node) (x b v : Nat) : (n.set x b v).twin = n.twin := rfl
@[simp] theorem Node.set_can (n : Node) (x b v : Nat) : (n.set x b v).can = n.can := rfl
@[simp] theorem Node.set_umb (n : Node) (x b v : Nat) : (n.set x b v).umb = n.umb := rfl

/-! `setDomI` -/

@[simp] theorem Node.setDomI_now (n : Node) (i x b : Nat) (bs : List Byte) : (n.setDomI i x b bs).now = n.now := rfl
@[simp] theorem Node.setDomI_tai (n : Node) (i x b : Nat) (bs : List Byte) : (n.setDomI i x b bs).tai = n.tai := rfl
@[simp] theorem Node.setDomI_out (n : Node) (i x b : Nat) (bs : List Byte) : (n.setDomI i x b bs).out = n.out := rfl
@[simp] theorem Node.setDomI_fresh (n : Node) (i x b : Nat) (bs : List Byte) : (n.setDomI i x b bs).fresh = n.fresh := rfl
@[simp] theorem Node.setDomI_od (n : Node) (i x b : Nat) (bs : List Byte) : (n.setDomI i x b bs).od = n.od := rfl
@[simp] theorem Node.setDomI_pwr (n : Node) (i x b : Nat) (bs : List Byte) : (n.setDomI i x b bs).pwr = n.pwr := rfl
@[simp] theorem Node.setDomI_mode (n : Node) (i x b : Nat) (bs : List Byte) : (n.setDomI i x b bs).mode = n.mode := rfl
@[simp] theorem Node.setDomI_islands (n : Node) (i x b : Nat) (bs : List Byte) : (n.setDomI i x b bs).islands = n.islands := rfl
@[simp] theorem Node.setDomI_bc (n : Node) (i x b : Nat) (bs : List Byte) : (n.setDomI i x b bs).bc = n.bc := rfl
@[simp] theorem Node.setDomI_rtc (n : Node) (i x b : Nat) (bs : List Byte) : (n.setDomI i x b bs).rtc = n.rtc := rfl
@[simp] theorem Node.setDomI_time (n : Node) (i x b : Nat) (bs : List Byte) : (n.setDomI i x b bs).time = n.time := rfl
@[simp] theorem Node.setDomI_store (n : Node) (i x b : Nat) (bs : List Byte) : (n.setDomI i x b bs).store = n.store := rfl
@[simp] theorem Node.setDomI_ports (n : Node) (i x b : Nat) (bs : List Byte) : (n.setDomI i x b bs).ports = n.ports := rfl
@[simp] theorem Node.setDomI_lp (n : Node) (i x b : Nat) (bs : List Byte) : (n.setDomI i x b bs).lp = n.lp := rfl
@[simp] theorem Node.setDomI_vats (n : Node) (i x b : Nat) (bs : List Byte) : (n.setDomI i x b bs).vats = n.vats := rfl
@[simp] theorem Node.setDomI_queues (n : Node) (i x b : Nat) (bs : List Byte) : (n.setDomI i x b bs).queues = n.queues := rfl
@[simp] theorem Node.setDomI_eng (n : Node) (i x b : Nat) (bs : List Byte) : (n.setDomI i x b bs).eng = n.eng := rfl
@[simp] theorem Node.setDomI_ver (n : Node) (i x b : Nat) (bs : List Byte) : (n.setDomI i x b bs).ver = n.ver := rfl
@[simp] theorem Node.setDomI_input (n : Node) (i x b : Nat) (bs : List Byte) : (n.setDomI i x b bs).input = n.input := rfl
@[simp] theorem Node.setDomI_lakes (n : Node) (i x b : Nat) (bs : List Byte) : (n.setDomI i x b bs).lakes = n.lakes := rfl
@[simp] theorem Node.setDomI_mains (n : Node) (i x b : Nat) (bs : List Byte) : (n.setDomI i x b bs).mains = n.mains := rfl
@[simp] theorem Node.setDomI_cin (n : Node) (i x b : Nat) (bs : List Byte) : (n.setDomI i x b bs).cin = n.cin := rfl
@[simp] theorem Node.setDomI_tag (n : Node) (i x b : Nat) (bs : List Byte) : (n.setDomI i x b bs).tag = n.tag := rfl
@[simp] theorem Node.setDomI_sepOpen (n : Node) (i x b : Nat) (bs : List Byte) : (n.setDomI i x b bs).sepOpen = n.sepOpen := rfl
@[simp] theorem Node.setDomI_svcPrev (n : Node) (i x b : Nat) (bs : List Byte) : (n.setDomI i x b bs).svcPrev = n.svcPrev := rfl
@[simp] theorem Node.setDomI_dyn (n : Node) (i x b : Nat) (bs : List Byte) : (n.setDomI i x b bs).dyn = n.dyn := rfl
@[simp] theorem Node.setDomI_shafts (n : Node) (i x b : Nat) (bs : List Byte) : (n.setDomI i x b bs).shafts = n.shafts := rfl
@[simp] theorem Node.setDomI_cranks (n : Node) (i x b : Nat) (bs : List Byte) : (n.setDomI i x b bs).cranks = n.cranks := rfl
@[simp] theorem Node.setDomI_pulses (n : Node) (i x b : Nat) (bs : List Byte) : (n.setDomI i x b bs).pulses = n.pulses := rfl
@[simp] theorem Node.setDomI_serial (n : Node) (i x b : Nat) (bs : List Byte) : (n.setDomI i x b bs).serial = n.serial := rfl
@[simp] theorem Node.setDomI_srcLast (n : Node) (i x b : Nat) (bs : List Byte) : (n.setDomI i x b bs).srcLast = n.srcLast := rfl
@[simp] theorem Node.setDomI_inputFirst (n : Node) (i x b : Nat) (bs : List Byte) : (n.setDomI i x b bs).inputFirst = n.inputFirst := rfl
@[simp] theorem Node.setDomI_points (n : Node) (i x b : Nat) (bs : List Byte) : (n.setDomI i x b bs).points = n.points := rfl
@[simp] theorem Node.setDomI_groups (n : Node) (i x b : Nat) (bs : List Byte) : (n.setDomI i x b bs).groups = n.groups := rfl
@[simp] theorem Node.setDomI_areas (n : Node) (i x b : Nat) (bs : List Byte) : (n.setDomI i x b bs).areas = n.areas := rfl
@[simp] theorem Node.setDomI_frame (n : Node) (i x b : Nat) (bs : List Byte) : (n.setDomI i x b bs).frame = n.frame := rfl
@[simp] theorem Node.setDomI_refresh (n : Node) (i x b : Nat) (bs : List Byte) : (n.setDomI i x b bs).refresh = n.refresh := rfl
@[simp] theorem Node.setDomI_stages (n : Node) (i x b : Nat) (bs : List Byte) : (n.setDomI i x b bs).stages = n.stages := rfl
@[simp] theorem Node.setDomI_loops (n : Node) (i x b : Nat) (bs : List Byte) : (n.setDomI i x b bs).loops = n.loops := rfl
@[simp] theorem Node.setDomI_anns (n : Node) (i x b : Nat) (bs : List Byte) : (n.setDomI i x b bs).anns = n.anns := rfl
@[simp] theorem Node.setDomI_annGroups (n : Node) (i x b : Nat) (bs : List Byte) : (n.setDomI i x b bs).annGroups = n.annGroups := rfl
@[simp] theorem Node.setDomI_sep (n : Node) (i x b : Nat) (bs : List Byte) : (n.setDomI i x b bs).sep = n.sep := rfl
@[simp] theorem Node.setDomI_ring (n : Node) (i x b : Nat) (bs : List Byte) : (n.setDomI i x b bs).ring = n.ring := rfl
@[simp] theorem Node.setDomI_ptp (n : Node) (i x b : Nat) (bs : List Byte) : (n.setDomI i x b bs).ptp = n.ptp := rfl
@[simp] theorem Node.setDomI_twin (n : Node) (i x b : Nat) (bs : List Byte) : (n.setDomI i x b bs).twin = n.twin := rfl
@[simp] theorem Node.setDomI_can (n : Node) (i x b : Nat) (bs : List Byte) : (n.setDomI i x b bs).can = n.can := rfl
@[simp] theorem Node.setDomI_umb (n : Node) (i x b : Nat) (bs : List Byte) : (n.setDomI i x b bs).umb = n.umb := rfl
@[simp] theorem Node.setDomI_oi (n : Node) (i x b : Nat) (bs : List Byte) (j y c : Nat) : (n.setDomI i x b bs).oi j y c = n.oi j y c := rfl
@[simp] theorem Node.setDomI_o (n : Node) (i x b : Nat) (bs : List Byte) (y c : Nat) : (n.setDomI i x b bs).o y c = n.o y c := rfl

/-! `emit` -/

@[simp] theorem Node.emit_now (n : Node) (o : Out) : (n.emit o).now = n.now := rfl
@[simp] theorem Node.emit_tai (n : Node) (o : Out) : (n.emit o).tai = n.tai := rfl
@[simp] theorem Node.emit_fresh (n : Node) (o : Out) : (n.emit o).fresh = n.fresh := rfl
@[simp] theorem Node.emit_od (n : Node) (o : Out) : (n.emit o).od = n.od := rfl
@[simp] theorem Node.emit_dom (n : Node) (o : Out) : (n.emit o).dom = n.dom := rfl
@[simp] theorem Node.emit_pwr (n : Node) (o : Out) : (n.emit o).pwr = n.pwr := rfl
@[simp] theorem Node.emit_mode (n : Node) (o : Out) : (n.emit o).mode = n.mode := rfl
@[simp] theorem Node.emit_islands (n : Node) (o : Out) : (n.emit o).islands = n.islands := rfl
@[simp] theorem Node.emit_bc (n : Node) (o : Out) : (n.emit o).bc = n.bc := rfl
@[simp] theorem Node.emit_rtc (n : Node) (o : Out) : (n.emit o).rtc = n.rtc := rfl
@[simp] theorem Node.emit_time (n : Node) (o : Out) : (n.emit o).time = n.time := rfl
@[simp] theorem Node.emit_store (n : Node) (o : Out) : (n.emit o).store = n.store := rfl
@[simp] theorem Node.emit_ports (n : Node) (o : Out) : (n.emit o).ports = n.ports := rfl
@[simp] theorem Node.emit_lp (n : Node) (o : Out) : (n.emit o).lp = n.lp := rfl
@[simp] theorem Node.emit_vats (n : Node) (o : Out) : (n.emit o).vats = n.vats := rfl
@[simp] theorem Node.emit_queues (n : Node) (o : Out) : (n.emit o).queues = n.queues := rfl
@[simp] theorem Node.emit_eng (n : Node) (o : Out) : (n.emit o).eng = n.eng := rfl
@[simp] theorem Node.emit_ver (n : Node) (o : Out) : (n.emit o).ver = n.ver := rfl
@[simp] theorem Node.emit_input (n : Node) (o : Out) : (n.emit o).input = n.input := rfl
@[simp] theorem Node.emit_lakes (n : Node) (o : Out) : (n.emit o).lakes = n.lakes := rfl
@[simp] theorem Node.emit_mains (n : Node) (o : Out) : (n.emit o).mains = n.mains := rfl
@[simp] theorem Node.emit_cin (n : Node) (o : Out) : (n.emit o).cin = n.cin := rfl
@[simp] theorem Node.emit_tag (n : Node) (o : Out) : (n.emit o).tag = n.tag := rfl
@[simp] theorem Node.emit_sepOpen (n : Node) (o : Out) : (n.emit o).sepOpen = n.sepOpen := rfl
@[simp] theorem Node.emit_svcPrev (n : Node) (o : Out) : (n.emit o).svcPrev = n.svcPrev := rfl
@[simp] theorem Node.emit_dyn (n : Node) (o : Out) : (n.emit o).dyn = n.dyn := rfl
@[simp] theorem Node.emit_shafts (n : Node) (o : Out) : (n.emit o).shafts = n.shafts := rfl
@[simp] theorem Node.emit_cranks (n : Node) (o : Out) : (n.emit o).cranks = n.cranks := rfl
@[simp] theorem Node.emit_pulses (n : Node) (o : Out) : (n.emit o).pulses = n.pulses := rfl
@[simp] theorem Node.emit_serial (n : Node) (o : Out) : (n.emit o).serial = n.serial := rfl
@[simp] theorem Node.emit_srcLast (n : Node) (o : Out) : (n.emit o).srcLast = n.srcLast := rfl
@[simp] theorem Node.emit_inputFirst (n : Node) (o : Out) : (n.emit o).inputFirst = n.inputFirst := rfl
@[simp] theorem Node.emit_points (n : Node) (o : Out) : (n.emit o).points = n.points := rfl
@[simp] theorem Node.emit_groups (n : Node) (o : Out) : (n.emit o).groups = n.groups := rfl
@[simp] theorem Node.emit_areas (n : Node) (o : Out) : (n.emit o).areas = n.areas := rfl
@[simp] theorem Node.emit_frame (n : Node) (o : Out) : (n.emit o).frame = n.frame := rfl
@[simp] theorem Node.emit_refresh (n : Node) (o : Out) : (n.emit o).refresh = n.refresh := rfl
@[simp] theorem Node.emit_stages (n : Node) (o : Out) : (n.emit o).stages = n.stages := rfl
@[simp] theorem Node.emit_loops (n : Node) (o : Out) : (n.emit o).loops = n.loops := rfl
@[simp] theorem Node.emit_anns (n : Node) (o : Out) : (n.emit o).anns = n.anns := rfl
@[simp] theorem Node.emit_annGroups (n : Node) (o : Out) : (n.emit o).annGroups = n.annGroups := rfl
@[simp] theorem Node.emit_sep (n : Node) (o : Out) : (n.emit o).sep = n.sep := rfl
@[simp] theorem Node.emit_ring (n : Node) (o : Out) : (n.emit o).ring = n.ring := rfl
@[simp] theorem Node.emit_ptp (n : Node) (o : Out) : (n.emit o).ptp = n.ptp := rfl
@[simp] theorem Node.emit_twin (n : Node) (o : Out) : (n.emit o).twin = n.twin := rfl
@[simp] theorem Node.emit_can (n : Node) (o : Out) : (n.emit o).can = n.can := rfl
@[simp] theorem Node.emit_umb (n : Node) (o : Out) : (n.emit o).umb = n.umb := rfl
@[simp] theorem Node.emit_oi (n : Node) (o : Out) (j y c : Nat) : (n.emit o).oi j y c = n.oi j y c := rfl
@[simp] theorem Node.emit_o (n : Node) (o : Out) (y c : Nat) : (n.emit o).o y c = n.o y c := rfl

/-! `setIsl` -/

@[simp] theorem Node.setIsl_now (n : Node) (i : Nat) (x : IslandSt) : (n.setIsl i x).now = n.now := rfl
@[simp] theorem Node.setIsl_tai (n : Node) (i : Nat) (x : IslandSt) : (n.setIsl i x).tai = n.tai := rfl
@[simp] theorem Node.setIsl_out (n : Node) (i : Nat) (x : IslandSt) : (n.setIsl i x).out = n.out := rfl
@[simp] theorem Node.setIsl_fresh (n : Node) (i : Nat) (x : IslandSt) : (n.setIsl i x).fresh = n.fresh := rfl
@[simp] theorem Node.setIsl_od (n : Node) (i : Nat) (x : IslandSt) : (n.setIsl i x).od = n.od := rfl
@[simp] theorem Node.setIsl_dom (n : Node) (i : Nat) (x : IslandSt) : (n.setIsl i x).dom = n.dom := rfl
@[simp] theorem Node.setIsl_pwr (n : Node) (i : Nat) (x : IslandSt) : (n.setIsl i x).pwr = n.pwr := rfl
@[simp] theorem Node.setIsl_mode (n : Node) (i : Nat) (x : IslandSt) : (n.setIsl i x).mode = n.mode := rfl
@[simp] theorem Node.setIsl_bc (n : Node) (i : Nat) (x : IslandSt) : (n.setIsl i x).bc = n.bc := rfl
@[simp] theorem Node.setIsl_rtc (n : Node) (i : Nat) (x : IslandSt) : (n.setIsl i x).rtc = n.rtc := rfl
@[simp] theorem Node.setIsl_time (n : Node) (i : Nat) (x : IslandSt) : (n.setIsl i x).time = n.time := rfl
@[simp] theorem Node.setIsl_store (n : Node) (i : Nat) (x : IslandSt) : (n.setIsl i x).store = n.store := rfl
@[simp] theorem Node.setIsl_ports (n : Node) (i : Nat) (x : IslandSt) : (n.setIsl i x).ports = n.ports := rfl
@[simp] theorem Node.setIsl_lp (n : Node) (i : Nat) (x : IslandSt) : (n.setIsl i x).lp = n.lp := rfl
@[simp] theorem Node.setIsl_vats (n : Node) (i : Nat) (x : IslandSt) : (n.setIsl i x).vats = n.vats := rfl
@[simp] theorem Node.setIsl_queues (n : Node) (i : Nat) (x : IslandSt) : (n.setIsl i x).queues = n.queues := rfl
@[simp] theorem Node.setIsl_eng (n : Node) (i : Nat) (x : IslandSt) : (n.setIsl i x).eng = n.eng := rfl
@[simp] theorem Node.setIsl_ver (n : Node) (i : Nat) (x : IslandSt) : (n.setIsl i x).ver = n.ver := rfl
@[simp] theorem Node.setIsl_input (n : Node) (i : Nat) (x : IslandSt) : (n.setIsl i x).input = n.input := rfl
@[simp] theorem Node.setIsl_lakes (n : Node) (i : Nat) (x : IslandSt) : (n.setIsl i x).lakes = n.lakes := rfl
@[simp] theorem Node.setIsl_mains (n : Node) (i : Nat) (x : IslandSt) : (n.setIsl i x).mains = n.mains := rfl
@[simp] theorem Node.setIsl_cin (n : Node) (i : Nat) (x : IslandSt) : (n.setIsl i x).cin = n.cin := rfl
@[simp] theorem Node.setIsl_tag (n : Node) (i : Nat) (x : IslandSt) : (n.setIsl i x).tag = n.tag := rfl
@[simp] theorem Node.setIsl_sepOpen (n : Node) (i : Nat) (x : IslandSt) : (n.setIsl i x).sepOpen = n.sepOpen := rfl
@[simp] theorem Node.setIsl_svcPrev (n : Node) (i : Nat) (x : IslandSt) : (n.setIsl i x).svcPrev = n.svcPrev := rfl
@[simp] theorem Node.setIsl_dyn (n : Node) (i : Nat) (x : IslandSt) : (n.setIsl i x).dyn = n.dyn := rfl
@[simp] theorem Node.setIsl_shafts (n : Node) (i : Nat) (x : IslandSt) : (n.setIsl i x).shafts = n.shafts := rfl
@[simp] theorem Node.setIsl_cranks (n : Node) (i : Nat) (x : IslandSt) : (n.setIsl i x).cranks = n.cranks := rfl
@[simp] theorem Node.setIsl_pulses (n : Node) (i : Nat) (x : IslandSt) : (n.setIsl i x).pulses = n.pulses := rfl
@[simp] theorem Node.setIsl_serial (n : Node) (i : Nat) (x : IslandSt) : (n.setIsl i x).serial = n.serial := rfl
@[simp] theorem Node.setIsl_srcLast (n : Node) (i : Nat) (x : IslandSt) : (n.setIsl i x).srcLast = n.srcLast := rfl
@[simp] theorem Node.setIsl_inputFirst (n : Node) (i : Nat) (x : IslandSt) : (n.setIsl i x).inputFirst = n.inputFirst := rfl
@[simp] theorem Node.setIsl_points (n : Node) (i : Nat) (x : IslandSt) : (n.setIsl i x).points = n.points := rfl
@[simp] theorem Node.setIsl_groups (n : Node) (i : Nat) (x : IslandSt) : (n.setIsl i x).groups = n.groups := rfl
@[simp] theorem Node.setIsl_areas (n : Node) (i : Nat) (x : IslandSt) : (n.setIsl i x).areas = n.areas := rfl
@[simp] theorem Node.setIsl_frame (n : Node) (i : Nat) (x : IslandSt) : (n.setIsl i x).frame = n.frame := rfl
@[simp] theorem Node.setIsl_refresh (n : Node) (i : Nat) (x : IslandSt) : (n.setIsl i x).refresh = n.refresh := rfl
@[simp] theorem Node.setIsl_stages (n : Node) (i : Nat) (x : IslandSt) : (n.setIsl i x).stages = n.stages := rfl
@[simp] theorem Node.setIsl_loops (n : Node) (i : Nat) (x : IslandSt) : (n.setIsl i x).loops = n.loops := rfl
@[simp] theorem Node.setIsl_anns (n : Node) (i : Nat) (x : IslandSt) : (n.setIsl i x).anns = n.anns := rfl
@[simp] theorem Node.setIsl_annGroups (n : Node) (i : Nat) (x : IslandSt) : (n.setIsl i x).annGroups = n.annGroups := rfl
@[simp] theorem Node.setIsl_sep (n : Node) (i : Nat) (x : IslandSt) : (n.setIsl i x).sep = n.sep := rfl
@[simp] theorem Node.setIsl_ring (n : Node) (i : Nat) (x : IslandSt) : (n.setIsl i x).ring = n.ring := rfl
@[simp] theorem Node.setIsl_ptp (n : Node) (i : Nat) (x : IslandSt) : (n.setIsl i x).ptp = n.ptp := rfl
@[simp] theorem Node.setIsl_twin (n : Node) (i : Nat) (x : IslandSt) : (n.setIsl i x).twin = n.twin := rfl
@[simp] theorem Node.setIsl_can (n : Node) (i : Nat) (x : IslandSt) : (n.setIsl i x).can = n.can := rfl
@[simp] theorem Node.setIsl_umb (n : Node) (i : Nat) (x : IslandSt) : (n.setIsl i x).umb = n.umb := rfl
@[simp] theorem Node.setIsl_oi (n : Node) (i : Nat) (x : IslandSt) (j y c : Nat) : (n.setIsl i x).oi j y c = n.oi j y c := rfl
@[simp] theorem Node.setIsl_o (n : Node) (i : Nat) (x : IslandSt) (y c : Nat) : (n.setIsl i x).o y c = n.o y c := rfl

/-! `setVat` -/

@[simp] theorem Node.setVat_now (n : Node) (v : Nat) (x : VatSt) : (n.setVat v x).now = n.now := rfl
@[simp] theorem Node.setVat_tai (n : Node) (v : Nat) (x : VatSt) : (n.setVat v x).tai = n.tai := rfl
@[simp] theorem Node.setVat_out (n : Node) (v : Nat) (x : VatSt) : (n.setVat v x).out = n.out := rfl
@[simp] theorem Node.setVat_fresh (n : Node) (v : Nat) (x : VatSt) : (n.setVat v x).fresh = n.fresh := rfl
@[simp] theorem Node.setVat_od (n : Node) (v : Nat) (x : VatSt) : (n.setVat v x).od = n.od := rfl
@[simp] theorem Node.setVat_dom (n : Node) (v : Nat) (x : VatSt) : (n.setVat v x).dom = n.dom := rfl
@[simp] theorem Node.setVat_pwr (n : Node) (v : Nat) (x : VatSt) : (n.setVat v x).pwr = n.pwr := rfl
@[simp] theorem Node.setVat_mode (n : Node) (v : Nat) (x : VatSt) : (n.setVat v x).mode = n.mode := rfl
@[simp] theorem Node.setVat_islands (n : Node) (v : Nat) (x : VatSt) : (n.setVat v x).islands = n.islands := rfl
@[simp] theorem Node.setVat_bc (n : Node) (v : Nat) (x : VatSt) : (n.setVat v x).bc = n.bc := rfl
@[simp] theorem Node.setVat_rtc (n : Node) (v : Nat) (x : VatSt) : (n.setVat v x).rtc = n.rtc := rfl
@[simp] theorem Node.setVat_time (n : Node) (v : Nat) (x : VatSt) : (n.setVat v x).time = n.time := rfl
@[simp] theorem Node.setVat_store (n : Node) (v : Nat) (x : VatSt) : (n.setVat v x).store = n.store := rfl
@[simp] theorem Node.setVat_ports (n : Node) (v : Nat) (x : VatSt) : (n.setVat v x).ports = n.ports := rfl
@[simp] theorem Node.setVat_lp (n : Node) (v : Nat) (x : VatSt) : (n.setVat v x).lp = n.lp := rfl
@[simp] theorem Node.setVat_queues (n : Node) (v : Nat) (x : VatSt) : (n.setVat v x).queues = n.queues := rfl
@[simp] theorem Node.setVat_eng (n : Node) (v : Nat) (x : VatSt) : (n.setVat v x).eng = n.eng := rfl
@[simp] theorem Node.setVat_ver (n : Node) (v : Nat) (x : VatSt) : (n.setVat v x).ver = n.ver := rfl
@[simp] theorem Node.setVat_input (n : Node) (v : Nat) (x : VatSt) : (n.setVat v x).input = n.input := rfl
@[simp] theorem Node.setVat_lakes (n : Node) (v : Nat) (x : VatSt) : (n.setVat v x).lakes = n.lakes := rfl
@[simp] theorem Node.setVat_mains (n : Node) (v : Nat) (x : VatSt) : (n.setVat v x).mains = n.mains := rfl
@[simp] theorem Node.setVat_cin (n : Node) (v : Nat) (x : VatSt) : (n.setVat v x).cin = n.cin := rfl
@[simp] theorem Node.setVat_tag (n : Node) (v : Nat) (x : VatSt) : (n.setVat v x).tag = n.tag := rfl
@[simp] theorem Node.setVat_sepOpen (n : Node) (v : Nat) (x : VatSt) : (n.setVat v x).sepOpen = n.sepOpen := rfl
@[simp] theorem Node.setVat_svcPrev (n : Node) (v : Nat) (x : VatSt) : (n.setVat v x).svcPrev = n.svcPrev := rfl
@[simp] theorem Node.setVat_dyn (n : Node) (v : Nat) (x : VatSt) : (n.setVat v x).dyn = n.dyn := rfl
@[simp] theorem Node.setVat_shafts (n : Node) (v : Nat) (x : VatSt) : (n.setVat v x).shafts = n.shafts := rfl
@[simp] theorem Node.setVat_cranks (n : Node) (v : Nat) (x : VatSt) : (n.setVat v x).cranks = n.cranks := rfl
@[simp] theorem Node.setVat_pulses (n : Node) (v : Nat) (x : VatSt) : (n.setVat v x).pulses = n.pulses := rfl
@[simp] theorem Node.setVat_serial (n : Node) (v : Nat) (x : VatSt) : (n.setVat v x).serial = n.serial := rfl
@[simp] theorem Node.setVat_srcLast (n : Node) (v : Nat) (x : VatSt) : (n.setVat v x).srcLast = n.srcLast := rfl
@[simp] theorem Node.setVat_inputFirst (n : Node) (v : Nat) (x : VatSt) : (n.setVat v x).inputFirst = n.inputFirst := rfl
@[simp] theorem Node.setVat_points (n : Node) (v : Nat) (x : VatSt) : (n.setVat v x).points = n.points := rfl
@[simp] theorem Node.setVat_groups (n : Node) (v : Nat) (x : VatSt) : (n.setVat v x).groups = n.groups := rfl
@[simp] theorem Node.setVat_areas (n : Node) (v : Nat) (x : VatSt) : (n.setVat v x).areas = n.areas := rfl
@[simp] theorem Node.setVat_frame (n : Node) (v : Nat) (x : VatSt) : (n.setVat v x).frame = n.frame := rfl
@[simp] theorem Node.setVat_refresh (n : Node) (v : Nat) (x : VatSt) : (n.setVat v x).refresh = n.refresh := rfl
@[simp] theorem Node.setVat_stages (n : Node) (v : Nat) (x : VatSt) : (n.setVat v x).stages = n.stages := rfl
@[simp] theorem Node.setVat_loops (n : Node) (v : Nat) (x : VatSt) : (n.setVat v x).loops = n.loops := rfl
@[simp] theorem Node.setVat_anns (n : Node) (v : Nat) (x : VatSt) : (n.setVat v x).anns = n.anns := rfl
@[simp] theorem Node.setVat_annGroups (n : Node) (v : Nat) (x : VatSt) : (n.setVat v x).annGroups = n.annGroups := rfl
@[simp] theorem Node.setVat_sep (n : Node) (v : Nat) (x : VatSt) : (n.setVat v x).sep = n.sep := rfl
@[simp] theorem Node.setVat_ring (n : Node) (v : Nat) (x : VatSt) : (n.setVat v x).ring = n.ring := rfl
@[simp] theorem Node.setVat_ptp (n : Node) (v : Nat) (x : VatSt) : (n.setVat v x).ptp = n.ptp := rfl
@[simp] theorem Node.setVat_twin (n : Node) (v : Nat) (x : VatSt) : (n.setVat v x).twin = n.twin := rfl
@[simp] theorem Node.setVat_can (n : Node) (v : Nat) (x : VatSt) : (n.setVat v x).can = n.can := rfl
@[simp] theorem Node.setVat_umb (n : Node) (v : Nat) (x : VatSt) : (n.setVat v x).umb = n.umb := rfl
@[simp] theorem Node.setVat_oi (n : Node) (v : Nat) (x : VatSt) (j y c : Nat) : (n.setVat v x).oi j y c = n.oi j y c := rfl
@[simp] theorem Node.setVat_o (n : Node) (v : Nat) (x : VatSt) (y c : Nat) : (n.setVat v x).o y c = n.o y c := rfl

/-! `setQueue` -/

@[simp] theorem Node.setQueue_now (n : Node) (q : Nat) (x : QueueSt) : (n.setQueue q x).now = n.now := rfl
@[simp] theorem Node.setQueue_tai (n : Node) (q : Nat) (x : QueueSt) : (n.setQueue q x).tai = n.tai := rfl
@[simp] theorem Node.setQueue_out (n : Node) (q : Nat) (x : QueueSt) : (n.setQueue q x).out = n.out := rfl
@[simp] theorem Node.setQueue_fresh (n : Node) (q : Nat) (x : QueueSt) : (n.setQueue q x).fresh = n.fresh := rfl
@[simp] theorem Node.setQueue_od (n : Node) (q : Nat) (x : QueueSt) : (n.setQueue q x).od = n.od := rfl
@[simp] theorem Node.setQueue_dom (n : Node) (q : Nat) (x : QueueSt) : (n.setQueue q x).dom = n.dom := rfl
@[simp] theorem Node.setQueue_pwr (n : Node) (q : Nat) (x : QueueSt) : (n.setQueue q x).pwr = n.pwr := rfl
@[simp] theorem Node.setQueue_mode (n : Node) (q : Nat) (x : QueueSt) : (n.setQueue q x).mode = n.mode := rfl
@[simp] theorem Node.setQueue_islands (n : Node) (q : Nat) (x : QueueSt) : (n.setQueue q x).islands = n.islands := rfl
@[simp] theorem Node.setQueue_bc (n : Node) (q : Nat) (x : QueueSt) : (n.setQueue q x).bc = n.bc := rfl
@[simp] theorem Node.setQueue_rtc (n : Node) (q : Nat) (x : QueueSt) : (n.setQueue q x).rtc = n.rtc := rfl
@[simp] theorem Node.setQueue_time (n : Node) (q : Nat) (x : QueueSt) : (n.setQueue q x).time = n.time := rfl
@[simp] theorem Node.setQueue_store (n : Node) (q : Nat) (x : QueueSt) : (n.setQueue q x).store = n.store := rfl
@[simp] theorem Node.setQueue_ports (n : Node) (q : Nat) (x : QueueSt) : (n.setQueue q x).ports = n.ports := rfl
@[simp] theorem Node.setQueue_lp (n : Node) (q : Nat) (x : QueueSt) : (n.setQueue q x).lp = n.lp := rfl
@[simp] theorem Node.setQueue_vats (n : Node) (q : Nat) (x : QueueSt) : (n.setQueue q x).vats = n.vats := rfl
@[simp] theorem Node.setQueue_eng (n : Node) (q : Nat) (x : QueueSt) : (n.setQueue q x).eng = n.eng := rfl
@[simp] theorem Node.setQueue_ver (n : Node) (q : Nat) (x : QueueSt) : (n.setQueue q x).ver = n.ver := rfl
@[simp] theorem Node.setQueue_input (n : Node) (q : Nat) (x : QueueSt) : (n.setQueue q x).input = n.input := rfl
@[simp] theorem Node.setQueue_lakes (n : Node) (q : Nat) (x : QueueSt) : (n.setQueue q x).lakes = n.lakes := rfl
@[simp] theorem Node.setQueue_mains (n : Node) (q : Nat) (x : QueueSt) : (n.setQueue q x).mains = n.mains := rfl
@[simp] theorem Node.setQueue_cin (n : Node) (q : Nat) (x : QueueSt) : (n.setQueue q x).cin = n.cin := rfl
@[simp] theorem Node.setQueue_tag (n : Node) (q : Nat) (x : QueueSt) : (n.setQueue q x).tag = n.tag := rfl
@[simp] theorem Node.setQueue_sepOpen (n : Node) (q : Nat) (x : QueueSt) : (n.setQueue q x).sepOpen = n.sepOpen := rfl
@[simp] theorem Node.setQueue_svcPrev (n : Node) (q : Nat) (x : QueueSt) : (n.setQueue q x).svcPrev = n.svcPrev := rfl
@[simp] theorem Node.setQueue_dyn (n : Node) (q : Nat) (x : QueueSt) : (n.setQueue q x).dyn = n.dyn := rfl
@[simp] theorem Node.setQueue_shafts (n : Node) (q : Nat) (x : QueueSt) : (n.setQueue q x).shafts = n.shafts := rfl
@[simp] theorem Node.setQueue_cranks (n : Node) (q : Nat) (x : QueueSt) : (n.setQueue q x).cranks = n.cranks := rfl
@[simp] theorem Node.setQueue_pulses (n : Node) (q : Nat) (x : QueueSt) : (n.setQueue q x).pulses = n.pulses := rfl
@[simp] theorem Node.setQueue_serial (n : Node) (q : Nat) (x : QueueSt) : (n.setQueue q x).serial = n.serial := rfl
@[simp] theorem Node.setQueue_srcLast (n : Node) (q : Nat) (x : QueueSt) : (n.setQueue q x).srcLast = n.srcLast := rfl
@[simp] theorem Node.setQueue_inputFirst (n : Node) (q : Nat) (x : QueueSt) : (n.setQueue q x).inputFirst = n.inputFirst := rfl
@[simp] theorem Node.setQueue_points (n : Node) (q : Nat) (x : QueueSt) : (n.setQueue q x).points = n.points := rfl
@[simp] theorem Node.setQueue_groups (n : Node) (q : Nat) (x : QueueSt) : (n.setQueue q x).groups = n.groups := rfl
@[simp] theorem Node.setQueue_areas (n : Node) (q : Nat) (x : QueueSt) : (n.setQueue q x).areas = n.areas := rfl
@[simp] theorem Node.setQueue_frame (n : Node) (q : Nat) (x : QueueSt) : (n.setQueue q x).frame = n.frame := rfl
@[simp] theorem Node.setQueue_refresh (n : Node) (q : Nat) (x : QueueSt) : (n.setQueue q x).refresh = n.refresh := rfl
@[simp] theorem Node.setQueue_stages (n : Node) (q : Nat) (x : QueueSt) : (n.setQueue q x).stages = n.stages := rfl
@[simp] theorem Node.setQueue_loops (n : Node) (q : Nat) (x : QueueSt) : (n.setQueue q x).loops = n.loops := rfl
@[simp] theorem Node.setQueue_anns (n : Node) (q : Nat) (x : QueueSt) : (n.setQueue q x).anns = n.anns := rfl
@[simp] theorem Node.setQueue_annGroups (n : Node) (q : Nat) (x : QueueSt) : (n.setQueue q x).annGroups = n.annGroups := rfl
@[simp] theorem Node.setQueue_sep (n : Node) (q : Nat) (x : QueueSt) : (n.setQueue q x).sep = n.sep := rfl
@[simp] theorem Node.setQueue_ring (n : Node) (q : Nat) (x : QueueSt) : (n.setQueue q x).ring = n.ring := rfl
@[simp] theorem Node.setQueue_ptp (n : Node) (q : Nat) (x : QueueSt) : (n.setQueue q x).ptp = n.ptp := rfl
@[simp] theorem Node.setQueue_twin (n : Node) (q : Nat) (x : QueueSt) : (n.setQueue q x).twin = n.twin := rfl
@[simp] theorem Node.setQueue_can (n : Node) (q : Nat) (x : QueueSt) : (n.setQueue q x).can = n.can := rfl
@[simp] theorem Node.setQueue_umb (n : Node) (q : Nat) (x : QueueSt) : (n.setQueue q x).umb = n.umb := rfl
@[simp] theorem Node.setQueue_oi (n : Node) (q : Nat) (x : QueueSt) (j y c : Nat) : (n.setQueue q x).oi j y c = n.oi j y c := rfl
@[simp] theorem Node.setQueue_o (n : Node) (q : Nat) (x : QueueSt) (y c : Nat) : (n.setQueue q x).o y c = n.o y c := rfl

/-! `raiseMsg` -/

@[simp] theorem Node.raiseMsg_now (n : Node) (m : FaultMsg) : (n.raiseMsg m).now = n.now := rfl
@[simp] theorem Node.raiseMsg_tai (n : Node) (m : FaultMsg) : (n.raiseMsg m).tai = n.tai := rfl
@[simp] theorem Node.raiseMsg_out (n : Node) (m : FaultMsg) : (n.raiseMsg m).out = n.out := rfl
@[simp] theorem Node.raiseMsg_fresh (n : Node) (m : FaultMsg) : (n.raiseMsg m).fresh = n.fresh := rfl
@[simp] theorem Node.raiseMsg_od (n : Node) (m : FaultMsg) : (n.raiseMsg m).od = n.od := rfl
@[simp] theorem Node.raiseMsg_dom (n : Node) (m : FaultMsg) : (n.raiseMsg m).dom = n.dom := rfl
@[simp] theorem Node.raiseMsg_pwr (n : Node) (m : FaultMsg) : (n.raiseMsg m).pwr = n.pwr := rfl
@[simp] theorem Node.raiseMsg_mode (n : Node) (m : FaultMsg) : (n.raiseMsg m).mode = n.mode := rfl
@[simp] theorem Node.raiseMsg_islands (n : Node) (m : FaultMsg) : (n.raiseMsg m).islands = n.islands := rfl
@[simp] theorem Node.raiseMsg_bc (n : Node) (m : FaultMsg) : (n.raiseMsg m).bc = n.bc := rfl
@[simp] theorem Node.raiseMsg_rtc (n : Node) (m : FaultMsg) : (n.raiseMsg m).rtc = n.rtc := rfl
@[simp] theorem Node.raiseMsg_time (n : Node) (m : FaultMsg) : (n.raiseMsg m).time = n.time := rfl
@[simp] theorem Node.raiseMsg_store (n : Node) (m : FaultMsg) : (n.raiseMsg m).store = n.store := rfl
@[simp] theorem Node.raiseMsg_ports (n : Node) (m : FaultMsg) : (n.raiseMsg m).ports = n.ports := rfl
@[simp] theorem Node.raiseMsg_lp (n : Node) (m : FaultMsg) : (n.raiseMsg m).lp = n.lp := rfl
@[simp] theorem Node.raiseMsg_vats (n : Node) (m : FaultMsg) : (n.raiseMsg m).vats = n.vats := rfl
@[simp] theorem Node.raiseMsg_queues (n : Node) (m : FaultMsg) : (n.raiseMsg m).queues = n.queues := rfl
@[simp] theorem Node.raiseMsg_eng (n : Node) (m : FaultMsg) : (n.raiseMsg m).eng = n.eng := rfl
@[simp] theorem Node.raiseMsg_input (n : Node) (m : FaultMsg) : (n.raiseMsg m).input = n.input := rfl
@[simp] theorem Node.raiseMsg_lakes (n : Node) (m : FaultMsg) : (n.raiseMsg m).lakes = n.lakes := rfl
@[simp] theorem Node.raiseMsg_mains (n : Node) (m : FaultMsg) : (n.raiseMsg m).mains = n.mains := rfl
@[simp] theorem Node.raiseMsg_cin (n : Node) (m : FaultMsg) : (n.raiseMsg m).cin = n.cin := rfl
@[simp] theorem Node.raiseMsg_tag (n : Node) (m : FaultMsg) : (n.raiseMsg m).tag = n.tag := rfl
@[simp] theorem Node.raiseMsg_sepOpen (n : Node) (m : FaultMsg) : (n.raiseMsg m).sepOpen = n.sepOpen := rfl
@[simp] theorem Node.raiseMsg_svcPrev (n : Node) (m : FaultMsg) : (n.raiseMsg m).svcPrev = n.svcPrev := rfl
@[simp] theorem Node.raiseMsg_dyn (n : Node) (m : FaultMsg) : (n.raiseMsg m).dyn = n.dyn := rfl
@[simp] theorem Node.raiseMsg_shafts (n : Node) (m : FaultMsg) : (n.raiseMsg m).shafts = n.shafts := rfl
@[simp] theorem Node.raiseMsg_cranks (n : Node) (m : FaultMsg) : (n.raiseMsg m).cranks = n.cranks := rfl
@[simp] theorem Node.raiseMsg_pulses (n : Node) (m : FaultMsg) : (n.raiseMsg m).pulses = n.pulses := rfl
@[simp] theorem Node.raiseMsg_serial (n : Node) (m : FaultMsg) : (n.raiseMsg m).serial = n.serial := rfl
@[simp] theorem Node.raiseMsg_srcLast (n : Node) (m : FaultMsg) : (n.raiseMsg m).srcLast = n.srcLast := rfl
@[simp] theorem Node.raiseMsg_inputFirst (n : Node) (m : FaultMsg) : (n.raiseMsg m).inputFirst = n.inputFirst := rfl
@[simp] theorem Node.raiseMsg_points (n : Node) (m : FaultMsg) : (n.raiseMsg m).points = n.points := rfl
@[simp] theorem Node.raiseMsg_groups (n : Node) (m : FaultMsg) : (n.raiseMsg m).groups = n.groups := rfl
@[simp] theorem Node.raiseMsg_areas (n : Node) (m : FaultMsg) : (n.raiseMsg m).areas = n.areas := rfl
@[simp] theorem Node.raiseMsg_frame (n : Node) (m : FaultMsg) : (n.raiseMsg m).frame = n.frame := rfl
@[simp] theorem Node.raiseMsg_refresh (n : Node) (m : FaultMsg) : (n.raiseMsg m).refresh = n.refresh := rfl
@[simp] theorem Node.raiseMsg_stages (n : Node) (m : FaultMsg) : (n.raiseMsg m).stages = n.stages := rfl
@[simp] theorem Node.raiseMsg_loops (n : Node) (m : FaultMsg) : (n.raiseMsg m).loops = n.loops := rfl
@[simp] theorem Node.raiseMsg_anns (n : Node) (m : FaultMsg) : (n.raiseMsg m).anns = n.anns := rfl
@[simp] theorem Node.raiseMsg_annGroups (n : Node) (m : FaultMsg) : (n.raiseMsg m).annGroups = n.annGroups := rfl
@[simp] theorem Node.raiseMsg_sep (n : Node) (m : FaultMsg) : (n.raiseMsg m).sep = n.sep := rfl
@[simp] theorem Node.raiseMsg_ring (n : Node) (m : FaultMsg) : (n.raiseMsg m).ring = n.ring := rfl
@[simp] theorem Node.raiseMsg_ptp (n : Node) (m : FaultMsg) : (n.raiseMsg m).ptp = n.ptp := rfl
@[simp] theorem Node.raiseMsg_twin (n : Node) (m : FaultMsg) : (n.raiseMsg m).twin = n.twin := rfl
@[simp] theorem Node.raiseMsg_can (n : Node) (m : FaultMsg) : (n.raiseMsg m).can = n.can := rfl
@[simp] theorem Node.raiseMsg_umb (n : Node) (m : FaultMsg) : (n.raiseMsg m).umb = n.umb := rfl
@[simp] theorem Node.raiseMsg_oi (n : Node) (m : FaultMsg) (j y c : Nat) : (n.raiseMsg m).oi j y c = n.oi j y c := rfl
@[simp] theorem Node.raiseMsg_o (n : Node) (m : FaultMsg) (y c : Nat) : (n.raiseMsg m).o y c = n.o y c := rfl

/-! `fault` -/

@[simp] theorem Node.fault_now (n : Node) (src kind detail addr : Nat) : (n.fault src kind detail addr).now = n.now := rfl
@[simp] theorem Node.fault_tai (n : Node) (src kind detail addr : Nat) : (n.fault src kind detail addr).tai = n.tai := rfl
@[simp] theorem Node.fault_out (n : Node) (src kind detail addr : Nat) : (n.fault src kind detail addr).out = n.out := rfl
@[simp] theorem Node.fault_fresh (n : Node) (src kind detail addr : Nat) : (n.fault src kind detail addr).fresh = n.fresh := rfl
@[simp] theorem Node.fault_od (n : Node) (src kind detail addr : Nat) : (n.fault src kind detail addr).od = n.od := rfl
@[simp] theorem Node.fault_dom (n : Node) (src kind detail addr : Nat) : (n.fault src kind detail addr).dom = n.dom := rfl
@[simp] theorem Node.fault_pwr (n : Node) (src kind detail addr : Nat) : (n.fault src kind detail addr).pwr = n.pwr := rfl
@[simp] theorem Node.fault_mode (n : Node) (src kind detail addr : Nat) : (n.fault src kind detail addr).mode = n.mode := rfl
@[simp] theorem Node.fault_islands (n : Node) (src kind detail addr : Nat) : (n.fault src kind detail addr).islands = n.islands := rfl
@[simp] theorem Node.fault_bc (n : Node) (src kind detail addr : Nat) : (n.fault src kind detail addr).bc = n.bc := rfl
@[simp] theorem Node.fault_rtc (n : Node) (src kind detail addr : Nat) : (n.fault src kind detail addr).rtc = n.rtc := rfl
@[simp] theorem Node.fault_time (n : Node) (src kind detail addr : Nat) : (n.fault src kind detail addr).time = n.time := rfl
@[simp] theorem Node.fault_store (n : Node) (src kind detail addr : Nat) : (n.fault src kind detail addr).store = n.store := rfl
@[simp] theorem Node.fault_ports (n : Node) (src kind detail addr : Nat) : (n.fault src kind detail addr).ports = n.ports := rfl
@[simp] theorem Node.fault_lp (n : Node) (src kind detail addr : Nat) : (n.fault src kind detail addr).lp = n.lp := rfl
@[simp] theorem Node.fault_vats (n : Node) (src kind detail addr : Nat) : (n.fault src kind detail addr).vats = n.vats := rfl
@[simp] theorem Node.fault_queues (n : Node) (src kind detail addr : Nat) : (n.fault src kind detail addr).queues = n.queues := rfl
@[simp] theorem Node.fault_eng (n : Node) (src kind detail addr : Nat) : (n.fault src kind detail addr).eng = n.eng := rfl
@[simp] theorem Node.fault_input (n : Node) (src kind detail addr : Nat) : (n.fault src kind detail addr).input = n.input := rfl
@[simp] theorem Node.fault_lakes (n : Node) (src kind detail addr : Nat) : (n.fault src kind detail addr).lakes = n.lakes := rfl
@[simp] theorem Node.fault_mains (n : Node) (src kind detail addr : Nat) : (n.fault src kind detail addr).mains = n.mains := rfl
@[simp] theorem Node.fault_cin (n : Node) (src kind detail addr : Nat) : (n.fault src kind detail addr).cin = n.cin := rfl
@[simp] theorem Node.fault_tag (n : Node) (src kind detail addr : Nat) : (n.fault src kind detail addr).tag = n.tag := rfl
@[simp] theorem Node.fault_sepOpen (n : Node) (src kind detail addr : Nat) : (n.fault src kind detail addr).sepOpen = n.sepOpen := rfl
@[simp] theorem Node.fault_svcPrev (n : Node) (src kind detail addr : Nat) : (n.fault src kind detail addr).svcPrev = n.svcPrev := rfl
@[simp] theorem Node.fault_dyn (n : Node) (src kind detail addr : Nat) : (n.fault src kind detail addr).dyn = n.dyn := rfl
@[simp] theorem Node.fault_shafts (n : Node) (src kind detail addr : Nat) : (n.fault src kind detail addr).shafts = n.shafts := rfl
@[simp] theorem Node.fault_cranks (n : Node) (src kind detail addr : Nat) : (n.fault src kind detail addr).cranks = n.cranks := rfl
@[simp] theorem Node.fault_pulses (n : Node) (src kind detail addr : Nat) : (n.fault src kind detail addr).pulses = n.pulses := rfl
@[simp] theorem Node.fault_serial (n : Node) (src kind detail addr : Nat) : (n.fault src kind detail addr).serial = n.serial := rfl
@[simp] theorem Node.fault_srcLast (n : Node) (src kind detail addr : Nat) : (n.fault src kind detail addr).srcLast = n.srcLast := rfl
@[simp] theorem Node.fault_inputFirst (n : Node) (src kind detail addr : Nat) : (n.fault src kind detail addr).inputFirst = n.inputFirst := rfl
@[simp] theorem Node.fault_points (n : Node) (src kind detail addr : Nat) : (n.fault src kind detail addr).points = n.points := rfl
@[simp] theorem Node.fault_groups (n : Node) (src kind detail addr : Nat) : (n.fault src kind detail addr).groups = n.groups := rfl
@[simp] theorem Node.fault_areas (n : Node) (src kind detail addr : Nat) : (n.fault src kind detail addr).areas = n.areas := rfl
@[simp] theorem Node.fault_frame (n : Node) (src kind detail addr : Nat) : (n.fault src kind detail addr).frame = n.frame := rfl
@[simp] theorem Node.fault_refresh (n : Node) (src kind detail addr : Nat) : (n.fault src kind detail addr).refresh = n.refresh := rfl
@[simp] theorem Node.fault_stages (n : Node) (src kind detail addr : Nat) : (n.fault src kind detail addr).stages = n.stages := rfl
@[simp] theorem Node.fault_loops (n : Node) (src kind detail addr : Nat) : (n.fault src kind detail addr).loops = n.loops := rfl
@[simp] theorem Node.fault_anns (n : Node) (src kind detail addr : Nat) : (n.fault src kind detail addr).anns = n.anns := rfl
@[simp] theorem Node.fault_annGroups (n : Node) (src kind detail addr : Nat) : (n.fault src kind detail addr).annGroups = n.annGroups := rfl
@[simp] theorem Node.fault_sep (n : Node) (src kind detail addr : Nat) : (n.fault src kind detail addr).sep = n.sep := rfl
@[simp] theorem Node.fault_ring (n : Node) (src kind detail addr : Nat) : (n.fault src kind detail addr).ring = n.ring := rfl
@[simp] theorem Node.fault_ptp (n : Node) (src kind detail addr : Nat) : (n.fault src kind detail addr).ptp = n.ptp := rfl
@[simp] theorem Node.fault_twin (n : Node) (src kind detail addr : Nat) : (n.fault src kind detail addr).twin = n.twin := rfl
@[simp] theorem Node.fault_can (n : Node) (src kind detail addr : Nat) : (n.fault src kind detail addr).can = n.can := rfl
@[simp] theorem Node.fault_umb (n : Node) (src kind detail addr : Nat) : (n.fault src kind detail addr).umb = n.umb := rfl
@[simp] theorem Node.fault_oi (n : Node) (src kind detail addr : Nat) (j y c : Nat) : (n.fault src kind detail addr).oi j y c = n.oi j y c := rfl
@[simp] theorem Node.fault_o (n : Node) (src kind detail addr : Nat) (y c : Nat) : (n.fault src kind detail addr).o y c = n.o y c := rfl

/-! `setPort` -/

@[simp] theorem Node.setPort_now (n : Node) (p : Nat) (x : PortSt) : (n.setPort p x).now = n.now := rfl
@[simp] theorem Node.setPort_tai (n : Node) (p : Nat) (x : PortSt) : (n.setPort p x).tai = n.tai := rfl
@[simp] theorem Node.setPort_out (n : Node) (p : Nat) (x : PortSt) : (n.setPort p x).out = n.out := rfl
@[simp] theorem Node.setPort_fresh (n : Node) (p : Nat) (x : PortSt) : (n.setPort p x).fresh = n.fresh := rfl
@[simp] theorem Node.setPort_od (n : Node) (p : Nat) (x : PortSt) : (n.setPort p x).od = n.od := rfl
@[simp] theorem Node.setPort_dom (n : Node) (p : Nat) (x : PortSt) : (n.setPort p x).dom = n.dom := rfl
@[simp] theorem Node.setPort_pwr (n : Node) (p : Nat) (x : PortSt) : (n.setPort p x).pwr = n.pwr := rfl
@[simp] theorem Node.setPort_mode (n : Node) (p : Nat) (x : PortSt) : (n.setPort p x).mode = n.mode := rfl
@[simp] theorem Node.setPort_islands (n : Node) (p : Nat) (x : PortSt) : (n.setPort p x).islands = n.islands := rfl
@[simp] theorem Node.setPort_bc (n : Node) (p : Nat) (x : PortSt) : (n.setPort p x).bc = n.bc := rfl
@[simp] theorem Node.setPort_rtc (n : Node) (p : Nat) (x : PortSt) : (n.setPort p x).rtc = n.rtc := rfl
@[simp] theorem Node.setPort_time (n : Node) (p : Nat) (x : PortSt) : (n.setPort p x).time = n.time := rfl
@[simp] theorem Node.setPort_store (n : Node) (p : Nat) (x : PortSt) : (n.setPort p x).store = n.store := rfl
@[simp] theorem Node.setPort_lp (n : Node) (p : Nat) (x : PortSt) : (n.setPort p x).lp = n.lp := rfl
@[simp] theorem Node.setPort_vats (n : Node) (p : Nat) (x : PortSt) : (n.setPort p x).vats = n.vats := rfl
@[simp] theorem Node.setPort_queues (n : Node) (p : Nat) (x : PortSt) : (n.setPort p x).queues = n.queues := rfl
@[simp] theorem Node.setPort_eng (n : Node) (p : Nat) (x : PortSt) : (n.setPort p x).eng = n.eng := rfl
@[simp] theorem Node.setPort_ver (n : Node) (p : Nat) (x : PortSt) : (n.setPort p x).ver = n.ver := rfl
@[simp] theorem Node.setPort_input (n : Node) (p : Nat) (x : PortSt) : (n.setPort p x).input = n.input := rfl
@[simp] theorem Node.setPort_lakes (n : Node) (p : Nat) (x : PortSt) : (n.setPort p x).lakes = n.lakes := rfl
@[simp] theorem Node.setPort_mains (n : Node) (p : Nat) (x : PortSt) : (n.setPort p x).mains = n.mains := rfl
@[simp] theorem Node.setPort_cin (n : Node) (p : Nat) (x : PortSt) : (n.setPort p x).cin = n.cin := rfl
@[simp] theorem Node.setPort_tag (n : Node) (p : Nat) (x : PortSt) : (n.setPort p x).tag = n.tag := rfl
@[simp] theorem Node.setPort_sepOpen (n : Node) (p : Nat) (x : PortSt) : (n.setPort p x).sepOpen = n.sepOpen := rfl
@[simp] theorem Node.setPort_svcPrev (n : Node) (p : Nat) (x : PortSt) : (n.setPort p x).svcPrev = n.svcPrev := rfl
@[simp] theorem Node.setPort_dyn (n : Node) (p : Nat) (x : PortSt) : (n.setPort p x).dyn = n.dyn := rfl
@[simp] theorem Node.setPort_shafts (n : Node) (p : Nat) (x : PortSt) : (n.setPort p x).shafts = n.shafts := rfl
@[simp] theorem Node.setPort_cranks (n : Node) (p : Nat) (x : PortSt) : (n.setPort p x).cranks = n.cranks := rfl
@[simp] theorem Node.setPort_pulses (n : Node) (p : Nat) (x : PortSt) : (n.setPort p x).pulses = n.pulses := rfl
@[simp] theorem Node.setPort_serial (n : Node) (p : Nat) (x : PortSt) : (n.setPort p x).serial = n.serial := rfl
@[simp] theorem Node.setPort_srcLast (n : Node) (p : Nat) (x : PortSt) : (n.setPort p x).srcLast = n.srcLast := rfl
@[simp] theorem Node.setPort_inputFirst (n : Node) (p : Nat) (x : PortSt) : (n.setPort p x).inputFirst = n.inputFirst := rfl
@[simp] theorem Node.setPort_points (n : Node) (p : Nat) (x : PortSt) : (n.setPort p x).points = n.points := rfl
@[simp] theorem Node.setPort_groups (n : Node) (p : Nat) (x : PortSt) : (n.setPort p x).groups = n.groups := rfl
@[simp] theorem Node.setPort_areas (n : Node) (p : Nat) (x : PortSt) : (n.setPort p x).areas = n.areas := rfl
@[simp] theorem Node.setPort_frame (n : Node) (p : Nat) (x : PortSt) : (n.setPort p x).frame = n.frame := rfl
@[simp] theorem Node.setPort_refresh (n : Node) (p : Nat) (x : PortSt) : (n.setPort p x).refresh = n.refresh := rfl
@[simp] theorem Node.setPort_stages (n : Node) (p : Nat) (x : PortSt) : (n.setPort p x).stages = n.stages := rfl
@[simp] theorem Node.setPort_loops (n : Node) (p : Nat) (x : PortSt) : (n.setPort p x).loops = n.loops := rfl
@[simp] theorem Node.setPort_anns (n : Node) (p : Nat) (x : PortSt) : (n.setPort p x).anns = n.anns := rfl
@[simp] theorem Node.setPort_annGroups (n : Node) (p : Nat) (x : PortSt) : (n.setPort p x).annGroups = n.annGroups := rfl
@[simp] theorem Node.setPort_sep (n : Node) (p : Nat) (x : PortSt) : (n.setPort p x).sep = n.sep := rfl
@[simp] theorem Node.setPort_ring (n : Node) (p : Nat) (x : PortSt) : (n.setPort p x).ring = n.ring := rfl
@[simp] theorem Node.setPort_ptp (n : Node) (p : Nat) (x : PortSt) : (n.setPort p x).ptp = n.ptp := rfl
@[simp] theorem Node.setPort_twin (n : Node) (p : Nat) (x : PortSt) : (n.setPort p x).twin = n.twin := rfl
@[simp] theorem Node.setPort_can (n : Node) (p : Nat) (x : PortSt) : (n.setPort p x).can = n.can := rfl
@[simp] theorem Node.setPort_umb (n : Node) (p : Nat) (x : PortSt) : (n.setPort p x).umb = n.umb := rfl
@[simp] theorem Node.setPort_oi (n : Node) (p : Nat) (x : PortSt) (j y c : Nat) : (n.setPort p x).oi j y c = n.oi j y c := rfl
@[simp] theorem Node.setPort_o (n : Node) (p : Nat) (x : PortSt) (y c : Nat) : (n.setPort p x).o y c = n.o y c := rfl

/-! `complete` -/

@[simp] theorem Node.complete_now (n : Node) (d : DescDone) : (n.complete d).now = n.now := rfl
@[simp] theorem Node.complete_tai (n : Node) (d : DescDone) : (n.complete d).tai = n.tai := rfl
@[simp] theorem Node.complete_out (n : Node) (d : DescDone) : (n.complete d).out = n.out := rfl
@[simp] theorem Node.complete_fresh (n : Node) (d : DescDone) : (n.complete d).fresh = n.fresh := rfl
@[simp] theorem Node.complete_od (n : Node) (d : DescDone) : (n.complete d).od = n.od := rfl
@[simp] theorem Node.complete_dom (n : Node) (d : DescDone) : (n.complete d).dom = n.dom := rfl
@[simp] theorem Node.complete_pwr (n : Node) (d : DescDone) : (n.complete d).pwr = n.pwr := rfl
@[simp] theorem Node.complete_mode (n : Node) (d : DescDone) : (n.complete d).mode = n.mode := rfl
@[simp] theorem Node.complete_islands (n : Node) (d : DescDone) : (n.complete d).islands = n.islands := rfl
@[simp] theorem Node.complete_bc (n : Node) (d : DescDone) : (n.complete d).bc = n.bc := rfl
@[simp] theorem Node.complete_rtc (n : Node) (d : DescDone) : (n.complete d).rtc = n.rtc := rfl
@[simp] theorem Node.complete_time (n : Node) (d : DescDone) : (n.complete d).time = n.time := rfl
@[simp] theorem Node.complete_store (n : Node) (d : DescDone) : (n.complete d).store = n.store := rfl
@[simp] theorem Node.complete_ports (n : Node) (d : DescDone) : (n.complete d).ports = n.ports := rfl
@[simp] theorem Node.complete_lp (n : Node) (d : DescDone) : (n.complete d).lp = n.lp := rfl
@[simp] theorem Node.complete_vats (n : Node) (d : DescDone) : (n.complete d).vats = n.vats := rfl
@[simp] theorem Node.complete_queues (n : Node) (d : DescDone) : (n.complete d).queues = n.queues := rfl
@[simp] theorem Node.complete_ver (n : Node) (d : DescDone) : (n.complete d).ver = n.ver := rfl
@[simp] theorem Node.complete_input (n : Node) (d : DescDone) : (n.complete d).input = n.input := rfl
@[simp] theorem Node.complete_lakes (n : Node) (d : DescDone) : (n.complete d).lakes = n.lakes := rfl
@[simp] theorem Node.complete_mains (n : Node) (d : DescDone) : (n.complete d).mains = n.mains := rfl
@[simp] theorem Node.complete_cin (n : Node) (d : DescDone) : (n.complete d).cin = n.cin := rfl
@[simp] theorem Node.complete_tag (n : Node) (d : DescDone) : (n.complete d).tag = n.tag := rfl
@[simp] theorem Node.complete_sepOpen (n : Node) (d : DescDone) : (n.complete d).sepOpen = n.sepOpen := rfl
@[simp] theorem Node.complete_svcPrev (n : Node) (d : DescDone) : (n.complete d).svcPrev = n.svcPrev := rfl
@[simp] theorem Node.complete_dyn (n : Node) (d : DescDone) : (n.complete d).dyn = n.dyn := rfl
@[simp] theorem Node.complete_shafts (n : Node) (d : DescDone) : (n.complete d).shafts = n.shafts := rfl
@[simp] theorem Node.complete_cranks (n : Node) (d : DescDone) : (n.complete d).cranks = n.cranks := rfl
@[simp] theorem Node.complete_pulses (n : Node) (d : DescDone) : (n.complete d).pulses = n.pulses := rfl
@[simp] theorem Node.complete_serial (n : Node) (d : DescDone) : (n.complete d).serial = n.serial := rfl
@[simp] theorem Node.complete_srcLast (n : Node) (d : DescDone) : (n.complete d).srcLast = n.srcLast := rfl
@[simp] theorem Node.complete_inputFirst (n : Node) (d : DescDone) : (n.complete d).inputFirst = n.inputFirst := rfl
@[simp] theorem Node.complete_points (n : Node) (d : DescDone) : (n.complete d).points = n.points := rfl
@[simp] theorem Node.complete_groups (n : Node) (d : DescDone) : (n.complete d).groups = n.groups := rfl
@[simp] theorem Node.complete_areas (n : Node) (d : DescDone) : (n.complete d).areas = n.areas := rfl
@[simp] theorem Node.complete_frame (n : Node) (d : DescDone) : (n.complete d).frame = n.frame := rfl
@[simp] theorem Node.complete_refresh (n : Node) (d : DescDone) : (n.complete d).refresh = n.refresh := rfl
@[simp] theorem Node.complete_stages (n : Node) (d : DescDone) : (n.complete d).stages = n.stages := rfl
@[simp] theorem Node.complete_loops (n : Node) (d : DescDone) : (n.complete d).loops = n.loops := rfl
@[simp] theorem Node.complete_anns (n : Node) (d : DescDone) : (n.complete d).anns = n.anns := rfl
@[simp] theorem Node.complete_annGroups (n : Node) (d : DescDone) : (n.complete d).annGroups = n.annGroups := rfl
@[simp] theorem Node.complete_sep (n : Node) (d : DescDone) : (n.complete d).sep = n.sep := rfl
@[simp] theorem Node.complete_ring (n : Node) (d : DescDone) : (n.complete d).ring = n.ring := rfl
@[simp] theorem Node.complete_ptp (n : Node) (d : DescDone) : (n.complete d).ptp = n.ptp := rfl
@[simp] theorem Node.complete_twin (n : Node) (d : DescDone) : (n.complete d).twin = n.twin := rfl
@[simp] theorem Node.complete_can (n : Node) (d : DescDone) : (n.complete d).can = n.can := rfl
@[simp] theorem Node.complete_umb (n : Node) (d : DescDone) : (n.complete d).umb = n.umb := rfl
@[simp] theorem Node.complete_oi (n : Node) (d : DescDone) (j y c : Nat) : (n.complete d).oi j y c = n.oi j y c := rfl
@[simp] theorem Node.complete_o (n : Node) (d : DescDone) (y c : Nat) : (n.complete d).o y c = n.o y c := rfl

/-! `setAnn` -/

@[simp] theorem Node.setAnn_now (n : Node) (i : Nat) (x : AnnSt) : (n.setAnn i x).now = n.now := rfl
@[simp] theorem Node.setAnn_tai (n : Node) (i : Nat) (x : AnnSt) : (n.setAnn i x).tai = n.tai := rfl
@[simp] theorem Node.setAnn_out (n : Node) (i : Nat) (x : AnnSt) : (n.setAnn i x).out = n.out := rfl
@[simp] theorem Node.setAnn_fresh (n : Node) (i : Nat) (x : AnnSt) : (n.setAnn i x).fresh = n.fresh := rfl
@[simp] theorem Node.setAnn_od (n : Node) (i : Nat) (x : AnnSt) : (n.setAnn i x).od = n.od := rfl
@[simp] theorem Node.setAnn_dom (n : Node) (i : Nat) (x : AnnSt) : (n.setAnn i x).dom = n.dom := rfl
@[simp] theorem Node.setAnn_pwr (n : Node) (i : Nat) (x : AnnSt) : (n.setAnn i x).pwr = n.pwr := rfl
@[simp] theorem Node.setAnn_mode (n : Node) (i : Nat) (x : AnnSt) : (n.setAnn i x).mode = n.mode := rfl
@[simp] theorem Node.setAnn_islands (n : Node) (i : Nat) (x : AnnSt) : (n.setAnn i x).islands = n.islands := rfl
@[simp] theorem Node.setAnn_bc (n : Node) (i : Nat) (x : AnnSt) : (n.setAnn i x).bc = n.bc := rfl
@[simp] theorem Node.setAnn_rtc (n : Node) (i : Nat) (x : AnnSt) : (n.setAnn i x).rtc = n.rtc := rfl
@[simp] theorem Node.setAnn_time (n : Node) (i : Nat) (x : AnnSt) : (n.setAnn i x).time = n.time := rfl
@[simp] theorem Node.setAnn_store (n : Node) (i : Nat) (x : AnnSt) : (n.setAnn i x).store = n.store := rfl
@[simp] theorem Node.setAnn_ports (n : Node) (i : Nat) (x : AnnSt) : (n.setAnn i x).ports = n.ports := rfl
@[simp] theorem Node.setAnn_lp (n : Node) (i : Nat) (x : AnnSt) : (n.setAnn i x).lp = n.lp := rfl
@[simp] theorem Node.setAnn_vats (n : Node) (i : Nat) (x : AnnSt) : (n.setAnn i x).vats = n.vats := rfl
@[simp] theorem Node.setAnn_queues (n : Node) (i : Nat) (x : AnnSt) : (n.setAnn i x).queues = n.queues := rfl
@[simp] theorem Node.setAnn_eng (n : Node) (i : Nat) (x : AnnSt) : (n.setAnn i x).eng = n.eng := rfl
@[simp] theorem Node.setAnn_ver (n : Node) (i : Nat) (x : AnnSt) : (n.setAnn i x).ver = n.ver := rfl
@[simp] theorem Node.setAnn_input (n : Node) (i : Nat) (x : AnnSt) : (n.setAnn i x).input = n.input := rfl
@[simp] theorem Node.setAnn_lakes (n : Node) (i : Nat) (x : AnnSt) : (n.setAnn i x).lakes = n.lakes := rfl
@[simp] theorem Node.setAnn_mains (n : Node) (i : Nat) (x : AnnSt) : (n.setAnn i x).mains = n.mains := rfl
@[simp] theorem Node.setAnn_cin (n : Node) (i : Nat) (x : AnnSt) : (n.setAnn i x).cin = n.cin := rfl
@[simp] theorem Node.setAnn_tag (n : Node) (i : Nat) (x : AnnSt) : (n.setAnn i x).tag = n.tag := rfl
@[simp] theorem Node.setAnn_sepOpen (n : Node) (i : Nat) (x : AnnSt) : (n.setAnn i x).sepOpen = n.sepOpen := rfl
@[simp] theorem Node.setAnn_svcPrev (n : Node) (i : Nat) (x : AnnSt) : (n.setAnn i x).svcPrev = n.svcPrev := rfl
@[simp] theorem Node.setAnn_dyn (n : Node) (i : Nat) (x : AnnSt) : (n.setAnn i x).dyn = n.dyn := rfl
@[simp] theorem Node.setAnn_shafts (n : Node) (i : Nat) (x : AnnSt) : (n.setAnn i x).shafts = n.shafts := rfl
@[simp] theorem Node.setAnn_cranks (n : Node) (i : Nat) (x : AnnSt) : (n.setAnn i x).cranks = n.cranks := rfl
@[simp] theorem Node.setAnn_pulses (n : Node) (i : Nat) (x : AnnSt) : (n.setAnn i x).pulses = n.pulses := rfl
@[simp] theorem Node.setAnn_serial (n : Node) (i : Nat) (x : AnnSt) : (n.setAnn i x).serial = n.serial := rfl
@[simp] theorem Node.setAnn_srcLast (n : Node) (i : Nat) (x : AnnSt) : (n.setAnn i x).srcLast = n.srcLast := rfl
@[simp] theorem Node.setAnn_inputFirst (n : Node) (i : Nat) (x : AnnSt) : (n.setAnn i x).inputFirst = n.inputFirst := rfl
@[simp] theorem Node.setAnn_points (n : Node) (i : Nat) (x : AnnSt) : (n.setAnn i x).points = n.points := rfl
@[simp] theorem Node.setAnn_groups (n : Node) (i : Nat) (x : AnnSt) : (n.setAnn i x).groups = n.groups := rfl
@[simp] theorem Node.setAnn_areas (n : Node) (i : Nat) (x : AnnSt) : (n.setAnn i x).areas = n.areas := rfl
@[simp] theorem Node.setAnn_frame (n : Node) (i : Nat) (x : AnnSt) : (n.setAnn i x).frame = n.frame := rfl
@[simp] theorem Node.setAnn_refresh (n : Node) (i : Nat) (x : AnnSt) : (n.setAnn i x).refresh = n.refresh := rfl
@[simp] theorem Node.setAnn_stages (n : Node) (i : Nat) (x : AnnSt) : (n.setAnn i x).stages = n.stages := rfl
@[simp] theorem Node.setAnn_loops (n : Node) (i : Nat) (x : AnnSt) : (n.setAnn i x).loops = n.loops := rfl
@[simp] theorem Node.setAnn_annGroups (n : Node) (i : Nat) (x : AnnSt) : (n.setAnn i x).annGroups = n.annGroups := rfl
@[simp] theorem Node.setAnn_sep (n : Node) (i : Nat) (x : AnnSt) : (n.setAnn i x).sep = n.sep := rfl
@[simp] theorem Node.setAnn_ring (n : Node) (i : Nat) (x : AnnSt) : (n.setAnn i x).ring = n.ring := rfl
@[simp] theorem Node.setAnn_ptp (n : Node) (i : Nat) (x : AnnSt) : (n.setAnn i x).ptp = n.ptp := rfl
@[simp] theorem Node.setAnn_twin (n : Node) (i : Nat) (x : AnnSt) : (n.setAnn i x).twin = n.twin := rfl
@[simp] theorem Node.setAnn_can (n : Node) (i : Nat) (x : AnnSt) : (n.setAnn i x).can = n.can := rfl
@[simp] theorem Node.setAnn_umb (n : Node) (i : Nat) (x : AnnSt) : (n.setAnn i x).umb = n.umb := rfl
@[simp] theorem Node.setAnn_oi (n : Node) (i : Nat) (x : AnnSt) (j y c : Nat) : (n.setAnn i x).oi j y c = n.oi j y c := rfl
@[simp] theorem Node.setAnn_o (n : Node) (i : Nat) (x : AnnSt) (y c : Nat) : (n.setAnn i x).o y c = n.o y c := rfl

/-! `setAnnGroup` -/

@[simp] theorem Node.setAnnGroup_now (n : Node) (i : Nat) (x : AnnGroupSt) : (n.setAnnGroup i x).now = n.now := rfl
@[simp] theorem Node.setAnnGroup_tai (n : Node) (i : Nat) (x : AnnGroupSt) : (n.setAnnGroup i x).tai = n.tai := rfl
@[simp] theorem Node.setAnnGroup_out (n : Node) (i : Nat) (x : AnnGroupSt) : (n.setAnnGroup i x).out = n.out := rfl
@[simp] theorem Node.setAnnGroup_fresh (n : Node) (i : Nat) (x : AnnGroupSt) : (n.setAnnGroup i x).fresh = n.fresh := rfl
@[simp] theorem Node.setAnnGroup_od (n : Node) (i : Nat) (x : AnnGroupSt) : (n.setAnnGroup i x).od = n.od := rfl
@[simp] theorem Node.setAnnGroup_dom (n : Node) (i : Nat) (x : AnnGroupSt) : (n.setAnnGroup i x).dom = n.dom := rfl
@[simp] theorem Node.setAnnGroup_pwr (n : Node) (i : Nat) (x : AnnGroupSt) : (n.setAnnGroup i x).pwr = n.pwr := rfl
@[simp] theorem Node.setAnnGroup_mode (n : Node) (i : Nat) (x : AnnGroupSt) : (n.setAnnGroup i x).mode = n.mode := rfl
@[simp] theorem Node.setAnnGroup_islands (n : Node) (i : Nat) (x : AnnGroupSt) : (n.setAnnGroup i x).islands = n.islands := rfl
@[simp] theorem Node.setAnnGroup_bc (n : Node) (i : Nat) (x : AnnGroupSt) : (n.setAnnGroup i x).bc = n.bc := rfl
@[simp] theorem Node.setAnnGroup_rtc (n : Node) (i : Nat) (x : AnnGroupSt) : (n.setAnnGroup i x).rtc = n.rtc := rfl
@[simp] theorem Node.setAnnGroup_time (n : Node) (i : Nat) (x : AnnGroupSt) : (n.setAnnGroup i x).time = n.time := rfl
@[simp] theorem Node.setAnnGroup_store (n : Node) (i : Nat) (x : AnnGroupSt) : (n.setAnnGroup i x).store = n.store := rfl
@[simp] theorem Node.setAnnGroup_ports (n : Node) (i : Nat) (x : AnnGroupSt) : (n.setAnnGroup i x).ports = n.ports := rfl
@[simp] theorem Node.setAnnGroup_lp (n : Node) (i : Nat) (x : AnnGroupSt) : (n.setAnnGroup i x).lp = n.lp := rfl
@[simp] theorem Node.setAnnGroup_vats (n : Node) (i : Nat) (x : AnnGroupSt) : (n.setAnnGroup i x).vats = n.vats := rfl
@[simp] theorem Node.setAnnGroup_queues (n : Node) (i : Nat) (x : AnnGroupSt) : (n.setAnnGroup i x).queues = n.queues := rfl
@[simp] theorem Node.setAnnGroup_eng (n : Node) (i : Nat) (x : AnnGroupSt) : (n.setAnnGroup i x).eng = n.eng := rfl
@[simp] theorem Node.setAnnGroup_ver (n : Node) (i : Nat) (x : AnnGroupSt) : (n.setAnnGroup i x).ver = n.ver := rfl
@[simp] theorem Node.setAnnGroup_input (n : Node) (i : Nat) (x : AnnGroupSt) : (n.setAnnGroup i x).input = n.input := rfl
@[simp] theorem Node.setAnnGroup_lakes (n : Node) (i : Nat) (x : AnnGroupSt) : (n.setAnnGroup i x).lakes = n.lakes := rfl
@[simp] theorem Node.setAnnGroup_mains (n : Node) (i : Nat) (x : AnnGroupSt) : (n.setAnnGroup i x).mains = n.mains := rfl
@[simp] theorem Node.setAnnGroup_cin (n : Node) (i : Nat) (x : AnnGroupSt) : (n.setAnnGroup i x).cin = n.cin := rfl
@[simp] theorem Node.setAnnGroup_tag (n : Node) (i : Nat) (x : AnnGroupSt) : (n.setAnnGroup i x).tag = n.tag := rfl
@[simp] theorem Node.setAnnGroup_sepOpen (n : Node) (i : Nat) (x : AnnGroupSt) : (n.setAnnGroup i x).sepOpen = n.sepOpen := rfl
@[simp] theorem Node.setAnnGroup_svcPrev (n : Node) (i : Nat) (x : AnnGroupSt) : (n.setAnnGroup i x).svcPrev = n.svcPrev := rfl
@[simp] theorem Node.setAnnGroup_dyn (n : Node) (i : Nat) (x : AnnGroupSt) : (n.setAnnGroup i x).dyn = n.dyn := rfl
@[simp] theorem Node.setAnnGroup_shafts (n : Node) (i : Nat) (x : AnnGroupSt) : (n.setAnnGroup i x).shafts = n.shafts := rfl
@[simp] theorem Node.setAnnGroup_cranks (n : Node) (i : Nat) (x : AnnGroupSt) : (n.setAnnGroup i x).cranks = n.cranks := rfl
@[simp] theorem Node.setAnnGroup_pulses (n : Node) (i : Nat) (x : AnnGroupSt) : (n.setAnnGroup i x).pulses = n.pulses := rfl
@[simp] theorem Node.setAnnGroup_serial (n : Node) (i : Nat) (x : AnnGroupSt) : (n.setAnnGroup i x).serial = n.serial := rfl
@[simp] theorem Node.setAnnGroup_srcLast (n : Node) (i : Nat) (x : AnnGroupSt) : (n.setAnnGroup i x).srcLast = n.srcLast := rfl
@[simp] theorem Node.setAnnGroup_inputFirst (n : Node) (i : Nat) (x : AnnGroupSt) : (n.setAnnGroup i x).inputFirst = n.inputFirst := rfl
@[simp] theorem Node.setAnnGroup_points (n : Node) (i : Nat) (x : AnnGroupSt) : (n.setAnnGroup i x).points = n.points := rfl
@[simp] theorem Node.setAnnGroup_groups (n : Node) (i : Nat) (x : AnnGroupSt) : (n.setAnnGroup i x).groups = n.groups := rfl
@[simp] theorem Node.setAnnGroup_areas (n : Node) (i : Nat) (x : AnnGroupSt) : (n.setAnnGroup i x).areas = n.areas := rfl
@[simp] theorem Node.setAnnGroup_frame (n : Node) (i : Nat) (x : AnnGroupSt) : (n.setAnnGroup i x).frame = n.frame := rfl
@[simp] theorem Node.setAnnGroup_refresh (n : Node) (i : Nat) (x : AnnGroupSt) : (n.setAnnGroup i x).refresh = n.refresh := rfl
@[simp] theorem Node.setAnnGroup_stages (n : Node) (i : Nat) (x : AnnGroupSt) : (n.setAnnGroup i x).stages = n.stages := rfl
@[simp] theorem Node.setAnnGroup_loops (n : Node) (i : Nat) (x : AnnGroupSt) : (n.setAnnGroup i x).loops = n.loops := rfl
@[simp] theorem Node.setAnnGroup_anns (n : Node) (i : Nat) (x : AnnGroupSt) : (n.setAnnGroup i x).anns = n.anns := rfl
@[simp] theorem Node.setAnnGroup_sep (n : Node) (i : Nat) (x : AnnGroupSt) : (n.setAnnGroup i x).sep = n.sep := rfl
@[simp] theorem Node.setAnnGroup_ring (n : Node) (i : Nat) (x : AnnGroupSt) : (n.setAnnGroup i x).ring = n.ring := rfl
@[simp] theorem Node.setAnnGroup_ptp (n : Node) (i : Nat) (x : AnnGroupSt) : (n.setAnnGroup i x).ptp = n.ptp := rfl
@[simp] theorem Node.setAnnGroup_twin (n : Node) (i : Nat) (x : AnnGroupSt) : (n.setAnnGroup i x).twin = n.twin := rfl
@[simp] theorem Node.setAnnGroup_can (n : Node) (i : Nat) (x : AnnGroupSt) : (n.setAnnGroup i x).can = n.can := rfl
@[simp] theorem Node.setAnnGroup_umb (n : Node) (i : Nat) (x : AnnGroupSt) : (n.setAnnGroup i x).umb = n.umb := rfl
@[simp] theorem Node.setAnnGroup_oi (n : Node) (i : Nat) (x : AnnGroupSt) (j y c : Nat) : (n.setAnnGroup i x).oi j y c = n.oi j y c := rfl
@[simp] theorem Node.setAnnGroup_o (n : Node) (i : Nat) (x : AnnGroupSt) (y c : Nat) : (n.setAnnGroup i x).o y c = n.o y c := rfl

/-! `setArea` -/

@[simp] theorem Node.setArea_now (n : Node) (i : Nat) (x : AreaSt) : (n.setArea i x).now = n.now := rfl
@[simp] theorem Node.setArea_tai (n : Node) (i : Nat) (x : AreaSt) : (n.setArea i x).tai = n.tai := rfl
@[simp] theorem Node.setArea_out (n : Node) (i : Nat) (x : AreaSt) : (n.setArea i x).out = n.out := rfl
@[simp] theorem Node.setArea_fresh (n : Node) (i : Nat) (x : AreaSt) : (n.setArea i x).fresh = n.fresh := rfl
@[simp] theorem Node.setArea_od (n : Node) (i : Nat) (x : AreaSt) : (n.setArea i x).od = n.od := rfl
@[simp] theorem Node.setArea_dom (n : Node) (i : Nat) (x : AreaSt) : (n.setArea i x).dom = n.dom := rfl
@[simp] theorem Node.setArea_pwr (n : Node) (i : Nat) (x : AreaSt) : (n.setArea i x).pwr = n.pwr := rfl
@[simp] theorem Node.setArea_mode (n : Node) (i : Nat) (x : AreaSt) : (n.setArea i x).mode = n.mode := rfl
@[simp] theorem Node.setArea_islands (n : Node) (i : Nat) (x : AreaSt) : (n.setArea i x).islands = n.islands := rfl
@[simp] theorem Node.setArea_bc (n : Node) (i : Nat) (x : AreaSt) : (n.setArea i x).bc = n.bc := rfl
@[simp] theorem Node.setArea_rtc (n : Node) (i : Nat) (x : AreaSt) : (n.setArea i x).rtc = n.rtc := rfl
@[simp] theorem Node.setArea_time (n : Node) (i : Nat) (x : AreaSt) : (n.setArea i x).time = n.time := rfl
@[simp] theorem Node.setArea_store (n : Node) (i : Nat) (x : AreaSt) : (n.setArea i x).store = n.store := rfl
@[simp] theorem Node.setArea_ports (n : Node) (i : Nat) (x : AreaSt) : (n.setArea i x).ports = n.ports := rfl
@[simp] theorem Node.setArea_lp (n : Node) (i : Nat) (x : AreaSt) : (n.setArea i x).lp = n.lp := rfl
@[simp] theorem Node.setArea_vats (n : Node) (i : Nat) (x : AreaSt) : (n.setArea i x).vats = n.vats := rfl
@[simp] theorem Node.setArea_queues (n : Node) (i : Nat) (x : AreaSt) : (n.setArea i x).queues = n.queues := rfl
@[simp] theorem Node.setArea_eng (n : Node) (i : Nat) (x : AreaSt) : (n.setArea i x).eng = n.eng := rfl
@[simp] theorem Node.setArea_ver (n : Node) (i : Nat) (x : AreaSt) : (n.setArea i x).ver = n.ver := rfl
@[simp] theorem Node.setArea_input (n : Node) (i : Nat) (x : AreaSt) : (n.setArea i x).input = n.input := rfl
@[simp] theorem Node.setArea_lakes (n : Node) (i : Nat) (x : AreaSt) : (n.setArea i x).lakes = n.lakes := rfl
@[simp] theorem Node.setArea_mains (n : Node) (i : Nat) (x : AreaSt) : (n.setArea i x).mains = n.mains := rfl
@[simp] theorem Node.setArea_cin (n : Node) (i : Nat) (x : AreaSt) : (n.setArea i x).cin = n.cin := rfl
@[simp] theorem Node.setArea_tag (n : Node) (i : Nat) (x : AreaSt) : (n.setArea i x).tag = n.tag := rfl
@[simp] theorem Node.setArea_sepOpen (n : Node) (i : Nat) (x : AreaSt) : (n.setArea i x).sepOpen = n.sepOpen := rfl
@[simp] theorem Node.setArea_svcPrev (n : Node) (i : Nat) (x : AreaSt) : (n.setArea i x).svcPrev = n.svcPrev := rfl
@[simp] theorem Node.setArea_dyn (n : Node) (i : Nat) (x : AreaSt) : (n.setArea i x).dyn = n.dyn := rfl
@[simp] theorem Node.setArea_shafts (n : Node) (i : Nat) (x : AreaSt) : (n.setArea i x).shafts = n.shafts := rfl
@[simp] theorem Node.setArea_cranks (n : Node) (i : Nat) (x : AreaSt) : (n.setArea i x).cranks = n.cranks := rfl
@[simp] theorem Node.setArea_pulses (n : Node) (i : Nat) (x : AreaSt) : (n.setArea i x).pulses = n.pulses := rfl
@[simp] theorem Node.setArea_serial (n : Node) (i : Nat) (x : AreaSt) : (n.setArea i x).serial = n.serial := rfl
@[simp] theorem Node.setArea_srcLast (n : Node) (i : Nat) (x : AreaSt) : (n.setArea i x).srcLast = n.srcLast := rfl
@[simp] theorem Node.setArea_inputFirst (n : Node) (i : Nat) (x : AreaSt) : (n.setArea i x).inputFirst = n.inputFirst := rfl
@[simp] theorem Node.setArea_points (n : Node) (i : Nat) (x : AreaSt) : (n.setArea i x).points = n.points := rfl
@[simp] theorem Node.setArea_groups (n : Node) (i : Nat) (x : AreaSt) : (n.setArea i x).groups = n.groups := rfl
@[simp] theorem Node.setArea_frame (n : Node) (i : Nat) (x : AreaSt) : (n.setArea i x).frame = n.frame := rfl
@[simp] theorem Node.setArea_refresh (n : Node) (i : Nat) (x : AreaSt) : (n.setArea i x).refresh = n.refresh := rfl
@[simp] theorem Node.setArea_stages (n : Node) (i : Nat) (x : AreaSt) : (n.setArea i x).stages = n.stages := rfl
@[simp] theorem Node.setArea_loops (n : Node) (i : Nat) (x : AreaSt) : (n.setArea i x).loops = n.loops := rfl
@[simp] theorem Node.setArea_anns (n : Node) (i : Nat) (x : AreaSt) : (n.setArea i x).anns = n.anns := rfl
@[simp] theorem Node.setArea_annGroups (n : Node) (i : Nat) (x : AreaSt) : (n.setArea i x).annGroups = n.annGroups := rfl
@[simp] theorem Node.setArea_sep (n : Node) (i : Nat) (x : AreaSt) : (n.setArea i x).sep = n.sep := rfl
@[simp] theorem Node.setArea_ring (n : Node) (i : Nat) (x : AreaSt) : (n.setArea i x).ring = n.ring := rfl
@[simp] theorem Node.setArea_ptp (n : Node) (i : Nat) (x : AreaSt) : (n.setArea i x).ptp = n.ptp := rfl
@[simp] theorem Node.setArea_twin (n : Node) (i : Nat) (x : AreaSt) : (n.setArea i x).twin = n.twin := rfl
@[simp] theorem Node.setArea_can (n : Node) (i : Nat) (x : AreaSt) : (n.setArea i x).can = n.can := rfl
@[simp] theorem Node.setArea_umb (n : Node) (i : Nat) (x : AreaSt) : (n.setArea i x).umb = n.umb := rfl
@[simp] theorem Node.setArea_oi (n : Node) (i : Nat) (x : AreaSt) (j y c : Nat) : (n.setArea i x).oi j y c = n.oi j y c := rfl
@[simp] theorem Node.setArea_o (n : Node) (i : Nat) (x : AreaSt) (y c : Nat) : (n.setArea i x).o y c = n.o y c := rfl

/-! `setCan` -/

@[simp] theorem Node.setCan_now (n : Node) (i : Nat) (x : CanSt) : (n.setCan i x).now = n.now := rfl
@[simp] theorem Node.setCan_tai (n : Node) (i : Nat) (x : CanSt) : (n.setCan i x).tai = n.tai := rfl
@[simp] theorem Node.setCan_out (n : Node) (i : Nat) (x : CanSt) : (n.setCan i x).out = n.out := rfl
@[simp] theorem Node.setCan_fresh (n : Node) (i : Nat) (x : CanSt) : (n.setCan i x).fresh = n.fresh := rfl
@[simp] theorem Node.setCan_od (n : Node) (i : Nat) (x : CanSt) : (n.setCan i x).od = n.od := rfl
@[simp] theorem Node.setCan_dom (n : Node) (i : Nat) (x : CanSt) : (n.setCan i x).dom = n.dom := rfl
@[simp] theorem Node.setCan_pwr (n : Node) (i : Nat) (x : CanSt) : (n.setCan i x).pwr = n.pwr := rfl
@[simp] theorem Node.setCan_mode (n : Node) (i : Nat) (x : CanSt) : (n.setCan i x).mode = n.mode := rfl
@[simp] theorem Node.setCan_islands (n : Node) (i : Nat) (x : CanSt) : (n.setCan i x).islands = n.islands := rfl
@[simp] theorem Node.setCan_bc (n : Node) (i : Nat) (x : CanSt) : (n.setCan i x).bc = n.bc := rfl
@[simp] theorem Node.setCan_rtc (n : Node) (i : Nat) (x : CanSt) : (n.setCan i x).rtc = n.rtc := rfl
@[simp] theorem Node.setCan_time (n : Node) (i : Nat) (x : CanSt) : (n.setCan i x).time = n.time := rfl
@[simp] theorem Node.setCan_store (n : Node) (i : Nat) (x : CanSt) : (n.setCan i x).store = n.store := rfl
@[simp] theorem Node.setCan_ports (n : Node) (i : Nat) (x : CanSt) : (n.setCan i x).ports = n.ports := rfl
@[simp] theorem Node.setCan_lp (n : Node) (i : Nat) (x : CanSt) : (n.setCan i x).lp = n.lp := rfl
@[simp] theorem Node.setCan_vats (n : Node) (i : Nat) (x : CanSt) : (n.setCan i x).vats = n.vats := rfl
@[simp] theorem Node.setCan_queues (n : Node) (i : Nat) (x : CanSt) : (n.setCan i x).queues = n.queues := rfl
@[simp] theorem Node.setCan_eng (n : Node) (i : Nat) (x : CanSt) : (n.setCan i x).eng = n.eng := rfl
@[simp] theorem Node.setCan_ver (n : Node) (i : Nat) (x : CanSt) : (n.setCan i x).ver = n.ver := rfl
@[simp] theorem Node.setCan_input (n : Node) (i : Nat) (x : CanSt) : (n.setCan i x).input = n.input := rfl
@[simp] theorem Node.setCan_lakes (n : Node) (i : Nat) (x : CanSt) : (n.setCan i x).lakes = n.lakes := rfl
@[simp] theorem Node.setCan_mains (n : Node) (i : Nat) (x : CanSt) : (n.setCan i x).mains = n.mains := rfl
@[simp] theorem Node.setCan_cin (n : Node) (i : Nat) (x : CanSt) : (n.setCan i x).cin = n.cin := rfl
@[simp] theorem Node.setCan_tag (n : Node) (i : Nat) (x : CanSt) : (n.setCan i x).tag = n.tag := rfl
@[simp] theorem Node.setCan_sepOpen (n : Node) (i : Nat) (x : CanSt) : (n.setCan i x).sepOpen = n.sepOpen := rfl
@[simp] theorem Node.setCan_svcPrev (n : Node) (i : Nat) (x : CanSt) : (n.setCan i x).svcPrev = n.svcPrev := rfl
@[simp] theorem Node.setCan_dyn (n : Node) (i : Nat) (x : CanSt) : (n.setCan i x).dyn = n.dyn := rfl
@[simp] theorem Node.setCan_shafts (n : Node) (i : Nat) (x : CanSt) : (n.setCan i x).shafts = n.shafts := rfl
@[simp] theorem Node.setCan_cranks (n : Node) (i : Nat) (x : CanSt) : (n.setCan i x).cranks = n.cranks := rfl
@[simp] theorem Node.setCan_pulses (n : Node) (i : Nat) (x : CanSt) : (n.setCan i x).pulses = n.pulses := rfl
@[simp] theorem Node.setCan_serial (n : Node) (i : Nat) (x : CanSt) : (n.setCan i x).serial = n.serial := rfl
@[simp] theorem Node.setCan_srcLast (n : Node) (i : Nat) (x : CanSt) : (n.setCan i x).srcLast = n.srcLast := rfl
@[simp] theorem Node.setCan_inputFirst (n : Node) (i : Nat) (x : CanSt) : (n.setCan i x).inputFirst = n.inputFirst := rfl
@[simp] theorem Node.setCan_points (n : Node) (i : Nat) (x : CanSt) : (n.setCan i x).points = n.points := rfl
@[simp] theorem Node.setCan_groups (n : Node) (i : Nat) (x : CanSt) : (n.setCan i x).groups = n.groups := rfl
@[simp] theorem Node.setCan_areas (n : Node) (i : Nat) (x : CanSt) : (n.setCan i x).areas = n.areas := rfl
@[simp] theorem Node.setCan_frame (n : Node) (i : Nat) (x : CanSt) : (n.setCan i x).frame = n.frame := rfl
@[simp] theorem Node.setCan_refresh (n : Node) (i : Nat) (x : CanSt) : (n.setCan i x).refresh = n.refresh := rfl
@[simp] theorem Node.setCan_stages (n : Node) (i : Nat) (x : CanSt) : (n.setCan i x).stages = n.stages := rfl
@[simp] theorem Node.setCan_loops (n : Node) (i : Nat) (x : CanSt) : (n.setCan i x).loops = n.loops := rfl
@[simp] theorem Node.setCan_anns (n : Node) (i : Nat) (x : CanSt) : (n.setCan i x).anns = n.anns := rfl
@[simp] theorem Node.setCan_annGroups (n : Node) (i : Nat) (x : CanSt) : (n.setCan i x).annGroups = n.annGroups := rfl
@[simp] theorem Node.setCan_sep (n : Node) (i : Nat) (x : CanSt) : (n.setCan i x).sep = n.sep := rfl
@[simp] theorem Node.setCan_ring (n : Node) (i : Nat) (x : CanSt) : (n.setCan i x).ring = n.ring := rfl
@[simp] theorem Node.setCan_ptp (n : Node) (i : Nat) (x : CanSt) : (n.setCan i x).ptp = n.ptp := rfl
@[simp] theorem Node.setCan_twin (n : Node) (i : Nat) (x : CanSt) : (n.setCan i x).twin = n.twin := rfl
@[simp] theorem Node.setCan_umb (n : Node) (i : Nat) (x : CanSt) : (n.setCan i x).umb = n.umb := rfl
@[simp] theorem Node.setCan_oi (n : Node) (i : Nat) (x : CanSt) (j y c : Nat) : (n.setCan i x).oi j y c = n.oi j y c := rfl
@[simp] theorem Node.setCan_o (n : Node) (i : Nat) (x : CanSt) (y c : Nat) : (n.setCan i x).o y c = n.o y c := rfl

/-! `setDyn` -/

@[simp] theorem Node.setDyn_now (n : Node) (i : Nat) (x : DynSt) : (n.setDyn i x).now = n.now := rfl
@[simp] theorem Node.setDyn_tai (n : Node) (i : Nat) (x : DynSt) : (n.setDyn i x).tai = n.tai := rfl
@[simp] theorem Node.setDyn_out (n : Node) (i : Nat) (x : DynSt) : (n.setDyn i x).out = n.out := rfl
@[simp] theorem Node.setDyn_fresh (n : Node) (i : Nat) (x : DynSt) : (n.setDyn i x).fresh = n.fresh := rfl
@[simp] theorem Node.setDyn_od (n : Node) (i : Nat) (x : DynSt) : (n.setDyn i x).od = n.od := rfl
@[simp] theorem Node.setDyn_dom (n : Node) (i : Nat) (x : DynSt) : (n.setDyn i x).dom = n.dom := rfl
@[simp] theorem Node.setDyn_pwr (n : Node) (i : Nat) (x : DynSt) : (n.setDyn i x).pwr = n.pwr := rfl
@[simp] theorem Node.setDyn_mode (n : Node) (i : Nat) (x : DynSt) : (n.setDyn i x).mode = n.mode := rfl
@[simp] theorem Node.setDyn_islands (n : Node) (i : Nat) (x : DynSt) : (n.setDyn i x).islands = n.islands := rfl
@[simp] theorem Node.setDyn_bc (n : Node) (i : Nat) (x : DynSt) : (n.setDyn i x).bc = n.bc := rfl
@[simp] theorem Node.setDyn_rtc (n : Node) (i : Nat) (x : DynSt) : (n.setDyn i x).rtc = n.rtc := rfl
@[simp] theorem Node.setDyn_time (n : Node) (i : Nat) (x : DynSt) : (n.setDyn i x).time = n.time := rfl
@[simp] theorem Node.setDyn_store (n : Node) (i : Nat) (x : DynSt) : (n.setDyn i x).store = n.store := rfl
@[simp] theorem Node.setDyn_ports (n : Node) (i : Nat) (x : DynSt) : (n.setDyn i x).ports = n.ports := rfl
@[simp] theorem Node.setDyn_lp (n : Node) (i : Nat) (x : DynSt) : (n.setDyn i x).lp = n.lp := rfl
@[simp] theorem Node.setDyn_vats (n : Node) (i : Nat) (x : DynSt) : (n.setDyn i x).vats = n.vats := rfl
@[simp] theorem Node.setDyn_queues (n : Node) (i : Nat) (x : DynSt) : (n.setDyn i x).queues = n.queues := rfl
@[simp] theorem Node.setDyn_eng (n : Node) (i : Nat) (x : DynSt) : (n.setDyn i x).eng = n.eng := rfl
@[simp] theorem Node.setDyn_ver (n : Node) (i : Nat) (x : DynSt) : (n.setDyn i x).ver = n.ver := rfl
@[simp] theorem Node.setDyn_input (n : Node) (i : Nat) (x : DynSt) : (n.setDyn i x).input = n.input := rfl
@[simp] theorem Node.setDyn_lakes (n : Node) (i : Nat) (x : DynSt) : (n.setDyn i x).lakes = n.lakes := rfl
@[simp] theorem Node.setDyn_mains (n : Node) (i : Nat) (x : DynSt) : (n.setDyn i x).mains = n.mains := rfl
@[simp] theorem Node.setDyn_cin (n : Node) (i : Nat) (x : DynSt) : (n.setDyn i x).cin = n.cin := rfl
@[simp] theorem Node.setDyn_tag (n : Node) (i : Nat) (x : DynSt) : (n.setDyn i x).tag = n.tag := rfl
@[simp] theorem Node.setDyn_sepOpen (n : Node) (i : Nat) (x : DynSt) : (n.setDyn i x).sepOpen = n.sepOpen := rfl
@[simp] theorem Node.setDyn_svcPrev (n : Node) (i : Nat) (x : DynSt) : (n.setDyn i x).svcPrev = n.svcPrev := rfl
@[simp] theorem Node.setDyn_shafts (n : Node) (i : Nat) (x : DynSt) : (n.setDyn i x).shafts = n.shafts := rfl
@[simp] theorem Node.setDyn_cranks (n : Node) (i : Nat) (x : DynSt) : (n.setDyn i x).cranks = n.cranks := rfl
@[simp] theorem Node.setDyn_pulses (n : Node) (i : Nat) (x : DynSt) : (n.setDyn i x).pulses = n.pulses := rfl
@[simp] theorem Node.setDyn_serial (n : Node) (i : Nat) (x : DynSt) : (n.setDyn i x).serial = n.serial := rfl
@[simp] theorem Node.setDyn_srcLast (n : Node) (i : Nat) (x : DynSt) : (n.setDyn i x).srcLast = n.srcLast := rfl
@[simp] theorem Node.setDyn_inputFirst (n : Node) (i : Nat) (x : DynSt) : (n.setDyn i x).inputFirst = n.inputFirst := rfl
@[simp] theorem Node.setDyn_points (n : Node) (i : Nat) (x : DynSt) : (n.setDyn i x).points = n.points := rfl
@[simp] theorem Node.setDyn_groups (n : Node) (i : Nat) (x : DynSt) : (n.setDyn i x).groups = n.groups := rfl
@[simp] theorem Node.setDyn_areas (n : Node) (i : Nat) (x : DynSt) : (n.setDyn i x).areas = n.areas := rfl
@[simp] theorem Node.setDyn_frame (n : Node) (i : Nat) (x : DynSt) : (n.setDyn i x).frame = n.frame := rfl
@[simp] theorem Node.setDyn_refresh (n : Node) (i : Nat) (x : DynSt) : (n.setDyn i x).refresh = n.refresh := rfl
@[simp] theorem Node.setDyn_stages (n : Node) (i : Nat) (x : DynSt) : (n.setDyn i x).stages = n.stages := rfl
@[simp] theorem Node.setDyn_loops (n : Node) (i : Nat) (x : DynSt) : (n.setDyn i x).loops = n.loops := rfl
@[simp] theorem Node.setDyn_anns (n : Node) (i : Nat) (x : DynSt) : (n.setDyn i x).anns = n.anns := rfl
@[simp] theorem Node.setDyn_annGroups (n : Node) (i : Nat) (x : DynSt) : (n.setDyn i x).annGroups = n.annGroups := rfl
@[simp] theorem Node.setDyn_sep (n : Node) (i : Nat) (x : DynSt) : (n.setDyn i x).sep = n.sep := rfl
@[simp] theorem Node.setDyn_ring (n : Node) (i : Nat) (x : DynSt) : (n.setDyn i x).ring = n.ring := rfl
@[simp] theorem Node.setDyn_ptp (n : Node) (i : Nat) (x : DynSt) : (n.setDyn i x).ptp = n.ptp := rfl
@[simp] theorem Node.setDyn_twin (n : Node) (i : Nat) (x : DynSt) : (n.setDyn i x).twin = n.twin := rfl
@[simp] theorem Node.setDyn_can (n : Node) (i : Nat) (x : DynSt) : (n.setDyn i x).can = n.can := rfl
@[simp] theorem Node.setDyn_umb (n : Node) (i : Nat) (x : DynSt) : (n.setDyn i x).umb = n.umb := rfl
@[simp] theorem Node.setDyn_oi (n : Node) (i : Nat) (x : DynSt) (j y c : Nat) : (n.setDyn i x).oi j y c = n.oi j y c := rfl
@[simp] theorem Node.setDyn_o (n : Node) (i : Nat) (x : DynSt) (y c : Nat) : (n.setDyn i x).o y c = n.o y c := rfl

/-! `setLake` -/

@[simp] theorem Node.setLake_now (n : Node) (i : Nat) (x : LakeSt) : (n.setLake i x).now = n.now := rfl
@[simp] theorem Node.setLake_tai (n : Node) (i : Nat) (x : LakeSt) : (n.setLake i x).tai = n.tai := rfl
@[simp] theorem Node.setLake_out (n : Node) (i : Nat) (x : LakeSt) : (n.setLake i x).out = n.out := rfl
@[simp] theorem Node.setLake_fresh (n : Node) (i : Nat) (x : LakeSt) : (n.setLake i x).fresh = n.fresh := rfl
@[simp] theorem Node.setLake_od (n : Node) (i : Nat) (x : LakeSt) : (n.setLake i x).od = n.od := rfl
@[simp] theorem Node.setLake_dom (n : Node) (i : Nat) (x : LakeSt) : (n.setLake i x).dom = n.dom := rfl
@[simp] theorem Node.setLake_pwr (n : Node) (i : Nat) (x : LakeSt) : (n.setLake i x).pwr = n.pwr := rfl
@[simp] theorem Node.setLake_mode (n : Node) (i : Nat) (x : LakeSt) : (n.setLake i x).mode = n.mode := rfl
@[simp] theorem Node.setLake_islands (n : Node) (i : Nat) (x : LakeSt) : (n.setLake i x).islands = n.islands := rfl
@[simp] theorem Node.setLake_bc (n : Node) (i : Nat) (x : LakeSt) : (n.setLake i x).bc = n.bc := rfl
@[simp] theorem Node.setLake_rtc (n : Node) (i : Nat) (x : LakeSt) : (n.setLake i x).rtc = n.rtc := rfl
@[simp] theorem Node.setLake_time (n : Node) (i : Nat) (x : LakeSt) : (n.setLake i x).time = n.time := rfl
@[simp] theorem Node.setLake_store (n : Node) (i : Nat) (x : LakeSt) : (n.setLake i x).store = n.store := rfl
@[simp] theorem Node.setLake_ports (n : Node) (i : Nat) (x : LakeSt) : (n.setLake i x).ports = n.ports := rfl
@[simp] theorem Node.setLake_lp (n : Node) (i : Nat) (x : LakeSt) : (n.setLake i x).lp = n.lp := rfl
@[simp] theorem Node.setLake_vats (n : Node) (i : Nat) (x : LakeSt) : (n.setLake i x).vats = n.vats := rfl
@[simp] theorem Node.setLake_queues (n : Node) (i : Nat) (x : LakeSt) : (n.setLake i x).queues = n.queues := rfl
@[simp] theorem Node.setLake_eng (n : Node) (i : Nat) (x : LakeSt) : (n.setLake i x).eng = n.eng := rfl
@[simp] theorem Node.setLake_ver (n : Node) (i : Nat) (x : LakeSt) : (n.setLake i x).ver = n.ver := rfl
@[simp] theorem Node.setLake_input (n : Node) (i : Nat) (x : LakeSt) : (n.setLake i x).input = n.input := rfl
@[simp] theorem Node.setLake_mains (n : Node) (i : Nat) (x : LakeSt) : (n.setLake i x).mains = n.mains := rfl
@[simp] theorem Node.setLake_cin (n : Node) (i : Nat) (x : LakeSt) : (n.setLake i x).cin = n.cin := rfl
@[simp] theorem Node.setLake_tag (n : Node) (i : Nat) (x : LakeSt) : (n.setLake i x).tag = n.tag := rfl
@[simp] theorem Node.setLake_sepOpen (n : Node) (i : Nat) (x : LakeSt) : (n.setLake i x).sepOpen = n.sepOpen := rfl
@[simp] theorem Node.setLake_svcPrev (n : Node) (i : Nat) (x : LakeSt) : (n.setLake i x).svcPrev = n.svcPrev := rfl
@[simp] theorem Node.setLake_dyn (n : Node) (i : Nat) (x : LakeSt) : (n.setLake i x).dyn = n.dyn := rfl
@[simp] theorem Node.setLake_shafts (n : Node) (i : Nat) (x : LakeSt) : (n.setLake i x).shafts = n.shafts := rfl
@[simp] theorem Node.setLake_cranks (n : Node) (i : Nat) (x : LakeSt) : (n.setLake i x).cranks = n.cranks := rfl
@[simp] theorem Node.setLake_pulses (n : Node) (i : Nat) (x : LakeSt) : (n.setLake i x).pulses = n.pulses := rfl
@[simp] theorem Node.setLake_serial (n : Node) (i : Nat) (x : LakeSt) : (n.setLake i x).serial = n.serial := rfl
@[simp] theorem Node.setLake_srcLast (n : Node) (i : Nat) (x : LakeSt) : (n.setLake i x).srcLast = n.srcLast := rfl
@[simp] theorem Node.setLake_inputFirst (n : Node) (i : Nat) (x : LakeSt) : (n.setLake i x).inputFirst = n.inputFirst := rfl
@[simp] theorem Node.setLake_points (n : Node) (i : Nat) (x : LakeSt) : (n.setLake i x).points = n.points := rfl
@[simp] theorem Node.setLake_groups (n : Node) (i : Nat) (x : LakeSt) : (n.setLake i x).groups = n.groups := rfl
@[simp] theorem Node.setLake_areas (n : Node) (i : Nat) (x : LakeSt) : (n.setLake i x).areas = n.areas := rfl
@[simp] theorem Node.setLake_frame (n : Node) (i : Nat) (x : LakeSt) : (n.setLake i x).frame = n.frame := rfl
@[simp] theorem Node.setLake_refresh (n : Node) (i : Nat) (x : LakeSt) : (n.setLake i x).refresh = n.refresh := rfl
@[simp] theorem Node.setLake_stages (n : Node) (i : Nat) (x : LakeSt) : (n.setLake i x).stages = n.stages := rfl
@[simp] theorem Node.setLake_loops (n : Node) (i : Nat) (x : LakeSt) : (n.setLake i x).loops = n.loops := rfl
@[simp] theorem Node.setLake_anns (n : Node) (i : Nat) (x : LakeSt) : (n.setLake i x).anns = n.anns := rfl
@[simp] theorem Node.setLake_annGroups (n : Node) (i : Nat) (x : LakeSt) : (n.setLake i x).annGroups = n.annGroups := rfl
@[simp] theorem Node.setLake_sep (n : Node) (i : Nat) (x : LakeSt) : (n.setLake i x).sep = n.sep := rfl
@[simp] theorem Node.setLake_ring (n : Node) (i : Nat) (x : LakeSt) : (n.setLake i x).ring = n.ring := rfl
@[simp] theorem Node.setLake_ptp (n : Node) (i : Nat) (x : LakeSt) : (n.setLake i x).ptp = n.ptp := rfl
@[simp] theorem Node.setLake_twin (n : Node) (i : Nat) (x : LakeSt) : (n.setLake i x).twin = n.twin := rfl
@[simp] theorem Node.setLake_can (n : Node) (i : Nat) (x : LakeSt) : (n.setLake i x).can = n.can := rfl
@[simp] theorem Node.setLake_umb (n : Node) (i : Nat) (x : LakeSt) : (n.setLake i x).umb = n.umb := rfl
@[simp] theorem Node.setLake_oi (n : Node) (i : Nat) (x : LakeSt) (j y c : Nat) : (n.setLake i x).oi j y c = n.oi j y c := rfl
@[simp] theorem Node.setLake_o (n : Node) (i : Nat) (x : LakeSt) (y c : Nat) : (n.setLake i x).o y c = n.o y c := rfl

/-! `setLoop` -/

@[simp] theorem Node.setLoop_now (n : Node) (i : Nat) (x : LoopSt) : (n.setLoop i x).now = n.now := rfl
@[simp] theorem Node.setLoop_tai (n : Node) (i : Nat) (x : LoopSt) : (n.setLoop i x).tai = n.tai := rfl
@[simp] theorem Node.setLoop_out (n : Node) (i : Nat) (x : LoopSt) : (n.setLoop i x).out = n.out := rfl
@[simp] theorem Node.setLoop_fresh (n : Node) (i : Nat) (x : LoopSt) : (n.setLoop i x).fresh = n.fresh := rfl
@[simp] theorem Node.setLoop_od (n : Node) (i : Nat) (x : LoopSt) : (n.setLoop i x).od = n.od := rfl
@[simp] theorem Node.setLoop_dom (n : Node) (i : Nat) (x : LoopSt) : (n.setLoop i x).dom = n.dom := rfl
@[simp] theorem Node.setLoop_pwr (n : Node) (i : Nat) (x : LoopSt) : (n.setLoop i x).pwr = n.pwr := rfl
@[simp] theorem Node.setLoop_mode (n : Node) (i : Nat) (x : LoopSt) : (n.setLoop i x).mode = n.mode := rfl
@[simp] theorem Node.setLoop_islands (n : Node) (i : Nat) (x : LoopSt) : (n.setLoop i x).islands = n.islands := rfl
@[simp] theorem Node.setLoop_bc (n : Node) (i : Nat) (x : LoopSt) : (n.setLoop i x).bc = n.bc := rfl
@[simp] theorem Node.setLoop_rtc (n : Node) (i : Nat) (x : LoopSt) : (n.setLoop i x).rtc = n.rtc := rfl
@[simp] theorem Node.setLoop_time (n : Node) (i : Nat) (x : LoopSt) : (n.setLoop i x).time = n.time := rfl
@[simp] theorem Node.setLoop_store (n : Node) (i : Nat) (x : LoopSt) : (n.setLoop i x).store = n.store := rfl
@[simp] theorem Node.setLoop_ports (n : Node) (i : Nat) (x : LoopSt) : (n.setLoop i x).ports = n.ports := rfl
@[simp] theorem Node.setLoop_lp (n : Node) (i : Nat) (x : LoopSt) : (n.setLoop i x).lp = n.lp := rfl
@[simp] theorem Node.setLoop_vats (n : Node) (i : Nat) (x : LoopSt) : (n.setLoop i x).vats = n.vats := rfl
@[simp] theorem Node.setLoop_queues (n : Node) (i : Nat) (x : LoopSt) : (n.setLoop i x).queues = n.queues := rfl
@[simp] theorem Node.setLoop_eng (n : Node) (i : Nat) (x : LoopSt) : (n.setLoop i x).eng = n.eng := rfl
@[simp] theorem Node.setLoop_ver (n : Node) (i : Nat) (x : LoopSt) : (n.setLoop i x).ver = n.ver := rfl
@[simp] theorem Node.setLoop_input (n : Node) (i : Nat) (x : LoopSt) : (n.setLoop i x).input = n.input := rfl
@[simp] theorem Node.setLoop_lakes (n : Node) (i : Nat) (x : LoopSt) : (n.setLoop i x).lakes = n.lakes := rfl
@[simp] theorem Node.setLoop_mains (n : Node) (i : Nat) (x : LoopSt) : (n.setLoop i x).mains = n.mains := rfl
@[simp] theorem Node.setLoop_cin (n : Node) (i : Nat) (x : LoopSt) : (n.setLoop i x).cin = n.cin := rfl
@[simp] theorem Node.setLoop_tag (n : Node) (i : Nat) (x : LoopSt) : (n.setLoop i x).tag = n.tag := rfl
@[simp] theorem Node.setLoop_sepOpen (n : Node) (i : Nat) (x : LoopSt) : (n.setLoop i x).sepOpen = n.sepOpen := rfl
@[simp] theorem Node.setLoop_svcPrev (n : Node) (i : Nat) (x : LoopSt) : (n.setLoop i x).svcPrev = n.svcPrev := rfl
@[simp] theorem Node.setLoop_dyn (n : Node) (i : Nat) (x : LoopSt) : (n.setLoop i x).dyn = n.dyn := rfl
@[simp] theorem Node.setLoop_shafts (n : Node) (i : Nat) (x : LoopSt) : (n.setLoop i x).shafts = n.shafts := rfl
@[simp] theorem Node.setLoop_cranks (n : Node) (i : Nat) (x : LoopSt) : (n.setLoop i x).cranks = n.cranks := rfl
@[simp] theorem Node.setLoop_pulses (n : Node) (i : Nat) (x : LoopSt) : (n.setLoop i x).pulses = n.pulses := rfl
@[simp] theorem Node.setLoop_serial (n : Node) (i : Nat) (x : LoopSt) : (n.setLoop i x).serial = n.serial := rfl
@[simp] theorem Node.setLoop_srcLast (n : Node) (i : Nat) (x : LoopSt) : (n.setLoop i x).srcLast = n.srcLast := rfl
@[simp] theorem Node.setLoop_inputFirst (n : Node) (i : Nat) (x : LoopSt) : (n.setLoop i x).inputFirst = n.inputFirst := rfl
@[simp] theorem Node.setLoop_points (n : Node) (i : Nat) (x : LoopSt) : (n.setLoop i x).points = n.points := rfl
@[simp] theorem Node.setLoop_groups (n : Node) (i : Nat) (x : LoopSt) : (n.setLoop i x).groups = n.groups := rfl
@[simp] theorem Node.setLoop_areas (n : Node) (i : Nat) (x : LoopSt) : (n.setLoop i x).areas = n.areas := rfl
@[simp] theorem Node.setLoop_frame (n : Node) (i : Nat) (x : LoopSt) : (n.setLoop i x).frame = n.frame := rfl
@[simp] theorem Node.setLoop_refresh (n : Node) (i : Nat) (x : LoopSt) : (n.setLoop i x).refresh = n.refresh := rfl
@[simp] theorem Node.setLoop_stages (n : Node) (i : Nat) (x : LoopSt) : (n.setLoop i x).stages = n.stages := rfl
@[simp] theorem Node.setLoop_anns (n : Node) (i : Nat) (x : LoopSt) : (n.setLoop i x).anns = n.anns := rfl
@[simp] theorem Node.setLoop_annGroups (n : Node) (i : Nat) (x : LoopSt) : (n.setLoop i x).annGroups = n.annGroups := rfl
@[simp] theorem Node.setLoop_sep (n : Node) (i : Nat) (x : LoopSt) : (n.setLoop i x).sep = n.sep := rfl
@[simp] theorem Node.setLoop_ring (n : Node) (i : Nat) (x : LoopSt) : (n.setLoop i x).ring = n.ring := rfl
@[simp] theorem Node.setLoop_ptp (n : Node) (i : Nat) (x : LoopSt) : (n.setLoop i x).ptp = n.ptp := rfl
@[simp] theorem Node.setLoop_twin (n : Node) (i : Nat) (x : LoopSt) : (n.setLoop i x).twin = n.twin := rfl
@[simp] theorem Node.setLoop_can (n : Node) (i : Nat) (x : LoopSt) : (n.setLoop i x).can = n.can := rfl
@[simp] theorem Node.setLoop_umb (n : Node) (i : Nat) (x : LoopSt) : (n.setLoop i x).umb = n.umb := rfl
@[simp] theorem Node.setLoop_oi (n : Node) (i : Nat) (x : LoopSt) (j y c : Nat) : (n.setLoop i x).oi j y c = n.oi j y c := rfl
@[simp] theorem Node.setLoop_o (n : Node) (i : Nat) (x : LoopSt) (y c : Nat) : (n.setLoop i x).o y c = n.o y c := rfl

/-! `setPt` -/

@[simp] theorem Node.setPt_now (n : Node) (i : Nat) (x : PointSt) : (n.setPt i x).now = n.now := rfl
@[simp] theorem Node.setPt_tai (n : Node) (i : Nat) (x : PointSt) : (n.setPt i x).tai = n.tai := rfl
@[simp] theorem Node.setPt_out (n : Node) (i : Nat) (x : PointSt) : (n.setPt i x).out = n.out := rfl
@[simp] theorem Node.setPt_fresh (n : Node) (i : Nat) (x : PointSt) : (n.setPt i x).fresh = n.fresh := rfl
@[simp] theorem Node.setPt_od (n : Node) (i : Nat) (x : PointSt) : (n.setPt i x).od = n.od := rfl
@[simp] theorem Node.setPt_dom (n : Node) (i : Nat) (x : PointSt) : (n.setPt i x).dom = n.dom := rfl
@[simp] theorem Node.setPt_pwr (n : Node) (i : Nat) (x : PointSt) : (n.setPt i x).pwr = n.pwr := rfl
@[simp] theorem Node.setPt_mode (n : Node) (i : Nat) (x : PointSt) : (n.setPt i x).mode = n.mode := rfl
@[simp] theorem Node.setPt_islands (n : Node) (i : Nat) (x : PointSt) : (n.setPt i x).islands = n.islands := rfl
@[simp] theorem Node.setPt_bc (n : Node) (i : Nat) (x : PointSt) : (n.setPt i x).bc = n.bc := rfl
@[simp] theorem Node.setPt_rtc (n : Node) (i : Nat) (x : PointSt) : (n.setPt i x).rtc = n.rtc := rfl
@[simp] theorem Node.setPt_time (n : Node) (i : Nat) (x : PointSt) : (n.setPt i x).time = n.time := rfl
@[simp] theorem Node.setPt_store (n : Node) (i : Nat) (x : PointSt) : (n.setPt i x).store = n.store := rfl
@[simp] theorem Node.setPt_ports (n : Node) (i : Nat) (x : PointSt) : (n.setPt i x).ports = n.ports := rfl
@[simp] theorem Node.setPt_lp (n : Node) (i : Nat) (x : PointSt) : (n.setPt i x).lp = n.lp := rfl
@[simp] theorem Node.setPt_vats (n : Node) (i : Nat) (x : PointSt) : (n.setPt i x).vats = n.vats := rfl
@[simp] theorem Node.setPt_queues (n : Node) (i : Nat) (x : PointSt) : (n.setPt i x).queues = n.queues := rfl
@[simp] theorem Node.setPt_eng (n : Node) (i : Nat) (x : PointSt) : (n.setPt i x).eng = n.eng := rfl
@[simp] theorem Node.setPt_ver (n : Node) (i : Nat) (x : PointSt) : (n.setPt i x).ver = n.ver := rfl
@[simp] theorem Node.setPt_input (n : Node) (i : Nat) (x : PointSt) : (n.setPt i x).input = n.input := rfl
@[simp] theorem Node.setPt_lakes (n : Node) (i : Nat) (x : PointSt) : (n.setPt i x).lakes = n.lakes := rfl
@[simp] theorem Node.setPt_mains (n : Node) (i : Nat) (x : PointSt) : (n.setPt i x).mains = n.mains := rfl
@[simp] theorem Node.setPt_cin (n : Node) (i : Nat) (x : PointSt) : (n.setPt i x).cin = n.cin := rfl
@[simp] theorem Node.setPt_tag (n : Node) (i : Nat) (x : PointSt) : (n.setPt i x).tag = n.tag := rfl
@[simp] theorem Node.setPt_sepOpen (n : Node) (i : Nat) (x : PointSt) : (n.setPt i x).sepOpen = n.sepOpen := rfl
@[simp] theorem Node.setPt_svcPrev (n : Node) (i : Nat) (x : PointSt) : (n.setPt i x).svcPrev = n.svcPrev := rfl
@[simp] theorem Node.setPt_dyn (n : Node) (i : Nat) (x : PointSt) : (n.setPt i x).dyn = n.dyn := rfl
@[simp] theorem Node.setPt_shafts (n : Node) (i : Nat) (x : PointSt) : (n.setPt i x).shafts = n.shafts := rfl
@[simp] theorem Node.setPt_cranks (n : Node) (i : Nat) (x : PointSt) : (n.setPt i x).cranks = n.cranks := rfl
@[simp] theorem Node.setPt_pulses (n : Node) (i : Nat) (x : PointSt) : (n.setPt i x).pulses = n.pulses := rfl
@[simp] theorem Node.setPt_serial (n : Node) (i : Nat) (x : PointSt) : (n.setPt i x).serial = n.serial := rfl
@[simp] theorem Node.setPt_srcLast (n : Node) (i : Nat) (x : PointSt) : (n.setPt i x).srcLast = n.srcLast := rfl
@[simp] theorem Node.setPt_inputFirst (n : Node) (i : Nat) (x : PointSt) : (n.setPt i x).inputFirst = n.inputFirst := rfl
@[simp] theorem Node.setPt_groups (n : Node) (i : Nat) (x : PointSt) : (n.setPt i x).groups = n.groups := rfl
@[simp] theorem Node.setPt_areas (n : Node) (i : Nat) (x : PointSt) : (n.setPt i x).areas = n.areas := rfl
@[simp] theorem Node.setPt_frame (n : Node) (i : Nat) (x : PointSt) : (n.setPt i x).frame = n.frame := rfl
@[simp] theorem Node.setPt_refresh (n : Node) (i : Nat) (x : PointSt) : (n.setPt i x).refresh = n.refresh := rfl
@[simp] theorem Node.setPt_stages (n : Node) (i : Nat) (x : PointSt) : (n.setPt i x).stages = n.stages := rfl
@[simp] theorem Node.setPt_loops (n : Node) (i : Nat) (x : PointSt) : (n.setPt i x).loops = n.loops := rfl
@[simp] theorem Node.setPt_anns (n : Node) (i : Nat) (x : PointSt) : (n.setPt i x).anns = n.anns := rfl
@[simp] theorem Node.setPt_annGroups (n : Node) (i : Nat) (x : PointSt) : (n.setPt i x).annGroups = n.annGroups := rfl
@[simp] theorem Node.setPt_sep (n : Node) (i : Nat) (x : PointSt) : (n.setPt i x).sep = n.sep := rfl
@[simp] theorem Node.setPt_ring (n : Node) (i : Nat) (x : PointSt) : (n.setPt i x).ring = n.ring := rfl
@[simp] theorem Node.setPt_ptp (n : Node) (i : Nat) (x : PointSt) : (n.setPt i x).ptp = n.ptp := rfl
@[simp] theorem Node.setPt_twin (n : Node) (i : Nat) (x : PointSt) : (n.setPt i x).twin = n.twin := rfl
@[simp] theorem Node.setPt_can (n : Node) (i : Nat) (x : PointSt) : (n.setPt i x).can = n.can := rfl
@[simp] theorem Node.setPt_umb (n : Node) (i : Nat) (x : PointSt) : (n.setPt i x).umb = n.umb := rfl
@[simp] theorem Node.setPt_oi (n : Node) (i : Nat) (x : PointSt) (j y c : Nat) : (n.setPt i x).oi j y c = n.oi j y c := rfl
@[simp] theorem Node.setPt_o (n : Node) (i : Nat) (x : PointSt) (y c : Nat) : (n.setPt i x).o y c = n.o y c := rfl

/-! `setGrp` -/

@[simp] theorem Node.setGrp_now (n : Node) (i : Nat) (x : GroupSt) : (n.setGrp i x).now = n.now := rfl
@[simp] theorem Node.setGrp_tai (n : Node) (i : Nat) (x : GroupSt) : (n.setGrp i x).tai = n.tai := rfl
@[simp] theorem Node.setGrp_out (n : Node) (i : Nat) (x : GroupSt) : (n.setGrp i x).out = n.out := rfl
@[simp] theorem Node.setGrp_fresh (n : Node) (i : Nat) (x : GroupSt) : (n.setGrp i x).fresh = n.fresh := rfl
@[simp] theorem Node.setGrp_od (n : Node) (i : Nat) (x : GroupSt) : (n.setGrp i x).od = n.od := rfl
@[simp] theorem Node.setGrp_dom (n : Node) (i : Nat) (x : GroupSt) : (n.setGrp i x).dom = n.dom := rfl
@[simp] theorem Node.setGrp_pwr (n : Node) (i : Nat) (x : GroupSt) : (n.setGrp i x).pwr = n.pwr := rfl
@[simp] theorem Node.setGrp_mode (n : Node) (i : Nat) (x : GroupSt) : (n.setGrp i x).mode = n.mode := rfl
@[simp] theorem Node.setGrp_islands (n : Node) (i : Nat) (x : GroupSt) : (n.setGrp i x).islands = n.islands := rfl
@[simp] theorem Node.setGrp_bc (n : Node) (i : Nat) (x : GroupSt) : (n.setGrp i x).bc = n.bc := rfl
@[simp] theorem Node.setGrp_rtc (n : Node) (i : Nat) (x : GroupSt) : (n.setGrp i x).rtc = n.rtc := rfl
@[simp] theorem Node.setGrp_time (n : Node) (i : Nat) (x : GroupSt) : (n.setGrp i x).time = n.time := rfl
@[simp] theorem Node.setGrp_store (n : Node) (i : Nat) (x : GroupSt) : (n.setGrp i x).store = n.store := rfl
@[simp] theorem Node.setGrp_ports (n : Node) (i : Nat) (x : GroupSt) : (n.setGrp i x).ports = n.ports := rfl
@[simp] theorem Node.setGrp_lp (n : Node) (i : Nat) (x : GroupSt) : (n.setGrp i x).lp = n.lp := rfl
@[simp] theorem Node.setGrp_vats (n : Node) (i : Nat) (x : GroupSt) : (n.setGrp i x).vats = n.vats := rfl
@[simp] theorem Node.setGrp_queues (n : Node) (i : Nat) (x : GroupSt) : (n.setGrp i x).queues = n.queues := rfl
@[simp] theorem Node.setGrp_eng (n : Node) (i : Nat) (x : GroupSt) : (n.setGrp i x).eng = n.eng := rfl
@[simp] theorem Node.setGrp_ver (n : Node) (i : Nat) (x : GroupSt) : (n.setGrp i x).ver = n.ver := rfl
@[simp] theorem Node.setGrp_input (n : Node) (i : Nat) (x : GroupSt) : (n.setGrp i x).input = n.input := rfl
@[simp] theorem Node.setGrp_lakes (n : Node) (i : Nat) (x : GroupSt) : (n.setGrp i x).lakes = n.lakes := rfl
@[simp] theorem Node.setGrp_mains (n : Node) (i : Nat) (x : GroupSt) : (n.setGrp i x).mains = n.mains := rfl
@[simp] theorem Node.setGrp_cin (n : Node) (i : Nat) (x : GroupSt) : (n.setGrp i x).cin = n.cin := rfl
@[simp] theorem Node.setGrp_tag (n : Node) (i : Nat) (x : GroupSt) : (n.setGrp i x).tag = n.tag := rfl
@[simp] theorem Node.setGrp_sepOpen (n : Node) (i : Nat) (x : GroupSt) : (n.setGrp i x).sepOpen = n.sepOpen := rfl
@[simp] theorem Node.setGrp_svcPrev (n : Node) (i : Nat) (x : GroupSt) : (n.setGrp i x).svcPrev = n.svcPrev := rfl
@[simp] theorem Node.setGrp_dyn (n : Node) (i : Nat) (x : GroupSt) : (n.setGrp i x).dyn = n.dyn := rfl
@[simp] theorem Node.setGrp_shafts (n : Node) (i : Nat) (x : GroupSt) : (n.setGrp i x).shafts = n.shafts := rfl
@[simp] theorem Node.setGrp_cranks (n : Node) (i : Nat) (x : GroupSt) : (n.setGrp i x).cranks = n.cranks := rfl
@[simp] theorem Node.setGrp_pulses (n : Node) (i : Nat) (x : GroupSt) : (n.setGrp i x).pulses = n.pulses := rfl
@[simp] theorem Node.setGrp_serial (n : Node) (i : Nat) (x : GroupSt) : (n.setGrp i x).serial = n.serial := rfl
@[simp] theorem Node.setGrp_srcLast (n : Node) (i : Nat) (x : GroupSt) : (n.setGrp i x).srcLast = n.srcLast := rfl
@[simp] theorem Node.setGrp_inputFirst (n : Node) (i : Nat) (x : GroupSt) : (n.setGrp i x).inputFirst = n.inputFirst := rfl
@[simp] theorem Node.setGrp_points (n : Node) (i : Nat) (x : GroupSt) : (n.setGrp i x).points = n.points := rfl
@[simp] theorem Node.setGrp_areas (n : Node) (i : Nat) (x : GroupSt) : (n.setGrp i x).areas = n.areas := rfl
@[simp] theorem Node.setGrp_frame (n : Node) (i : Nat) (x : GroupSt) : (n.setGrp i x).frame = n.frame := rfl
@[simp] theorem Node.setGrp_refresh (n : Node) (i : Nat) (x : GroupSt) : (n.setGrp i x).refresh = n.refresh := rfl
@[simp] theorem Node.setGrp_stages (n : Node) (i : Nat) (x : GroupSt) : (n.setGrp i x).stages = n.stages := rfl
@[simp] theorem Node.setGrp_loops (n : Node) (i : Nat) (x : GroupSt) : (n.setGrp i x).loops = n.loops := rfl
@[simp] theorem Node.setGrp_anns (n : Node) (i : Nat) (x : GroupSt) : (n.setGrp i x).anns = n.anns := rfl
@[simp] theorem Node.setGrp_annGroups (n : Node) (i : Nat) (x : GroupSt) : (n.setGrp i x).annGroups = n.annGroups := rfl
@[simp] theorem Node.setGrp_sep (n : Node) (i : Nat) (x : GroupSt) : (n.setGrp i x).sep = n.sep := rfl
@[simp] theorem Node.setGrp_ring (n : Node) (i : Nat) (x : GroupSt) : (n.setGrp i x).ring = n.ring := rfl
@[simp] theorem Node.setGrp_ptp (n : Node) (i : Nat) (x : GroupSt) : (n.setGrp i x).ptp = n.ptp := rfl
@[simp] theorem Node.setGrp_twin (n : Node) (i : Nat) (x : GroupSt) : (n.setGrp i x).twin = n.twin := rfl
@[simp] theorem Node.setGrp_can (n : Node) (i : Nat) (x : GroupSt) : (n.setGrp i x).can = n.can := rfl
@[simp] theorem Node.setGrp_umb (n : Node) (i : Nat) (x : GroupSt) : (n.setGrp i x).umb = n.umb := rfl
@[simp] theorem Node.setGrp_oi (n : Node) (i : Nat) (x : GroupSt) (j y c : Nat) : (n.setGrp i x).oi j y c = n.oi j y c := rfl
@[simp] theorem Node.setGrp_o (n : Node) (i : Nat) (x : GroupSt) (y c : Nat) : (n.setGrp i x).o y c = n.o y c := rfl

/-! `setSerial` -/

@[simp] theorem Node.setSerial_now (n : Node) (i : Nat) (x : SerialSt) : (n.setSerial i x).now = n.now := rfl
@[simp] theorem Node.setSerial_tai (n : Node) (i : Nat) (x : SerialSt) : (n.setSerial i x).tai = n.tai := rfl
@[simp] theorem Node.setSerial_out (n : Node) (i : Nat) (x : SerialSt) : (n.setSerial i x).out = n.out := rfl
@[simp] theorem Node.setSerial_fresh (n : Node) (i : Nat) (x : SerialSt) : (n.setSerial i x).fresh = n.fresh := rfl
@[simp] theorem Node.setSerial_od (n : Node) (i : Nat) (x : SerialSt) : (n.setSerial i x).od = n.od := rfl
@[simp] theorem Node.setSerial_dom (n : Node) (i : Nat) (x : SerialSt) : (n.setSerial i x).dom = n.dom := rfl
@[simp] theorem Node.setSerial_pwr (n : Node) (i : Nat) (x : SerialSt) : (n.setSerial i x).pwr = n.pwr := rfl
@[simp] theorem Node.setSerial_mode (n : Node) (i : Nat) (x : SerialSt) : (n.setSerial i x).mode = n.mode := rfl
@[simp] theorem Node.setSerial_islands (n : Node) (i : Nat) (x : SerialSt) : (n.setSerial i x).islands = n.islands := rfl
@[simp] theorem Node.setSerial_bc (n : Node) (i : Nat) (x : SerialSt) : (n.setSerial i x).bc = n.bc := rfl
@[simp] theorem Node.setSerial_rtc (n : Node) (i : Nat) (x : SerialSt) : (n.setSerial i x).rtc = n.rtc := rfl
@[simp] theorem Node.setSerial_time (n : Node) (i : Nat) (x : SerialSt) : (n.setSerial i x).time = n.time := rfl
@[simp] theorem Node.setSerial_store (n : Node) (i : Nat) (x : SerialSt) : (n.setSerial i x).store = n.store := rfl
@[simp] theorem Node.setSerial_ports (n : Node) (i : Nat) (x : SerialSt) : (n.setSerial i x).ports = n.ports := rfl
@[simp] theorem Node.setSerial_lp (n : Node) (i : Nat) (x : SerialSt) : (n.setSerial i x).lp = n.lp := rfl
@[simp] theorem Node.setSerial_vats (n : Node) (i : Nat) (x : SerialSt) : (n.setSerial i x).vats = n.vats := rfl
@[simp] theorem Node.setSerial_queues (n : Node) (i : Nat) (x : SerialSt) : (n.setSerial i x).queues = n.queues := rfl
@[simp] theorem Node.setSerial_eng (n : Node) (i : Nat) (x : SerialSt) : (n.setSerial i x).eng = n.eng := rfl
@[simp] theorem Node.setSerial_ver (n : Node) (i : Nat) (x : SerialSt) : (n.setSerial i x).ver = n.ver := rfl
@[simp] theorem Node.setSerial_input (n : Node) (i : Nat) (x : SerialSt) : (n.setSerial i x).input = n.input := rfl
@[simp] theorem Node.setSerial_lakes (n : Node) (i : Nat) (x : SerialSt) : (n.setSerial i x).lakes = n.lakes := rfl
@[simp] theorem Node.setSerial_mains (n : Node) (i : Nat) (x : SerialSt) : (n.setSerial i x).mains = n.mains := rfl
@[simp] theorem Node.setSerial_cin (n : Node) (i : Nat) (x : SerialSt) : (n.setSerial i x).cin = n.cin := rfl
@[simp] theorem Node.setSerial_tag (n : Node) (i : Nat) (x : SerialSt) : (n.setSerial i x).tag = n.tag := rfl
@[simp] theorem Node.setSerial_sepOpen (n : Node) (i : Nat) (x : SerialSt) : (n.setSerial i x).sepOpen = n.sepOpen := rfl
@[simp] theorem Node.setSerial_svcPrev (n : Node) (i : Nat) (x : SerialSt) : (n.setSerial i x).svcPrev = n.svcPrev := rfl
@[simp] theorem Node.setSerial_dyn (n : Node) (i : Nat) (x : SerialSt) : (n.setSerial i x).dyn = n.dyn := rfl
@[simp] theorem Node.setSerial_shafts (n : Node) (i : Nat) (x : SerialSt) : (n.setSerial i x).shafts = n.shafts := rfl
@[simp] theorem Node.setSerial_cranks (n : Node) (i : Nat) (x : SerialSt) : (n.setSerial i x).cranks = n.cranks := rfl
@[simp] theorem Node.setSerial_pulses (n : Node) (i : Nat) (x : SerialSt) : (n.setSerial i x).pulses = n.pulses := rfl
@[simp] theorem Node.setSerial_srcLast (n : Node) (i : Nat) (x : SerialSt) : (n.setSerial i x).srcLast = n.srcLast := rfl
@[simp] theorem Node.setSerial_inputFirst (n : Node) (i : Nat) (x : SerialSt) : (n.setSerial i x).inputFirst = n.inputFirst := rfl
@[simp] theorem Node.setSerial_points (n : Node) (i : Nat) (x : SerialSt) : (n.setSerial i x).points = n.points := rfl
@[simp] theorem Node.setSerial_groups (n : Node) (i : Nat) (x : SerialSt) : (n.setSerial i x).groups = n.groups := rfl
@[simp] theorem Node.setSerial_areas (n : Node) (i : Nat) (x : SerialSt) : (n.setSerial i x).areas = n.areas := rfl
@[simp] theorem Node.setSerial_frame (n : Node) (i : Nat) (x : SerialSt) : (n.setSerial i x).frame = n.frame := rfl
@[simp] theorem Node.setSerial_refresh (n : Node) (i : Nat) (x : SerialSt) : (n.setSerial i x).refresh = n.refresh := rfl
@[simp] theorem Node.setSerial_stages (n : Node) (i : Nat) (x : SerialSt) : (n.setSerial i x).stages = n.stages := rfl
@[simp] theorem Node.setSerial_loops (n : Node) (i : Nat) (x : SerialSt) : (n.setSerial i x).loops = n.loops := rfl
@[simp] theorem Node.setSerial_anns (n : Node) (i : Nat) (x : SerialSt) : (n.setSerial i x).anns = n.anns := rfl
@[simp] theorem Node.setSerial_annGroups (n : Node) (i : Nat) (x : SerialSt) : (n.setSerial i x).annGroups = n.annGroups := rfl
@[simp] theorem Node.setSerial_sep (n : Node) (i : Nat) (x : SerialSt) : (n.setSerial i x).sep = n.sep := rfl
@[simp] theorem Node.setSerial_ring (n : Node) (i : Nat) (x : SerialSt) : (n.setSerial i x).ring = n.ring := rfl
@[simp] theorem Node.setSerial_ptp (n : Node) (i : Nat) (x : SerialSt) : (n.setSerial i x).ptp = n.ptp := rfl
@[simp] theorem Node.setSerial_twin (n : Node) (i : Nat) (x : SerialSt) : (n.setSerial i x).twin = n.twin := rfl
@[simp] theorem Node.setSerial_can (n : Node) (i : Nat) (x : SerialSt) : (n.setSerial i x).can = n.can := rfl
@[simp] theorem Node.setSerial_umb (n : Node) (i : Nat) (x : SerialSt) : (n.setSerial i x).umb = n.umb := rfl
@[simp] theorem Node.setSerial_oi (n : Node) (i : Nat) (x : SerialSt) (j y c : Nat) : (n.setSerial i x).oi j y c = n.oi j y c := rfl
@[simp] theorem Node.setSerial_o (n : Node) (i : Nat) (x : SerialSt) (y c : Nat) : (n.setSerial i x).o y c = n.o y c := rfl

/-! `setShaft` -/

@[simp] theorem Node.setShaft_now (n : Node) (i : Nat) (x : ShaftSt) : (n.setShaft i x).now = n.now := rfl
@[simp] theorem Node.setShaft_tai (n : Node) (i : Nat) (x : ShaftSt) : (n.setShaft i x).tai = n.tai := rfl
@[simp] theorem Node.setShaft_out (n : Node) (i : Nat) (x : ShaftSt) : (n.setShaft i x).out = n.out := rfl
@[simp] theorem Node.setShaft_fresh (n : Node) (i : Nat) (x : ShaftSt) : (n.setShaft i x).fresh = n.fresh := rfl
@[simp] theorem Node.setShaft_od (n : Node) (i : Nat) (x : ShaftSt) : (n.setShaft i x).od = n.od := rfl
@[simp] theorem Node.setShaft_dom (n : Node) (i : Nat) (x : ShaftSt) : (n.setShaft i x).dom = n.dom := rfl
@[simp] theorem Node.setShaft_pwr (n : Node) (i : Nat) (x : ShaftSt) : (n.setShaft i x).pwr = n.pwr := rfl
@[simp] theorem Node.setShaft_mode (n : Node) (i : Nat) (x : ShaftSt) : (n.setShaft i x).mode = n.mode := rfl
@[simp] theorem Node.setShaft_islands (n : Node) (i : Nat) (x : ShaftSt) : (n.setShaft i x).islands = n.islands := rfl
@[simp] theorem Node.setShaft_bc (n : Node) (i : Nat) (x : ShaftSt) : (n.setShaft i x).bc = n.bc := rfl
@[simp] theorem Node.setShaft_rtc (n : Node) (i : Nat) (x : ShaftSt) : (n.setShaft i x).rtc = n.rtc := rfl
@[simp] theorem Node.setShaft_time (n : Node) (i : Nat) (x : ShaftSt) : (n.setShaft i x).time = n.time := rfl
@[simp] theorem Node.setShaft_store (n : Node) (i : Nat) (x : ShaftSt) : (n.setShaft i x).store = n.store := rfl
@[simp] theorem Node.setShaft_ports (n : Node) (i : Nat) (x : ShaftSt) : (n.setShaft i x).ports = n.ports := rfl
@[simp] theorem Node.setShaft_lp (n : Node) (i : Nat) (x : ShaftSt) : (n.setShaft i x).lp = n.lp := rfl
@[simp] theorem Node.setShaft_vats (n : Node) (i : Nat) (x : ShaftSt) : (n.setShaft i x).vats = n.vats := rfl
@[simp] theorem Node.setShaft_queues (n : Node) (i : Nat) (x : ShaftSt) : (n.setShaft i x).queues = n.queues := rfl
@[simp] theorem Node.setShaft_eng (n : Node) (i : Nat) (x : ShaftSt) : (n.setShaft i x).eng = n.eng := rfl
@[simp] theorem Node.setShaft_ver (n : Node) (i : Nat) (x : ShaftSt) : (n.setShaft i x).ver = n.ver := rfl
@[simp] theorem Node.setShaft_input (n : Node) (i : Nat) (x : ShaftSt) : (n.setShaft i x).input = n.input := rfl
@[simp] theorem Node.setShaft_lakes (n : Node) (i : Nat) (x : ShaftSt) : (n.setShaft i x).lakes = n.lakes := rfl
@[simp] theorem Node.setShaft_mains (n : Node) (i : Nat) (x : ShaftSt) : (n.setShaft i x).mains = n.mains := rfl
@[simp] theorem Node.setShaft_cin (n : Node) (i : Nat) (x : ShaftSt) : (n.setShaft i x).cin = n.cin := rfl
@[simp] theorem Node.setShaft_tag (n : Node) (i : Nat) (x : ShaftSt) : (n.setShaft i x).tag = n.tag := rfl
@[simp] theorem Node.setShaft_sepOpen (n : Node) (i : Nat) (x : ShaftSt) : (n.setShaft i x).sepOpen = n.sepOpen := rfl
@[simp] theorem Node.setShaft_svcPrev (n : Node) (i : Nat) (x : ShaftSt) : (n.setShaft i x).svcPrev = n.svcPrev := rfl
@[simp] theorem Node.setShaft_dyn (n : Node) (i : Nat) (x : ShaftSt) : (n.setShaft i x).dyn = n.dyn := rfl
@[simp] theorem Node.setShaft_cranks (n : Node) (i : Nat) (x : ShaftSt) : (n.setShaft i x).cranks = n.cranks := rfl
@[simp] theorem Node.setShaft_pulses (n : Node) (i : Nat) (x : ShaftSt) : (n.setShaft i x).pulses = n.pulses := rfl
@[simp] theorem Node.setShaft_serial (n : Node) (i : Nat) (x : ShaftSt) : (n.setShaft i x).serial = n.serial := rfl
@[simp] theorem Node.setShaft_srcLast (n : Node) (i : Nat) (x : ShaftSt) : (n.setShaft i x).srcLast = n.srcLast := rfl
@[simp] theorem Node.setShaft_inputFirst (n : Node) (i : Nat) (x : ShaftSt) : (n.setShaft i x).inputFirst = n.inputFirst := rfl
@[simp] theorem Node.setShaft_points (n : Node) (i : Nat) (x : ShaftSt) : (n.setShaft i x).points = n.points := rfl
@[simp] theorem Node.setShaft_groups (n : Node) (i : Nat) (x : ShaftSt) : (n.setShaft i x).groups = n.groups := rfl
@[simp] theorem Node.setShaft_areas (n : Node) (i : Nat) (x : ShaftSt) : (n.setShaft i x).areas = n.areas := rfl
@[simp] theorem Node.setShaft_frame (n : Node) (i : Nat) (x : ShaftSt) : (n.setShaft i x).frame = n.frame := rfl
@[simp] theorem Node.setShaft_refresh (n : Node) (i : Nat) (x : ShaftSt) : (n.setShaft i x).refresh = n.refresh := rfl
@[simp] theorem Node.setShaft_stages (n : Node) (i : Nat) (x : ShaftSt) : (n.setShaft i x).stages = n.stages := rfl
@[simp] theorem Node.setShaft_loops (n : Node) (i : Nat) (x : ShaftSt) : (n.setShaft i x).loops = n.loops := rfl
@[simp] theorem Node.setShaft_anns (n : Node) (i : Nat) (x : ShaftSt) : (n.setShaft i x).anns = n.anns := rfl
@[simp] theorem Node.setShaft_annGroups (n : Node) (i : Nat) (x : ShaftSt) : (n.setShaft i x).annGroups = n.annGroups := rfl
@[simp] theorem Node.setShaft_sep (n : Node) (i : Nat) (x : ShaftSt) : (n.setShaft i x).sep = n.sep := rfl
@[simp] theorem Node.setShaft_ring (n : Node) (i : Nat) (x : ShaftSt) : (n.setShaft i x).ring = n.ring := rfl
@[simp] theorem Node.setShaft_ptp (n : Node) (i : Nat) (x : ShaftSt) : (n.setShaft i x).ptp = n.ptp := rfl
@[simp] theorem Node.setShaft_twin (n : Node) (i : Nat) (x : ShaftSt) : (n.setShaft i x).twin = n.twin := rfl
@[simp] theorem Node.setShaft_can (n : Node) (i : Nat) (x : ShaftSt) : (n.setShaft i x).can = n.can := rfl
@[simp] theorem Node.setShaft_umb (n : Node) (i : Nat) (x : ShaftSt) : (n.setShaft i x).umb = n.umb := rfl
@[simp] theorem Node.setShaft_oi (n : Node) (i : Nat) (x : ShaftSt) (j y c : Nat) : (n.setShaft i x).oi j y c = n.oi j y c := rfl
@[simp] theorem Node.setShaft_o (n : Node) (i : Nat) (x : ShaftSt) (y c : Nat) : (n.setShaft i x).o y c = n.o y c := rfl

/-! `setCrank` -/

@[simp] theorem Node.setCrank_now (n : Node) (i : Nat) (x : CrankSt) : (n.setCrank i x).now = n.now := rfl
@[simp] theorem Node.setCrank_tai (n : Node) (i : Nat) (x : CrankSt) : (n.setCrank i x).tai = n.tai := rfl
@[simp] theorem Node.setCrank_out (n : Node) (i : Nat) (x : CrankSt) : (n.setCrank i x).out = n.out := rfl
@[simp] theorem Node.setCrank_fresh (n : Node) (i : Nat) (x : CrankSt) : (n.setCrank i x).fresh = n.fresh := rfl
@[simp] theorem Node.setCrank_od (n : Node) (i : Nat) (x : CrankSt) : (n.setCrank i x).od = n.od := rfl
@[simp] theorem Node.setCrank_dom (n : Node) (i : Nat) (x : CrankSt) : (n.setCrank i x).dom = n.dom := rfl
@[simp] theorem Node.setCrank_pwr (n : Node) (i : Nat) (x : CrankSt) : (n.setCrank i x).pwr = n.pwr := rfl
@[simp] theorem Node.setCrank_mode (n : Node) (i : Nat) (x : CrankSt) : (n.setCrank i x).mode = n.mode := rfl
@[simp] theorem Node.setCrank_islands (n : Node) (i : Nat) (x : CrankSt) : (n.setCrank i x).islands = n.islands := rfl
@[simp] theorem Node.setCrank_bc (n : Node) (i : Nat) (x : CrankSt) : (n.setCrank i x).bc = n.bc := rfl
@[simp] theorem Node.setCrank_rtc (n : Node) (i : Nat) (x : CrankSt) : (n.setCrank i x).rtc = n.rtc := rfl
@[simp] theorem Node.setCrank_time (n : Node) (i : Nat) (x : CrankSt) : (n.setCrank i x).time = n.time := rfl
@[simp] theorem Node.setCrank_store (n : Node) (i : Nat) (x : CrankSt) : (n.setCrank i x).store = n.store := rfl
@[simp] theorem Node.setCrank_ports (n : Node) (i : Nat) (x : CrankSt) : (n.setCrank i x).ports = n.ports := rfl
@[simp] theorem Node.setCrank_lp (n : Node) (i : Nat) (x : CrankSt) : (n.setCrank i x).lp = n.lp := rfl
@[simp] theorem Node.setCrank_vats (n : Node) (i : Nat) (x : CrankSt) : (n.setCrank i x).vats = n.vats := rfl
@[simp] theorem Node.setCrank_queues (n : Node) (i : Nat) (x : CrankSt) : (n.setCrank i x).queues = n.queues := rfl
@[simp] theorem Node.setCrank_eng (n : Node) (i : Nat) (x : CrankSt) : (n.setCrank i x).eng = n.eng := rfl
@[simp] theorem Node.setCrank_ver (n : Node) (i : Nat) (x : CrankSt) : (n.setCrank i x).ver = n.ver := rfl
@[simp] theorem Node.setCrank_input (n : Node) (i : Nat) (x : CrankSt) : (n.setCrank i x).input = n.input := rfl
@[simp] theorem Node.setCrank_lakes (n : Node) (i : Nat) (x : CrankSt) : (n.setCrank i x).lakes = n.lakes := rfl
@[simp] theorem Node.setCrank_mains (n : Node) (i : Nat) (x : CrankSt) : (n.setCrank i x).mains = n.mains := rfl
@[simp] theorem Node.setCrank_cin (n : Node) (i : Nat) (x : CrankSt) : (n.setCrank i x).cin = n.cin := rfl
@[simp] theorem Node.setCrank_tag (n : Node) (i : Nat) (x : CrankSt) : (n.setCrank i x).tag = n.tag := rfl
@[simp] theorem Node.setCrank_sepOpen (n : Node) (i : Nat) (x : CrankSt) : (n.setCrank i x).sepOpen = n.sepOpen := rfl
@[simp] theorem Node.setCrank_svcPrev (n : Node) (i : Nat) (x : CrankSt) : (n.setCrank i x).svcPrev = n.svcPrev := rfl
@[simp] theorem Node.setCrank_dyn (n : Node) (i : Nat) (x : CrankSt) : (n.setCrank i x).dyn = n.dyn := rfl
@[simp] theorem Node.setCrank_shafts (n : Node) (i : Nat) (x : CrankSt) : (n.setCrank i x).shafts = n.shafts := rfl
@[simp] theorem Node.setCrank_pulses (n : Node) (i : Nat) (x : CrankSt) : (n.setCrank i x).pulses = n.pulses := rfl
@[simp] theorem Node.setCrank_serial (n : Node) (i : Nat) (x : CrankSt) : (n.setCrank i x).serial = n.serial := rfl
@[simp] theorem Node.setCrank_srcLast (n : Node) (i : Nat) (x : CrankSt) : (n.setCrank i x).srcLast = n.srcLast := rfl
@[simp] theorem Node.setCrank_inputFirst (n : Node) (i : Nat) (x : CrankSt) : (n.setCrank i x).inputFirst = n.inputFirst := rfl
@[simp] theorem Node.setCrank_points (n : Node) (i : Nat) (x : CrankSt) : (n.setCrank i x).points = n.points := rfl
@[simp] theorem Node.setCrank_groups (n : Node) (i : Nat) (x : CrankSt) : (n.setCrank i x).groups = n.groups := rfl
@[simp] theorem Node.setCrank_areas (n : Node) (i : Nat) (x : CrankSt) : (n.setCrank i x).areas = n.areas := rfl
@[simp] theorem Node.setCrank_frame (n : Node) (i : Nat) (x : CrankSt) : (n.setCrank i x).frame = n.frame := rfl
@[simp] theorem Node.setCrank_refresh (n : Node) (i : Nat) (x : CrankSt) : (n.setCrank i x).refresh = n.refresh := rfl
@[simp] theorem Node.setCrank_stages (n : Node) (i : Nat) (x : CrankSt) : (n.setCrank i x).stages = n.stages := rfl
@[simp] theorem Node.setCrank_loops (n : Node) (i : Nat) (x : CrankSt) : (n.setCrank i x).loops = n.loops := rfl
@[simp] theorem Node.setCrank_anns (n : Node) (i : Nat) (x : CrankSt) : (n.setCrank i x).anns = n.anns := rfl
@[simp] theorem Node.setCrank_annGroups (n : Node) (i : Nat) (x : CrankSt) : (n.setCrank i x).annGroups = n.annGroups := rfl
@[simp] theorem Node.setCrank_sep (n : Node) (i : Nat) (x : CrankSt) : (n.setCrank i x).sep = n.sep := rfl
@[simp] theorem Node.setCrank_ring (n : Node) (i : Nat) (x : CrankSt) : (n.setCrank i x).ring = n.ring := rfl
@[simp] theorem Node.setCrank_ptp (n : Node) (i : Nat) (x : CrankSt) : (n.setCrank i x).ptp = n.ptp := rfl
@[simp] theorem Node.setCrank_twin (n : Node) (i : Nat) (x : CrankSt) : (n.setCrank i x).twin = n.twin := rfl
@[simp] theorem Node.setCrank_can (n : Node) (i : Nat) (x : CrankSt) : (n.setCrank i x).can = n.can := rfl
@[simp] theorem Node.setCrank_umb (n : Node) (i : Nat) (x : CrankSt) : (n.setCrank i x).umb = n.umb := rfl
@[simp] theorem Node.setCrank_oi (n : Node) (i : Nat) (x : CrankSt) (j y c : Nat) : (n.setCrank i x).oi j y c = n.oi j y c := rfl
@[simp] theorem Node.setCrank_o (n : Node) (i : Nat) (x : CrankSt) (y c : Nat) : (n.setCrank i x).o y c = n.o y c := rfl

/-! `setCin` -/

@[simp] theorem Node.setCin_now (n : Node) (f : CinSt → CinSt) : (n.setCin f).now = n.now := rfl
@[simp] theorem Node.setCin_tai (n : Node) (f : CinSt → CinSt) : (n.setCin f).tai = n.tai := rfl
@[simp] theorem Node.setCin_out (n : Node) (f : CinSt → CinSt) : (n.setCin f).out = n.out := rfl
@[simp] theorem Node.setCin_fresh (n : Node) (f : CinSt → CinSt) : (n.setCin f).fresh = n.fresh := rfl
@[simp] theorem Node.setCin_od (n : Node) (f : CinSt → CinSt) : (n.setCin f).od = n.od := rfl
@[simp] theorem Node.setCin_dom (n : Node) (f : CinSt → CinSt) : (n.setCin f).dom = n.dom := rfl
@[simp] theorem Node.setCin_pwr (n : Node) (f : CinSt → CinSt) : (n.setCin f).pwr = n.pwr := rfl
@[simp] theorem Node.setCin_mode (n : Node) (f : CinSt → CinSt) : (n.setCin f).mode = n.mode := rfl
@[simp] theorem Node.setCin_islands (n : Node) (f : CinSt → CinSt) : (n.setCin f).islands = n.islands := rfl
@[simp] theorem Node.setCin_bc (n : Node) (f : CinSt → CinSt) : (n.setCin f).bc = n.bc := rfl
@[simp] theorem Node.setCin_rtc (n : Node) (f : CinSt → CinSt) : (n.setCin f).rtc = n.rtc := rfl
@[simp] theorem Node.setCin_time (n : Node) (f : CinSt → CinSt) : (n.setCin f).time = n.time := rfl
@[simp] theorem Node.setCin_store (n : Node) (f : CinSt → CinSt) : (n.setCin f).store = n.store := rfl
@[simp] theorem Node.setCin_ports (n : Node) (f : CinSt → CinSt) : (n.setCin f).ports = n.ports := rfl
@[simp] theorem Node.setCin_lp (n : Node) (f : CinSt → CinSt) : (n.setCin f).lp = n.lp := rfl
@[simp] theorem Node.setCin_vats (n : Node) (f : CinSt → CinSt) : (n.setCin f).vats = n.vats := rfl
@[simp] theorem Node.setCin_queues (n : Node) (f : CinSt → CinSt) : (n.setCin f).queues = n.queues := rfl
@[simp] theorem Node.setCin_eng (n : Node) (f : CinSt → CinSt) : (n.setCin f).eng = n.eng := rfl
@[simp] theorem Node.setCin_ver (n : Node) (f : CinSt → CinSt) : (n.setCin f).ver = n.ver := rfl
@[simp] theorem Node.setCin_input (n : Node) (f : CinSt → CinSt) : (n.setCin f).input = n.input := rfl
@[simp] theorem Node.setCin_lakes (n : Node) (f : CinSt → CinSt) : (n.setCin f).lakes = n.lakes := rfl
@[simp] theorem Node.setCin_mains (n : Node) (f : CinSt → CinSt) : (n.setCin f).mains = n.mains := rfl
@[simp] theorem Node.setCin_tag (n : Node) (f : CinSt → CinSt) : (n.setCin f).tag = n.tag := rfl
@[simp] theorem Node.setCin_sepOpen (n : Node) (f : CinSt → CinSt) : (n.setCin f).sepOpen = n.sepOpen := rfl
@[simp] theorem Node.setCin_svcPrev (n : Node) (f : CinSt → CinSt) : (n.setCin f).svcPrev = n.svcPrev := rfl
@[simp] theorem Node.setCin_dyn (n : Node) (f : CinSt → CinSt) : (n.setCin f).dyn = n.dyn := rfl
@[simp] theorem Node.setCin_shafts (n : Node) (f : CinSt → CinSt) : (n.setCin f).shafts = n.shafts := rfl
@[simp] theorem Node.setCin_cranks (n : Node) (f : CinSt → CinSt) : (n.setCin f).cranks = n.cranks := rfl
@[simp] theorem Node.setCin_pulses (n : Node) (f : CinSt → CinSt) : (n.setCin f).pulses = n.pulses := rfl
@[simp] theorem Node.setCin_serial (n : Node) (f : CinSt → CinSt) : (n.setCin f).serial = n.serial := rfl
@[simp] theorem Node.setCin_srcLast (n : Node) (f : CinSt → CinSt) : (n.setCin f).srcLast = n.srcLast := rfl
@[simp] theorem Node.setCin_inputFirst (n : Node) (f : CinSt → CinSt) : (n.setCin f).inputFirst = n.inputFirst := rfl
@[simp] theorem Node.setCin_points (n : Node) (f : CinSt → CinSt) : (n.setCin f).points = n.points := rfl
@[simp] theorem Node.setCin_groups (n : Node) (f : CinSt → CinSt) : (n.setCin f).groups = n.groups := rfl
@[simp] theorem Node.setCin_areas (n : Node) (f : CinSt → CinSt) : (n.setCin f).areas = n.areas := rfl
@[simp] theorem Node.setCin_frame (n : Node) (f : CinSt → CinSt) : (n.setCin f).frame = n.frame := rfl
@[simp] theorem Node.setCin_refresh (n : Node) (f : CinSt → CinSt) : (n.setCin f).refresh = n.refresh := rfl
@[simp] theorem Node.setCin_stages (n : Node) (f : CinSt → CinSt) : (n.setCin f).stages = n.stages := rfl
@[simp] theorem Node.setCin_loops (n : Node) (f : CinSt → CinSt) : (n.setCin f).loops = n.loops := rfl
@[simp] theorem Node.setCin_anns (n : Node) (f : CinSt → CinSt) : (n.setCin f).anns = n.anns := rfl
@[simp] theorem Node.setCin_annGroups (n : Node) (f : CinSt → CinSt) : (n.setCin f).annGroups = n.annGroups := rfl
@[simp] theorem Node.setCin_sep (n : Node) (f : CinSt → CinSt) : (n.setCin f).sep = n.sep := rfl
@[simp] theorem Node.setCin_ring (n : Node) (f : CinSt → CinSt) : (n.setCin f).ring = n.ring := rfl
@[simp] theorem Node.setCin_ptp (n : Node) (f : CinSt → CinSt) : (n.setCin f).ptp = n.ptp := rfl
@[simp] theorem Node.setCin_twin (n : Node) (f : CinSt → CinSt) : (n.setCin f).twin = n.twin := rfl
@[simp] theorem Node.setCin_can (n : Node) (f : CinSt → CinSt) : (n.setCin f).can = n.can := rfl
@[simp] theorem Node.setCin_umb (n : Node) (f : CinSt → CinSt) : (n.setCin f).umb = n.umb := rfl
@[simp] theorem Node.setCin_oi (n : Node) (f : CinSt → CinSt) (j y c : Nat) : (n.setCin f).oi j y c = n.oi j y c := rfl
@[simp] theorem Node.setCin_o (n : Node) (f : CinSt → CinSt) (y c : Nat) : (n.setCin f).o y c = n.o y c := rfl

/-! `setVer` -/

@[simp] theorem Node.setVer_now (n : Node) (f : VerSt → VerSt) : (n.setVer f).now = n.now := rfl
@[simp] theorem Node.setVer_tai (n : Node) (f : VerSt → VerSt) : (n.setVer f).tai = n.tai := rfl
@[simp] theorem Node.setVer_out (n : Node) (f : VerSt → VerSt) : (n.setVer f).out = n.out := rfl
@[simp] theorem Node.setVer_fresh (n : Node) (f : VerSt → VerSt) : (n.setVer f).fresh = n.fresh := rfl
@[simp] theorem Node.setVer_od (n : Node) (f : VerSt → VerSt) : (n.setVer f).od = n.od := rfl
@[simp] theorem Node.setVer_dom (n : Node) (f : VerSt → VerSt) : (n.setVer f).dom = n.dom := rfl
@[simp] theorem Node.setVer_pwr (n : Node) (f : VerSt → VerSt) : (n.setVer f).pwr = n.pwr := rfl
@[simp] theorem Node.setVer_mode (n : Node) (f : VerSt → VerSt) : (n.setVer f).mode = n.mode := rfl
@[simp] theorem Node.setVer_islands (n : Node) (f : VerSt → VerSt) : (n.setVer f).islands = n.islands := rfl
@[simp] theorem Node.setVer_bc (n : Node) (f : VerSt → VerSt) : (n.setVer f).bc = n.bc := rfl
@[simp] theorem Node.setVer_rtc (n : Node) (f : VerSt → VerSt) : (n.setVer f).rtc = n.rtc := rfl
@[simp] theorem Node.setVer_time (n : Node) (f : VerSt → VerSt) : (n.setVer f).time = n.time := rfl
@[simp] theorem Node.setVer_store (n : Node) (f : VerSt → VerSt) : (n.setVer f).store = n.store := rfl
@[simp] theorem Node.setVer_ports (n : Node) (f : VerSt → VerSt) : (n.setVer f).ports = n.ports := rfl
@[simp] theorem Node.setVer_lp (n : Node) (f : VerSt → VerSt) : (n.setVer f).lp = n.lp := rfl
@[simp] theorem Node.setVer_vats (n : Node) (f : VerSt → VerSt) : (n.setVer f).vats = n.vats := rfl
@[simp] theorem Node.setVer_queues (n : Node) (f : VerSt → VerSt) : (n.setVer f).queues = n.queues := rfl
@[simp] theorem Node.setVer_eng (n : Node) (f : VerSt → VerSt) : (n.setVer f).eng = n.eng := rfl
@[simp] theorem Node.setVer_input (n : Node) (f : VerSt → VerSt) : (n.setVer f).input = n.input := rfl
@[simp] theorem Node.setVer_lakes (n : Node) (f : VerSt → VerSt) : (n.setVer f).lakes = n.lakes := rfl
@[simp] theorem Node.setVer_mains (n : Node) (f : VerSt → VerSt) : (n.setVer f).mains = n.mains := rfl
@[simp] theorem Node.setVer_cin (n : Node) (f : VerSt → VerSt) : (n.setVer f).cin = n.cin := rfl
@[simp] theorem Node.setVer_tag (n : Node) (f : VerSt → VerSt) : (n.setVer f).tag = n.tag := rfl
@[simp] theorem Node.setVer_sepOpen (n : Node) (f : VerSt → VerSt) : (n.setVer f).sepOpen = n.sepOpen := rfl
@[simp] theorem Node.setVer_svcPrev (n : Node) (f : VerSt → VerSt) : (n.setVer f).svcPrev = n.svcPrev := rfl
@[simp] theorem Node.setVer_dyn (n : Node) (f : VerSt → VerSt) : (n.setVer f).dyn = n.dyn := rfl
@[simp] theorem Node.setVer_shafts (n : Node) (f : VerSt → VerSt) : (n.setVer f).shafts = n.shafts := rfl
@[simp] theorem Node.setVer_cranks (n : Node) (f : VerSt → VerSt) : (n.setVer f).cranks = n.cranks := rfl
@[simp] theorem Node.setVer_pulses (n : Node) (f : VerSt → VerSt) : (n.setVer f).pulses = n.pulses := rfl
@[simp] theorem Node.setVer_serial (n : Node) (f : VerSt → VerSt) : (n.setVer f).serial = n.serial := rfl
@[simp] theorem Node.setVer_srcLast (n : Node) (f : VerSt → VerSt) : (n.setVer f).srcLast = n.srcLast := rfl
@[simp] theorem Node.setVer_inputFirst (n : Node) (f : VerSt → VerSt) : (n.setVer f).inputFirst = n.inputFirst := rfl
@[simp] theorem Node.setVer_points (n : Node) (f : VerSt → VerSt) : (n.setVer f).points = n.points := rfl
@[simp] theorem Node.setVer_groups (n : Node) (f : VerSt → VerSt) : (n.setVer f).groups = n.groups := rfl
@[simp] theorem Node.setVer_areas (n : Node) (f : VerSt → VerSt) : (n.setVer f).areas = n.areas := rfl
@[simp] theorem Node.setVer_frame (n : Node) (f : VerSt → VerSt) : (n.setVer f).frame = n.frame := rfl
@[simp] theorem Node.setVer_refresh (n : Node) (f : VerSt → VerSt) : (n.setVer f).refresh = n.refresh := rfl
@[simp] theorem Node.setVer_stages (n : Node) (f : VerSt → VerSt) : (n.setVer f).stages = n.stages := rfl
@[simp] theorem Node.setVer_loops (n : Node) (f : VerSt → VerSt) : (n.setVer f).loops = n.loops := rfl
@[simp] theorem Node.setVer_anns (n : Node) (f : VerSt → VerSt) : (n.setVer f).anns = n.anns := rfl
@[simp] theorem Node.setVer_annGroups (n : Node) (f : VerSt → VerSt) : (n.setVer f).annGroups = n.annGroups := rfl
@[simp] theorem Node.setVer_sep (n : Node) (f : VerSt → VerSt) : (n.setVer f).sep = n.sep := rfl
@[simp] theorem Node.setVer_ring (n : Node) (f : VerSt → VerSt) : (n.setVer f).ring = n.ring := rfl
@[simp] theorem Node.setVer_ptp (n : Node) (f : VerSt → VerSt) : (n.setVer f).ptp = n.ptp := rfl
@[simp] theorem Node.setVer_twin (n : Node) (f : VerSt → VerSt) : (n.setVer f).twin = n.twin := rfl
@[simp] theorem Node.setVer_can (n : Node) (f : VerSt → VerSt) : (n.setVer f).can = n.can := rfl
@[simp] theorem Node.setVer_umb (n : Node) (f : VerSt → VerSt) : (n.setVer f).umb = n.umb := rfl
@[simp] theorem Node.setVer_oi (n : Node) (f : VerSt → VerSt) (j y c : Nat) : (n.setVer f).oi j y c = n.oi j y c := rfl
@[simp] theorem Node.setVer_o (n : Node) (f : VerSt → VerSt) (y c : Nat) : (n.setVer f).o y c = n.o y c := rfl

/-! `setPwr` -/

@[simp] theorem Node.setPwr_now (n : Node) (f : PowerSt → PowerSt) : (n.setPwr f).now = n.now := rfl
@[simp] theorem Node.setPwr_tai (n : Node) (f : PowerSt → PowerSt) : (n.setPwr f).tai = n.tai := rfl
@[simp] theorem Node.setPwr_out (n : Node) (f : PowerSt → PowerSt) : (n.setPwr f).out = n.out := rfl
@[simp] theorem Node.setPwr_fresh (n : Node) (f : PowerSt → PowerSt) : (n.setPwr f).fresh = n.fresh := rfl
@[simp] theorem Node.setPwr_od (n : Node) (f : PowerSt → PowerSt) : (n.setPwr f).od = n.od := rfl
@[simp] theorem Node.setPwr_dom (n : Node) (f : PowerSt → PowerSt) : (n.setPwr f).dom = n.dom := rfl
@[simp] theorem Node.setPwr_mode (n : Node) (f : PowerSt → PowerSt) : (n.setPwr f).mode = n.mode := rfl
@[simp] theorem Node.setPwr_islands (n : Node) (f : PowerSt → PowerSt) : (n.setPwr f).islands = n.islands := rfl
@[simp] theorem Node.setPwr_bc (n : Node) (f : PowerSt → PowerSt) : (n.setPwr f).bc = n.bc := rfl
@[simp] theorem Node.setPwr_rtc (n : Node) (f : PowerSt → PowerSt) : (n.setPwr f).rtc = n.rtc := rfl
@[simp] theorem Node.setPwr_time (n : Node) (f : PowerSt → PowerSt) : (n.setPwr f).time = n.time := rfl
@[simp] theorem Node.setPwr_store (n : Node) (f : PowerSt → PowerSt) : (n.setPwr f).store = n.store := rfl
@[simp] theorem Node.setPwr_ports (n : Node) (f : PowerSt → PowerSt) : (n.setPwr f).ports = n.ports := rfl
@[simp] theorem Node.setPwr_lp (n : Node) (f : PowerSt → PowerSt) : (n.setPwr f).lp = n.lp := rfl
@[simp] theorem Node.setPwr_vats (n : Node) (f : PowerSt → PowerSt) : (n.setPwr f).vats = n.vats := rfl
@[simp] theorem Node.setPwr_queues (n : Node) (f : PowerSt → PowerSt) : (n.setPwr f).queues = n.queues := rfl
@[simp] theorem Node.setPwr_eng (n : Node) (f : PowerSt → PowerSt) : (n.setPwr f).eng = n.eng := rfl
@[simp] theorem Node.setPwr_ver (n : Node) (f : PowerSt → PowerSt) : (n.setPwr f).ver = n.ver := rfl
@[simp] theorem Node.setPwr_input (n : Node) (f : PowerSt → PowerSt) : (n.setPwr f).input = n.input := rfl
@[simp] theorem Node.setPwr_lakes (n : Node) (f : PowerSt → PowerSt) : (n.setPwr f).lakes = n.lakes := rfl
@[simp] theorem Node.setPwr_mains (n : Node) (f : PowerSt → PowerSt) : (n.setPwr f).mains = n.mains := rfl
@[simp] theorem Node.setPwr_cin (n : Node) (f : PowerSt → PowerSt) : (n.setPwr f).cin = n.cin := rfl
@[simp] theorem Node.setPwr_tag (n : Node) (f : PowerSt → PowerSt) : (n.setPwr f).tag = n.tag := rfl
@[simp] theorem Node.setPwr_sepOpen (n : Node) (f : PowerSt → PowerSt) : (n.setPwr f).sepOpen = n.sepOpen := rfl
@[simp] theorem Node.setPwr_svcPrev (n : Node) (f : PowerSt → PowerSt) : (n.setPwr f).svcPrev = n.svcPrev := rfl
@[simp] theorem Node.setPwr_dyn (n : Node) (f : PowerSt → PowerSt) : (n.setPwr f).dyn = n.dyn := rfl
@[simp] theorem Node.setPwr_shafts (n : Node) (f : PowerSt → PowerSt) : (n.setPwr f).shafts = n.shafts := rfl
@[simp] theorem Node.setPwr_cranks (n : Node) (f : PowerSt → PowerSt) : (n.setPwr f).cranks = n.cranks := rfl
@[simp] theorem Node.setPwr_pulses (n : Node) (f : PowerSt → PowerSt) : (n.setPwr f).pulses = n.pulses := rfl
@[simp] theorem Node.setPwr_serial (n : Node) (f : PowerSt → PowerSt) : (n.setPwr f).serial = n.serial := rfl
@[simp] theorem Node.setPwr_srcLast (n : Node) (f : PowerSt → PowerSt) : (n.setPwr f).srcLast = n.srcLast := rfl
@[simp] theorem Node.setPwr_inputFirst (n : Node) (f : PowerSt → PowerSt) : (n.setPwr f).inputFirst = n.inputFirst := rfl
@[simp] theorem Node.setPwr_points (n : Node) (f : PowerSt → PowerSt) : (n.setPwr f).points = n.points := rfl
@[simp] theorem Node.setPwr_groups (n : Node) (f : PowerSt → PowerSt) : (n.setPwr f).groups = n.groups := rfl
@[simp] theorem Node.setPwr_areas (n : Node) (f : PowerSt → PowerSt) : (n.setPwr f).areas = n.areas := rfl
@[simp] theorem Node.setPwr_frame (n : Node) (f : PowerSt → PowerSt) : (n.setPwr f).frame = n.frame := rfl
@[simp] theorem Node.setPwr_refresh (n : Node) (f : PowerSt → PowerSt) : (n.setPwr f).refresh = n.refresh := rfl
@[simp] theorem Node.setPwr_stages (n : Node) (f : PowerSt → PowerSt) : (n.setPwr f).stages = n.stages := rfl
@[simp] theorem Node.setPwr_loops (n : Node) (f : PowerSt → PowerSt) : (n.setPwr f).loops = n.loops := rfl
@[simp] theorem Node.setPwr_anns (n : Node) (f : PowerSt → PowerSt) : (n.setPwr f).anns = n.anns := rfl
@[simp] theorem Node.setPwr_annGroups (n : Node) (f : PowerSt → PowerSt) : (n.setPwr f).annGroups = n.annGroups := rfl
@[simp] theorem Node.setPwr_sep (n : Node) (f : PowerSt → PowerSt) : (n.setPwr f).sep = n.sep := rfl
@[simp] theorem Node.setPwr_ring (n : Node) (f : PowerSt → PowerSt) : (n.setPwr f).ring = n.ring := rfl
@[simp] theorem Node.setPwr_ptp (n : Node) (f : PowerSt → PowerSt) : (n.setPwr f).ptp = n.ptp := rfl
@[simp] theorem Node.setPwr_twin (n : Node) (f : PowerSt → PowerSt) : (n.setPwr f).twin = n.twin := rfl
@[simp] theorem Node.setPwr_can (n : Node) (f : PowerSt → PowerSt) : (n.setPwr f).can = n.can := rfl
@[simp] theorem Node.setPwr_umb (n : Node) (f : PowerSt → PowerSt) : (n.setPwr f).umb = n.umb := rfl
@[simp] theorem Node.setPwr_oi (n : Node) (f : PowerSt → PowerSt) (j y c : Nat) : (n.setPwr f).oi j y c = n.oi j y c := rfl
@[simp] theorem Node.setPwr_o (n : Node) (f : PowerSt → PowerSt) (y c : Nat) : (n.setPwr f).o y c = n.o y c := rfl

/-! `setStore` -/

@[simp] theorem Node.setStore_now (n : Node) (f : StoreSt → StoreSt) : (n.setStore f).now = n.now := rfl
@[simp] theorem Node.setStore_tai (n : Node) (f : StoreSt → StoreSt) : (n.setStore f).tai = n.tai := rfl
@[simp] theorem Node.setStore_out (n : Node) (f : StoreSt → StoreSt) : (n.setStore f).out = n.out := rfl
@[simp] theorem Node.setStore_fresh (n : Node) (f : StoreSt → StoreSt) : (n.setStore f).fresh = n.fresh := rfl
@[simp] theorem Node.setStore_od (n : Node) (f : StoreSt → StoreSt) : (n.setStore f).od = n.od := rfl
@[simp] theorem Node.setStore_dom (n : Node) (f : StoreSt → StoreSt) : (n.setStore f).dom = n.dom := rfl
@[simp] theorem Node.setStore_pwr (n : Node) (f : StoreSt → StoreSt) : (n.setStore f).pwr = n.pwr := rfl
@[simp] theorem Node.setStore_mode (n : Node) (f : StoreSt → StoreSt) : (n.setStore f).mode = n.mode := rfl
@[simp] theorem Node.setStore_islands (n : Node) (f : StoreSt → StoreSt) : (n.setStore f).islands = n.islands := rfl
@[simp] theorem Node.setStore_bc (n : Node) (f : StoreSt → StoreSt) : (n.setStore f).bc = n.bc := rfl
@[simp] theorem Node.setStore_rtc (n : Node) (f : StoreSt → StoreSt) : (n.setStore f).rtc = n.rtc := rfl
@[simp] theorem Node.setStore_time (n : Node) (f : StoreSt → StoreSt) : (n.setStore f).time = n.time := rfl
@[simp] theorem Node.setStore_ports (n : Node) (f : StoreSt → StoreSt) : (n.setStore f).ports = n.ports := rfl
@[simp] theorem Node.setStore_lp (n : Node) (f : StoreSt → StoreSt) : (n.setStore f).lp = n.lp := rfl
@[simp] theorem Node.setStore_vats (n : Node) (f : StoreSt → StoreSt) : (n.setStore f).vats = n.vats := rfl
@[simp] theorem Node.setStore_queues (n : Node) (f : StoreSt → StoreSt) : (n.setStore f).queues = n.queues := rfl
@[simp] theorem Node.setStore_eng (n : Node) (f : StoreSt → StoreSt) : (n.setStore f).eng = n.eng := rfl
@[simp] theorem Node.setStore_ver (n : Node) (f : StoreSt → StoreSt) : (n.setStore f).ver = n.ver := rfl
@[simp] theorem Node.setStore_input (n : Node) (f : StoreSt → StoreSt) : (n.setStore f).input = n.input := rfl
@[simp] theorem Node.setStore_lakes (n : Node) (f : StoreSt → StoreSt) : (n.setStore f).lakes = n.lakes := rfl
@[simp] theorem Node.setStore_mains (n : Node) (f : StoreSt → StoreSt) : (n.setStore f).mains = n.mains := rfl
@[simp] theorem Node.setStore_cin (n : Node) (f : StoreSt → StoreSt) : (n.setStore f).cin = n.cin := rfl
@[simp] theorem Node.setStore_tag (n : Node) (f : StoreSt → StoreSt) : (n.setStore f).tag = n.tag := rfl
@[simp] theorem Node.setStore_sepOpen (n : Node) (f : StoreSt → StoreSt) : (n.setStore f).sepOpen = n.sepOpen := rfl
@[simp] theorem Node.setStore_svcPrev (n : Node) (f : StoreSt → StoreSt) : (n.setStore f).svcPrev = n.svcPrev := rfl
@[simp] theorem Node.setStore_dyn (n : Node) (f : StoreSt → StoreSt) : (n.setStore f).dyn = n.dyn := rfl
@[simp] theorem Node.setStore_shafts (n : Node) (f : StoreSt → StoreSt) : (n.setStore f).shafts = n.shafts := rfl
@[simp] theorem Node.setStore_cranks (n : Node) (f : StoreSt → StoreSt) : (n.setStore f).cranks = n.cranks := rfl
@[simp] theorem Node.setStore_pulses (n : Node) (f : StoreSt → StoreSt) : (n.setStore f).pulses = n.pulses := rfl
@[simp] theorem Node.setStore_serial (n : Node) (f : StoreSt → StoreSt) : (n.setStore f).serial = n.serial := rfl
@[simp] theorem Node.setStore_srcLast (n : Node) (f : StoreSt → StoreSt) : (n.setStore f).srcLast = n.srcLast := rfl
@[simp] theorem Node.setStore_inputFirst (n : Node) (f : StoreSt → StoreSt) : (n.setStore f).inputFirst = n.inputFirst := rfl
@[simp] theorem Node.setStore_points (n : Node) (f : StoreSt → StoreSt) : (n.setStore f).points = n.points := rfl
@[simp] theorem Node.setStore_groups (n : Node) (f : StoreSt → StoreSt) : (n.setStore f).groups = n.groups := rfl
@[simp] theorem Node.setStore_areas (n : Node) (f : StoreSt → StoreSt) : (n.setStore f).areas = n.areas := rfl
@[simp] theorem Node.setStore_frame (n : Node) (f : StoreSt → StoreSt) : (n.setStore f).frame = n.frame := rfl
@[simp] theorem Node.setStore_refresh (n : Node) (f : StoreSt → StoreSt) : (n.setStore f).refresh = n.refresh := rfl
@[simp] theorem Node.setStore_stages (n : Node) (f : StoreSt → StoreSt) : (n.setStore f).stages = n.stages := rfl
@[simp] theorem Node.setStore_loops (n : Node) (f : StoreSt → StoreSt) : (n.setStore f).loops = n.loops := rfl
@[simp] theorem Node.setStore_anns (n : Node) (f : StoreSt → StoreSt) : (n.setStore f).anns = n.anns := rfl
@[simp] theorem Node.setStore_annGroups (n : Node) (f : StoreSt → StoreSt) : (n.setStore f).annGroups = n.annGroups := rfl
@[simp] theorem Node.setStore_sep (n : Node) (f : StoreSt → StoreSt) : (n.setStore f).sep = n.sep := rfl
@[simp] theorem Node.setStore_ring (n : Node) (f : StoreSt → StoreSt) : (n.setStore f).ring = n.ring := rfl
@[simp] theorem Node.setStore_ptp (n : Node) (f : StoreSt → StoreSt) : (n.setStore f).ptp = n.ptp := rfl
@[simp] theorem Node.setStore_twin (n : Node) (f : StoreSt → StoreSt) : (n.setStore f).twin = n.twin := rfl
@[simp] theorem Node.setStore_can (n : Node) (f : StoreSt → StoreSt) : (n.setStore f).can = n.can := rfl
@[simp] theorem Node.setStore_umb (n : Node) (f : StoreSt → StoreSt) : (n.setStore f).umb = n.umb := rfl
@[simp] theorem Node.setStore_oi (n : Node) (f : StoreSt → StoreSt) (j y c : Nat) : (n.setStore f).oi j y c = n.oi j y c := rfl
@[simp] theorem Node.setStore_o (n : Node) (f : StoreSt → StoreSt) (y c : Nat) : (n.setStore f).o y c = n.o y c := rfl

/-! `setTag` -/

@[simp] theorem Node.setTag_now (n : Node) (f : TagSt → TagSt) : (n.setTag f).now = n.now := rfl
@[simp] theorem Node.setTag_tai (n : Node) (f : TagSt → TagSt) : (n.setTag f).tai = n.tai := rfl
@[simp] theorem Node.setTag_out (n : Node) (f : TagSt → TagSt) : (n.setTag f).out = n.out := rfl
@[simp] theorem Node.setTag_fresh (n : Node) (f : TagSt → TagSt) : (n.setTag f).fresh = n.fresh := rfl
@[simp] theorem Node.setTag_od (n : Node) (f : TagSt → TagSt) : (n.setTag f).od = n.od := rfl
@[simp] theorem Node.setTag_dom (n : Node) (f : TagSt → TagSt) : (n.setTag f).dom = n.dom := rfl
@[simp] theorem Node.setTag_pwr (n : Node) (f : TagSt → TagSt) : (n.setTag f).pwr = n.pwr := rfl
@[simp] theorem Node.setTag_mode (n : Node) (f : TagSt → TagSt) : (n.setTag f).mode = n.mode := rfl
@[simp] theorem Node.setTag_islands (n : Node) (f : TagSt → TagSt) : (n.setTag f).islands = n.islands := rfl
@[simp] theorem Node.setTag_bc (n : Node) (f : TagSt → TagSt) : (n.setTag f).bc = n.bc := rfl
@[simp] theorem Node.setTag_rtc (n : Node) (f : TagSt → TagSt) : (n.setTag f).rtc = n.rtc := rfl
@[simp] theorem Node.setTag_time (n : Node) (f : TagSt → TagSt) : (n.setTag f).time = n.time := rfl
@[simp] theorem Node.setTag_store (n : Node) (f : TagSt → TagSt) : (n.setTag f).store = n.store := rfl
@[simp] theorem Node.setTag_ports (n : Node) (f : TagSt → TagSt) : (n.setTag f).ports = n.ports := rfl
@[simp] theorem Node.setTag_lp (n : Node) (f : TagSt → TagSt) : (n.setTag f).lp = n.lp := rfl
@[simp] theorem Node.setTag_vats (n : Node) (f : TagSt → TagSt) : (n.setTag f).vats = n.vats := rfl
@[simp] theorem Node.setTag_queues (n : Node) (f : TagSt → TagSt) : (n.setTag f).queues = n.queues := rfl
@[simp] theorem Node.setTag_eng (n : Node) (f : TagSt → TagSt) : (n.setTag f).eng = n.eng := rfl
@[simp] theorem Node.setTag_ver (n : Node) (f : TagSt → TagSt) : (n.setTag f).ver = n.ver := rfl
@[simp] theorem Node.setTag_input (n : Node) (f : TagSt → TagSt) : (n.setTag f).input = n.input := rfl
@[simp] theorem Node.setTag_lakes (n : Node) (f : TagSt → TagSt) : (n.setTag f).lakes = n.lakes := rfl
@[simp] theorem Node.setTag_mains (n : Node) (f : TagSt → TagSt) : (n.setTag f).mains = n.mains := rfl
@[simp] theorem Node.setTag_cin (n : Node) (f : TagSt → TagSt) : (n.setTag f).cin = n.cin := rfl
@[simp] theorem Node.setTag_sepOpen (n : Node) (f : TagSt → TagSt) : (n.setTag f).sepOpen = n.sepOpen := rfl
@[simp] theorem Node.setTag_svcPrev (n : Node) (f : TagSt → TagSt) : (n.setTag f).svcPrev = n.svcPrev := rfl
@[simp] theorem Node.setTag_dyn (n : Node) (f : TagSt → TagSt) : (n.setTag f).dyn = n.dyn := rfl
@[simp] theorem Node.setTag_shafts (n : Node) (f : TagSt → TagSt) : (n.setTag f).shafts = n.shafts := rfl
@[simp] theorem Node.setTag_cranks (n : Node) (f : TagSt → TagSt) : (n.setTag f).cranks = n.cranks := rfl
@[simp] theorem Node.setTag_pulses (n : Node) (f : TagSt → TagSt) : (n.setTag f).pulses = n.pulses := rfl
@[simp] theorem Node.setTag_serial (n : Node) (f : TagSt → TagSt) : (n.setTag f).serial = n.serial := rfl
@[simp] theorem Node.setTag_srcLast (n : Node) (f : TagSt → TagSt) : (n.setTag f).srcLast = n.srcLast := rfl
@[simp] theorem Node.setTag_inputFirst (n : Node) (f : TagSt → TagSt) : (n.setTag f).inputFirst = n.inputFirst := rfl
@[simp] theorem Node.setTag_points (n : Node) (f : TagSt → TagSt) : (n.setTag f).points = n.points := rfl
@[simp] theorem Node.setTag_groups (n : Node) (f : TagSt → TagSt) : (n.setTag f).groups = n.groups := rfl
@[simp] theorem Node.setTag_areas (n : Node) (f : TagSt → TagSt) : (n.setTag f).areas = n.areas := rfl
@[simp] theorem Node.setTag_frame (n : Node) (f : TagSt → TagSt) : (n.setTag f).frame = n.frame := rfl
@[simp] theorem Node.setTag_refresh (n : Node) (f : TagSt → TagSt) : (n.setTag f).refresh = n.refresh := rfl
@[simp] theorem Node.setTag_stages (n : Node) (f : TagSt → TagSt) : (n.setTag f).stages = n.stages := rfl
@[simp] theorem Node.setTag_loops (n : Node) (f : TagSt → TagSt) : (n.setTag f).loops = n.loops := rfl
@[simp] theorem Node.setTag_anns (n : Node) (f : TagSt → TagSt) : (n.setTag f).anns = n.anns := rfl
@[simp] theorem Node.setTag_annGroups (n : Node) (f : TagSt → TagSt) : (n.setTag f).annGroups = n.annGroups := rfl
@[simp] theorem Node.setTag_sep (n : Node) (f : TagSt → TagSt) : (n.setTag f).sep = n.sep := rfl
@[simp] theorem Node.setTag_ring (n : Node) (f : TagSt → TagSt) : (n.setTag f).ring = n.ring := rfl
@[simp] theorem Node.setTag_ptp (n : Node) (f : TagSt → TagSt) : (n.setTag f).ptp = n.ptp := rfl
@[simp] theorem Node.setTag_twin (n : Node) (f : TagSt → TagSt) : (n.setTag f).twin = n.twin := rfl
@[simp] theorem Node.setTag_can (n : Node) (f : TagSt → TagSt) : (n.setTag f).can = n.can := rfl
@[simp] theorem Node.setTag_umb (n : Node) (f : TagSt → TagSt) : (n.setTag f).umb = n.umb := rfl
@[simp] theorem Node.setTag_oi (n : Node) (f : TagSt → TagSt) (j y c : Nat) : (n.setTag f).oi j y c = n.oi j y c := rfl
@[simp] theorem Node.setTag_o (n : Node) (f : TagSt → TagSt) (y c : Nat) : (n.setTag f).o y c = n.o y c := rfl

/-! `setTwin` -/

@[simp] theorem Node.setTwin_now (n : Node) (f : TwinSt → TwinSt) : (n.setTwin f).now = n.now := rfl
@[simp] theorem Node.setTwin_tai (n : Node) (f : TwinSt → TwinSt) : (n.setTwin f).tai = n.tai := rfl
@[simp] theorem Node.setTwin_out (n : Node) (f : TwinSt → TwinSt) : (n.setTwin f).out = n.out := rfl
@[simp] theorem Node.setTwin_fresh (n : Node) (f : TwinSt → TwinSt) : (n.setTwin f).fresh = n.fresh := rfl
@[simp] theorem Node.setTwin_od (n : Node) (f : TwinSt → TwinSt) : (n.setTwin f).od = n.od := rfl
@[simp] theorem Node.setTwin_dom (n : Node) (f : TwinSt → TwinSt) : (n.setTwin f).dom = n.dom := rfl
@[simp] theorem Node.setTwin_pwr (n : Node) (f : TwinSt → TwinSt) : (n.setTwin f).pwr = n.pwr := rfl
@[simp] theorem Node.setTwin_mode (n : Node) (f : TwinSt → TwinSt) : (n.setTwin f).mode = n.mode := rfl
@[simp] theorem Node.setTwin_islands (n : Node) (f : TwinSt → TwinSt) : (n.setTwin f).islands = n.islands := rfl
@[simp] theorem Node.setTwin_bc (n : Node) (f : TwinSt → TwinSt) : (n.setTwin f).bc = n.bc := rfl
@[simp] theorem Node.setTwin_rtc (n : Node) (f : TwinSt → TwinSt) : (n.setTwin f).rtc = n.rtc := rfl
@[simp] theorem Node.setTwin_time (n : Node) (f : TwinSt → TwinSt) : (n.setTwin f).time = n.time := rfl
@[simp] theorem Node.setTwin_store (n : Node) (f : TwinSt → TwinSt) : (n.setTwin f).store = n.store := rfl
@[simp] theorem Node.setTwin_ports (n : Node) (f : TwinSt → TwinSt) : (n.setTwin f).ports = n.ports := rfl
@[simp] theorem Node.setTwin_lp (n : Node) (f : TwinSt → TwinSt) : (n.setTwin f).lp = n.lp := rfl
@[simp] theorem Node.setTwin_vats (n : Node) (f : TwinSt → TwinSt) : (n.setTwin f).vats = n.vats := rfl
@[simp] theorem Node.setTwin_queues (n : Node) (f : TwinSt → TwinSt) : (n.setTwin f).queues = n.queues := rfl
@[simp] theorem Node.setTwin_eng (n : Node) (f : TwinSt → TwinSt) : (n.setTwin f).eng = n.eng := rfl
@[simp] theorem Node.setTwin_ver (n : Node) (f : TwinSt → TwinSt) : (n.setTwin f).ver = n.ver := rfl
@[simp] theorem Node.setTwin_input (n : Node) (f : TwinSt → TwinSt) : (n.setTwin f).input = n.input := rfl
@[simp] theorem Node.setTwin_lakes (n : Node) (f : TwinSt → TwinSt) : (n.setTwin f).lakes = n.lakes := rfl
@[simp] theorem Node.setTwin_mains (n : Node) (f : TwinSt → TwinSt) : (n.setTwin f).mains = n.mains := rfl
@[simp] theorem Node.setTwin_cin (n : Node) (f : TwinSt → TwinSt) : (n.setTwin f).cin = n.cin := rfl
@[simp] theorem Node.setTwin_tag (n : Node) (f : TwinSt → TwinSt) : (n.setTwin f).tag = n.tag := rfl
@[simp] theorem Node.setTwin_sepOpen (n : Node) (f : TwinSt → TwinSt) : (n.setTwin f).sepOpen = n.sepOpen := rfl
@[simp] theorem Node.setTwin_svcPrev (n : Node) (f : TwinSt → TwinSt) : (n.setTwin f).svcPrev = n.svcPrev := rfl
@[simp] theorem Node.setTwin_dyn (n : Node) (f : TwinSt → TwinSt) : (n.setTwin f).dyn = n.dyn := rfl
@[simp] theorem Node.setTwin_shafts (n : Node) (f : TwinSt → TwinSt) : (n.setTwin f).shafts = n.shafts := rfl
@[simp] theorem Node.setTwin_cranks (n : Node) (f : TwinSt → TwinSt) : (n.setTwin f).cranks = n.cranks := rfl
@[simp] theorem Node.setTwin_pulses (n : Node) (f : TwinSt → TwinSt) : (n.setTwin f).pulses = n.pulses := rfl
@[simp] theorem Node.setTwin_serial (n : Node) (f : TwinSt → TwinSt) : (n.setTwin f).serial = n.serial := rfl
@[simp] theorem Node.setTwin_srcLast (n : Node) (f : TwinSt → TwinSt) : (n.setTwin f).srcLast = n.srcLast := rfl
@[simp] theorem Node.setTwin_inputFirst (n : Node) (f : TwinSt → TwinSt) : (n.setTwin f).inputFirst = n.inputFirst := rfl
@[simp] theorem Node.setTwin_points (n : Node) (f : TwinSt → TwinSt) : (n.setTwin f).points = n.points := rfl
@[simp] theorem Node.setTwin_groups (n : Node) (f : TwinSt → TwinSt) : (n.setTwin f).groups = n.groups := rfl
@[simp] theorem Node.setTwin_areas (n : Node) (f : TwinSt → TwinSt) : (n.setTwin f).areas = n.areas := rfl
@[simp] theorem Node.setTwin_frame (n : Node) (f : TwinSt → TwinSt) : (n.setTwin f).frame = n.frame := rfl
@[simp] theorem Node.setTwin_refresh (n : Node) (f : TwinSt → TwinSt) : (n.setTwin f).refresh = n.refresh := rfl
@[simp] theorem Node.setTwin_stages (n : Node) (f : TwinSt → TwinSt) : (n.setTwin f).stages = n.stages := rfl
@[simp] theorem Node.setTwin_loops (n : Node) (f : TwinSt → TwinSt) : (n.setTwin f).loops = n.loops := rfl
@[simp] theorem Node.setTwin_anns (n : Node) (f : TwinSt → TwinSt) : (n.setTwin f).anns = n.anns := rfl
@[simp] theorem Node.setTwin_annGroups (n : Node) (f : TwinSt → TwinSt) : (n.setTwin f).annGroups = n.annGroups := rfl
@[simp] theorem Node.setTwin_sep (n : Node) (f : TwinSt → TwinSt) : (n.setTwin f).sep = n.sep := rfl
@[simp] theorem Node.setTwin_ring (n : Node) (f : TwinSt → TwinSt) : (n.setTwin f).ring = n.ring := rfl
@[simp] theorem Node.setTwin_ptp (n : Node) (f : TwinSt → TwinSt) : (n.setTwin f).ptp = n.ptp := rfl
@[simp] theorem Node.setTwin_can (n : Node) (f : TwinSt → TwinSt) : (n.setTwin f).can = n.can := rfl
@[simp] theorem Node.setTwin_umb (n : Node) (f : TwinSt → TwinSt) : (n.setTwin f).umb = n.umb := rfl
@[simp] theorem Node.setTwin_oi (n : Node) (f : TwinSt → TwinSt) (j y c : Nat) : (n.setTwin f).oi j y c = n.oi j y c := rfl
@[simp] theorem Node.setTwin_o (n : Node) (f : TwinSt → TwinSt) (y c : Nat) : (n.setTwin f).o y c = n.o y c := rfl

/-! `setRport` -/

@[simp] theorem Node.setRport_now (n : Node) (i : Nat) (x : RingPort) : (n.setRport i x).now = n.now := rfl
@[simp] theorem Node.setRport_tai (n : Node) (i : Nat) (x : RingPort) : (n.setRport i x).tai = n.tai := rfl
@[simp] theorem Node.setRport_out (n : Node) (i : Nat) (x : RingPort) : (n.setRport i x).out = n.out := rfl
@[simp] theorem Node.setRport_fresh (n : Node) (i : Nat) (x : RingPort) : (n.setRport i x).fresh = n.fresh := rfl
@[simp] theorem Node.setRport_od (n : Node) (i : Nat) (x : RingPort) : (n.setRport i x).od = n.od := rfl
@[simp] theorem Node.setRport_dom (n : Node) (i : Nat) (x : RingPort) : (n.setRport i x).dom = n.dom := rfl
@[simp] theorem Node.setRport_pwr (n : Node) (i : Nat) (x : RingPort) : (n.setRport i x).pwr = n.pwr := rfl
@[simp] theorem Node.setRport_mode (n : Node) (i : Nat) (x : RingPort) : (n.setRport i x).mode = n.mode := rfl
@[simp] theorem Node.setRport_islands (n : Node) (i : Nat) (x : RingPort) : (n.setRport i x).islands = n.islands := rfl
@[simp] theorem Node.setRport_bc (n : Node) (i : Nat) (x : RingPort) : (n.setRport i x).bc = n.bc := rfl
@[simp] theorem Node.setRport_rtc (n : Node) (i : Nat) (x : RingPort) : (n.setRport i x).rtc = n.rtc := rfl
@[simp] theorem Node.setRport_time (n : Node) (i : Nat) (x : RingPort) : (n.setRport i x).time = n.time := rfl
@[simp] theorem Node.setRport_store (n : Node) (i : Nat) (x : RingPort) : (n.setRport i x).store = n.store := rfl
@[simp] theorem Node.setRport_ports (n : Node) (i : Nat) (x : RingPort) : (n.setRport i x).ports = n.ports := rfl
@[simp] theorem Node.setRport_lp (n : Node) (i : Nat) (x : RingPort) : (n.setRport i x).lp = n.lp := rfl
@[simp] theorem Node.setRport_vats (n : Node) (i : Nat) (x : RingPort) : (n.setRport i x).vats = n.vats := rfl
@[simp] theorem Node.setRport_queues (n : Node) (i : Nat) (x : RingPort) : (n.setRport i x).queues = n.queues := rfl
@[simp] theorem Node.setRport_eng (n : Node) (i : Nat) (x : RingPort) : (n.setRport i x).eng = n.eng := rfl
@[simp] theorem Node.setRport_ver (n : Node) (i : Nat) (x : RingPort) : (n.setRport i x).ver = n.ver := rfl
@[simp] theorem Node.setRport_input (n : Node) (i : Nat) (x : RingPort) : (n.setRport i x).input = n.input := rfl
@[simp] theorem Node.setRport_lakes (n : Node) (i : Nat) (x : RingPort) : (n.setRport i x).lakes = n.lakes := rfl
@[simp] theorem Node.setRport_mains (n : Node) (i : Nat) (x : RingPort) : (n.setRport i x).mains = n.mains := rfl
@[simp] theorem Node.setRport_cin (n : Node) (i : Nat) (x : RingPort) : (n.setRport i x).cin = n.cin := rfl
@[simp] theorem Node.setRport_tag (n : Node) (i : Nat) (x : RingPort) : (n.setRport i x).tag = n.tag := rfl
@[simp] theorem Node.setRport_sepOpen (n : Node) (i : Nat) (x : RingPort) : (n.setRport i x).sepOpen = n.sepOpen := rfl
@[simp] theorem Node.setRport_svcPrev (n : Node) (i : Nat) (x : RingPort) : (n.setRport i x).svcPrev = n.svcPrev := rfl
@[simp] theorem Node.setRport_dyn (n : Node) (i : Nat) (x : RingPort) : (n.setRport i x).dyn = n.dyn := rfl
@[simp] theorem Node.setRport_shafts (n : Node) (i : Nat) (x : RingPort) : (n.setRport i x).shafts = n.shafts := rfl
@[simp] theorem Node.setRport_cranks (n : Node) (i : Nat) (x : RingPort) : (n.setRport i x).cranks = n.cranks := rfl
@[simp] theorem Node.setRport_pulses (n : Node) (i : Nat) (x : RingPort) : (n.setRport i x).pulses = n.pulses := rfl
@[simp] theorem Node.setRport_serial (n : Node) (i : Nat) (x : RingPort) : (n.setRport i x).serial = n.serial := rfl
@[simp] theorem Node.setRport_srcLast (n : Node) (i : Nat) (x : RingPort) : (n.setRport i x).srcLast = n.srcLast := rfl
@[simp] theorem Node.setRport_inputFirst (n : Node) (i : Nat) (x : RingPort) : (n.setRport i x).inputFirst = n.inputFirst := rfl
@[simp] theorem Node.setRport_points (n : Node) (i : Nat) (x : RingPort) : (n.setRport i x).points = n.points := rfl
@[simp] theorem Node.setRport_groups (n : Node) (i : Nat) (x : RingPort) : (n.setRport i x).groups = n.groups := rfl
@[simp] theorem Node.setRport_areas (n : Node) (i : Nat) (x : RingPort) : (n.setRport i x).areas = n.areas := rfl
@[simp] theorem Node.setRport_frame (n : Node) (i : Nat) (x : RingPort) : (n.setRport i x).frame = n.frame := rfl
@[simp] theorem Node.setRport_refresh (n : Node) (i : Nat) (x : RingPort) : (n.setRport i x).refresh = n.refresh := rfl
@[simp] theorem Node.setRport_stages (n : Node) (i : Nat) (x : RingPort) : (n.setRport i x).stages = n.stages := rfl
@[simp] theorem Node.setRport_loops (n : Node) (i : Nat) (x : RingPort) : (n.setRport i x).loops = n.loops := rfl
@[simp] theorem Node.setRport_anns (n : Node) (i : Nat) (x : RingPort) : (n.setRport i x).anns = n.anns := rfl
@[simp] theorem Node.setRport_annGroups (n : Node) (i : Nat) (x : RingPort) : (n.setRport i x).annGroups = n.annGroups := rfl
@[simp] theorem Node.setRport_sep (n : Node) (i : Nat) (x : RingPort) : (n.setRport i x).sep = n.sep := rfl
@[simp] theorem Node.setRport_ptp (n : Node) (i : Nat) (x : RingPort) : (n.setRport i x).ptp = n.ptp := rfl
@[simp] theorem Node.setRport_twin (n : Node) (i : Nat) (x : RingPort) : (n.setRport i x).twin = n.twin := rfl
@[simp] theorem Node.setRport_can (n : Node) (i : Nat) (x : RingPort) : (n.setRport i x).can = n.can := rfl
@[simp] theorem Node.setRport_umb (n : Node) (i : Nat) (x : RingPort) : (n.setRport i x).umb = n.umb := rfl
@[simp] theorem Node.setRport_oi (n : Node) (i : Nat) (x : RingPort) (j y c : Nat) : (n.setRport i x).oi j y c = n.oi j y c := rfl
@[simp] theorem Node.setRport_o (n : Node) (i : Nat) (x : RingPort) (y c : Nat) : (n.setRport i x).o y c = n.o y c := rfl

/-! `setPport` -/

@[simp] theorem Node.setPport_now (n : Node) (i : Nat) (x : PtpPort) : (n.setPport i x).now = n.now := rfl
@[simp] theorem Node.setPport_tai (n : Node) (i : Nat) (x : PtpPort) : (n.setPport i x).tai = n.tai := rfl
@[simp] theorem Node.setPport_out (n : Node) (i : Nat) (x : PtpPort) : (n.setPport i x).out = n.out := rfl
@[simp] theorem Node.setPport_fresh (n : Node) (i : Nat) (x : PtpPort) : (n.setPport i x).fresh = n.fresh := rfl
@[simp] theorem Node.setPport_od (n : Node) (i : Nat) (x : PtpPort) : (n.setPport i x).od = n.od := rfl
@[simp] theorem Node.setPport_dom (n : Node) (i : Nat) (x : PtpPort) : (n.setPport i x).dom = n.dom := rfl
@[simp] theorem Node.setPport_pwr (n : Node) (i : Nat) (x : PtpPort) : (n.setPport i x).pwr = n.pwr := rfl
@[simp] theorem Node.setPport_mode (n : Node) (i : Nat) (x : PtpPort) : (n.setPport i x).mode = n.mode := rfl
@[simp] theorem Node.setPport_islands (n : Node) (i : Nat) (x : PtpPort) : (n.setPport i x).islands = n.islands := rfl
@[simp] theorem Node.setPport_bc (n : Node) (i : Nat) (x : PtpPort) : (n.setPport i x).bc = n.bc := rfl
@[simp] theorem Node.setPport_rtc (n : Node) (i : Nat) (x : PtpPort) : (n.setPport i x).rtc = n.rtc := rfl
@[simp] theorem Node.setPport_time (n : Node) (i : Nat) (x : PtpPort) : (n.setPport i x).time = n.time := rfl
@[simp] theorem Node.setPport_store (n : Node) (i : Nat) (x : PtpPort) : (n.setPport i x).store = n.store := rfl
@[simp] theorem Node.setPport_ports (n : Node) (i : Nat) (x : PtpPort) : (n.setPport i x).ports = n.ports := rfl
@[simp] theorem Node.setPport_lp (n : Node) (i : Nat) (x : PtpPort) : (n.setPport i x).lp = n.lp := rfl
@[simp] theorem Node.setPport_vats (n : Node) (i : Nat) (x : PtpPort) : (n.setPport i x).vats = n.vats := rfl
@[simp] theorem Node.setPport_queues (n : Node) (i : Nat) (x : PtpPort) : (n.setPport i x).queues = n.queues := rfl
@[simp] theorem Node.setPport_eng (n : Node) (i : Nat) (x : PtpPort) : (n.setPport i x).eng = n.eng := rfl
@[simp] theorem Node.setPport_ver (n : Node) (i : Nat) (x : PtpPort) : (n.setPport i x).ver = n.ver := rfl
@[simp] theorem Node.setPport_input (n : Node) (i : Nat) (x : PtpPort) : (n.setPport i x).input = n.input := rfl
@[simp] theorem Node.setPport_lakes (n : Node) (i : Nat) (x : PtpPort) : (n.setPport i x).lakes = n.lakes := rfl
@[simp] theorem Node.setPport_mains (n : Node) (i : Nat) (x : PtpPort) : (n.setPport i x).mains = n.mains := rfl
@[simp] theorem Node.setPport_cin (n : Node) (i : Nat) (x : PtpPort) : (n.setPport i x).cin = n.cin := rfl
@[simp] theorem Node.setPport_tag (n : Node) (i : Nat) (x : PtpPort) : (n.setPport i x).tag = n.tag := rfl
@[simp] theorem Node.setPport_sepOpen (n : Node) (i : Nat) (x : PtpPort) : (n.setPport i x).sepOpen = n.sepOpen := rfl
@[simp] theorem Node.setPport_svcPrev (n : Node) (i : Nat) (x : PtpPort) : (n.setPport i x).svcPrev = n.svcPrev := rfl
@[simp] theorem Node.setPport_dyn (n : Node) (i : Nat) (x : PtpPort) : (n.setPport i x).dyn = n.dyn := rfl
@[simp] theorem Node.setPport_shafts (n : Node) (i : Nat) (x : PtpPort) : (n.setPport i x).shafts = n.shafts := rfl
@[simp] theorem Node.setPport_cranks (n : Node) (i : Nat) (x : PtpPort) : (n.setPport i x).cranks = n.cranks := rfl
@[simp] theorem Node.setPport_pulses (n : Node) (i : Nat) (x : PtpPort) : (n.setPport i x).pulses = n.pulses := rfl
@[simp] theorem Node.setPport_serial (n : Node) (i : Nat) (x : PtpPort) : (n.setPport i x).serial = n.serial := rfl
@[simp] theorem Node.setPport_srcLast (n : Node) (i : Nat) (x : PtpPort) : (n.setPport i x).srcLast = n.srcLast := rfl
@[simp] theorem Node.setPport_inputFirst (n : Node) (i : Nat) (x : PtpPort) : (n.setPport i x).inputFirst = n.inputFirst := rfl
@[simp] theorem Node.setPport_points (n : Node) (i : Nat) (x : PtpPort) : (n.setPport i x).points = n.points := rfl
@[simp] theorem Node.setPport_groups (n : Node) (i : Nat) (x : PtpPort) : (n.setPport i x).groups = n.groups := rfl
@[simp] theorem Node.setPport_areas (n : Node) (i : Nat) (x : PtpPort) : (n.setPport i x).areas = n.areas := rfl
@[simp] theorem Node.setPport_frame (n : Node) (i : Nat) (x : PtpPort) : (n.setPport i x).frame = n.frame := rfl
@[simp] theorem Node.setPport_refresh (n : Node) (i : Nat) (x : PtpPort) : (n.setPport i x).refresh = n.refresh := rfl
@[simp] theorem Node.setPport_stages (n : Node) (i : Nat) (x : PtpPort) : (n.setPport i x).stages = n.stages := rfl
@[simp] theorem Node.setPport_loops (n : Node) (i : Nat) (x : PtpPort) : (n.setPport i x).loops = n.loops := rfl
@[simp] theorem Node.setPport_anns (n : Node) (i : Nat) (x : PtpPort) : (n.setPport i x).anns = n.anns := rfl
@[simp] theorem Node.setPport_annGroups (n : Node) (i : Nat) (x : PtpPort) : (n.setPport i x).annGroups = n.annGroups := rfl
@[simp] theorem Node.setPport_sep (n : Node) (i : Nat) (x : PtpPort) : (n.setPport i x).sep = n.sep := rfl
@[simp] theorem Node.setPport_ring (n : Node) (i : Nat) (x : PtpPort) : (n.setPport i x).ring = n.ring := rfl
@[simp] theorem Node.setPport_twin (n : Node) (i : Nat) (x : PtpPort) : (n.setPport i x).twin = n.twin := rfl
@[simp] theorem Node.setPport_can (n : Node) (i : Nat) (x : PtpPort) : (n.setPport i x).can = n.can := rfl
@[simp] theorem Node.setPport_umb (n : Node) (i : Nat) (x : PtpPort) : (n.setPport i x).umb = n.umb := rfl
@[simp] theorem Node.setPport_oi (n : Node) (i : Nat) (x : PtpPort) (j y c : Nat) : (n.setPport i x).oi j y c = n.oi j y c := rfl
@[simp] theorem Node.setPport_o (n : Node) (i : Nat) (x : PtpPort) (y c : Nat) : (n.setPport i x).o y c = n.o y c := rfl

/-! What was set reads back, and every other entry reads as before. -/

@[simp] theorem Node.isl_setIsl_self (n : Node) (i : Nat) (x : IslandSt) : (n.setIsl i x).isl i = x := mapGet_mapPut_self ..
theorem Node.isl_setIsl_ne (n : Node) (i : Nat) (x : IslandSt) {j : Nat} (h : j ≠ i) : (n.setIsl i x).isl j = n.isl j := mapGet_mapPut_ne _ _ h _
@[simp] theorem Node.vat_setVat_self (n : Node) (i : Nat) (x : VatSt) : (n.setVat i x).vat i = x := mapGet_mapPut_self ..
theorem Node.vat_setVat_ne (n : Node) (i : Nat) (x : VatSt) {j : Nat} (h : j ≠ i) : (n.setVat i x).vat j = n.vat j := mapGet_mapPut_ne _ _ h _
@[simp] theorem Node.queue_setQueue_self (n : Node) (i : Nat) (x : QueueSt) : (n.setQueue i x).queue i = x := mapGet_mapPut_self ..
theorem Node.queue_setQueue_ne (n : Node) (i : Nat) (x : QueueSt) {j : Nat} (h : j ≠ i) : (n.setQueue i x).queue j = n.queue j := mapGet_mapPut_ne _ _ h _
@[simp] theorem Node.port_setPort_self (n : Node) (i : Nat) (x : PortSt) : (n.setPort i x).port i = x := mapGet_mapPut_self ..
theorem Node.port_setPort_ne (n : Node) (i : Nat) (x : PortSt) {j : Nat} (h : j ≠ i) : (n.setPort i x).port j = n.port j := mapGet_mapPut_ne _ _ h _
@[simp] theorem Node.ann_setAnn_self (n : Node) (i : Nat) (x : AnnSt) : (n.setAnn i x).ann i = x := mapGet_mapPut_self ..
theorem Node.ann_setAnn_ne (n : Node) (i : Nat) (x : AnnSt) {j : Nat} (h : j ≠ i) : (n.setAnn i x).ann j = n.ann j := mapGet_mapPut_ne _ _ h _
@[simp] theorem Node.area_setArea_self (n : Node) (i : Nat) (x : AreaSt) : (n.setArea i x).area i = x := mapGet_mapPut_self ..
theorem Node.area_setArea_ne (n : Node) (i : Nat) (x : AreaSt) {j : Nat} (h : j ≠ i) : (n.setArea i x).area j = n.area j := mapGet_mapPut_ne _ _ h _
@[simp] theorem Node.canSt_setCan_self (n : Node) (i : Nat) (x : CanSt) : (n.setCan i x).canSt i = x := mapGet_mapPut_self ..
theorem Node.canSt_setCan_ne (n : Node) (i : Nat) (x : CanSt) {j : Nat} (h : j ≠ i) : (n.setCan i x).canSt j = n.canSt j := mapGet_mapPut_ne _ _ h _
@[simp] theorem Node.dynCh_setDyn_self (n : Node) (i : Nat) (x : DynSt) : (n.setDyn i x).dynCh i = x := mapGet_mapPut_self ..
theorem Node.dynCh_setDyn_ne (n : Node) (i : Nat) (x : DynSt) {j : Nat} (h : j ≠ i) : (n.setDyn i x).dynCh j = n.dynCh j := mapGet_mapPut_ne _ _ h _
@[simp] theorem Node.lake_setLake_self (n : Node) (i : Nat) (x : LakeSt) : (n.setLake i x).lake i = x := mapGet_mapPut_self ..
theorem Node.lake_setLake_ne (n : Node) (i : Nat) (x : LakeSt) {j : Nat} (h : j ≠ i) : (n.setLake i x).lake j = n.lake j := mapGet_mapPut_ne _ _ h _
@[simp] theorem Node.loop_setLoop_self (n : Node) (i : Nat) (x : LoopSt) : (n.setLoop i x).loop i = x := mapGet_mapPut_self ..
theorem Node.loop_setLoop_ne (n : Node) (i : Nat) (x : LoopSt) {j : Nat} (h : j ≠ i) : (n.setLoop i x).loop j = n.loop j := mapGet_mapPut_ne _ _ h _
@[simp] theorem Node.pt_setPt_self (n : Node) (i : Nat) (x : PointSt) : (n.setPt i x).pt i = x := mapGet_mapPut_self ..
theorem Node.pt_setPt_ne (n : Node) (i : Nat) (x : PointSt) {j : Nat} (h : j ≠ i) : (n.setPt i x).pt j = n.pt j := mapGet_mapPut_ne _ _ h _
@[simp] theorem Node.grp_setGrp_self (n : Node) (i : Nat) (x : GroupSt) : (n.setGrp i x).grp i = x := mapGet_mapPut_self ..
theorem Node.grp_setGrp_ne (n : Node) (i : Nat) (x : GroupSt) {j : Nat} (h : j ≠ i) : (n.setGrp i x).grp j = n.grp j := mapGet_mapPut_ne _ _ h _
@[simp] theorem Node.serialPort_setSerial_self (n : Node) (i : Nat) (x : SerialSt) : (n.setSerial i x).serialPort i = x := mapGet_mapPut_self ..
theorem Node.serialPort_setSerial_ne (n : Node) (i : Nat) (x : SerialSt) {j : Nat} (h : j ≠ i) : (n.setSerial i x).serialPort j = n.serialPort j := mapGet_mapPut_ne _ _ h _
@[simp] theorem Node.shaft_setShaft_self (n : Node) (i : Nat) (x : ShaftSt) : (n.setShaft i x).shaft i = x := mapGet_mapPut_self ..
theorem Node.shaft_setShaft_ne (n : Node) (i : Nat) (x : ShaftSt) {j : Nat} (h : j ≠ i) : (n.setShaft i x).shaft j = n.shaft j := mapGet_mapPut_ne _ _ h _
@[simp] theorem Node.crank_setCrank_self (n : Node) (i : Nat) (x : CrankSt) : (n.setCrank i x).crank i = x := mapGet_mapPut_self ..
theorem Node.crank_setCrank_ne (n : Node) (i : Nat) (x : CrankSt) {j : Nat} (h : j ≠ i) : (n.setCrank i x).crank j = n.crank j := mapGet_mapPut_ne _ _ h _
@[simp] theorem Node.rport_setRport_self (n : Node) (i : Nat) (x : RingPort) : (n.setRport i x).rport i = x := mapGet_mapPut_self ..
theorem Node.rport_setRport_ne (n : Node) (i : Nat) (x : RingPort) {j : Nat} (h : j ≠ i) : (n.setRport i x).rport j = n.rport j := mapGet_mapPut_ne _ _ h _
@[simp] theorem Node.pport_setPport_self (n : Node) (i : Nat) (x : PtpPort) : (n.setPport i x).pport i = x := mapGet_mapPut_self ..
theorem Node.pport_setPport_ne (n : Node) (i : Nat) (x : PtpPort) {j : Nat} (h : j ≠ i) : (n.setPport i x).pport j = n.pport j := mapGet_mapPut_ne _ _ h _

end Sys2Proof.Machine
end

