-- ==== Sys2Proof/Laws/Acts.lean ====
section
/-!
SUPPORT. Laws/Acts.lean: the forms of a meaning: what each leaves of the queue of commands and of the vats' DRAM, and what
an accepted write of a master does.
-/
namespace Sys2Proof.Machine

/-! ## Objects -/

/-- An object after a write: the value written, or what it was. -/
theorem Node.oi_setI (n : Node) (i idx sub v j jdx jub : Nat) :
    (n.setI i idx sub v).oi j jdx jub = if key j jdx jub = key i idx sub then v else n.oi j jdx jub := by
  split
  · next h => simp [Node.oi, Node.setI, h]
  · next h => exact Node.oi_setI_ne n v h

theorem Node.o_eq (n : Node) (idx sub : Nat) : n.o idx sub = n.oi 0 idx sub := rfl
theorem Node.set_eq (n : Node) (idx sub v : Nat) : n.set idx sub v = n.setI 0 idx sub v := rfl

/-! ## Completions -/

@[simp] theorem Node.begin_done (n : Node) (dt : Nat) : (n.begin dt).eng.done = [] := rfl
@[simp] theorem Node.begin_out (n : Node) (dt : Nat) : (n.begin dt).out = [] := rfl
@[simp] theorem Node.begin_now (n : Node) (dt : Nat) : (n.begin dt).now = n.now + dt := rfl

/-- With no completion waiting nothing settles. -/
theorem settle_of_done {s : State} (h : s.node.eng.done = []) : settle s = s := by
  obtain ⟨p, m, n⟩ := s
  have hd : n.eng.done = [] := h
  have e : ({ n with eng := { n.eng with done := [] } } : Node) = n := by rw [← hd]
  simp only [settle, e]
  rw [hd]
  rfl

@[simp] theorem settle_pending (s : State) : (settle s).pending = s.pending := rfl

/-- One completion stores bytes, or nothing. -/
theorem settleOne_mem (mem : List Host.Cell) (n : Node) (d : DescDone) :
    ∃ ws, (settleOne mem n d).1 = memWriteAll mem ws := by
  have key : ∀ (c : Prop) [Decidable c] (ws : List (Nat × Byte)) (a b : Node),
      ∃ us, (if c then (memWriteAll mem ws, a) else (mem, b)).1 = memWriteAll mem us := by
    intro c _ ws a b
    by_cases hc : c
    · exact ⟨ws, by rw [if_pos hc]⟩
    · exact ⟨[], by rw [if_neg hc]; rfl⟩
  exact key _ _ _ _

theorem settleAll_memWf (mem : List Host.Cell) (n : Node) (ds : List DescDone) (h : memWf mem = true) :
    memWf (settleAll mem n ds).1 = true := by
  induction ds generalizing mem n with
  | nil => exact h
  | cons d r ih =>
    obtain ⟨ws, e⟩ := settleOne_mem mem n d
    exact ih _ _ (e ▸ memWf_memWriteAll h ws)

/-- Settling keeps the canonical form of the DRAM. -/
theorem settle_memWf {s : State} (h : memWf s.vmem = true) : memWf (settle s).vmem = true :=
  settleAll_memWf _ _ _ h

/-- A command that may complete descriptors and completes none. -/
theorem actDone_eq {dt : Nat} {s : State} {f : Node → Node} (h : (f (s.node.begin dt)).eng.done = []) :
    actDone dt s f = .next { s with node := f (s.node.begin dt) } := by
  simp only [actDone]
  rw [settle_of_done]
  exact h

/-! ## Accepted requests -/

/-- An accepted write of an object with no serving of its own: what it does, then the reply 0x0000. -/
theorem askWrite_accepted {dt : Nat} {m : Master} {idx sub : Nat} {data : List Byte} {s : State} {n' : Node}
    (ha : (s.node.begin dt).asks m = true) (hj : (s.node.begin dt).writeJudge m idx sub data = 0)
    (h1 : ¬ (idx = 0x1030 ∧ sub = 0x02)) (h2 : ¬ ((privVat idx).isSome = true ∧ idx = privIdx ((idx - 0xA000) / 0x500) ∧ sub = 0x02))
    (h3 : ¬ (idx = 0x1010 ∧ sub = 0x06 ∧ bits (ofLE data) 15 8 = 1)) (h4 : ¬ (canonIdx idx = 0xF000 ∧ sub = 0x04))
    (hd : (s.node.begin dt).writeDo m .direct idx sub data = (n', false)) (hc : n'.eng.done = []) :
    askWrite dt m idx sub data s = .next { s with node := n'.emit (.reply m 0 []) } := by
  have e : (s.node.begin dt).serveWrite m .direct idx sub data false = n'.emit (.reply m 0 []) := by
    unfold Node.serveWrite
    rw [if_neg (fun h => h1 ⟨h.1, h.2.1⟩), if_neg (fun h => h2 ⟨h.1, h.2.1, h.2.2.1⟩), if_neg (fun h => h3 ⟨h.1, h.2.1, h.2.2.1⟩)]
    simp only [Node.writeOne, hj, hd, ne_eq, not_true_eq_false, if_false, h4, Bool.false_eq_true]
    rfl
  unfold askWrite
  rw [actDone_eq]
  · simp only [Node.when, ha, if_true, e]
  · simp only [Node.when, ha, if_true, e]
    exact hc

end Sys2Proof.Machine
end

