-- ==== Sys2Proof/Laws/Bits.lean ====
section
/-!
SUPPORT. Laws/Bits.lean: bits of words and the little-endian bytes of numbers: what a bit reads after it is set, and that a
number survives its bytes.
-/
namespace Sys2Proof.Machine

@[simp] theorem toLE_length (k v : Nat) : (toLE k v).length = k := by
  induction k generalizing v with
  | zero => rfl
  | succ k ih => simp [toLE, ih]

/-- A number that fits its bytes is what they spell. -/
theorem ofLE_toLE {k v : Nat} (h : v < 256 ^ k) : ofLE (toLE k v) = v := by
  induction k generalizing v with
  | zero => simp at h; simp [toLE, ofLE, h]
  | succ k ih =>
    have hq : v / 256 < 256 ^ k := by
      rw [Nat.div_lt_iff_lt_mul (by decide)]; rwa [pow_succ] at h
    simp only [toLE, ofLE, ih hq, BitVec.toNat_ofNat]
    omega

theorem ofLE_toLE_mod (k v : Nat) : ofLE (toLE k v) = v % 256 ^ k := by
  induction k generalizing v with
  | zero => simp [toLE, ofLE, Nat.mod_one]
  | succ k ih =>
    rw [pow_succ 256 k, Nat.mul_comm (256 ^ k) 256, Nat.mod_mul]
    simp only [toLE, ofLE, ih, BitVec.toNat_ofNat]

/-- The bytes of a bit vector of `8 k` bits spell it. -/
theorem ofLE_toLE_bv {w : Nat} (k : Nat) (x : BitVec w) (h : w ≤ 8 * k) : ofLE (toLE k x.toNat) = x.toNat := by
  refine ofLE_toLE (Nat.lt_of_lt_of_le x.isLt ?_)
  rw [show (256 : Nat) = 2 ^ 8 from rfl, ← pow_mul]
  exact Nat.pow_le_pow_right (by decide) h

@[simp] theorem ofLE_nil : ofLE [] = 0 := rfl
@[simp] theorem ofLE_cons (b : Byte) (bs : List Byte) : ofLE (b :: bs) = b.toNat + 256 * ofLE bs := rfl

theorem bit_setBit (v i j : Nat) (b : Bool) : bit (setBit v i b) j = if j = i then b else bit v j := by
  cases b with
  | true =>
    simp only [bit, setBit, if_true, Nat.testBit_or, Nat.testBit_two_pow]
    by_cases h : i = j <;> simp [h, eq_comm]
  | false =>
    have e : v - v % 2 ^ (i + 1) + v % 2 ^ i = 2 ^ (i + 1) * (v / 2 ^ (i + 1)) + v % 2 ^ i := by
      have := Nat.div_add_mod v (2 ^ (i + 1)); omega
    have hlt : v % 2 ^ i < 2 ^ (i + 1) := Nat.lt_trans (Nat.mod_lt _ (by positivity)) (Nat.pow_lt_pow_right (by decide) (by omega))
    simp only [bit, setBit, Bool.false_eq_true, if_false, e, Nat.testBit_two_pow_mul_add _ hlt, Nat.testBit_mod_two_pow,
      Nat.testBit_div_two_pow]
    by_cases h : j < i + 1
    · simp only [h, if_true]
      by_cases g : j = i
      · simp [g]
      · have : j < i := by omega
        simp [this, g]
    · simp only [h, if_false]
      have : j ≠ i := by omega
      simp only [this, if_false]
      congr 1; omega

@[simp] theorem bit_setBit_self (v i : Nat) (b : Bool) : bit (setBit v i b) i = b := by simp [bit_setBit]
theorem bit_setBit_ne (v : Nat) {i j : Nat} (b : Bool) (h : j ≠ i) : bit (setBit v i b) j = bit v j := by simp [bit_setBit, h]

end Sys2Proof.Machine
end

