-- ==== Sys2Proof/Laws/Settle.lean ====
section
/-!
SUPPORT. Laws/Settle.lean: what storing a command's completions may change: outputs, engines, queues, interrupts, transports
and the objects of queues and of the ring. Everything else of the node stays.
-/
namespace Sys2Proof.Machine

/-- The node without what answering and completing may change. -/
def Node.calm (n : Node) : Node :=
  { n with out := [], eng := {}, queues := [], vats := [], od := [], lp := {}, ring := {}, can := [] }

/-- The objects that answering and completing leave alone. -/
def Node.odCalm (n n' : Node) : Prop :=
  ∀ i idx sub, sub < 256 → idx < 65536 → idx ≠ 0x9100 → idx ≠ 0x3000 → idx ≠ 0x3200 → n'.oi i idx sub = n.oi i idx sub

theorem Node.odCalm_refl (n : Node) : n.odCalm n := fun _ _ _ _ _ _ _ _ => rfl
theorem Node.odCalm_trans {a b c : Node} (h : a.odCalm b) (g : b.odCalm c) : a.odCalm c :=
  fun i x s h1 h2 h3 h4 h5 => (g i x s h1 h2 h3 h4 h5).trans (h i x s h1 h2 h3 h4 h5)
theorem Node.odCalm_of_od {a b : Node} (h : b.od = a.od) : a.odCalm b := fun i x s _ _ _ _ _ => by simp [Node.oi, h]
theorem Node.odCalm_setI (n : Node) (i x b v : Nat) (hb : b < 256) (hx : x = 0x9100 ∨ x = 0x3000 ∨ x = 0x3200) :
    n.odCalm (n.setI i x b v) := by
  intro j y c h1 h2 h3 h4 h5
  rw [Node.oi_setI, if_neg]
  rw [key_inj h2 h1 (by omega) hb]
  omega

/-- What a step of answering or completing does: it keeps the calm part, the calm objects and what was sent before. -/
def Node.calms (n n' : Node) : Prop := n'.calm = n.calm ∧ n.odCalm n' ∧ ∀ o ∈ n.out, o ∈ n'.out

theorem Node.calms_refl (n : Node) : n.calms n := ⟨rfl, n.odCalm_refl, fun _ h => h⟩
theorem Node.calms_trans {a b c : Node} (h : a.calms b) (g : b.calms c) : a.calms c :=
  ⟨g.1.trans h.1, Node.odCalm_trans h.2.1 g.2.1, fun o ho => g.2.2 o (h.2.2 o ho)⟩
/-- A step that leaves the outputs and the objects alone. -/
theorem Node.calms_of_od {a b : Node} (h : b.calm = a.calm) (g : b.od = a.od) (k : b.out = a.out) : a.calms b :=
  ⟨h, Node.odCalm_of_od g, fun _ ho => k ▸ ho⟩
theorem Node.calms_emit (n : Node) (o : Out) : n.calms (n.emit o) :=
  ⟨rfl, Node.odCalm_of_od rfl, fun _ h => List.mem_append_left _ h⟩
theorem Node.calms_setI (n : Node) (i x b v : Nat) (hb : b < 256) (hx : x = 0x9100 ∨ x = 0x3000 ∨ x = 0x3200) :
    n.calms (n.setI i x b v) := ⟨rfl, n.odCalm_setI i x b v hb hx, fun _ h => h⟩
theorem Node.calms_ite {n a b : Node} {c : Prop} [Decidable c] (h : n.calms a) (g : n.calms b) : n.calms (if c then a else b) := by
  split <;> assumption

theorem Node.calms_foldl {α : Type} (f : Node → α → Node) (hf : ∀ (n : Node) a, n.calms (f n a)) (l : List α) (n : Node) :
    n.calms (l.foldl f n) := by
  induction l generalizing n with
  | nil => exact n.calms_refl
  | cons a r ih => exact Node.calms_trans (hf n a) (ih _)

theorem Node.calms_irq (n : Node) (v s : Nat) : n.calms (n.irq v s) := by
  unfold Node.irq
  exact Node.calms_ite n.calms_refl (Node.calms_of_od rfl rfl rfl)

theorem Node.calms_portDrop (n : Node) (p k : Nat) : n.calms (n.portDrop p k) := by
  unfold Node.portDrop
  refine Node.calms_ite n.calms_refl ?_
  exact Node.calms_trans (n.calms_setI _ _ _ _ (by decide) (by decide)) (Node.calms_setI _ _ _ _ _ (by decide) (by decide))

theorem Node.calms_handTo (n : Node) (p : Nat) (f : List Byte) : n.calms (n.handTo p f) := by
  unfold Node.handTo
  refine Node.calms_ite ?_ (Node.calms_ite (Node.calms_of_od rfl rfl rfl) (n.calms_portDrop p 1))
  exact Node.calms_trans (n.calms_setI _ _ _ _ (by decide) (by decide)) (Node.calms_emit _ _)

theorem Node.calms_sendTagged (n : Node) (d : List Byte) (e : Nat) (p : List Byte) : n.calms (n.sendTagged d e p) := by
  unfold Node.sendTagged
  exact Node.calms_trans (Node.calms_trans (n.calms_setI 0 0x3200 0x09 _ (by decide) (by decide)) (Node.calms_handTo _ _ _))
    (Node.calms_handTo _ _ _)

theorem Node.calms_respond (n : Node) (m : Master) (via : Via) (code : Nat) (data : List Byte) :
    n.calms (n.respond m via code data) := by
  cases via with
  | direct => exact n.calms_emit _
  | lp id tag op =>
    simp only [Node.respond, Node.lpRespond]
    exact Node.calms_ite (Node.calms_of_od rfl rfl rfl) n.calms_refl
  | ring mac token op =>
    simp only [Node.respond, Node.ringRespond]
    refine Node.calms_ite n.calms_refl ?_
    exact Node.calms_trans (b := (n.nextSeq 2).2) (Node.calms_of_od rfl rfl rfl) (Node.calms_sendTagged _ _ _ _)
  | can c size toggle id =>
    simp only [Node.respond]
    exact Node.calms_ite (Node.calms_of_od rfl rfl rfl) n.calms_refl
  | od q pos => exact Node.calms_of_od rfl rfl rfl

theorem Node.calms_answerTo (n : Node) (r : Master × Via) (code : Nat) : n.calms (n.answerTo r code) := n.calms_respond ..

theorem Node.calms_passDone (n : Node) (q pos : Nat) : n.calms (n.passDone q pos).1 := by
  have back : ∀ (c : Prop) [Decidable c] (a : Node) (ci : Nat) (w : List (Nat × Byte)), n.calms a →
      n.calms (if c then (a, []) else (a.setI q 0x9100 0x0D ci, w)).1 := by
    intro c _ a ci w ha
    by_cases hc : c
    · rw [if_pos hc]; exact ha
    · rw [if_neg hc]; exact Node.calms_trans ha (Node.calms_setI _ _ _ _ _ (by decide) (by decide))
  have told : ∀ (c : Prop) [Decidable c] (x : QueueSt) (l : List (Master × Via)),
      n.calms (if c then l.foldl (fun n r => n.answerTo r 0) (n.setQueue q x) else n.setQueue q x) := by
    intro c _ x l
    have hq : n.calms (n.setQueue q x) := Node.calms_of_od rfl rfl rfl
    exact Node.calms_ite (Node.calms_trans hq (Node.calms_foldl _ (fun n a => n.calms_answerTo a 0) _ _)) hq
  exact back _ _ _ _ (told _ _ _)

theorem settleOne_calms (mem : List Host.Cell) (n : Node) (d : DescDone) : n.calms (settleOne mem n d).2 := by
  have key : ∀ (c e : Prop) [Decidable c] [Decidable e] (x : List Host.Cell) (a b : Node), n.calms a → n.calms b →
      n.calms (if c then (x, if e then a else b) else (mem, n)).2 := by
    intro c e _ _ x a b ha hb
    by_cases hc : c
    · rw [if_pos hc]; exact Node.calms_ite ha hb
    · rw [if_neg hc]; exact n.calms_refl
  exact key _ _ _ _ _ (Node.calms_trans (n.calms_passDone _ _) (Node.calms_irq _ _ _)) (n.calms_passDone _ _)

theorem settleAll_calms (mem : List Host.Cell) (n : Node) (ds : List DescDone) : n.calms (settleAll mem n ds).2 := by
  induction ds generalizing mem n with
  | nil => exact n.calms_refl
  | cons d r ih => exact Node.calms_trans (settleOne_calms mem n d) (ih _ _)

/-- Storing a command's completions keeps the calm part of the node. -/
theorem settle_calms (s : State) : s.node.calms (settle s).node :=
  Node.calms_trans (b := { s.node with eng := { s.node.eng with done := [] } }) (Node.calms_of_od rfl rfl rfl) (settleAll_calms _ _ _)

@[simp] theorem settle_pwr (s : State) : (settle s).node.pwr = s.node.pwr := (congrArg Node.pwr (settle_calms s).1 :)
@[simp] theorem settle_mode (s : State) : (settle s).node.mode = s.node.mode := (congrArg Node.mode (settle_calms s).1 :)
@[simp] theorem settle_twin (s : State) : (settle s).node.twin = s.node.twin := (congrArg Node.twin (settle_calms s).1 :)
@[simp] theorem settle_store (s : State) : (settle s).node.store = s.node.store := (congrArg Node.store (settle_calms s).1 :)
@[simp] theorem settle_serial (s : State) : (settle s).node.serial = s.node.serial := (congrArg Node.serial (settle_calms s).1 :)
@[simp] theorem settle_sep (s : State) : (settle s).node.sep = s.node.sep := (congrArg Node.sep (settle_calms s).1 :)
@[simp] theorem settle_umb (s : State) : (settle s).node.umb = s.node.umb := (congrArg Node.umb (settle_calms s).1 :)
@[simp] theorem settle_ver (s : State) : (settle s).node.ver = s.node.ver := (congrArg Node.ver (settle_calms s).1 :)
@[simp] theorem settle_now (s : State) : (settle s).node.now = s.node.now := (congrArg Node.now (settle_calms s).1 :)
@[simp] theorem settle_tai (s : State) : (settle s).node.tai = s.node.tai := (congrArg Node.tai (settle_calms s).1 :)

/-- An object outside the queues and the ring keeps its value while completions are stored. -/
theorem settle_oi (s : State) {i idx sub : Nat} (h1 : sub < 256) (h2 : idx < 65536) (h3 : idx ≠ 0x9100) (h4 : idx ≠ 0x3000)
    (h5 : idx ≠ 0x3200) : (settle s).node.oi i idx sub = s.node.oi i idx sub := (settle_calms s).2.1 i idx sub h1 h2 h3 h4 h5

/-- What the command sent stays sent. -/
theorem settle_out (s : State) {o : Out} (h : o ∈ s.node.out) : o ∈ (settle s).node.out := (settle_calms s).2.2 o h

/-- An accepted write, with the completions it brings. -/
theorem askWrite_settles {dt : Nat} {m : Master} {idx sub : Nat} {data : List Byte} {s : State} {n' : Node}
    (ha : (s.node.begin dt).asks m = true) (hj : (s.node.begin dt).writeJudge m idx sub data = 0)
    (h1 : ¬ (idx = 0x1030 ∧ sub = 0x02)) (h2 : ¬ ((privVat idx).isSome = true ∧ idx = privIdx ((idx - 0xA000) / 0x500) ∧ sub = 0x02))
    (h3 : ¬ (idx = 0x1010 ∧ sub = 0x06 ∧ bits (ofLE data) 15 8 = 1)) (h4 : ¬ (canonIdx idx = 0xF000 ∧ sub = 0x04))
    (hd : (s.node.begin dt).writeDo m .direct idx sub data = (n', false)) :
    askWrite dt m idx sub data s = .next (settle { s with node := n'.emit (.reply m 0 []) }) := by
  have e : (s.node.begin dt).serveWrite m .direct idx sub data false = n'.emit (.reply m 0 []) := by
    unfold Node.serveWrite
    rw [if_neg (fun h => h1 ⟨h.1, h.2.1⟩), if_neg (fun h => h2 ⟨h.1, h.2.1, h.2.2.1⟩), if_neg (fun h => h3 ⟨h.1, h.2.1, h.2.2.1⟩)]
    simp only [Node.writeOne, hj, hd, ne_eq, not_true_eq_false, if_false, h4, Bool.false_eq_true]
    rfl
  simp only [askWrite, actDone, Node.when, ha, if_true, e]

/-! ## The frame of every command's form -/

/-- A command that acts while the node is up. -/
theorem act_whenUp {dt : Nat} {s : State} {f : Node → Node} (h : s.node.up = true) :
    (act dt s fun n => n.whenUp f) = .next { s with node := f (s.at_ dt) } := by
  have e : (s.node.begin dt).up = true := h
  simp only [act, Node.whenUp, e, if_true, State.at_]

/-- A command that acts under a condition. -/
theorem act_when {dt : Nat} {s : State} {c : Node → Bool} {f : Node → Node} (h : c (s.at_ dt) = true) :
    (act dt s fun n => n.when (c n) f) = .next { s with node := f (s.at_ dt) } := by
  have e : c (s.node.begin dt) = true := h
  simp only [act, Node.when, e, if_true, State.at_]

/-- A command that acts while the node is up and may complete descriptors. -/
theorem actDone_whenUp {dt : Nat} {s : State} {f : Node → Node} (h : s.node.up = true) :
    (actDone dt s fun n => n.whenUp f) = .next (settle { s with node := f (s.at_ dt) }) := by
  have e : (s.node.begin dt).up = true := h
  simp only [actDone, Node.whenUp, e, if_true, State.at_]

@[simp] theorem nextOf_next (s : State) : nextOf (.next s) = some s := rfl

end Sys2Proof.Machine
end

