-- ==== Sys2Proof/WellFormed.lean ====
section
/-!
DEFINITION. WellFormed.lean: what an operand must be for the command to be one that the block can meet: a value no longer
than a transfer, a frame of a length its medium has, a list in the form its operand asks for. A meaning is total, so a term
that is not well formed still has a next state; it stands for nothing that happens.
-/
namespace Sys2Proof

/-- The longest value of one write (R73). -/
def maxValue : Nat := 1408

/-- A store of a vat's core is 1, 2, 4 or 8 bytes wide, and its value fits. -/
def VatStore.wf (x : VatStore) : Bool :=
  [1, 2, 4, 8].contains x.size.val && decide (x.value.toNat < 256 ^ x.size.val)

/-- A Woad frame carries at most 1,420 bytes of body (Table 10-6). -/
def WoadIn.wf (f : WoadIn) : Bool := decide (f.body.length ≤ 1420)

/-- Keys strictly rising. -/
def rising {α : Type} : List (Nat × α) → Bool
  | [] => true
  | [_] => true
  | a :: b :: r => decide (a.1 < b.1) && rising (b :: r)

/-- The data lengths of CAN FD (Table 13-2). -/
def canSizes : List Nat := [0, 1, 2, 3, 4, 5, 6, 7, 8, 12, 16, 20, 24, 32, 48, 64]

/-- The frame size of a dictionary session, 8 or 64. -/
def canRoom (f64 : Bool) : Nat := if f64 then 64 else 8

/-- Table 13-4: an identifier word has bit 31 clear, and no more than 11 bits of identifier (10 to 0) where bit 30 is clear;
more than 8 bytes and the FD bits BRS and ESI go with FD frames, and a remote frame (bit 29) is a classical one without data. -/
def canFrameWf (ident : BitVec 32) (fdf brs esi : Bool) (data : List Byte) : Bool :=
  let w := ident.toNat
  decide (w < 2 ^ 31) && (w / 2 ^ 30 % 2 == 1 || w / 2 ^ 11 % 2 ^ 18 == 0) && canSizes.contains data.length
    && (fdf || (!brs && !esi && decide (data.length ≤ 8))) && (w / 2 ^ 29 % 2 == 0 || (!fdf && data.isEmpty))

/-- R335: a point's record is 64 bytes, a schedule entry's 16. -/
def TwinBlock.wf : TwinBlock → Bool
  | .point x => x.record.length == 64
  | .group .. => true
  | .area _ => true
  | .sched _ r _ => r.length == 16
  | .limiters p => p.length == 16
  | .frame _ => true

/-- Table 11-2: a command record is 16 bytes. -/
def LinkCommand.wf : LinkCommand → Bool
  | .ask r _ => r.length == 16
  | .answer _ => true

/-- The well-formed commands. -/
def Instr.wf : Instr → Bool
  | .backupSourceRise .. => true
  | .backupSourceFall .. => true
  | .lineInputFeedStart .. => true
  | .lineInputFeedStop .. => true
  | .overvoltageLockoutTrip .. => true
  | .overvoltageLockoutRelease .. => true
  | .lineValid .. => true
  | .roleDecision .. => true
  | .roleDecisionWaitExpiry .. => true
  | .lineLossDetected .. => true
  | .lineLossSequenceEnd .. => true
  | .holdUpShort .. => true
  | .nresetInLow .. => true
  | .nodeResetRelease .. => true
  | .enterCommission .. => true
  | .requestActive .. => true
  | .plannedHandoverToTwin .. => true
  | .commandSafe .. => true
  | .nodeResetCommand .. => true
  | .keeperResetCommand .. => true
  | .vatResetCommand .. => true
  | .lakeResetCommand .. => true
  | .dynamicLakeResetCommand .. => true
  | .ringPortResetCommand .. => true
  | .pciePortResetCommand .. => true
  | .canResetCommand .. => true
  | .serialPortResetCommand .. => true
  | .keeperLockstepMismatch .. => true
  | .keeperServingAgain .. => true
  | .keeperResetHandover .. => true
  | .vatRestart .. => true
  | .canControllerReady .. => true
  | .serialPortReady .. => true
  | .pllLock .. => true
  | .pllLockLost .. => true
  | .timeToken .. => true
  | .latencyCalibration .. => true
  | .broadcastIssue .. => true
  | .broadcastAck .. => true
  | .timedBroadcastAct .. => true
  | .rtcTrimWindow .. => true
  | .rtcTrimPulse .. => true
  | .rtcSecond .. => true
  | .rtcShift .. => true
  | .rtcShiftApply .. => true
  | .rtcSetTime .. => true
  | .periodicWake .. => true
  | .oscillatorStopped .. => true
  | .timeStampCapture .. => true
  | .captureLatch .. => true
  | .syncTimeout .. => true
  | .announceReceiptTimeout .. => true
  | .holdoverLimit .. => true
  | .leapSecond .. => true
  | .odRead .. => true
  | .odInformation .. => true
  | .registerWrite _ _ _ _ data => 1 ≤ data.length && data.length ≤ maxValue
  | .commit .. => true
  | .commissioningReset .. => true
  | .discard .. => true
  | .commitComplete .. => true
  | .bankSectorErased .. => true
  | .dataPortClaim _ _ _ target => target != 0#32
  | .dataPortRelease .. => true
  | .dataPortSetOffset .. => true
  | .dataPortOpen .. => true
  | .dataPortBurst _ _ _ data _ => match data with | none => true | some d => 1 ≤ d.length && d.length ≤ maxValue
  | .dataPortApplyDone .. => true
  | .dataPortHoldTimeout .. => true
  | .request .. => true
  | .status .. => true
  | .response .. => true
  | .resync .. => true
  | .apply .. => true
  | .vatAccessFault .. => true
  | .timerInterrupt _ _ stores => stores.all VatStore.wf
  | .interruptClaim _ _ _ stores => stores.all VatStore.wf
  | .interruptComplete _ _ _ _ stores => stores.all VatStore.wf
  | .doorbellWrite _ _ _ _ stores => stores.all VatStore.wf
  | .engineGrant .. => true
  | .queueEnable .. => true
  | .queueDisable .. => true
  | .declare .. => true
  | .scanStart .. => true
  | .conversionEnd .. => true
  | .lakeReadingRelease .. => true
  | .contactBandChange .. => true
  | .wireBreak .. => true
  | .pulseTest .. => true
  | .breakClear .. => true
  | .mainsZeroCrossing .. => true
  | .mainsFrequencySend .. => true
  | .mainsReferenceLost .. => true
  | .takeOut .. => true
  | .test .. => true
  | .returnToService .. => true
  | .takingOutEnd .. => true
  | .testDone .. => true
  | .returningEnd .. => true
  | .lakeResetDone .. => true
  | .sampleSlotDelivery .. => true
  | .repeatPeriodEnd .. => true
  | .dynamicSample .. => true
  | .dynamicSummary .. => true
  | .rmsPeakUpdate .. => true
  | .overload .. => true
  | .chargeResetEnd .. => true
  | .integratorReset .. => true
  | .iepeBiasFault .. => true
  | .dynamicReferenceCheck .. => true
  | .shaftEdge .. => true
  | .standstillTimeout .. => true
  | .speedWindowEnd .. => true
  | .shaftOpen .. => true
  | .compareFire .. => true
  | .comparePulseEnd .. => true
  | .compareEntriesWrite .. => true
  | .angleSample .. => true
  | .cycleWindowEnd .. => true
  | .serialRequest .. => true
  | .serialFrameEnd .. => true
  | .frameClose .. => true
  | .onDelayExpiry .. => true
  | .offDelayExpiry .. => true
  | .suppressionRelease .. => true
  | .stale .. => true
  | .rateWindowEnd .. => true
  | .shelveExpiry .. => true
  | .firstOutWindowEnd .. => true
  | .callEscalation .. => true
  | .answerTimeout .. => true
  | .transferTimeout .. => true
  | .esPrewarn .. => true
  | .esExpired .. => true
  | .callMessageRepeat .. => true
  | .remoteStale .. => true
  | .ackPoint .. => true
  | .ackGroup .. => true
  | .ackArea .. => true
  | .silence .. => true
  | .shelve .. => true
  | .unshelve .. => true
  | .outOfService .. => true
  | .inService .. => true
  | .offer .. => true
  | .accept .. => true
  | .reject .. => true
  | .take .. => true
  | .attended .. => true
  | .unattended .. => true
  | .answer .. => true
  | .esOn .. => true
  | .esReset .. => true
  | .esOff .. => true
  | .rearm .. => true
  | .cancelScheduled .. => true
  | .counterClear .. => true
  | .pointConfigWrite _ _ _ _ data => 1 ≤ data.length && data.length ≤ maxValue
  | .limiterTick .. => true
  | .loopConditionSet .. => true
  | .loopConditionClear .. => true
  | .loopSupplyLow .. => true
  | .transmit _ _ _ data => data.length ≤ maxValue
  | .transmitDone .. => true
  | .characterReceived .. => true
  | .receive .. => true
  | .blankingEnd .. => true
  | .hardShort .. => true
  | .softOvercurrent .. => true
  | .openLoad .. => true
  | .restartDelayExpiry .. => true
  | .failureCountRestart .. => true
  | .groupRelease .. => true
  | .automaticRestart .. => true
  | .restartSlot .. => true
  | .annunciatorRelease .. => true
  | .annunciatorSupplyLow .. => true
  | .annunciatorSupplyRestored .. => true
  | .linkUp .. => true
  | .linkLost .. => true
  | .trainingTimeout .. => true
  | .failedAttempt .. => true
  | .marginLow .. => true
  | .marginClear .. => true
  | .bypassChangeDone .. => true
  | .bypassForceClose .. => true
  | .bypassRelease .. => true
  | .ringFrameReceived .. => true
  | .hsrSupervision .. => true
  | .nodeForget .. => true
  | .ringOpen .. => true
  | .ptpSyncReceived .. => true
  | .ptpFollowUpReceived .. => true
  | .pdelayReqSend .. => true
  | .pdelayReqReceived .. => true
  | .pdelayRespReceived .. => true
  | .announceReceived .. => true
  | .ptpSyncSend .. => true
  | .dictionaryRequest _ f => f.wf
  | .publication _ f => f.wf
  | .alarmEvents _ f => f.wf
  | .heartbeat _ f => f.wf
  | .nodeHeartbeatSend .. => true
  | .twinRingHeartbeatSend .. => true
  | .twinRingHeartbeat .. => true
  | .snapshotMarkerCommand .. => true
  | .snapshotScheduledCommand .. => true
  | .marker _ f => f.wf
  | .order _ f => f.wf
  | .ack _ f => f.wf
  | .snapshotCollectionEnd .. => true
  | .vatFrame _ type f => 0x40 ≤ type.toNat && type.toNat ≤ 0x7F && f.wf
  | .twinLinkHeartbeatSend .. => true
  | .twinLinkHeartbeat .. => true
  | .twinLinkSilent .. => true
  | .readings .. => true
  | .close .. => true
  | .closeContinuation .. => true
  | .state _ _ _ blocks => blocks.all TwinBlock.wf
  | .command _ _ _ cmd => cmd.wf
  | .commandReplyTimeout .. => true
  | .handover .. => true
  | .digest .. => true
  | .digestSend .. => true
  | .stateTransferDone .. => true
  | .replayDone .. => true
  | .ownInFall .. => true
  | .ownInRise .. => true
  | .takeover .. => true
  | .twinInterlockFault .. => true
  | .ownDrop .. => true
  | .forceAssert .. => true
  | .forceHoldEnd .. => true
  | .forceInRise .. => true
  | .takebackRequest .. => true
  | .lakeSelfTest .. => true
  | .outputLoopback .. => true
  | .memoryScrubPass .. => true
  | .interlockLineTest .. => true
  | .lineTestUnreported .. => true
  | .clone .. => true
  | .cloneDone _ _ objs doms _ => rising objs && rising doms
  | .pcieLinkUp _ _ _ _ found => found.length ≤ 8
  | .presenceChange .. => true
  | .adopt .. => true
  | .prepareRemoval .. => true
  | .keep .. => true
  | .forget .. => true
  | .removalReady .. => true
  | .nvmeCompletion .. => true
  | .nvmeCommandTimeout .. => true
  | .smartRead .. => true
  | .asynchronousEvent .. => true
  | .sealAge .. => true
  | .recordWriteComplete .. => true
  | .indexCheckpoint .. => true
  | .indexRebuildDone .. => true
  | .archiveReadDone .. => true
  | .query .. => true
  | .queryReady .. => true
  | .thinningSegment .. => true
  | .canFrameReceived _ _ ident fdf brs esi data _ => canFrameWf ident fdf brs esi data
  | .canIntegration .. => true
  | .busOffRecovery .. => true
  | .canError _ _ _ _ step => step.val == 0 || step.val == 1 || step.val == 8
  | .canFrameSent .. => true
  | .sleep .. => true
  | .wake .. => true
  | .dominantWake .. => true
  | .recover .. => true
  | .initRead .. => true
  | .initWrite _ _ f64 _ _ _ _ bytes => bytes.length ≤ canRoom f64 - 6
  | .info .. => true
  | .segment _ _ f64 _ bytes => bytes.length ≤ canRoom f64 - 1
  | .abort .. => true
  | .sessionTimeout .. => true
  | .updateRequest .. => true
  | .copyDone .. => true
  | .panelChecks .. => true
  | .panelFrameBoundary .. => true
  | .railStep .. => true
  | .railFault .. => true
  | .railIdle .. => true
  | .railCommand .. => true
  | .dischargeEnd .. => true
  | .faultMessage _ _ hw => match hw with | none => true | some h => [0x07, 0x08, 0x60].contains h.kind.toNat
  | .bucketBoundary .. => true
  | .clearLatch .. => true
  | .raise .. => true
  | .clearNodeCapture .. => true
  | .clearVatCapture .. => true
  | .isolationRelease .. => true
  | .kindRuleWrite .. => true
  | .overrideCountWrite .. => true
  | .faultFrameSend .. => true
  | .extend _ _ data => data.length ≤ maxValue
  | .quoteRequest _ _ data => data.length ≤ maxValue
  | .quoteReady .. => true
  | .loaderRetry .. => true
  | .inventory _ _ maskLen _ _ => maskLen ≤ 64
  | .stayQuiet .. => true
  | .select .. => true
  | .resetToReady .. => true
  | .getSystemInformation .. => true
  | .extendedGetSystemInformation .. => true
  | .extendedReadSingleBlock .. => true
  | .extendedWriteSingleBlock .. => true
  | .extendedReadMultipleBlocks .. => true
  | .unsupportedTagCommand .. => true
  | .tagPageWrite _ _ data => data.length ≤ maxValue
  | .nresetInHigh .. => true
  | .forceInFall .. => true
  | .twinLinkUp .. => true
  | .twinLinkLaneLost .. => true
  | .twinDetNChange .. => true
  | .carrierChange .. => true
  | .fieldPresentChange .. => true

end Sys2Proof
end

