-- ==== Sys2Proof/Tests/Slice0.lean ====
section
/-!
SUPPORT. Tests/Slice0.lean: the smoke tests of WellFormed, tests against the spec's worked examples, and for every statement
with hypotheses the states and operands that meet them, clause by clause, as `meets_<the statement>`.
-/
namespace Sys2Proof.Tests
open Sys2Proof Sys2Proof.Machine
set_option Elab.async false

/-! ## WellFormed: one ill-formed term for each check -/

theorem test_wf_write_empty : (Instr.registerWrite 0 .localPort 0x1010 2 []).wf = false := by decide
theorem test_wf_write_long : (Instr.registerWrite 0 .localPort 0x1010 2 (List.replicate 1409 0)).wf = false := by decide +kernel
theorem test_wf_write : (Instr.registerWrite 0 .localPort 0x1010 2 [3]).wf = true := by decide
theorem test_wf_claim_zero : (Instr.dataPortClaim 0 .localPort 3 0).wf = false := by decide
theorem test_wf_burst_empty : (Instr.dataPortBurst 0 .localPort 3 (some []) false).wf = false := by decide
theorem test_wf_burst_read : (Instr.dataPortBurst 0 .localPort 3 none false).wf = true := by decide
theorem test_wf_store_width : (Instr.timerInterrupt 0 3 [⟨0x80000000, 3, 1, false⟩]).wf = false := by decide
theorem test_wf_store_value : (Instr.interruptClaim 0 3 .machine [⟨0x80000000, 2, 65536, false⟩]).wf = false := by decide
theorem test_wf_store_complete : (Instr.interruptComplete 0 3 .machine 5 [⟨0x80000000, 0, 0, false⟩]).wf = false := by decide
theorem test_wf_store_doorbell : (Instr.doorbellWrite 0 3 0 0 [⟨0x80000000, 8, 65536, false⟩]).wf = true := by decide
theorem test_wf_point_write : (Instr.pointConfigWrite 0 .localPort 0 2 []).wf = false := by decide
theorem test_wf_transmit : (Instr.transmit 0 .localPort 0 (List.replicate 1409 0)).wf = false := by decide +kernel
theorem test_wf_body (f : WoadIn) (h : f.body.length = 1421) : (Instr.heartbeat 0 f).wf = false := by
  simp [Instr.wf, WoadIn.wf, h]
theorem test_wf_vat_type (f : WoadIn) : (Instr.vatFrame 0 0x3F f).wf = false ∧ (Instr.vatFrame 0 0x80 f).wf = false := by
  constructor <;> simp [Instr.wf]
theorem test_wf_image : (Instr.state 0 0 true [.sched 0 [] false]).wf = false ∧ (Instr.state 0 0 true [.limiters []]).wf = false := by decide
theorem test_wf_command : (Instr.command 0 0 true (.ask [] .localPort)).wf = false := by decide
theorem test_wf_clone : (Instr.cloneDone 0 true [(2, 0), (1, 0)] [] []).wf = false ∧ (Instr.cloneDone 0 true [] [(1, []), (1, [])] []).wf = false := by
  decide
theorem test_wf_namespaces (f : Namespace) : (Instr.pcieLinkUp 0 0 3 4 (List.replicate 9 f)).wf = false := by simp [Instr.wf]
theorem test_wf_can_disable : (Instr.canFrameReceived 0 0 0x80000000 false false false [] 0).wf = false := by decide
theorem test_wf_can_standard : (Instr.canFrameReceived 0 0 0x800 false false false [] 0).wf = false := by decide
theorem test_wf_can_size : (Instr.canFrameReceived 0 0 5 true false false (List.replicate 9 0) 0).wf = false := by decide
theorem test_wf_can_classical : (Instr.canFrameReceived 0 0 5 false true false [] 0).wf = false := by decide
theorem test_wf_can_remote : (Instr.canFrameReceived 0 0 0x20000005 false false false [1] 0).wf = false := by decide
theorem test_wf_can_error : (Instr.canError 0 0 1 true 2).wf = false := by decide
theorem test_wf_can_init : (Instr.initWrite 0 0 false false 0x1010 2 3 [1, 2, 3]).wf = false := by decide
theorem test_wf_can_segment : (Instr.segment 0 0 false false (List.replicate 8 0)).wf = false := by decide
theorem test_wf_message : (Instr.faultMessage 0 0 (some ⟨0x20, 0, 0, 0⟩)).wf = false := by decide
theorem test_wf_extend : (Instr.extend 0 .localPort (List.replicate 1409 0)).wf = false := by decide +kernel
theorem test_wf_quote : (Instr.quoteRequest 0 .localPort (List.replicate 1409 0)).wf = false := by decide +kernel
theorem test_wf_page : (Instr.tagPageWrite 0 .localPort (List.replicate 1409 0)).wf = false := by decide +kernel
theorem test_wf_mask : (Instr.inventory 0 none 65 0 false).wf = false := by decide

/-! ## The queue, the reset state, and the table's words -/

theorem test_no_word_decodes : decodeTableWord 16 0 = none := rfl
theorem test_reset_invariant : State.reset.Inv := rfl
/-- Meets the hypothesis of StepTakesTheFront, and those of StepKeepsInv. -/
theorem meets_StepTakesTheFront : ({ State.reset with pending := [.nresetInHigh 5] } : State).pending = .nresetInHigh 5 :: [] := rfl
theorem meets_StepKeepsInv : ({ State.reset with pending := [.nresetInHigh 5] } : State).Inv ∧
    nextOf (step { State.reset with pending := [.nresetInHigh 5] }) ≠ none := by
  constructor
  · rfl
  · decide +kernel

/-! ## The spec's worked examples and published check values -/

/-- Chapter 13, after R374: the defaults are valid; data TSEG1 7 and TSEG2 2 need SJW 2. -/
theorem test_can_timing : timingValid [1, 127, 32, 32, 1, 29, 10, 10] = true ∧ timingValid [1, 127, 32, 32, 1, 7, 2, 2] = true
    ∧ timingValid [1, 127, 32, 32, 1, 7, 2, 10] = false := by decide
/-- Chapter 15: four messages in buckets 160, 164, 171 and 175 sum to 4; with the fourth in bucket 176 they sum to 3. -/
theorem test_buckets : let x := (((({} : PairSt).shiftTo 160).count.shiftTo 164).count.shiftTo 171).count
    sumBuckets (x.shiftTo 175).count.buckets = 4 ∧ sumBuckets (x.shiftTo 176).count.buckets = 3 := by decide
/-- Chapter 15: W = 1,000 ms gives buckets of 62.5 ms. -/
theorem test_bucket_width : bucketNs 1000 = 62500000 := by decide
/-- Chapter 14: B overlaps A, C overlaps neither. -/
theorem test_panel_overlap : overlaps { x := 1024, y := 768, w := 512, h := 384 } { w := 1280, h := 960 } = true
    ∧ overlaps { x := 1536, w := 1024, h := 960 } { w := 1280, h := 960 } = false
    ∧ overlaps { x := 1536, w := 1024, h := 960 } { x := 1024, y := 768, w := 512, h := 384 } = false := by decide
/-- Chapter 06: T = 1 / 59.82 Hz and rate code 2 give a window of 4 T = 66.867 ms for each phase of a 3-wire RTD. -/
theorem test_lake_window : windowNs 2 true 3 (2991 / 50) = 66867268 := by decide +kernel
/-- Chapter 09: from code 30,000 at 2 mA/s towards 45,000 the output stands at 30,001 after two ticks more than 20 µs need not
exceed, and never passes its target. -/
theorem test_limiter : presentCode (limiterStep 2 4 45000 (30000 * 2 ^ 32)) = 30000 ∧ limiterStep 2 4 32500 (32500 * 2 ^ 32) = 32500 * 2 ^ 32
    ∧ limiterStep 0 4 45000 0 = 45000 * 2 ^ 32 ∧ limiterStep 2 4 0 1 = 0 := by decide +kernel
/-- CRC-32 of "123456789", the published check value of the polynomial that the spec names. -/
theorem test_crc32 : crc32 [0x31, 0x32, 0x33, 0x34, 0x35, 0x36, 0x37, 0x38, 0x39] = 0xCBF43926 := by decide +kernel
/-- SHA-384 of "abc": its first eight bytes, from FIPS 180-4. -/
theorem test_sha384 : (sha384 [0x61, 0x62, 0x63]).take 8 = [0xCB, 0x00, 0x75, 0x3F, 0x45, 0xA3, 0x5E, 0x8B] := by decide +kernel

/-! ## States for the tests -/

/-- The local port as master; a node with objects at values; a state with that node. -/
def lp : Master := .localPort
def N (l : List (Nat × Nat × Nat × Nat)) : Node := l.foldl (fun n e => n.setI e.1 e.2.1 e.2.2.1 e.2.2.2) {}
def S (n : Node) : State := { pending := [], vmem := [], node := n }
def U (n : Node) : Node := (S n).at_ 0
/-- Nodes in ACTIVE, COMMISSION, STANDBY and SAFE. -/
def nA (l : List (Nat × Nat × Nat × Nat)) : Node := N ((0, 0x1010, 0x01, 4) :: l)
def nC (l : List (Nat × Nat × Nat × Nat)) : Node := N ((0, 0x1010, 0x01, 3) :: l)
def nS (l : List (Nat × Nat × Nat × Nat)) : Node := N ((0, 0x1010, 0x01, 5) :: l)
/-- A node, and a broadcast that a time step orders. -/
def bStep : Bcast := { kind := .timeStep 5, time := some 0 }
def tA (n : Node) (now : Nat) : Node := { n with now := now }
/-- Port `p` of a COMMISSION node with a state and a target. -/
def nP (p t : Nat) (x : PortSt) : Node := { nC [(0, portIdx p, 0x01, t), (0, portIdx p, 0x03, 16)] with ports := [(p, x)] }
/-- A queue of type `ty` of a running vat 0, with its first two indices. -/
def nQ (ty st pi ci : Nat) : Node := { nA [(0, 0x9000, 0x07, 2), (0, 0x9100, 0x03, ty), (0, 0x9100, 0x04, 4), (0, 0x9100, 0x0B, st), (0, 0x9100, 0x0C, pi), (0, 0x9100, 0x0D, ci), (0, 0x9100, 0x0A, 1)] with vats := [(0, { countQ := 4, allotMiB := 256, enabled := true })], queues := [(0, {})] }
/-- Lake 31 converting pin 7, a copy in force at its island. -/
def nL : Node := { nA [(52, 0x2100, 0x06, 1), (0, pinIdx 31 7, 0x01, 1)] with lakes := [(31, { c1 := { running := true, list := [7], cfg := [(key 0 (pinIdx 31 7) 0x01, 1)] } })] }
/-- Pins of lake 31: 0 to 3 and a contact on 7. -/
def nPin (m0 : Nat) : Node := { nA [(52, 0x2100, 0x06, 1), (0, pinIdx 31 0, 0x01, m0), (0, pinIdx 31 1, 0x01, 13), (0, pinIdx 31 2, 0x01, 13), (0, pinIdx 31 3, 0x01, 13), (0, pinIdx 31 0, 0x16, 1), (0, pinIdx 31 7, 0x01, 12)] with now := 100000000 }
/-- A node whose mains frequency is its converters' reference. -/
def nM : Node := { nA [(0, 0x4800, 0x02, 1), (0, 0x4800, 0x04, 1)] with mains := { lastValid := some 50 } }
/-- Dynamic channel 31 in a mode, a copy in force at the islands of dynamic lakes 7 and 0. -/
def nD (m : Nat) (l : List (Nat × Nat × Nat × Nat)) : Node := nA ([(60, 0x2100, 0x06, 1), (53, 0x2100, 0x06, 1), (0, dynIdx 31, 0x01, m), (0, dynIdx 31, 0x0A, 0x3F800000)] ++ l)
/-- Shaft inputs: 15 alone, 0 and 1 as an encoder with cam level and index, a domain on them. -/
def nSh : Node := { nA [(15, 0x5500, 0x02, 1), (15, 0x5500, 0x09, 1), (15, 0x5500, 0x0A, 1), (0, 0x5500, 0x02, 2), (0, 0x5500, 0x08, 360), (1, 0x5500, 0x02, 3), (2, 0x5500, 0x02, 4), (15, 0x5500, 0x0E, 1), (2, 0x5400, 0x04, 0), (2, 0x5400, 0x03, 0), (2, 0x5400, 0x05, 2), (2, 0x5400, 0x13, 4)] with shafts := [(15, { hist := [0], standstill := false })], now := 1000000 }
/-- Crank domain 2 SYNCHRONISED, a table in force, samples of channel 31 by angle. -/
def nCr : Node := { nA [(2, 0x5400, 0x13, 4), (2, 0x5400, 0x03, 0), (2, 0x5400, 0x0B, 20), (2, 0x5400, 0x09, 0), (0, dynIdx 31, 0x08, 2), (0, dynIdx 31, 0x07, 1), (0, dynIdx 31, 0x09, 10), (cylInst 2 19, 0x5400, 0x22, 31), (2, 0x5400, 0x0F, 0), (0, dynIdx 31, 0x0D, 0)] with cranks := [(2, { table := [0], counts := [(100, 2000), (0, 1000)] })], dyn := [(31, { samples := [⟨3000, 0, 0⟩, ⟨2000, 0, 0⟩, ⟨1000, 0, 0⟩, ⟨0, 0, 0⟩], angles := ((List.range 360).map fun i => { angle := (1800 + 10 * i) % 3600 }).reverse })], dom := [(key 2 0x5400 0x0C, List.replicate 14400 0)] }
/-- Serial port 7 on. -/
def nSer (l : List (Nat × Nat × Nat × Nat)) (x : SerialSt) : Node := { nA ((7, 0x5600, 0x02, 1) :: l) with serial := [(7, x)] }
/-- Location 0 is a bridge of this node that holds area 0; group 0 has a capture. -/
def nOp (x : AreaSt) : Node := { nA [(0, 0x6200, 0x07, 2)] with areas := [(0, x)], dom := [(key 0 0x6300 0x20, [1, 0, 0, 0, 0, 0, 1, 0, 1, 0, 0, 0, 0, 0, 1, 0])] }
/-- Frames started, the frame island's copy in force. -/
def nF (l : List (Nat × Nat × Nat × Nat)) : Node := { nA ((1, 0x2100, 0x06, 1) :: l) with frame := { started := true }, now := 3000000000, tai := 3000000000 }
/-- Point 16383 in use with a state, area 7 with a state and its call raised, group 1023. -/
def nX (x : PointSt) (a : AreaSt) (l : List (Nat × Nat × Nat × Nat)) : Node := { nF ([(16383, 0x6100, 0x02, 1), (16383, 0x6100, 0x11, 7), (16383, 0x6100, 0x2C, 0)] ++ l) with points := [(16383, x)], areas := [(7, a)] }
/-- Loop output 15 driven. -/
def nLo (l : List (Nat × Nat × Nat × Nat)) (x : LoopSt) : Node := { nA ((0, loopIdx 15, 0x01, 1) :: l) with stages := true, loops := [(15, x)] }
/-- Annunciator 23 with objects and a state, and its group. -/
def nAn (l : List (Nat × Nat × Nat × Nat)) (x : AnnSt) (g : AnnGroupSt) : Node := { nA l with stages := true, anns := [(23, x)], annGroups := [(2, g)], now := 3000000000 }
/-- Ring port 1 in a state, its block's fields. -/
def nR (st : Nat) (l : List (Nat × Nat × Nat × Nat)) (r : RingSt) : Node := { nA ((1, 0x3000, 0x0D, st) :: l) with ring := r, now := 5000000000 }
def hsr (a : Byte) : List Byte := zeros 5 ++ [a] ++ zeros 5 ++ [a + 1] ++ [0x89, 0x2F, 0, 0, 0, 0, 8, 0]
def hsrFrame (a : Byte) : List Byte := hsr a ++ toLE 4 (crc32 (hsr a))
/-- An address that is not the node's own, and a frame of node 9 from it at port 1. With nothing remembered the frame is new. -/
def far : BitVec 48 := if (1 : BitVec 48).toNat = ownMac then 2 else 1
theorem far_ne : far.toNat ≠ ownMac := by unfold far; split <;> simp_all <;> omega
def fW (body : List Byte) : WoadIn := { port := 1, mac := far, hsrSeq := 0, toAll := true, version := 1, src := 9, pub := 9, dst := 0, flags := 0, seq := 0, part := 0, parts := 1, body := body, agoNs := 0 }
theorem hears_of (n : Node) (type : Nat) (body : List Byte) (h : n.portUp 1 = true ∧ knownType type = true ∧ n.ring.seen = [] ∧ n.ring.idents = [] ∧ n.ring.keys = []) : n.hears type (fW body) := by obtain ⟨h1, h4, h6, h7, h8⟩ := h; exact ⟨h1, far_ne, rfl, h4, Or.inl rfl, by simp [h6], by simp [h7], by simp [h8]⟩
/-- Queue 0 is the type-2 queue of vat frames 0x40 to 0x7F from any node. -/
def nQ2 : Node := (nQ 2 1 3 3).setI 1 0x3000 0x0D 2 |>.setI 0 0x9100 0x0F 0x7F40
/-- A snapshot of this node, being collected. -/
def nSn (x : SnapSt) : Node := { nR 2 [(0, 0x3000, 0x19, 1)] { snap := some x } with tai := 10000001 }
/-- PTP with port 1 UP and selected. -/
def nT (l : List (Nat × Nat × Nat × Nat)) (p : PtpSt) : Node := { nR 2 ([(0, 0x3100, 0x01, 1), (0, 0x3100, 0x0D, 1), (0, 0x1100, 0x03, 2)] ++ l) {} with ptp := p }
/-- A twin whose link is up on both lanes, in mode STANDBY, with objects. -/
def nW (l : List (Nat × Nat × Nat × Nat)) (x : TwinSt) : Node := { nS ([(0, 0x2400, 0x01, 1), (0, 0x2400, 0x09, 3), (1, 0x2100, 0x06, 1)] ++ l) with twin := x, now := 7200000000000 }
/-- Slot 31 in a state, with what Sepia holds. -/
def nDr (st : Nat) (l : List (Nat × Nat × Nat × Nat)) (x : SepSt) : Node := { nA ((31, 0x8000, 0x21, st) :: l) with sep := x, now := 9000000000000 }
def ns_ (c : NsContent) : Namespace := { serial := 7, size := 0x10000000000, lba4k := true, index := false, bus := 0, devfn := 0, content := c }
/-- CAN controller 3 enabled, in a state. -/
def nCan (st : Nat) (l : List (Nat × Nat × Nat × Nat)) (x : CanSt) : Node := { nA ([(3, 0x3400, 0x02, 1), (3, 0x3400, 0x16, st)] ++ l) with can := [(3, x)], now := 9000000000000 }
def slotDef : Nat := ofLE ([3, 0, 0, 0, 5, 0, 0, 0, 8, 0, 0, 0, 0, 0, 0x80, 0x3F] ++ zeros 8)
/-- A panel with its rails in a state and what Umber holds. -/
def nU (st : Nat) (l : List (Nat × Nat × Nat × Nat)) (x : UmbSt) : Node := { nA ([(0, 0x7400, 0x01, 1), (0, 0x7400, 0x13, st)] ++ l) with umb := x, now := 9000000000000 }
def rq (c : Option Nat) (v : Nat) : UmbReq := { w := 1, h := 1, staged := some [3], copied := c, verdict := v }
/-- A node whose Verdigris holds queues, pairs and a publication queue. -/
def nV (l : List (Nat × Nat × Nat × Nat)) (x : VerSt) : Node := { nA l with ver := x, now := 9000000000000 }
/-- A node whose tag a field powers, in a state of the tag. -/
def nG (l : List (Nat × Nat × Nat × Nat)) (x : TagSt) : Node := { nA l with tag := { x with fieldOn := true } }

/-- Chapter 05: with vp 5, grants go to V5's queue 1,024, then to V9's queue 2,050, then to V2's queue 400, then to V9's queue 2,051. -/
def nGrants : Node :=
  let q : Nat → Nat → List (Nat × Nat × Nat × Nat) := fun i k => [(i, 0x9100, 0x03, 6), (i, 0x9100, 0x04, 4), (i, 0x9100, 0x0B, 1), (i, 0x9100, 0x0C, k)]
  { nA (q 400 3 ++ q 1024 1 ++ q 2050 2 ++ q 2051 1) with
    vats := [(2, { firstQ := 400, countQ := 8, enabled := true }), (5, { firstQ := 1024, countQ := 8, enabled := true }),
      (9, { firstQ := 2050, countQ := 2, enabled := true })]
    queues := [(400, {}), (1024, {}), (2050, {}), (2051, {})], eng := { vp := [(6, 5)] } }
/-- The node after a grant of queue `q` of vat `v`, its descriptor fetched. -/
def granted (n : Node) (v q : Nat) : Node :=
  (n.granted 6 v q).setQueue q { n.queue q with fetched := (n.queue q).fetched + 1 }
theorem test_grants :
    nGrants.nextGrant [] 6 = some (5, 1024) ∧ (granted nGrants 5 1024).nextGrant [] 6 = some (9, 2050)
    ∧ (granted (granted nGrants 5 1024) 9 2050).nextGrant [] 6 = some (2, 400)
    ∧ (granted (granted (granted nGrants 5 1024) 9 2050) 2 400).nextGrant [] 6 = some (9, 2051) := by decide +kernel

/-! ## One step each -/

/-- The state after one command that waits at the front, if the machine goes on. -/
def after (c : Instr) (n : Node) : Option State := nextOf (step { S n with pending := [c] })
/-- R466: code 6 is refused with 0x0606; R82: an index that does not exist answers 0x0601. -/
theorem test_mode_code_refused : (after (.registerWrite 0 lp 0x1010 2 [6]) (nA [])).map (fun t => t.node.out) = some [.reply lp 0x0606 []] := by
  decide +kernel
theorem test_no_index : (after (.odRead 0 lp 0x10FF 0) (nA [])).map (fun t => t.node.out) = some [.reply lp 0x0601 []] := by decide +kernel
/-- R44: vat 3's reset of the node is refused with 0x0604. -/
theorem test_vat_reset_refused : (after (.nodeResetCommand 0 (.vat 3) 0xA5 0) (nA [(3, 0x9000, 0x07, 2)])).map (fun t => t.node.out)
    = some [.reply (.vat 3) 0x0604 []] := by decide +kernel
/-- R42: nothing is served while the keeper is in reset. -/
theorem test_keeper_reset_silent : (after (.odRead 0 lp 0x1010 1) { nA [] with mode := { keeperReset := some 0 } }).map (fun t => t.node.out) = some [] := by
  decide +kernel
/-- R45: NRESET_IN starts a node reset with cause 0x01 and drives NRESET_OUT low. -/
theorem test_nreset : (after (.nresetInLow 0) (nA [])).map (fun t => (t.node.pwr.phase, t.node.pwr.resetCause)) = some (.inReset, 1) := by decide +kernel
/-- R113: a claim takes the source of the higher priority, and of equals the lower number. -/
theorem test_claim : claimSource { pend := [2, 5], mena := 0x24, prio := [(2, 1), (5, 3)] } .machine = 5
    ∧ claimSource { pend := [2, 5], mena := 0x24, prio := [(2, 3), (5, 3)] } .machine = 2 := by decide
/-- R383: writing 1 to 0x3400.15 puts a controller to sleep. -/
theorem test_can_sleep : (after (.sleep 0 lp) (nCan 2 [(masterCode lp, 0x3400, 0x01, 3)] {})).map (fun t => t.node.canState 3) = some 5 := by
  decide +kernel
/-- R376, Table 13-3: 11 recessive bits lead from INTEGRATING to ERROR_ACTIVE. -/
theorem test_can_integrates : (after (.canIntegration 0 3) (nCan 1 [] {})).map (fun t => t.node.canState 3) = some 2 := by decide +kernel
/-- A step on an empty queue leaves the state as it is. -/
theorem test_idle : step State.reset = .next State.reset := rfl

/-! ## What meets the statements' hypotheses -/

theorem meets_ModeAndResetCommandsAct_1 :
    (Takes (S (nC [])) 0 lp 0x1010 0x02 [3]) ∧
    (Takes (S (nC [])) 0 lp 0x1010 0x02 [4]) ∧
    (Takes (S (nS [])) 0 lp 0x1010 0x02 [5]) ∧
    (Takes (S (nA [])) 0 lp 0x1010 0x02 [7]) ∧
    (Takes (S (nA [])) 0 lp 0x1010 0x06 (resetWord 0xA5 1 0)) ∧
    (Takes (S (nA [])) 0 lp 0x1010 0x06 (resetWord 0xA5 2 0)) ∧
    (Takes (S (nA [(15, 0x9000, 0x07, 2)])) 0 lp 0x1010 0x06 (resetWord 0xA5 3 15)) ∧
    (Takes (S (nA [])) 0 lp 0x1010 0x06 (resetWord 0xA5 4 31)) := by decide +kernel
theorem meets_ModeAndResetCommandsAct_2 :
    (Takes (S (nA [])) 0 lp 0x1010 0x06 (resetWord 0xA5 5 7)) ∧
    (Takes (S (nA [])) 0 lp 0x1010 0x06 (resetWord 0xA5 6 1)) ∧
    (Takes (S (nA [])) 0 lp 0x1010 0x06 (resetWord 0xA5 7 3)) ∧
    (Takes (S (nA [])) 0 lp 0x1010 0x06 (resetWord 0xA5 8 3)) ∧
    (Takes (S (nA [])) 0 lp 0x1010 0x06 (resetWord 0xA5 9 7)) ∧
    ((S (nA [(1, 0x3000, 0x0D, 2)])).node.portUp 1 = true ∧ Takes (S (nA [(1, 0x3000, 0x0D, 2)])) 0 lp 0x1010 0x06 (resetWord 0xA5 6 1)) := by decide +kernel
theorem meets_RequestsNeedTheKeeper :
    ((U { nA [] with pwr := { phase := .boot } }).asks lp = false) ∧
    ((U (nA [])).asks (.vat 3) = false) := by decide +kernel
theorem meets_ReadsAnswer :
    ((U (nA [])).asks lp = true ∧ ((U (nA [])).rowFor 0x1010 0x01).isSome = true ∧ (U (nA [])).readCode lp 0x1010 0x01 = 0 ∧ canonIdx 0x1010 ≠ 0xF000 ∧ measured 0x1010 0x01 = false ∧ (U (nA [])).indexExists 0x1010 = true) := by decide +kernel
theorem meets_RefusedRequestsChangeNoObject :
    ((U (nA [])).asks lp = true ∧ (U (nA [])).writeJudge lp 0x1010 0x01 [3] ≠ 0) ∧
    ((U (nA [])).asks lp = true ∧ (U (nA [])).readCode lp 0x10FF 0x00 ≠ 0 ∧ canonIdx 0x10FF ≠ 0xF000) := by decide +kernel
theorem meets_PlainWritesStore :
    (Takes (S (nC [])) 0 lp 0x2400 0x04 [1] ∧ plainIdx 0x2400 = true ∧ (U (nC [])).writeNode lp 0x2400 0x04 0 1 [1] = none ∧ (U (nC [])).writeBlock lp 0x2400 0x04 0 1 [1] = none ∧ (U (nC [])).keptKey (key 0 0x2400 0x04) = true ∧ (U (nC [])).store.job = none) := by decide +kernel
theorem meets_VatsResetOnlyThemselves :
    ((U (nA [(15, 0x9000, 0x07, 2)])).asks (.vat 15) = true ∧ (U (nA [(15, 0x9000, 0x07, 2)])).curMode ≠ 2 ∧ ¬ ((3 : Byte) = 3 ∧ (14 : Byte).toNat = 15)) := by decide +kernel
theorem meets_MastersRaiseFaults :
    ((U (nA [(3, 0x9000, 0x07, 2)])).asks (.vat 3) = true ∧ (U (nA [])).asks (.can 3) = true ∧ (U (nA [])).asks (.ring 255) = true ∧ (U (nA [])).curMode ≠ 2 ∧ (0x10EF : BitVec 64).toNat % 256 < 0xF0 ∧ 0xF0 ≤ (0x10F0 : BitVec 64).toNat % 256 ∧ (0x10F0 : BitVec 64).toNat / 65536 % 65536 = 0) := by decide +kernel
theorem meets_MastersExtendRegisters :
    ((U (nA [])).asks lp = true ∧ (U (nA [])).curMode ≠ 2 ∧ (21 :: zeros 80 : List Byte).length = 81 ∧ fieldLE (21 :: zeros 80) 0 1 ≠ 22 ∧ fieldLE (24 :: zeros 80) 0 1 ≠ 23) ∧
    (fieldLE (23 :: zeros 80) 0 1 = 23 ∧ 3840 ≤ (U { nA [] with cin := { count := 3840 } }).cin.count ∧ (U { nA [] with cin := { count := 3839 } }).cin.count < 3840) := by decide +kernel
theorem meets_PowerInputsAct_1 :
    (1800 < 1801) ∧
    ((1599 : Nat) < 1600 ∧ (U { nA [] with pwr := { backup := true } }).pwr.phase ≠ .keep) ∧
    ((U { nA [] with pwr := { phase := .keep, backup := true } }).pwr.phase = .keep) ∧
    ((40000 : Nat) < 40001 ∧ ((U (nA [])).lineIn .west).held = false ∧ ((U (nA [])).lineIn .west).fedSince = none) ∧
    ((37999 : Nat) < 38000 ∧ ((U (nA [])).lineIn .east).fedSince.isSome = true ∧ (U (nA [])).up = true) ∧
    ((60000 : Nat) < 60001) ∧
    (((U { nA [] with pwr := { east := { held := true } } }).lineIn .east).held = true ∧ (58999 : Nat) < 59000 ∧ (40000 : Nat) < 58999) ∧
    ((U { nA [] with pwr := { phase := .lineLoss, backup := true } }).pwr.phase = .lineLoss ∧ (23999 : Nat) < 24000) := by decide +kernel
theorem meets_PowerInputsAct_2 :
    ((S (nA [])).node.up = true) ∧
    ((S (tA { nA [] with pwr := { east := {}, lastFeedEnd := 1 } } 20001)).node.up = true ∧ (U (tA { nA [] with pwr := { east := {}, lastFeedEnd := 1 } } 20001)).feeding = false ∧ (1 : Nat) + 20000 ≤ (U (tA { nA [] with pwr := { east := {}, lastFeedEnd := 1 } } 20001)).now) := by decide +kernel
theorem meets_NodesStart :
    ((U (tA { nA [] with pwr := { phase := .keep } } 10000000)).pwr.phase = .keep ∧ (U (tA { nA [] with pwr := { phase := .keep } } 10000000)).lineValid 40001 = true) ∧
    ((U (tA { nA [] with pwr := { phase := .off } } 10000000)).pwr.phase = .off ∧ (U (tA { nA [] with pwr := { phase := .off } } 10000000)).lineValid 40000 = false) ∧
    ((U (tA { nA [] with pwr := { phase := .inReset } } 18000000)).releaseDue = true) ∧
    ((U (tA { nA [] with pwr := { phase := .lineLoss } } 18000000)).lossOver = true ∧ (U (tA { nA [] with pwr := { phase := .lineLoss } } 18000000)).lineValid 50000 = true) ∧
    ((U (tA { nA [] with pwr := { phase := .lineLoss, east := {}, backup := true } } 18000000)).lossOver = true ∧ (U (tA { nA [] with pwr := { phase := .lineLoss, east := {}, backup := true } } 18000000)).lineValid 50000 = false) ∧
    ((U { nA [] with pwr := { phase := .boot }, cin := { loaderFail := true } }).pwr.phase = .boot ∧ (U { nA [] with pwr := { phase := .boot }, cin := { loaderFail := true } }).cin.loaderFail = true ∧ ((U { nA [] with pwr := { phase := .boot }, cin := { loaderFail := true } }).slotIntact 0 0 || (U (nA [])).slotIntact 0 1) = true) ∧
    ((U { nA [] with pwr := { phase := .boot }, cin := { images := [(0, [1])] } }).slotIntact 0 0 = false ∧ (U { nA [] with pwr := { phase := .boot }, cin := { images := [(0, [1])] } }).slotIntact 0 1 = false) := by decide +kernel
theorem meets_RolesAreDecided_1 :
    ((U (N [(0, 0x1010, 0x01, 2)])).curMode = 2 ∧ (U (N [])).mode.roleDue = true ∧ (U (N [])).mode.startCause = 0x10) ∧
    ((U { N [(0, 0x1010, 0x01, 2)] with mode := { startCause := 0x20 } }).mode.startCause = 0x20 ∧ (U (N [])).twinOn = false) ∧
    ((U (N [(0, 0x2400, 0x01, 1)])).twinOn = true ∧ (U { N [(0, 0x2400, 0x01, 1)] with twin := { ownIn := true } }).twin.ownIn = true ∧ (U (N [(0, 0x2400, 0x01, 1)])).twin.ownIn = false) ∧
    ((U (N [(0, 0x2400, 0x01, 1)])).preferred = true ∧ (U { N [(0, 0x2400, 0x01, 1)] with pwr := { prefStrap := false } }).preferred = false) ∧
    ((U { N [] with mode := { roleWait := some ⟨0, 0x20⟩ }, twin := { ownIn := true } }).mode.roleWait = some ⟨0, 0x20⟩ ∧ (U { N [] with twin := { ownIn := true } }).twin.ownIn = true) ∧
    ((U { N [] with now := 499999999 }).now < 0 + 500000000 ∧ 0 + 500000000 ≤ (U { N [] with now := 500000000 }).now ∧ (U { N [] with twin := { hbSeen := true } }).twin.hbSeen = true ∧ (U (N [])).twin.hbSeen = false) ∧
    ((U (nA [])).mode.keeperReset = none) ∧
    ((U { nA [] with mode := { keeperReset := some 0 } }).mode.keeperReset = some 0 ∧ (U { nA [] with mode := { keeperReset := some 0 } }).mode.keeperHandedOver = false) := by decide +kernel
theorem meets_RolesAreDecided_2 :
    ((U { nA [] with mode := { keeperReset := some 0, keeperHandedOver := true } }).mode.keeperHandedOver = true) ∧
    ((U (tA { nA [(0, 0x2400, 0x08, 0x511AB)] with mode := { keeperReset := some 0 }, twin := { own := true } } 10000)).curMode = 4 ∧ (U (tA { nA [(0, 0x2400, 0x08, 0x511AB)] with mode := { keeperReset := some 0 }, twin := { own := true } } 10000)).twinFitPlanned = true ∧ (U (tA { nA [] with twin := { own := true } } 10000)).twin.agreed = none) := by decide +kernel
theorem meets_ClocksAreSet :
    (Takes (S (nA [])) 0 lp 0x1200 0x04 (toLE 4 32768)) ∧
    (Takes (S (nC [])) 0 lp 0x1200 0x01 (toLE 8 100)) ∧
    (Takes (S (nA [])) 0 lp 0x1100 0x08 [1]) ∧
    ((S { nA [] with rtc := { trimLeft := 1, trim := 1 } }).node.pwr.phase ≠ .off ∧ (U { nA [] with rtc := { trimLeft := 1, trim := 1 } }).rtc.trimLeft ≠ 0) ∧
    ((U { nA [] with rtc := { shift := some 3 } }).rtc.shift = some 3) ∧
    ((U { nA [(0, 0x1200, 0x05, 32)] with rtc := { wakeDue := some 5, ticks := 6 } }).rtc.wakeDue = some 5 ∧ 5 ≤ (U { nA [] with rtc := { wakeDue := some 5, ticks := 6 } }).rtc.ticks ∧ (U (nA [(0, 0x1200, 0x05, 32)])).o 0x1200 0x05 ≠ 0) := by decide +kernel
theorem meets_TimeIslandsAct_1 :
    ((U (nA [(0, 0x1100, 0x03, 1)])).o 0x1100 0x03 = 1 ∧ (U { nA [] with rtc := { capture := true } }).rtc.capture = true) ∧
    ((U (tA (nA [(0, 0x1100, 0x03, 2)]) 3000000000)).o 0x1100 0x03 = 2 ∧ (U (nA [])).time.lastSync + 3000000000 ≤ (U (tA (nA []) 3000000000)).now) ∧
    ((U (tA (nA [(0, 0x1100, 0x03, 3), (0, 0x1100, 0x09, 1)]) 1000000001)).o 0x1100 0x03 = 3 ∧ (0 : Nat) + (U (nA [(0, 0x1100, 0x09, 1)])).o 0x1100 0x09 * 1000000000 < (U (tA (nA []) 1000000001)).now) ∧
    ((U { nA [(0, 0x1100, 0x03, 2)] with time := { utcValid := true, leap61 := true } }).time.utcValid = true ∧ ((U { nA [] with time := { utcValid := true, leap61 := true } }).time.leap59 || (U { nA [] with time := { utcValid := true, leap61 := true } }).time.leap61) = true) ∧
    ((U (nA [(60, 0x2100, 0x03, 1)])).oi 60 0x2100 0x03 ≠ 2 ∧ (U (nA [(0, 0x2100, 0x03, 2)])).oi 0 0x2100 0x03 = 2 ∧ (60 : Fin 61).val ≠ 0) ∧
    ((U { nA [(1, 0x2100, 0x03, 2)] with islands := [(1, { tokens := 3 })] }).copyValid 1 = false ∧ ((U { nA [(1, 0x2100, 0x03, 2)] with islands := [(1, { tokens := 3 })] }).isl 1).tokens = 3) ∧
    ((U { nA [] with bc := { waiting := [bStep] } }).bc.chain = none ∧ (U { nA [] with bc := { waiting := [bStep] } }).bc.waiting = [bStep]) ∧
    ((U { nA [] with bc := { chain := some (bStep, 0) } }).bc.chain = some (bStep, 0)) := by decide +kernel
theorem meets_TimeIslandsAct_2 :
    ((U { nA [] with bc := { armed := [⟨bStep, [0, 60]⟩] } }).bc.armed = [⟨bStep, [0, 60]⟩] ∧ (U { nA [] with bc := { armed := [⟨bStep, [0, 60]⟩] } }).bcastDue 0 ⟨bStep, [0, 60]⟩ = true) := by decide +kernel
theorem meets_StoreActs :
    (Takes (S (nA [])) 0 lp 0x1020 0x01 [0x01, 0, 0, 0xA5]) ∧
    (Takes (S (nC [])) 0 lp 0x1020 0x01 [0x02, 0, 0, 0xA5] ∧ (∀ e ∈ (S (nC [])).node.od, plainIdx (keyIdx e.1) = true ∨ keyIdx e.1 = 0x1010 ∨ keyIdx e.1 = 0x1020) ∧ (S (nC [])).node.dom = [] ∧ (S (nC [])).node.store.job = none) ∧
    (Takes (S (nC [])) 0 lp 0x1020 0x01 [0x03, 0, 0, 0xA5] ∧ (U (nC [])).committedBank = none) ∧
    ((U { nC [] with store := { bankA := { valid := true, objs := [(key 0 0x2400 0x04, 1)] } } }).committedBank = some false ∧ (∀ e ∈ ([(key 0 0x2400 0x04, 1)] : List (Nat × Nat)), plainIdx (keyIdx e.1) = true) ∧ mapSorted [(key 0 0x2400 0x04, 1)] = true) ∧
    ((U { nA [] with store := { job := some { bankB := true } } }).store.job = some { bankB := true } ∧ (0 : Nat) ≤ storeMax ∧ (U { nA [] with store := { job := some { bankB := true } } }).bankUnusable true = false ∧ ((U { nA [] with store := { job := some { bankB := true } } }).bank true).valid = false) ∧
    ((U { nA [] with store := { bankB := { left := 1 }, erasing := some true } }).store.erasing = some true ∧ 0 < ((U { nA [] with store := { bankB := { left := 1 }, erasing := some true } }).bank true).left) := by decide +kernel
theorem meets_DataPortsAct :
    ((0x1030 : BitVec 32) ≠ 0 ∧ Takes (S (nC [])) 0 lp (portIdx 15) 0x01 (toLE 4 0x80103001)) ∧
    (Takes (S (nP 0 0x80103001 { state := .opened, holder := some lp })) 0 lp (portIdx 0) 0x01 (zeros 4)) ∧
    (Takes (S (nP 0 0x80103001 { state := .claimed, holder := some lp })) 0 lp (portIdx 0) 0x02 (toLE 8 0)) ∧
    (Takes (S (nP 0 0x80103001 { state := .claimed, holder := some lp })) 0 lp (portIdx 0) 0x03 (toLE 8 16)) ∧
    (Takes (S (nP 0 0x80103001 { state := .opened, holder := some lp })) 0 lp (portIdx 0) 0x04 (zeros 16) ∧ (U (nP 0 0x80103001 { state := .opened, holder := some lp })).burstCode lp 0 true false (zeros 16).length = 0) ∧
    ((U (nP 0 0x00103001 { state := .opened, holder := some lp, buf := zeros 16 })).asks lp = true ∧ (U (nP 0 0x00103001 { state := .opened, holder := some lp, buf := zeros 16 })).readCode lp (portIdx 0) 0x04 = 0 ∧ (U (nP 0 0x00103001 { state := .opened, holder := some lp, buf := zeros 16 })).burstCode lp 0 false false (min 1408 16) = 0) ∧
    (((U (nP 0 0x80103001 { state := .applying, holder := some lp })).port 0).holder = some lp ∧ ((U (nP 0 0x80103001 { state := .applying, holder := some lp })).port 0).state = .applying) ∧
    (((U (tA (nP 0 0x80103001 { state := .claimed, holder := some lp }) 1000000000000)).port 0).state = .claimed ∧ 0 + (U (nP 0 0 {})).o (portIdx 0) 0x07 * 1000000000 ≤ 1000000000000) := by decide +kernel
theorem meets_LocalPortCommandsAct :
    ((S (nA [])).node.up = true ∧ (S (nA [])).node.lp.on = true ∧ (U (nA [])).mode.keeperReset = none ∧ (U (nA [])).lpFree ≠ 0 ∧ (U (nA [])).lp.outstanding.contains (U (nA [])).lp.serial = false) ∧
    ((zeros 11).length ≠ 12 + fieldLE (zeros 11) 6 2) ∧
    ((U { nA [] with lp := { ready := [zeros 12] } }).lp.ready = [zeros 12] ∧ (U (nA [])).lp.ready = []) := by decide +kernel
theorem meets_CezelApplies :
    (Takes (S (nC [])) 0 lp 0x1030 0x02 [1] ∧ (match cezParse [] with | .error _ => true | .ok _ => false) = true) ∧
    ((match cezParse (ascii "cezel 1\npart HJN9120 B1\n") with | .error _ => false | .ok es => es.length == 0) = true) ∧
    ((match (U (nC [])).entriesDo lp [] with | .inl _ => false | .inr _ => true) = true) ∧
    ((match (U (nC [])).entriesDo lp [{ idx := 0x10FF, sub := 0, ty := .u 1, acc := .ro, kept := false, owner := none, value := none, line := 3 }] with | .inl (c, l) => c == 0x0601 && l == 3 | .inr _ => false) = true) := by decide +kernel
theorem meets_VatsAct :
    ((S (nA [(15, 0x9000, 0x07, 2)])).node.vatRuns 15 = true ∧ (U (nA [(15, 0x9000, 0x07, 2)])).vatMayAccess 15 0 false = false ∧ (U (nA [])).vatMayAccess 15 0xFFFFFFFFFFFFFFFF true = false) ∧
    (enabledIn { mena := 4, claimed := [2] } .machine 2 = true ∧ 2 ∈ ({ mena := 4, claimed := [2] } : VatSt).claimed ∧ 2 ∉ ({ mena := 4, claimed := [2] } : VatSt).pend) ∧
    ((S { nA [(15, 0x9000, 0x07, 3)] with vats := [(15, { slot := 1 })] }).node.oi 15 0x9000 0x07 = 3 ∧ bit ((S (nA [])).node.o 0x2200 0x16) 15 = false ∧ ((S { nA [] with vats := [(15, { slot := 1 })] }).node.vat 15).slot < 2) := by decide +kernel
theorem meets_VatsAct2 :
    ((S (nQ 1 1 3 1)).node.vatRuns 0 = true ∧ 0 < ((U (nQ 1 1 3 1)).vat 0).countQ ∧ (U (nQ 1 1 3 1)).oi 0 0x9100 0x0B = 1 ∧ isSubmission ((U (nQ 1 1 3 1)).oi 0 0x9100 0x03) = true ∧ occupancy ((U (nQ 1 1 3 1)).pi 0) ((U (nQ 1 1 3 1)).ci 0) ≤ occupancy 17 ((U (nQ 1 1 3 1)).ci 0) ∧ occupancy 17 ((U (nQ 1 1 3 1)).ci 0) ≤ (U (nQ 1 1 3 1)).depth 0) ∧
    (isSubmission ((U (nQ 2 1 3 1)).oi 0 0x9100 0x03) = false ∧ occupancy ((U (nQ 2 1 3 1)).pi 0) 3 ≤ occupancy ((U (nQ 2 1 3 1)).pi 0) ((U (nQ 2 1 3 1)).ci 0)) ∧
    ((U (nQ 1 1 3 1)).depth 0 < occupancy 18 ((U (nQ 1 1 3 1)).ci 0) ∧ occupancy ((U (nQ 2 1 3 1)).pi 0) ((U (nQ 2 1 3 1)).ci 0) < occupancy ((U (nQ 2 1 3 1)).pi 0) 0) ∧
    ((U (nQ 1 2 3 1)).oi 0 0x9100 0x0B ≠ 1) := by decide +kernel
theorem meets_ClaimsTakeTheHighestPriority :
    (0 ∉ ({ pend := [2, 5], mena := 0x24, prio := [(2, 1), (5, 3)] } : VatSt).pend ∧ claimSource { pend := [2, 5], mena := 0x24, prio := [(2, 1), (5, 3)] } .machine = 5 ∧ claimSource { pend := [2, 5], mena := 0x24, prio := [(2, 3), (5, 3)] } .machine = 2 ∧ claimSource {} .machine = 0) := by decide +kernel
theorem meets_VatStoresStayInTheirAllotment :
    (nextOf (exec (.timerInterrupt 0 3 []) (S (nA []))) ≠ none ∧ ¬ (vatAddr 3 0x80000000 ≤ 0 ∧ 0 < vatAddr 3 (0x80000000 + ((S (nA [])).node.vat 3).allotMiB * 2 ^ 20))) := by decide +kernel
theorem meets_QueuesAndDeclarationsAct :
    (Takes (S { nA [(0, 0x9000, 0x07, 2), (0, 0x9100, 0x03, 5), (0, 0x9100, 0x04, 4), (0, 0x9100, 0x05, 0x80000000), (0, 0x9100, 0x06, 0x80001000)] with vats := [(0, { countQ := 4, allotMiB := 256, enabled := true })] }) 0 (.vat 0) 0x9100 0x0A [1]) ∧
    (Takes (S (nQ 1 1 3 1)) 0 (.vat 0) 0x9100 0x0A [0] ∧ (U (nQ 1 1 3 1)).obi 0 0x9100 0x0A = true) ∧
    ((U { nQ 1 1 3 1 with queues := [(0, { inFlight := [1] })] }).obi 0 0x9100 0x0A = true ∧ ((U { nQ 1 1 3 1 with queues := [(0, { inFlight := [1] })] }).queue 0).inFlight ≠ []) ∧
    (Takes (S { nC [(15, 0x9000, 0x07, 2)] with vats := [(15, { enabled := true })] }) 0 (.vat 15) (privIdx 15) 0x02 [1]) ∧
    (declCheck 15 [] [] = none ∧ declBytes [] ≤ 524288 ∧ declCheck 15 [] [{ idx := 0x1000, line := 3 }] = some (0x0601, 3)) := by decide +kernel
theorem meets_EnginesAct :
    ((U (nQ 1 1 3 1)).nextGrant [] 1 = some (0, 0) ∨ (U (nQ 1 1 3 1)).nextGrant [] 0 = some (0, 0)) ∧
    (((S { nA [] with sep := { reads := [{ q := 7, pos := 1 }] } }).node.sep.reads.find? (fun (j : ReadJob) => j.q == 7)) = some { q := 7, pos := 1 }) ∧
    ((U (nQ 2 1 3 3)).oi 0 0x9100 0x0B = 1 ∧ (U { nQ 2 1 3 3 with queues := [(0, { wait := [default] })] }).nextGrant [] 2 = some (0, 0)) := by decide +kernel
theorem meets_ScansConvert :
    ((S (nA [])).node.up = true ∧ (U (nA [])).lakeState 31 = 0 ∧ ((U (nA [])).conv 31 1).running = false) ∧
    ((U { nA [(0, convIdx 31 0, 0x02, 1)] with lakes := [(31, { c0 := { running := true } })] }).lakeState 31 = 0 ∧ ((U { nA [] with lakes := [(31, { c0 := { running := true } })] }).conv 31 0).running = true ∧ (U (nA [(0, convIdx 31 0, 0x02, 1)])).o (convIdx 31 0) 0x02 = 1) ∧
    (nL.up = true ∧ (U nL).lakeConverts 31 = true ∧ ((U nL).conv 31 1).running = true ∧ ((U nL).conv 31 1).discard = false ∧ ((U nL).conv 31 1).phaseA = none ∧ (U nL).copyValid (isleLake 31) = true ∧ ((U nL).conv 31 1).list.getD ((U nL).conv 31 1).pos 0xFF < 8 ∧ ¬ (pinCfg ((U nL).conv 31 1).cfg 31 7 0x01 = 3 ∧ pinCfg ((U nL).conv 31 1).cfg 31 7 0x17 = 1)) ∧
    ((U { nA [] with lakes := [(31, { c1 := { running := true, discard := true } })] }).lakeConverts 31 = true ∧ ((U { nA [] with lakes := [(31, { c1 := { running := true, discard := true } })] }).conv 31 1).discard = true) ∧
    (((U { nA [] with lakes := [(31, { held := [{ pin := 7 }] })] }).lake 31).held.find? (fun h => h.pin == 7) = some { pin := 7 } ∧ (0 : Nat) ≤ (U (nA [])).now ∧ (U (nA [])).lakeConverts 31 = true) := by decide +kernel
theorem meets_PinsAndMainsAct_1 :
    ((nPin 4).up = true ∧ (nPin 4).lakeConverts 31 = true) ∧
    (contactMode ((U (nPin 4)).o (pinIdx 31 7) 0x01) = true ∧ bandOk ((U (nPin 4)).o (pinIdx 31 7) 0x01) 3 = true ∧ (U (nPin 4)).copyValid (isleLake 31) = true ∧ ((U (nPin 4)).pin 31 7).band.getD 1 ≠ 3 ∧ 20000 ≤ 19000 + 1000) ∧
    (20000 + (U (nPin 4)).o (pinIdx 31 7) 0x14 * 1000000 ≤ 5020000 + 1000 ∧ ((U (nPin 4)).pin 31 7).band.getD 1 ≠ 0 ∧ bandOk ((U (nPin 4)).o (pinIdx 31 7) 0x01) 0 = true) ∧
    ((31000 : Nat) ≤ 31000 ∧ ((U (nPin 4)).pin 31 0).broken = false ∧ primaryOf ((U (nPin 4)).lakeCfg 31) 31 0 = 0 ∧ setOk ((U (nPin 4)).lakeCfg 31) 31 0 = true ∧ windowWatched (pinCfg ((U (nPin 4)).lakeCfg 31) 31 0 0x01) = true) ∧
    (pulseOn ((U (nPin 4)).lakeCfg 31) 31 0 = true ∧ setOk ((U (nPin 4)).lakeCfg 31) 31 0 = true ∧ ((0 : Int) : Rat) ≤ pulseLimitUv ((U (nPin 4)).lakeCfg 31) 31 0) ∧
    (pulseLimitUv ((U (nPin 4)).lakeCfg 31) 31 0 < ((2000000000000 : Int) : Rat) ∧ ((U (nPin 4)).pin 31 0).failRun = 0) ∧
    (1 ≤ ((U { nPin 4 with lakes := [(31, { pins := [(0, { failRun := 1 })] })] }).pin 31 0).failRun ∧ ((U { nPin 4 with lakes := [(31, { pins := [(0, { failRun := 1 })] })] }).pin 31 0).broken = false) ∧
    (((U { nPin 4 with lakes := [(31, { pins := [(0, { broken := true })] })] }).pin 31 0).broken = true ∧ convMode ((U (nPin 4)).o (pinIdx 31 0) 0x01) = true ∧ ((U (nPin 4)).pin 31 0).lastBad + 100000000 ≤ (U (nPin 4)).now) := by decide +kernel
theorem meets_PinsAndMainsAct_2 :
    ((mainsFreq (((List.range 9).map (fun i => 20000000 * (8 - i))))).isSome = true ∧ mainsFreq [] = none) ∧
    ((U nM).mains.lastValid = some 50 ∧ (U nM).ob 0x4800 0x02 = true ∧ (U nM).mode.keeperReset = none ∧ (U nM).now < (U nM).mains.since + 100000000) ∧
    ((U { nM with now := 100000000 }).o 0x4800 0x04 ≠ 2 ∧ (U { nM with now := 100000000 }).mains.since + 100000000 ≤ (U { nM with now := 100000000 }).now) := by decide +kernel
theorem meets_UnitsAreServiced :
    (Takes (S (nA [(0, unitIdx 0, 0x02, 0)])) 0 lp (unitIdx 0) 0x01 [1]) ∧
    (Takes (S (nA [(0, unitIdx 39, 0x02, 2)])) 0 lp (unitIdx 39) 0x01 [2]) ∧
    (Takes (S (nA [(0, unitIdx 31, 0x02, 2)])) 0 lp (unitIdx 31) 0x01 [3]) ∧
    ((nA [(0, unitIdx 31, 0x02, 1)]).up = true ∧ (U (nA [(0, unitIdx 31, 0x02, 1)])).unitState 31 = 1 ∧ (U (nA [])).twin.lakeTest = none) ∧
    ((U (nA [(0, unitIdx 39, 0x02, 3)])).unitState 39 = 3 ∧ (U (nA [(0, unitIdx 39, 0x02, 4)])).unitState 39 = 4 ∧ ((U (nA [(0, unitIdx 31, 0x02, 4)])).lake 31).toReturn = [] ∧ (U (nA [(0, unitIdx 31, 0x02, 5)])).unitState 31 = 5) := by decide +kernel
theorem meets_DynamicChannelsAct :
    ((nD 1 []).up = true ∧ (nD 1 []).dynRuns (31 / 4) = true ∧ (U (nD 1 [])).o (dynIdx 31) 0x01 ≠ 0 ∧ (U (nD 1 [])).copyValid (isleDyn 7) = true ∧ (U (nD 1 [])).dynConfigBad 31 = false ∧ ((U (nD 1 [])).dynCh 31).lastBad = none ∧ (∀ i : Fin 6, 0 < i.val → (U (nD 1 [])).dynBit 31 i = false)) ∧
    ((U (nA [(0, dynIdx 31, 0x01, 1)])).copyValid (isleDyn 7) = false ∧ (U (nA [(0, dynIdx 31, 0x01, 1)])).o (dynIdx 31) 0x01 ≠ 0) ∧
    ((U (nD 1 [(0, dynRes 31, 0x03, 5)])).o (dynRes 31) 0x03 ≠ 0 ∧ (U (nD 1 [])).o (dynIdx 31) 0x01 = 1 ∧ (U (nD 3 [])).o (dynIdx 31) 0x01 = 3) ∧
    ((blockJoin {} { seen := 1, count := 1 }).seen ≠ 0 ∧ (blockJoin {} { seen := 1, count := 1 }).count ≠ 0) ∧
    (((U { nD 1 [] with dyn := [(31, { resetting := true })] }).dynCh 31).resetting = true) ∧
    (Takes (S (nD 1 [])) 0 lp (dynIdx 31) 0x0E [1]) ∧
    (((7 : Fin 8) : Nat) = (31 : Nat) / 4) := by decide +kernel
theorem meets_ShaftsAct :
    (nSh.up = true ∧ (U nSh).sh 15 0x02 = 1 ∧ (U nSh).sh 15 0x07 = 0 ∧ (U nSh).sh 15 0x09 = 1 ∧ ((U nSh).shaft 15).hist = [0]) ∧
    ((U nSh).sh 0 0x02 = 2 ∧ (U nSh).shaftConfigBad 0 = false ∧ (U nSh).cd 2 0x04 = 0 ∧ (U nSh).crankState 2 = 4) ∧
    ((U nSh).sh 2 0x02 = 4 ∧ (U (nSh.setI 2 0x5400 0x13 2)).crankState 2 = 2 ∧ (U nSh).cd 2 0x05 = 2 ∧ (U nSh).cd 2 0x03 = 0) ∧
    ((U (nSh.setI 1 0x2100 0x01 2000000)).standstillDue 15 = true ∧ ((U nSh).shaft 15).standstill = false ∧ (U (nSh.setI 2 0x5400 0x04 15)).cd 2 0x04 = 15 ∧ (U nSh).crankState 2 ≠ 0) ∧
    ((U (nSh.setI 15 0x5500 0x07 1)).sh 15 0x07 = 1 ∧ (U (nSh.setI 15 0x5500 0x07 1)).sh 15 0x02 = 1 ∧ ((U nSh).shaft 15).winCount < 2 ∧ (U nSh).astern 15 = false) ∧
    ((U nSh).obi 15 0x5500 0x0E = true ∧ (U nSh).sh 15 0x03 < 2) := by decide +kernel
theorem meets_CranksAct :
    ((U nCr).crankState 2 = 4 ∧ ((U nCr).crank 2).table[(0 : Fin 1024).val]? = some 0 ∧ (0 : Nat) ∉ ((U nCr).crank 2).fired) ∧
    ((U nCr).o (dynIdx 31) 0x08 = 2 ∧ (U nCr).dynRuns (31 / 4) = true ∧ (U nCr).samplesAt 31 10 = true ∧ bracket ((U nCr).cycleTenths 2) (10 : Rat) ((U nCr).crank 2).counts = some 1100 ∧ (resample 1100 ((U nCr).dynCh 31).samples).isSome = true) ∧
    ((19 : Nat) < (U nCr).cd 2 0x0B ∧ bit (U nCr).mode.reactionFns 1 = false ∧ (U nCr).oi (cylInst 2 19) 0x5400 0x22 = 31 ∧ (U nCr).o (dynIdx 31) 0x07 = 1 ∧ (U nCr).o (dynIdx 31) 0x08 = 2 ∧ (U nCr).o (dynIdx 31) 0x09 = 10 ∧ (U nCr).cd 2 0x0F = 0 ∧ (U nCr).of32 0 (dynIdx 31) 0x0D = 0) ∧
    ((((U nCr).dynCh 31).angles.take ((U nCr).cycleTenths 2 / 10)).reverse.length = (U nCr).cycleTenths 2 / 10) ∧
    (wholeWindow 3600 10 ((((U nCr).dynCh 31).angles.take 360).reverse.map fun (a : AngleSample) => (phiOf 3600 ((U nCr).cd 2 0x09) ((U nCr).oi (cylInst 2 19) 0x5400 0x21) a.angle, a)) = true) ∧
    ((U (nCr.setI 0 (dynIdx 31) 0x07 0)).oi (cylInst 2 19) 0x5400 0x22 = 31 ∧ (U (nCr.setI 0 (dynIdx 31) 0x07 0)).o (dynIdx 31) 0x07 ≠ 1) ∧
    (Takes (S (nC [])) 0 lp 0x5400 0x0E (toLE 2 0) ∧ (U (nC [])).sel lp 0x5400 0x01 = 0) := by decide +kernel
theorem meets_CranksAct_p0 : ((U nCr).domI 2 0x5400 0x0C).length = 14400 := by rw [show (U nCr).domI 2 0x5400 0x0C = List.replicate 14400 0 from rfl, List.length_replicate]
theorem meets_SerialPortsAct :
    ((nSer [] {}).up = true ∧ (U (nSer [] {})).sp 7 0x02 ≠ 0 ∧ ((U (nSer [] {})).serialPort 7).inReset = false ∧ ((U (nSer [] {})).serialPort 7).stamp = none ∧ (U (nSer [] {})).serialConfigBad 7 = false) ∧
    ((U (nSer [(7, 0x5600, 0x04, 1), (7, 0x5600, 0x06, 32)] {})).serialConfigBad 7 = true) ∧
    (((U (nSer [] { stamp := some 9 })).serialPort 7).stamp = some 9) ∧
    ((U (nSer [] { stamp := some 9 })).serialChecks 7 false (some 1500) true true true (some (us ((U (nSer [] {})).sp 7 0x0C))) = 0 ∧ 64 ≤ (U (nSer [(7, 0x5600, 0x0A, 64)] {})).sp 7 0x0A) ∧
    ((U (nSer [] { stamp := some 9 })).serialChecks 7 false (some 1501) true true true none ≠ 0) ∧
    (((U { nSer [] {} with queues := [(8191, { fill := [(0, [1])] })] }).queue 8191).fill = [(0, [1])] ∧ (U (nA [(8191, 0x9100, 0x03, 8), (0, 0x4800, 0x07, 0)])).oi 8191 0x9100 0x03 = 8) ∧
    (0 + (U { nA [(0, 0x4800, 0x07, 0)] with now := 1 }).o 0x4800 0x07 * 1000000 < (U { nA [(0, 0x4800, 0x07, 0), (4, 0x2100, 0x01, 1)] with now := 1, tai := 5 }).copy isleArchive) ∧
    ((U (nQ 8 1 3 1)).oi 0 0x9100 0x0B = 1 ∧ occupancy ((U (nQ 8 1 3 1)).pi 0) ((U (nQ 8 1 3 1)).ci 0) + ((U (nQ 8 1 3 1)).queue 0).wait.length < (U (nQ 8 1 3 1)).depth 0) := by decide +kernel
theorem meets_OperatorCommandsWait :
    (Takes (S (nOp {})) 0 lp 0x6000 0x08 (opRecord 1 0 0 0 0) ∧ Takes (S (nOp {})) 0 lp 0x6000 0x08 (opRecord 2 0 0 0 0) ∧ Takes (S (nOp {})) 0 lp 0x6000 0x08 (opRecord 3 0 0 0 0) ∧ Takes (S (nOp {})) 0 lp 0x6000 0x08 (opRecord 4 0 0 0 0) ∧ Takes (S (nOp {})) 0 lp 0x6000 0x08 (opRecord 5 0 0 1 0) ∧ Takes (S (nOp {})) 0 lp 0x6000 0x08 (opRecord 6 0 0 0 0) ∧ Takes (S (nOp {})) 0 lp 0x6000 0x08 (opRecord 7 0 0 0 0)) ∧
    (Takes (S (nOp {})) 0 lp 0x6000 0x08 (opRecord 8 0 0 0 0) ∧ Takes (S (nOp {})) 0 lp 0x6000 0x08 (opRecord 9 0 0 1 0) ∧ Takes (S (nOp { offer := some 0 })) 0 lp 0x6000 0x08 (opRecord 10 0 0 0 0) ∧ Takes (S (nOp { offer := some 0 })) 0 lp 0x6000 0x08 (opRecord 11 0 0 0 0) ∧ Takes (S (nOp {})) 0 lp 0x6000 0x08 (opRecord 12 0 0 0 0) ∧ Takes (S (nOp {})) 0 lp 0x6000 0x08 (opRecord 13 0 0 0 0)) ∧
    (Takes (S (nOp {})) 0 lp 0x6000 0x08 (opRecord 14 0 0 0 0) ∧ Takes (S (nOp { call := 1 })) 0 lp 0x6000 0x08 (opRecord 15 0 0 0 0) ∧ Takes (S (nOp {})) 0 lp 0x6000 0x08 (opRecord 16 0 0 0 0) ∧ Takes (S (nOp { es := 1 })) 0 lp 0x6000 0x08 (opRecord 17 0 0 0 0) ∧ Takes (S (nOp { es := 1 })) 0 lp 0x6000 0x08 (opRecord 18 0 0 0 0) ∧ Takes (S (nOp {})) 0 lp 0x6000 0x08 (opRecord 19 0 0 0 0)) ∧
    (Takes (S (nOp {})) 0 lp 0x6000 0x08 (opRecord 5 0 0 1 0xFFFFFFFFFFFFFFFF) ∧ (U (nOp {})).curMode ≠ 5) ∧
    (Takes (S ((nOp {}).setI 0 0x1010 0x01 5 |>.setI 0 0x2400 0x01 1 |>.setI 0 0x2400 0x09 2)) 0 lp 0x6000 0x08 (opRecord 1 0 0 0 0) ∧ (U ((nOp {}).setI 0 0x1010 0x01 5)).curMode = 5) := by decide +kernel
theorem meets_PointWritesTake :
    (Takes (S { nA [] with frame := { sched := [(255, {})] } }) 0 lp 0x6000 0x0B (toLE 2 255)) ∧
    (Takes (S (nA [])) 0 lp 0x6100 0x01 (toLE 2 16383) ∧ ((U (nA [])).writeOne lp .direct 0x6100 0x01 (toLE 2 16383) false).2.1.writeJudge lp 0x6100 0x28 (toLE 8 0) = 0 ∧ ((U (nA [])).writeOne lp .direct 0x6100 0x01 (toLE 2 16383) false).2.1.writeJudge lp 0x6100 0x27 (toLE 4 0) = 0) ∧
    (pointConfig 0x02 = true ∧ Takes (S (nC [])) 0 lp 0x6100 0x01 (toLE 2 16383) ∧ ((U (nC [])).writeOne lp .direct 0x6100 0x01 (toLE 2 16383) false).2.1.writeJudge lp 0x6100 0x02 [1] = 0 ∧ (U (nC [])).po 16383 0x02 ≠ ofLE [1]) := by decide +kernel
theorem meets_FramesClose :
    ((nF []).up = true ∧ (nF []).frame.started = true ∧ (U (nF [])).copyValid isleFrame = true ∧ (U (nF [])).mirrors = false ∧ (U (nF [])).twin.agreed = none ∧ (U (nF [])).nextClose ≤ (U (nF [])).copy isleFrame) ∧
    ((U { nF [] with frame := { started := true, lastClose := 4000000000 } }).copy isleFrame < (U { nF [] with frame := { started := true, lastClose := 4000000000 } }).nextClose) ∧
    ((U { nA [] with frame := { started := true }, now := 3000000000 }).copyValid isleFrame = false ∧ (U { nA [] with frame := { started := true }, now := 3000000000 }).frame.lastAt + (U (nA [])).framePeriod ≤ 3000000000) := by decide +kernel
theorem meets_ExpiriesAct_1 :
    ((nX {} {} []).up = true ∧ (U (nX {} {} [])).mirrors = false ∧ (U (nX {} {} [])).copyValid isleFrame = true ∧ (nX {} {} []).frame.started = true ∧ (U (nX {} {} [])).pointUsed 16383 = true) ∧
    ((U (nX {} {} [])).tenths ((U (nX {} {} [])).po 16383 0x0B) < 1000000 ∧ ((U (nX { raw := 1, runOn := 1000000 } {} [])).pt 16383) = { raw := 1, runOn := 1000000 }) ∧
    ((U (nX {} {} [])).tenths ((U (nX {} {} [])).po 16383 0x0C) < 1000000 ∧ (U (nX {} {} [])).tenths ((U (nX {} {} [])).po 16383 0x0E) < 1000000 ∧ ((U (nX { raw := 0, runOff := 1000000, active := true, sup := true, rel := 1000000 } {} [])).pt 16383).rel = 1000000) ∧
    ((U (nX { q := 0 } {} [(16383, 0x6100, 0x13, 5)])).staleLimit 16383 = some 5 ∧ ((U (nX { age := 6, aged := true, q := 0 } {} [(16383, 0x6100, 0x13, 5)])).pt 16383).q < 3 ∧ (U (nX {} {} [])).po 16383 0x2C = 0 ∧ (U (nX {} {} [])).po 16383 0x02 ≠ 4) ∧
    ((U (nX {} {} [])).po 16383 0x02 = 1 ∧ (U (nX {} {} [])).tenths ((U (nX {} {} [])).po 16383 0x14) ≤ 1000000 ∧ ((U (nX { rateRun := true, rateCount := 1000000 } {} [])).pt 16383).fault = false ∧ ((U (nX { shelve := some 0 } {} [])).pt 16383).shelve = some 0) ∧
    ((U (nX { st := 1, cond := 1, prio := 1 } { call := 1, ceiling := 3, count := 100000000 } [(16383, 0x6100, 0x0F, 0)])).raising 7 ≠ [] ∧ (nX {} {} []).frame.recs = [] ∧ (U (nX {} {} [])).curMode ≠ 2) ∧
    ((match (U (nX {} { call := 1, ceiling := 3, count := 100000000 } [])).levelFrames 7 with | some k => decide (k ≤ 100000000) | none => false) = true) ∧
    ((U (nX {} {} [])).seconds ((U (nX {} {} [])).ao 7 0x0B) ≤ 100000000 ∧ (U (nX {} {} [])).seconds ((U (nX {} {} [])).ao 7 0x07) ≤ 100000000 ∧ (U (nX {} {} [])).seconds ((U (nX {} {} [])).ao 7 0x11 - (U (nX {} {} [])).ao 7 0x12) ≤ 100000000 ∧ (U (nX {} {} [])).seconds ((U (nX {} {} [])).ao 7 0x11) ≤ 100000000) := by decide +kernel
theorem meets_ExpiriesAct_2 :
    (((U (nX {} { call := 2, count := 100000000, offer := some 1, offerCount := 100000000, es := 1, esCount := 100000000 } [])).area 7).call = 2) ∧
    (((U (nX {} { call := 1, repAt := 1000000000 } [])).area 7).repAt + 2000000000 ≤ (U (nX {} {} [])).now ∧ (U (nX {} {} [(7, 0x6300, 0x02, 9)])).isAreaMaster 7 = false) ∧
    ((nX {} {} []).frame.entries = [] ∧ (nX {} {} []).frame.remoteIn = [] ∧ (U (nX {} {} [(1023, 0x6200, 0x07, 1), (1023, 0x6200, 0x03, 1)])).go 1023 0x07 = 1 ∧ ((U (nX {} {} [])).grp 1023).firstClose + 1 * 1000000 ≤ (U (nX {} {} [])).copy isleFrame ∧ firstOnes 0 [{}] = [{}]) := by decide +kernel
theorem meets_LoopsAct :
    ((nLo [] {}).up = true ∧ (U (nLo [] {})).loopDrives 15 = true ∧ bit ((U (nLo [] {})).lo 15 0x15) 1 = false ∧ bit ((U (nLo [] {})).lo 15 0x15) 0 = false ∧ 2500 ≤ ((U (nLo [] { target := 2500 })).loop 15).target ∧ ((U (nLo [] { hold := true })).loop 15).hold = true) ∧
    ((17000 : Nat) < 17001 ∧ (15999 : Nat) < 16000 ∧ bit ((U (nLo [] {})).lo (4 * 3) 0x15) 6 = false ∧ (15 : Nat) / 4 = ((3 : Fin 4) : Nat)) ∧
    (Takes (S (nLo [(0, loopIdx 15, 0x11, 1)] { p := 2500 * 2 ^ 32 })) 0 lp (fskIdx 15) 0x01 (toLE 2 1 ++ zeros 256) ∧ (U (nLo [(0, loopIdx 15, 0x11, 1)] { p := 2500 * 2 ^ 32 })).loopDrives 15 = true) ∧
    (bit ((U (nLo [(0, fskIdx 15, 0x03, 2)] {})).o (fskIdx 15) 0x03) 1 = true ∧ bit ((U (nLo [] {})).o (fskIdx 15) 0x03) 1 = false) ∧
    (((U (nLo [] { fifo := List.replicate 255 0 })).loop 15).fifo.length < 256 ∧ 256 ≤ ((U (nLo [] { fifo := List.replicate 256 0 })).loop 15).fifo.length) ∧
    ((U (nLo [] { fifo := [65] })).asks lp = true ∧ (U (nLo [] { fifo := [65] })).readCode lp (fskIdx 15) 0x02 = 0) := by decide +kernel
theorem meets_AnnunciatorsAct_1 :
    ((nAn [] {} {}).up = true ∧ (U (nAn [(23, 0x7100, 0x02, 3)] { waveLen := 1 } {})).an 23 0x02 = 3 ∧ 0 < ((U (nAn [] { waveLen := 1 } {})).ann 23).waveLen ∧ ((U (nAn [] { waveLen := 1 } {})).ann 23).waveAt + 1 ≤ (U (nAn [] {} {})).now) ∧
    (mapGet (U (nAn [] {} {})).pulses 23 0 ≤ (U (nAn [] {} {})).now ∧ (U (nAn [] {} {})).curMode = 4 ∧ (U (nAn [(23, 0x7100, 0x02, 4)] {} {})).an 23 0x02 = 4 ∧ (U (nAn [] {} {})).stages = true ∧ (U (nAn [(23, 0x7100, 0x0F, 2)] {} {})).annState 23 = 2) ∧
    ((U (nAn [(23, 0x7100, 0x0F, 1)] {} {})).annState 23 = 1 ∧ ((U (nAn [] {} {})).ann 23).blankAt + (U (nAn [] {} {})).an 23 0x06 * 1000 ≤ (U (nAn [] {} {})).now) ∧
    ((U (nAn [(2, 0x7100, 0x21, 0)] {} {})).oi 2 0x7100 0x21 ≠ 1 ∧ ((U (nAn [] {} {})).annGroup 2).short = none ∧ ((U (nAn [] {} { short := some (16, 2999900000) })).annGroup 2).short = some (16, 2999900000) ∧ (U (nAn [] {} {})).now ≤ 2999900000 + 100000) ∧
    ((U (nAn [(23, 0x7100, 0x0F, 0)] {} {})).annState 23 = 0 ∧ (U (nAn [(23, 0x7100, 0x0C, 1)] {} {})).an 23 0x0C ≠ 0) ∧
    ((U (nAn [(23, 0x7100, 0x0F, 3)] {} {})).annState 23 = 3 ∧ ((U (nAn [] {} {})).ann 23).waitAt + (U (nAn [] {} {})).an 23 0x0A * 1000000 ≤ (U (nAn [] {} {})).now ∧ ((U (nAn [] {} {})).ann 23).onAt + 1000000000 ≤ (U (nAn [] {} {})).now) ∧
    ((U (nAn [(2, 0x7100, 0x21, 1), (2, 0x7100, 0x23, 2)] {} {})).oi 2 0x7100 0x23 ≠ 0 ∧ ((U (nAn [] {} {})).annGroup 2).latchedAt + 2 * 1000000000 ≤ (U (nAn [] {} {})).now) ∧
    (Takes (S (nAn [(2, 0x7100, 0x21, 1)] {} {})) 0 lp 0x7100 0x20 (toLE 1 2) ∧ ((U (nAn [(2, 0x7100, 0x21, 1)] {} {})).writeOne lp .direct 0x7100 0x20 (toLE 1 2) false).2.1.writeJudge lp 0x7100 0x22 [1] = 0 ∧ (U (nAn [(2, 0x7100, 0x21, 1)] {} {})).oi 2 0x7100 0x21 = 1) := by decide +kernel
theorem meets_AnnunciatorsAct_2 :
    ((U (nAn [(2, 0x7100, 0x21, 2)] {} { slots := [23] })).oi 2 0x7100 0x21 = 2 ∧ ((U (nAn [(2, 0x7100, 0x21, 2)] {} { slots := [23] })).annGroup 2).slots = [23] ∧ ((U (nAn [(2, 0x7100, 0x21, 2)] {} { slots := [23] })).annGroup 2).slotAt ≤ (U (nAn [] {} {})).now ∧ (U (nAn [(23, 0x7100, 0x0F, 4)] {} {})).annState 23 = 4) ∧
    ((15999 : Nat) < 16000 ∧ ((U (nAn [] {} {})).annGroup 2).low = false ∧ (17000 : Nat) < 17001 ∧ ((U (nAn [] {} { low := true })).annGroup 2).low = true) ∧
    (Takes (S (nAn [(23, 0x7100, 0x0F, 4)] {} {})) 0 lp 0x7100 0x01 (toLE 1 23) ∧ ((U (nAn [(23, 0x7100, 0x0F, 4)] {} {})).writeOne lp .direct 0x7100 0x01 (toLE 1 23) false).2.1.writeJudge lp 0x7100 0x10 (toLE 2 16) = 0 ∧ bit 16 4 = true) := by decide +kernel
theorem meets_RingAct_1 :
    ((nR 1 [] {}).up = true ∧ (U (nR 1 [] {})).portState 1 = 1 ∧ ((U (nR 1 [] {})).rport 1).only100 = false ∧ (U (nR 3 [] {})).portUp 1 = true) ∧
    (((U (nR 1 [] {})).rport 1).trainAt + 3000000000 ≤ (U (nR 1 [] {})).now ∧ (U (nR 4 [] {})).portState 1 = 4) ∧
    ((U (nR 2 [] {})).portState 1 = 2 ∧ (29 : Nat) < 30 ∧ bit ((U (nR 2 [] {})).oi 1 0x3000 0x0E) 6 = false ∧ (40 : Nat) ≤ 40) ∧
    ((U (nR 2 [(0, 0x3000, 0x16, 1)] {})).o 0x3000 0x16 = 1 ∧ (U (nR 2 [(0, 0x3000, 0x16, 3)] {})).o 0x3000 0x16 = 3) ∧
    (Takes (S (nR 2 [(0, 0x3000, 0x16, 2)] {})) 0 lp 0x3000 0x17 [1] ∧ Takes (S (nR 2 [(0, 0x3000, 0x16, 0)] { forced := true, opened := true })) 0 lp 0x3000 0x17 [2]) ∧
    ((U (nR 2 [(0, 0x1000, 0x06, 7)] { opened := true })).o 0x3000 0x16 = 0 ∧ (U (nR 2 [(0, 0x1000, 0x06, 7)] { opened := true })).ident ≠ 0 ∧ bit ((U (nR 2 [] {})).o 0x2200 0x15) 8 = false) ∧
    ((U (nR 2 [] {})).ring.supAt + (U (nR 2 [] {})).o 0x3200 0x05 * 1000000 ≤ (U (nR 2 [] {})).now ∧ (U (nR 2 [] {})).ring.hbAt + (U (nR 2 [] {})).o 0x3000 0x09 * 1000000 ≤ (U (nR 2 [] {})).now) ∧
    ((U (nR 2 [(0, 0x3200, 0x06, 1)] { nodes := [(7, {})] })).ring.nodes.find? (fun e => e.1 == (7 : BitVec 48).toNat) = some (7, {}) ∧ ({} : RingNode).last + (U (nR 2 [(0, 0x3200, 0x06, 1)] {})).o 0x3200 0x06 * 1000000000 ≤ (U (nR 2 [] {})).now) := by decide +kernel
theorem meets_RingAct_2 :
    (((hsrFrame 1).take 17).length < 18 ∧ crc32 (zeros 20) ≠ fieldLE (zeros 24) 20 4 ∧ (U (nR 2 [] {})).ring.seen = [] ∧ (U (nR 2 [(0, 0x3000, 0x0D, 3)] {})).portUp (1 - 1) = true) ∧
    (24 ≤ (hsrFrame 1).length ∧ (hsrFrame 1).length ≤ 1528 ∧ crc32 ((hsrFrame 1).take ((hsrFrame 1).length - 4)) = fieldLE (hsrFrame 1) ((hsrFrame 1).length - 4) 4 ∧ fieldBE (hsrFrame 1) 12 2 = 0x892F ∧ fieldBE (hsrFrame 1) 18 2 ≠ 0x88FB ∧ fieldBE (hsrFrame 1) 18 2 ≠ (U (nR 2 [] {})).ring.etype ∧ fieldBE (hsrFrame 1) 0 6 = 1 ∧ fieldBE (hsrFrame 1) 6 6 = 2) ∧
    (24 ≤ (hsrFrame 3).length ∧ (hsrFrame 3).length ≤ 1528 ∧ crc32 ((hsrFrame 3).take ((hsrFrame 3).length - 4)) = fieldLE (hsrFrame 3) ((hsrFrame 3).length - 4) 4 ∧ fieldBE (hsrFrame 3) 12 2 = 0x892F ∧ fieldBE (hsrFrame 3) 18 2 ≠ 0x88FB ∧ fieldBE (hsrFrame 3) 18 2 ≠ (U (nR 2 [] {})).ring.etype ∧ fieldBE (hsrFrame 3) 0 6 = 3 ∧ fieldBE (hsrFrame 3) 6 6 = 4) := by decide +kernel
theorem meets_RingAct_p0 : ((1 : Nat) ≠ ownMac ∧ (2 : Nat) ≠ ownMac) ∨ ((3 : Nat) ≠ ownMac ∧ (4 : Nat) ≠ ownMac) := by omega
theorem meets_WoadFramesAct :
    ((nR 2 [] {}).up = true) := by decide +kernel
theorem meets_WoadFramesAct_p0 : (U (nR 2 [] {})).hears 6 (fW []) := hears_of _ _ _ (by decide)
theorem meets_WoadFramesAct_p1 : (U (nR 2 [] {})).hears 3 (fW (toLE 4 0 ++ toLE 4 2 ++ zeros 32)) ∧ fieldLE (toLE 4 0 ++ toLE 4 2 ++ zeros 32) 4 2 = 1 + 1 ∧ 24 + 16 * 1 ≤ (toLE 4 0 ++ toLE 4 2 ++ zeros 32).length := ⟨hears_of _ _ _ (by decide), by decide⟩
theorem meets_WoadFramesAct_p2 : (U (nR 2 [] {})).hears 4 (fW (toLE 4 2 ++ zeros 64)) ∧ fieldLE (toLE 4 2 ++ zeros 64) 0 2 = 1 + 1 ∧ 36 + 32 * 1 ≤ (toLE 4 2 ++ zeros 64).length ∧ fieldLE (slice (toLE 4 2 ++ zeros 64) (4 + 32 * 1) 32) 0 2 < 16384 := ⟨hears_of _ _ _ (by decide), by decide⟩
theorem meets_WoadFramesAct_p3 : (U nQ2).hears 0x7F (fW [1]) ∧ 0x40 ≤ (0x7F : Byte).toNat ∧ 0 ∈ (U nQ2).queuesOf 2 ∧ ((U nQ2).queuesOf 2).Nodup ∧ (U nQ2).oi 0 0x9100 0x0B = 1 ∧ occupancy ((U nQ2).pi 0) ((U nQ2).ci 0) + ((U nQ2).queue 0).wait.length < (U nQ2).depth 0 ∧ bits ((U nQ2).oi 0 0x9100 0x0F) 7 0 ≤ 0x7F ∧ 0x7F ≤ bits ((U nQ2).oi 0 0x9100 0x0F) 15 8 ∧ bits ((U nQ2).oi 0 0x9100 0x0F) 23 16 = 0 := ⟨hears_of _ _ _ (by decide), by decide⟩
theorem meets_WoadFramesAct_p4 : (U (nR 2 [] {})).hears 1 (fW (zeros 4 ++ [3] ++ zeros 7)) ∧ (fW []).src ≠ 0 ∧ (fW []).src ≠ 255 ∧ (U (nR 2 [] {})).mode.keeperReset = none ∧ (U (nR 2 [] {})).curMode ≠ 2 ∧ (zeros 4 ++ [3] ++ zeros 7 : List Byte).length = 12 ∧ fieldLE (zeros 4 ++ [3] ++ zeros 7) 10 2 = 0 ∧ fieldLE (zeros 4 ++ [3] ++ zeros 7) 4 1 = 3 := ⟨hears_of _ _ _ (by decide), by decide⟩
theorem meets_SnapshotsAct :
    (Takes (S (nA [])) 0 lp 0x3000 0x18 ([0, 0] ++ zeros 6 ++ toLE 8 0)) ∧
    (Takes (S (nA [])) 0 lp 0x3000 0x18 ([1, 0] ++ zeros 6 ++ toLE 8 1000000000)) ∧
    ((nSn {}).up = true ∧ (U (nSn { scheduled := true, fire := 1 })).ring.snap = some { scheduled := true, fire := 1 } ∧ 1 + 10000000 ≤ (U (nSn {})).tai ∧ (U (nSn { endAt := some 5 })).ring.snap = some { endAt := some 5 } ∧ 5 ≤ (U (nSn {})).now) := by decide +kernel
theorem meets_SnapshotsAct_p0 : (U (nR 2 [] {})).hears 7 (fW (zeros 8 ++ toLE 8 4000000000000)) ∧ (U (nR 2 [] {})).curMode ≠ 2 ∧ (U (nR 2 [] {})).bcastLate (fieldLE (zeros 8 ++ toLE 8 4000000000000) 8 8) = false ∧ (U (nR 2 [] {})).bcastLate (fieldLE (zeros 16) 8 8) = true := ⟨hears_of _ _ _ (by decide), by decide⟩
theorem meets_SnapshotsAct_p1 : (U (nSn { id := 7 })).hears 7 (fW ([0, 0, BitVec.ofNat 8 (U (nSn {})).ident, 0] ++ toLE 4 7)) ∧ (U (nSn { id := 7 })).ring.snap = some { id := 7 } ∧ (U (nSn {})).o 0x3000 0x19 = 1 ∧ fieldLE ([0, 0, BitVec.ofNat 8 (U (nSn {})).ident, 0] ++ toLE 4 7) 4 4 = 7 ∧ fieldLE ([0, 0, BitVec.ofNat 8 (U (nSn {})).ident, 0] ++ toLE 4 7) 2 1 = (U (nSn {})).ident := ⟨hears_of _ _ _ (by decide), by decide⟩
theorem meets_PtpAct :
    ((nT [] {}).up = true ∧ (nT [] {}).clockMode ≠ 0 ∧ (U (nT [] {})).portUp 1 = true) ∧
    ((U (nT [(0, 0x3100, 0x0E, ofLE (toLE 8 7).reverse)] {})).ptpUses 7 ((U (nT [] {})).o 0x3100 0x02) = true ∧ (U (nT [] {})).o 0x3100 0x0D = 1 ∧ (U (nT [] {})).o 0x1100 0x03 = 2) ∧
    (((U (nT [] { ports := [(1, { sync := some (7, 2, 3, 4) })] })).pport 1).sync = some ((7 : BitVec 16).toNat, 2, 3, 4)) ∧
    ((0 : BitVec 16).toNat = ((U (nT [] {})).pport 1).reqSeq ∧ ((U (nT [] { ports := [(1, { resp := some (7, 2, 3) })] })).pport 1).resp = some (7, 2, 3)) ∧
    ((U (nT [] {})).clockMode = 1 ∧ (BitVec.ofNat 8 ((U (nT [] {})).o 0x3100 0x02)).toNat = (U (nT [] {})).o 0x3100 0x02 ∧ 0 < (U (nT [] {})).announceSpan) ∧
    ((U (nT [] {})).ptp.mine = false ∧ (U { nT [] {} with now := 100000000000 }).time.lastAnnounce + (U { nT [] {} with now := 100000000000 }).announceSpan ≤ 100000000000) ∧
    ((U (nT [] { mine := true })).ptp.mine = true ∧ (U (nT [] {})).ptp.syncAt + logSec ((U (nT [] {})).oint 8 0 0x3100 0x07) ≤ (U (nT [] {})).now) := by decide +kernel
theorem meets_TwinLinkAct :
    ((nW [] {}).up = true ∧ (U (nW [] {})).twinOn = true ∧ (U (nW [] {})).linkUp = true ∧ (U (nW [] {})).ring.thbAt + 100000 ≤ (U (nW [] {})).now ∧ (U (nW [(0, 0x3000, 0x0A, 2)] {})).o 0x3000 0x0A ≠ 0) ∧
    ((U (nW [(1, 0x3000, 0x0D, 2), (0, 0x3000, 0x0A, 2)] {})).portUp 1 = true ∧ (U (nW [(0, 0x3000, 0x0A, 2)] {})).o 0x3000 0x0A = ((1 : Fin 2) : Nat) + 1 ∧ fieldLE (1 :: zeros 15) 0 1 = 1) ∧
    ((U (nW [] {})).twin.hbSent + 2000 ≤ (U (nW [] {})).now ∧ ((U (nW [] {})).linkTake 1 (7 : BitVec 32).toNat true).1 = true ∧ ((U (nW [] { seqIn := [(1, 7)] })).linkTake 1 (7 : BitVec 32).toNat true).1 = true ∧ ((U (nW [] {})).linkTake 7 0 true).1 = true) ∧
    ((U (nW [] { silent := false })).twin.silent = false ∧ (U (nW [] {})).twin.hbAt + 6000 ≤ (U (nW [] {})).now ∧ (U (nW [] {})).twin.digestAt + 1000000000 ≤ (U (nW [] {})).now) ∧
    (((2 : Fin 3) : Nat) ≠ 0 ∧ (U (nW [] { det := true })).twin.det = true ∧ (U (nW [] {})).o 0x2400 0x09 = 3 ∧ (U (nW [(0, 0x2400, 0x09, 2)] {})).o 0x2400 0x09 = 2 ∧ (U (nW [(0, 0x2400, 0x09, 0)] {})).o 0x2400 0x09 = 0) ∧
    (Takes (S ((nW [(0, 0x2400, 0x08, 3)] {}).setI 0 0x1010 0x01 3)) 0 lp 0x2400 0x17 [1]) ∧
    ((U (nW [] { clone := some 4 })).twin.clone = some 4 ∧ (U (nW [] {})).bankUnusable (!((U (nW [] {})).committedBank.getD true)) = false) := by decide +kernel
theorem meets_MirrorsFollow_1 :
    ((U (nW [(0, 0x2400, 0x0A, 3)] {})).mirrors = true ∧ ((U (nW [] {})).linkTake 2 0 true).1 = true ∧ (zeros 52).length = 28 + 24 * 1) ∧
    (((U (nW [] {})).linkTake 3 0 true).1 = true ∧ fieldLE (zeros 64) 26 2 ≤ (chunks 24 168 ((zeros 64).drop 64)).length ∧ (U (nW [(0, 0x2400, 0x0A, 3)] {})).syncState = 3 ∧ fieldLE (toLE 8 1 ++ zeros 56) 0 8 = ((U (nW [] {})).frame.num + 1) % 2 ^ 64) ∧
    ((U (nW [(0, 0x2400, 0x0A, 1)] {})).mirrors = true ∧ (U (nW [(0, 0x2400, 0x0A, 1)] {})).syncState ≠ 3) ∧
    (((U (nW [] {})).linkTake 8 0 true).1 = true ∧ (U (nW [] { close := some { num := 1, ncmd := 2 } })).twin.close = some { num := 1, ncmd := 2 } ∧ fieldLE (toLE 8 1 ++ zeros 8) 0 8 = 1 ∧ fieldLE (toLE 8 1 ++ zeros 8) 8 2 = ([] : List (List Byte)).length) ∧
    ((([] : List (List Byte)) ++ chunks 24 170 ((toLE 8 1 ++ zeros 8 ++ zeros 24).drop 16)).length < 2 ∧ 2 ≤ (([] : List (List Byte)) ++ chunks 24 170 ((toLE 8 1 ++ zeros 8 ++ zeros 48).drop 16)).length ∧ 1 = ((U (nW [] {})).frame.num + 1) % 2 ^ 64) ∧
    (((U (nW [] {})).linkTake 4 0 true).1 = true ∧ (U (nW [(0, 0x2400, 0x0A, 1)] {})).syncState = 1 ∧ ([.frame 7] : List TwinBlock).getLast? = some (.frame 7) ∧ ([.sched 255 [] true] : List TwinBlock).getLast? = some (.sched 255 [] true)) ∧
    ((U (nW [] { loaded := true })).twin.loaded = true ∧ (U (nW [(0, 0x2400, 0x0A, 2)] {})).syncState = 2 ∧ (U (nW [] {})).twin.replay = []) ∧
    (((U (nW [] {})).linkTake 5 0 true).1 = true ∧ (U (nW [] {})).mode.keeperReset = none ∧ (U ((nW [] {}).setI 0 0x1010 0x01 4)).curMode ≠ 5 ∧ (U ((nW [] {}).setI 0 0x1010 0x01 4)).writeJudge lp 0x6000 0x08 (padTo 16 []) ≠ 0) := by decide +kernel
theorem meets_MirrorsFollow_2 :
    ((U { nOp {} with twin := {} }).writeJudge lp 0x6000 0x08 (padTo 16 (opRecord 1 0 0 0 0)) = 0 ∧ (U (nOp {})).writeJudge lp 0x6000 0x08 (padTo 16 (opRecord 5 0 0 1 0xFFFFFFFFFFFFFFFF)) = 0 ∧ fieldLE (padTo 16 (opRecord 5 0 0 1 0xFFFFFFFFFFFFFFFF)) 8 8 ≠ 0) ∧
    (((U ((nOp {}).setI 0 0x2400 0x01 1 |>.setI 0 0x2400 0x09 2)).linkTake 5 0 true).1 = true ∧ (U ((nOp {}).setI 0 0x2400 0x01 1 |>.setI 0 0x2400 0x09 2)).writeJudge lp 0x6000 0x08 (padTo 16 (opRecord 1 0 0 0 0)) = 0) ∧
    ((U (nW [] { passed := [{}] })).twin.passed = [{}] ∧ ({} : PassedCmd).via = .direct ∧ ({} : PassedCmd).at_ + 1000000 ≤ (U (nW [] {})).now) := by decide +kernel
theorem meets_TwinsTakeOver :
    ((U (nW [] { ownIn := true })).twin.ownIn = true ∧ (U (nW [] {})).twin.ownIn = false ∧ (U (nW [] { clearSeen := true })).takeoverDue = true) ∧
    ((U (nW [] {})).curMode = 5 ∧ (U (nW [] { forceOut := true })).twin.forceOut = true ∧ (U (nW [] {})).twin.forceAt + 5000 ≤ (U (nW [] {})).now ∧ (U (nW [] {})).twin.forceIn = false) ∧
    (((U (nW [] {})).linkTake 6 0 true).1 = true ∧ (U (nW [] {})).twin.own = false ∧ (U (nW [] {})).forceSeen = false ∧ (U (nW [(0, 0x2400, 0x08, 4), (0, 0x2400, 0x0A, 3), (0, 0x3000, 0x0D, 2)] {})).handoverOk = true) ∧
    ((U (nW [] { agreed := some { close := 7 } })).twin.agreed = some { close := 7 } ∧ 7 = (7 : BitVec 64).toNat) ∧
    ((U (nW [(0, 0x2400, 0x08, 4), (0, 0x2400, 0x0A, 3), (0, 0x2400, 0x05, 1), (0, 0x3000, 0x0D, 2), (0, 0x2400, 0x06, 1)] { fitSince := some 0, digestSeen := true })).takebackTrack.twin.fitSince = some 0 ∧ 0 + (U (nW [(0, 0x2400, 0x06, 1)] {})).o 0x2400 0x06 * 1000000000 ≤ (U (nW [] {})).now) ∧
    ((U (nW [] {})).twin.ownInAt + 10000 ≤ (U (nW [] {})).now ∧ (U (nW [] { silent := false })).twin.silent = false ∧ bit ((U (nW [(0, 0x2400, 0x08, 4)] {})).o 0x2400 0x08) 2 = true ∧ (U (nW [] {})).twin.ownFault = false) ∧
    (fitFor (U (nW [] { ownIn := true })).health = true ∧ (U (nW [] {})).twin.hbAt + 50000 ≤ (U (nW [] {})).now ∧ (U (nW [] {})).twin.ringHbAt + 50000 ≤ (U (nW [] {})).now) ∧
    ((U ((nW [] { own := true }).setI 0 0x1010 0x01 4)).twin.own = true ∧ (U ((nW [] { own := true }).setI 0 0x1010 0x01 4)).curMode ≠ 3 ∧ (U (nW [] {})).mode.keeperReset = none ∧ (U (nW [] {})).twinOn = true) := by decide +kernel
theorem meets_StandbyTestsRun :
    ((U (nW [(0, 0x2400, 0x13, 60)] {})).o 0x2400 0x13 ≠ 0 ∧ (U (nW [] {})).twin.lakeTest = none ∧ (U (nW [(0, 0x2400, 0x13, 60)] {})).twin.lakeAt + (U (nW [(0, 0x2400, 0x13, 60)] {})).o 0x2400 0x13 * 1000000000 ≤ (U (nW [] {})).now ∧ (((List.range 40).map fun i => ((U (nW [] {})).twin.lakeNext + i) % 40).find? (fun u' => (U (nW [] {})).unitState u' == 0)) = some 0) ∧
    ((U (nW [] {})).twin.loopAt + (U (nW [] {})).o 0x2400 0x14 * 1000000000 ≤ (U (nW [] {})).now ∧ (U (nW [(0, 0x2400, 0x15, 1)] {})).twin.scrubAt + 3600 * (U (nW [(0, 0x2400, 0x15, 1)] {})).o 0x2400 0x15 * 1000000000 ≤ (U (nW [] {})).now) ∧
    ((U (nW [] {})).twin.testAt = 0 ∧ (U (nW [] { testAt := 1 })).twin.testAt + 1000000000 ≤ (U (nW [] {})).now ∧ (U (nW [] { ownWait := some 0 })).twin.ownWait = some 0 ∧ (U (nW [] { forceWait := some 0 })).twin.forceWait = some 0 ∧ 0 + 3000000000 ≤ (U (nW [] {})).now) := by decide +kernel
theorem meets_DrivesAct :
    ((nDr 0 [] {}).up = true ∧ bit ((U (nDr 0 [(0, 0x2200, 0x15, 0x2000)] {})).o 0x2200 0x15) (10 + 3) = true ∧ bit ((U (nDr 0 [] {})).o 0x2200 0x15) (10 + 3) = false) ∧
    (((ns_ (.member 31)).lba4k && decide (2 ^ 40 ≤ (ns_ (.member 31)).size.toNat)) = true ∧ (ns_ (.member 31)).content = .member 31 ∧ (U (nDr 6 [] {})).driveState 31 = 6 ∧ (U (nDr 0 [] {})).slotFor 3 (7 : BitVec 160).toNat = some 0) ∧
    (Takes (S (nDr 3 [(masterCode lp, 0x8000, 0x20, 31)] {})) 0 lp 0x8000 0x27 [1] ∧ Takes (S (nDr 2 [(masterCode lp, 0x8000, 0x20, 31)] {})) 0 lp 0x8000 0x27 [2] ∧ Takes (S (nDr 5 [(masterCode lp, 0x8000, 0x20, 31)] {})) 0 lp 0x8000 0x27 [3] ∧ Takes (S (nDr 7 [(masterCode lp, 0x8000, 0x20, 31)] {})) 0 lp 0x8000 0x27 [4]) ∧
    ((U (nDr 5 [] {})).driveState 31 = 5 ∧ (U (nDr 5 [] {})).sep.flight.any (fun r => decide (r.addr.map (· / 2 ^ 47) = some ((31 : Fin 32) : Nat))) = false ∧ (U (nDr 2 [] {})).driveState 31 = 2) := by decide +kernel
theorem meets_ArchiveCommandsAct :
    (recKey (1 : Byte).toNat (2 : BitVec 16).toNat = 65538 ∧ (mapGet (U { nDr 2 [] {} with sepOpen := [(65538, { count := 1 })] }).sepOpen 65538 {}).count ≠ 0 ∧ 0 + ms ((U (nDr 2 [] {})).o 0x8000 0x03) < (U (nDr 2 [] {})).now) ∧
    ((U (nDr 2 [] { flight := [{ addr := some (31 * 2 ^ 47) }] })).sep.flight.find? (fun r => decide (r.addr.map (· / 2 ^ 47) = some ((31 : Fin 32) : Nat))) = some { addr := some (31 * 2 ^ 47) }) ∧
    (bit ((U (nDr 2 [] {})).o 0x1010 0x04) 4 = false ∧ (U (nDr 2 [] { copies := [31] })).liveCopies ≠ [] ∧ (U (nDr 2 [] { copies := [31], done := [{}] })).liveCopies.length < 2 ∧ sumNat ((((3, 4) :: ([] : List (Nat × Nat))).take 60).map (·.2)) ≠ 0) ∧
    (Takes (S (nDr 2 [] {})) 0 lp 0x8000 0x30 ([7, 1] ++ toLE 2 0 ++ zeros 4 ++ toLE 8 0 ++ toLE 8 0)) ∧
    ((U (nDr 2 [] { queries := [(masterCode lp, [])] })).sep.queries.any (fun e => e.1 == masterCode lp) = true) ∧
    ((U (nDr 2 [(0, 0x8000, 0x12, 1), (31, 0x8000, 0x23, 0x10000000000)] { segs := [{ slot := 31, idx := 1 }] })).thinNext = some { slot := 31, idx := 1 } ∧ (U (nDr 2 [(31, 0x8000, 0x23, 0x10000000000)] {})).nextMember 31 = some 31) := by decide +kernel
theorem meets_CanControllersAct :
    ((nCan 1 [] {}).up = true ∧ (U (nCan 1 [] {})).canState 3 = 1 ∧ (U (nCan 1 [] {})).canListens 3 = false ∧ (U (nCan 1 [(0, 0x1010, 0x01, 5)] {})).canListens 3 = true ∧ (U (nCan 1 [(3, 0x3400, 0x18, 127)] {})).co 3 0x18 ≤ 127 ∧ (U (nCan 1 [] {})).co 3 0x19 ≤ 127) ∧
    ((U (nCan 4 [(3, 0x3400, 0x0F, 0)] {})).canState 3 = 4 ∧ (U (nCan 4 [(3, 0x3400, 0x0F, 0)] {})).co 3 0x0F = 0 ∧ ((U (nCan 4 [] { recover := true })).canSt 3).recover = true) ∧
    (([2, 3, 6] : List Nat).contains ((U (nCan 6 [] {})).canState 3) = true ∧ (6 : Fin 8) ≠ 7 ∧ (U (nCan 2 [] {})).canState 3 = 2 ∧ (U (nCan 2 [(3, 0x3400, 0x18, 119)] {})).co 3 0x18 + ((8 : Fin 9) : Nat) ≤ 127 ∧ 127 < (U (nCan 2 [(3, 0x3400, 0x18, 120)] {})).co 3 0x18 + ((8 : Fin 9) : Nat)) ∧
    ((U (nCan 3 [] {})).canState 3 = 3 ∧ (U (nCan 3 [(3, 0x3400, 0x18, 255)] {})).co 3 0x18 ≤ 255 ∧ 255 < (U (nCan 3 [(3, 0x3400, 0x18, 248)] {})).co 3 0x18 + ((8 : Fin 9) : Nat) ∧ (U (nCan 3 [] {})).co 3 0x19 ≤ 255) ∧
    (((U (nCan 2 [(3, 0x3400, 0x0E, 1)] { bufs := [{}] })).canSt 3).bufs = [{}] ∧ ((U (nCan 2 [] { bufs := [{}] })).canSt 3).resp = [] ∧ (U (nCan 2 [(3, 0x3400, 0x0E, 1)] {})).obi 3 0x3400 0x0E = true ∧ ({} : CanBuf).cancels = [] ∧ ((U (nCan 2 [] { resp := [[]] })).canSt 3).resp = [[]] ∧ ((U (nCan 2 [] { resp := [[]] })).canSt 3).bufs = []) ∧
    ((U (nCan 5 [(3, 0x3400, 0x12, 0)] {})).canState 3 = 5 ∧ (U (nCan 5 [(3, 0x3400, 0x12, 0)] {})).co 3 0x12 = 0) ∧
    (Takes (S (nCan 2 [(masterCode lp, 0x3400, 0x01, 3)] {})) 0 lp 0x3400 0x15 [1] ∧ Takes (S (nCan 5 [(masterCode lp, 0x3400, 0x01, 3)] {})) 0 lp 0x3400 0x15 [2] ∧ Takes (S (nCan 4 [(masterCode lp, 0x3400, 0x01, 3)] {})) 0 lp 0x3400 0x1A [1] ∧ (U (nCan 4 [(masterCode lp, 0x3400, 0x01, 3)] {})).sel lp 0x3400 0x01 = 3) ∧
    (((U (nCan 0 [] { inReset := true })).canSt 3).inReset = true ∧ timingValid ((U (nCan 0 [] {})).canTiming 3) = true ∧ (U (nCan 0 [] {})).obi 3 0x3400 0x02 = true ∧ bit ((U (nCan 0 [] {})).o 0x2200 0x15) (14 + 3) = false ∧ timingValid ((U (nCan 0 [(3, 0x3400, 0x04, 1), (3, 0x3400, 0x05, 1), (3, 0x3400, 0x06, 1)] {})).canTiming 3) = false) := by decide +kernel
theorem meets_CanFramesArrive :
    ((U (nCan 2 [] {})).canState 3 = 2 ∧ (U (nCan 2 [] {})).co 3 0x18 ≤ 255 ∧ identExact (5 % 2 ^ 31) ((U (nCan 2 [] {})).co 3 0x10) = false ∧ (U (nCan 2 [(3, 0x3400, 0x03, 1)] {})).co 3 0x03 ≠ 0 ∧ (U (nCan 2 [] {})).slotsFor 3 5 = [] ∧ (U (nCan 2 [] {})).filterIn 3 0 63 5 = none ∧ (U (nCan 2 [(3, 0x3400, 0x03, 0)] {})).co 3 0x03 = 0) ∧
    (bit 5 29 = false ∧ (U (nCan 2 [(255, 0x3400, 0x21, slotDef)] {})).slotsFor 3 5 = [255] ∧ (U (nCan 2 [(255, 0x3400, 0x21, slotDef)] {})).oi 255 0x3400 0x21 = slotDef ∧ slotField slotDef 2 2 + slotField slotDef 8 1 ≤ 8 * [(7 : Byte)].length ∧ slotField slotDef 9 1 = 0 ∧ bit (slotField slotDef 1 1) 1 = false ∧ fin32 (r32 ((rawField (bit (slotField slotDef 1 1) 0) [7] (slotField slotDef 2 2) (slotField slotDef 8 1) : Rat) * q32 (slotField slotDef 12 4) + q32 (slotField slotDef 16 4))) = true) := by decide +kernel
theorem meets_CanSessionsAct :
    ((nCan 2 [(3, 0x3400, 0x10, 5)] {}).up = true ∧ (U (nCan 2 [(3, 0x3400, 0x10, 5)] {})).keeperUp = true ∧ (U (nCan 2 [(3, 0x3400, 0x10, 5)] {})).canState 3 = 2 ∧ (U (nCan 2 [] {})).co 3 0x18 ≤ 255 ∧ (U (nCan 2 [] {})).canListens 3 = false ∧ bit ((U (nCan 2 [(3, 0x3400, 0x10, 5)] {})).co 3 0x10) 31 = false ∧ (U (nCan 2 [(3, 0x3400, 0x03, 1)] {})).co 3 0x03 ≠ 0) ∧
    (canonIdx (0x1010 : BitVec 16).toNat ≠ 0xF000 ∧ (U (nCan 2 [] {})).indexExists (0x10FF : BitVec 16).toNat = false ∧ 1408 < (1409 : BitVec 16).toNat ∧ 64 - 6 < (1408 : BitVec 16).toNat ∧ (1408 : BitVec 16).toNat ≤ 1408 ∧ 8 - 6 < (3 : BitVec 16).toNat ∧ 0 < (2 : BitVec 16).toNat ∧ (2 : BitVec 16).toNat ≤ 8 - 6) ∧
    (((U (nCan 2 [] {})).canSt 3).sess = none ∧ ((U (nCan 2 [] { sess := some { size := 64 } })).canSt 3).sess = some { size := 64 } ∧ ((U (nCan 2 [] {})).canSt 3).waits = none ∧ ({ size := 64 } : CanSess).toggle = false ∧ ({ size := 64 } : CanSess).write = false ∧ ([] : List Byte).length + (64 - 1) < ({ write := true, len := 64 } : CanSess).len ∧ ({} : CanSess).last + ms 100 ≤ (U (nCan 2 [] {})).now) := by decide +kernel
theorem meets_PanelsAct_1 :
    ((nU 2 [] {}).up = true ∧ Takes (S (nU 2 [] {})) 0 lp 0x7400 0x12 (toLE 16 (0x0001000100000000 : BitVec 128).toNat) ∧ (U (nU 2 [] {})).imageApplying = false) ∧
    ((rq none 0).copied = none ∧ (rq none 0).staged.isSome = true ∧ (U (nU 0 [] {})).railState = 0 ∧ (U (nU 0 [] {})).ob 0x7400 0x01 = true ∧ (U (nU 0 [] {})).panelStopped = false ∧ (U (nU 0 [] {})).umberIsolated = false) ∧
    ((U (nU 2 [] {})).railState = 2 ∧ (dueAt ((U (nU 2 [] {})).now + 1000000) ((U (nU 2 [] { pend := [rq (some 5) 0] })).staying.map (fun g => g.req)) (U (nU 2 [] { pend := [rq (some 5) 0] })).umb.pend 0).any (fun d => d.2) = true ∧ (200000 : Nat) < 200001) ∧
    ((U (nU 2 [] { fly := [{ req := rq (some 5) 0, count := 1, phase := 1 }] })).umb.fly = [{ req := rq (some 5) 0, count := 1, phase := 1 }] ∧ ((rectPixels (rq none 0)).zip ((rq none 0).staged.getD [])).getLast? = some (0, 3) ∧ (1 : Nat) < 2) ∧
    ((U (nU 2 [] { pend := [rq (some 5) 0] })).umb.fly = [] ∧ 5 + 1000000 < (U (nU 2 [] {})).now ∧ (U (nU 2 [(0, 0x7400, 0x0A, 0x0101010101010101)] { pend := [rq (some 5) 0] })).phaseCount (U (nU 2 [(0, 0x7400, 0x0A, 0x0101010101010101)] { pend := [rq (some 5) 0] })).panelBand.1 ≠ 0 ∧ (rq (some 5) 1).verdict ≠ 0) ∧
    ((U (nU 1 [] { stepAt := 9000000000000 })).now < (U (nU 1 [] { stepAt := 9000000000000 })).umb.stepAt + us ((U (nU 1 [(0, 0x7400, 0x0E, 1)] {})).uo 0x0E) ∨ (U (nU 1 [(0, 0x7400, 0x0E, 1)] {})).uo 0x0E ≠ 0) ∧
    ((U (nU 1 [] {})).umb.stepAt + us ((U (nU 1 [] {})).uo 0x0E) ≤ (U (nU 1 [] {})).now ∧ (U (nU 1 [] {})).railState = 1 ∧ railsOn 1 < 5 ∧ railsOn 31 = 5 ∧ (U (nU 3 [] {})).railState = 3 ∧ 2 ≤ railsOn 15 ∧ railsOn 1 ≤ 1 ∧ (U (nU 3 [] {})).umb.pend = []) ∧
    ((U (nU 1 [(0, 0x7400, 0x10, 0)] {})).railGood (railsOn 1 - 1) 0 = true ∧ (U (nU 2 [(0, 0x7400, 0x10, 0x3F8000000000000000000000)] {})).railGood 0 0 = false) := by decide +kernel
theorem meets_PanelsAct_2 :
    ((U (nU 1 [] { rails := 1 })).railState = 1 ∧ railsOn (U (nU 1 [] { rails := 1 })).umb.rails = ((0 : Fin 4) : Nat) + 1 ∧ (U (nU 1 [] {})).umb.stepAt + ms 5 ≤ (U (nU 1 [] {})).now) ∧
    ((U (nU 2 [] {})).umb.fly = [] ∧ (U (nU 2 [] {})).umb.idleAt + ms ((U (nU 2 [] {})).uo 0x0F) ≤ (U (nU 2 [] {})).now ∧ (U (nU 5 [] { fromFault := true })).railState = 5 ∧ (U (nU 5 [] { fromFault := true })).umb.fromFault = true ∧ (U (nU 5 [] {})).umb.fromFault = false) ∧
    (Takes (S (nU 4 [] {})) 0 lp 0x7400 0x1E [1]) := by decide +kernel
theorem meets_FaultsAct_1 :
    ((nV [] {}).up = true ∧ (mapGet (U (nV [] { queues := [(0x004, { msgs := [{ word := 7 }] })] })).ver.queues (4 : BitVec 12).toNat {}).msgs = [{ word := 7 }] ∧ (mapGet (U (nV [] {})).ver.queues (4 : BitVec 12).toNat {}).msgs = []) ∧
    (((U (nV [] { pairs := [(256 * msgSource 7 + msgKind 7, {})] })).ver.pairs.find? (fun e => e.1 == 256 * msgSource 7 + msgKind 7)) = some (256 * msgSource 7 + msgKind 7, {})) ∧
    ((U (nV [] { pub := [{}] })).ver.pub ≠ [] ∧ (U (nV [] {})).ver.lastFrame = none ∧ (U (nV [(0, 0x2200, 0x17, 1)] {})).ob 0x2200 0x17 = true ∧ (U (nV [] {})).curMode ≠ 2 ∧ (U (nV [(0, 0x3000, 0x0D, 2)] {})).ringUp = true) ∧
    (Takes (S (nV [(masterCode lp, 0x2200, 0x05, 4), (masterCode lp, 0x2200, 0x01, 0xF0)] { pairs := [(0x4F0, { severe := true })] })) 0 lp 0x2200 0x0A [1] ∧ (U (nV [(masterCode lp, 0x2200, 0x05, 4), (masterCode lp, 0x2200, 0x01, 0xF0)] {})).selectedPair lp = 0x4F0) ∧
    (Takes (S (nV [] {})) 0 lp 0x2200 0x0C (toLE 8 (0x10F0 : BitVec 64).toNat)) ∧
    (Takes (S (nV [] {})) 0 lp 0x2200 0x12 [1] ∧ Takes (S (nV [] {})) 0 lp 0x2200 0x30 [15]) ∧
    (Takes (S (nV [(0, 0x2200, 0x14, 0x80000000), (0, 0x2200, 0x15, 0x200), (0, 0x2200, 0x16, 0x8000), (0, unitIdx 31, 0x02, 2)] {})) 0 lp 0x2200 0x13 (toLE 2 (0x03F : BitVec 16).toNat) ∧ unitOfSource 0x03F = some 31) ∧
    (Takes (S (nV [(0, 0x2200, 0x15, 0x200), (0, 0x2200, 0x16, 0x8000)] {})) 0 lp 0x2200 0x13 (toLE 2 (0x01F : BitVec 16).toNat) ∧ Takes (S (nV [(0, 0x2200, 0x15, 0x200)] {})) 0 lp 0x2200 0x13 (toLE 2 (0x00B : BitVec 16).toNat) ∧ unitOfSource 0x00B = none ∧ isolationBit 0x00B = some 9) := by decide +kernel
theorem meets_FaultsAct_2 :
    (Takes (S (nC [(masterCode lp, 0x2200, 0x01, 0x20)])) 0 lp 0x2200 0x02 (toLE 8 ((U (nC [])).oi 0x20 0x2200 0x02)) ∧ (∀ e ∈ overrideEntries ((U (nC [])).o 0x2200 0x04) ((U (nC [])).domI 0 0x2200 0x03), e.1 ≠ 0x420) ∧ (U (nC [(masterCode lp, 0x2200, 0x01, 0x20)])).sel lp 0x2200 0x01 = 0x20 ∧ 0x420 % 256 = 0x20) ∧
    (Takes (S (nC [])) 0 lp 0x2200 0x04 (toLE 2 (0 : BitVec 16).toNat)) := by decide +kernel
theorem meets_MeasurementsAct :
    ((nA []).up = true ∧ Takes (S (nA [])) 0 lp 0x2300 0x02 (zeros 32 ++ toLE 4 0x800000) ∧ (U (nA [])).cin.waiting = []) ∧
    ((U { nA [] with cin := { waiting := [{ master := 4 }] } }).cin.waiting = [{ master := 4 }]) ∧
    (Takes (S (nA [(masterCode lp, 0x3700, 0x01, 31)])) 0 lp 0x3700 0x02 (zeros 256) ∧ (zeros 256).length = 256) := by decide +kernel
theorem meets_TagAnswers :
    ((U (nG [] {})).tag.fieldOn = true ∧ (U (nG [] {})).tag.state ≠ .quiet ∧ (U (nG [] { state := .quiet })).tag.state = .quiet ∧ (1 : Byte) ≠ 0 ∧ (U (nG [] {})).tagFor .all = true ∧ (U (nG [] {})).tagFor .selected = false ∧ (U (nG [] { state := .selected })).tagFor .selected = true) ∧
    (2048 ≤ (2048 : BitVec 16).toNat ∧ (2047 : BitVec 16).toNat < 2048 ∧ (U (nG [] { wiredHold := some (31, 1) })).wiredHolds (2047 / 64) = true ∧ (U (nG [] {})).wiredHolds (2047 / 64) = false ∧ (64 : Nat) ≠ 0 ∧ 1984 + 64 ≤ 2048 ∧ 1984 / 64 = (1984 + 64 - 1) / 64) ∧
    ((U (nG [] {})).fieldWritable 639 = false ∧ (U (nG [] {})).fieldWritable 2047 = true ∧ (2047 : Nat) ≠ 576 ∧ (U (nG [] {})).wiredHolds 9 = false ∧ (U (nG [] {})).fieldWritable 576 = true) := by decide +kernel
theorem meets_TagAnswers_p0 : Config.tagUid % 2 ^ 0 = (0 : BitVec 64).toNat % 2 ^ 0 := by simp [Nat.mod_one]

end Sys2Proof.Tests
end

section
/-!
SUPPORT. What the reset state reads as: its objects through the tables' defaults, and its other parts through the sparse
maps, which are empty. Each statement about the reset state is assembled from these.
-/
namespace Sys2Proof.Machine

/-! ## The parts of a key -/

theorem keyIdx_key (i : Nat) {idx sub : Nat} (h1 : idx < 65536) (h2 : sub < 256) : keyIdx (key i idx sub) = idx := by
  unfold keyIdx key; omega

theorem keySub_key (i idx : Nat) {sub : Nat} (h : sub < 256) : keySub (key i idx sub) = sub := by
  unfold keySub key; omega

/-- Only 0x2200.02, whose instances are message kinds (Table 15-3), has a default of its own for each instance. -/
theorem odDefault_key (i : Nat) {idx sub : Nat} (h1 : idx < 65536) (h2 : sub < 256) (h : ¬ (idx = 0x2200 ∧ sub = 0x02)) :
    odDefault (key i idx sub) = tableDefault idx sub := by
  rw [odDefault, keyIdx_key i h1 h2, keySub_key i idx h2, if_neg h]

/-! ## The maps that hold nothing -/

@[simp] theorem mapGet_nil {α : Type} (k : Nat) (d : α) : mapGet [] k d = d := rfl
@[simp] theorem memWf_nil : memWf [] = true := rfl

/-! ## The reset state -/

@[simp] theorem reset_pending : State.reset.pending = [] := rfl
@[simp] theorem reset_vmem : State.reset.vmem = [] := rfl
@[simp] theorem reset_od : State.reset.node.od = [(key 0 0x1200 0x06, 1)] := rfl

/-- The RTC status has OSF set (Table 3-8). -/
theorem reset_rtcStatus : State.reset.node.o 0x1200 0x06 = 1 := rfl

/-- Every object other than the RTC status and the rules reads as its table's default at reset, in every instance (R70). -/
theorem reset_oi (i idx sub : Nat) (h1 : idx < 65536 := by decide) (h2 : sub < 256 := by decide)
    (hosf : ¬ (idx = 0x1200 ∧ sub = 0x06) := by decide) (hrule : ¬ (idx = 0x2200 ∧ sub = 0x02) := by decide) :
    State.reset.node.oi i idx sub = tableDefault idx sub := by
  have hk : key 0 0x1200 0x06 ≠ key i idx sub := fun e =>
    hosf (by simpa [eq_comm] using ((key_inj (by decide) (by decide) h1 h2).mp e).2)
  rw [Node.oi, odGet, reset_od, mapGet, if_neg hk, mapGet_nil, odDefault_key i h1 h2 hrule]

theorem reset_o (idx sub : Nat) (h1 : idx < 65536 := by decide) (h2 : sub < 256 := by decide)
    (hosf : ¬ (idx = 0x1200 ∧ sub = 0x06) := by decide) (hrule : ¬ (idx = 0x2200 ∧ sub = 0x02) := by decide) :
    State.reset.node.o idx sub = tableDefault idx sub :=
  reset_oi 0 idx sub h1 h2 hosf hrule

/-- R17: mode BOOT. -/
theorem reset_curMode : State.reset.node.curMode = 2 := reset_o 0x1010 0x01

/-- With two banks that hold no store image, no bank is committed. -/
theorem reset_committedBank : State.reset.node.committedBank = none := rfl

theorem reset_measureReg (r : Nat) : State.reset.node.measureReg r = zeros 48 := mapGet_nil r (zeros 48)

/-- Every vat is disabled (Vat state 0), whether or not the node is up. -/
theorem reset_vatRuns (v : Nat) : State.reset.node.vatRuns v = false := by
  have hstate : State.reset.node.oi v 0x9000 0x07 = tableDefault 0x9000 0x07 := reset_oi v 0x9000 0x07
  have hdefault : tableDefault 0x9000 0x07 ≠ 2 := by decide
  simp [Node.vatRuns, hstate, hdefault]

/-- R419: both isolation maps are empty. -/
theorem reset_unitIsolated (u : Nat) : State.reset.node.unitIsolated u = false := by
  have hlakes : State.reset.node.o 0x2200 0x14 = 0 := reset_o 0x2200 0x14
  have hothers : State.reset.node.o 0x2200 0x15 = 0 := reset_o 0x2200 0x15
  simp [Node.unitIsolated, hlakes, hothers, bit]

theorem reset_railState : State.reset.node.railState = 0 := reset_o 0x7400 0x13

theorem reset_canState (c : Nat) : State.reset.node.canState c = 0 := reset_oi c 0x3400 0x16

theorem reset_driveState (d : Nat) : State.reset.node.driveState d = 0 := reset_oi d 0x8000 0x21

/-- R65: the time island is UNSET. -/
theorem reset_timeState : State.reset.node.o 0x1100 0x03 = 0 := reset_o 0x1100 0x03

/-! ## The statements -/

/-- Settles O4: DRAM of the reset state lists no cell, and its queue no command. -/
theorem resetHasInv : Obligations.ResetHasInv := ⟨memWf_nil, reset_pending⟩

/-- Settles O6: each object reads as its table's default, OSF as set, and every part kept in a map or a list holds nothing. -/
theorem resetStands : Obligations.ResetStands :=
  ⟨reset_curMode, reset_rtcStatus, reset_committedBank, rfl, rfl, rfl, rfl, rfl, reset_measureReg, rfl, rfl, reset_timeState,
    fun v _ => reset_vatRuns v, fun u _ => reset_unitIsolated u, reset_railState, fun c _ => reset_canState c,
    fun d _ => reset_driveState d, rfl⟩

end Sys2Proof.Machine
end

section
/-!
SUPPORT. What the operations of the blocks leave alone: the parts of the node, and the objects, that modes, power and
resets rest on. `m.Spares n c`: `n` has come of `m` by operations that leave all of that as it was and take back nothing
that was sent. Each operation has one lemma, which carries such a growth one step on.
-/
namespace Sys2Proof.Machine

/-- The parts of the node beside its objects that no block's operation touches. -/
def Node.lasting (n : Node) :=
  (n.now, n.tai, n.pwr, n.mode, n.cin, n.lp, n.sep.drives, n.twin.own, n.twin.passed)

/-- Those parts with the objects, what was sent and the completions that wait. -/
def Node.spared (n : Node) := (n.lasting, n.od, n.out, n.eng.done)

/-- The objects that no block's operation touches: the mode with its cause, line power and KEEP memory, and the states of
the drives. -/
def vital (idx sub : Nat) : Bool :=
  idx == 0x2000 || (idx == 0x1010 && (sub == 1 || sub == 3)) || (idx == 0x8000 && sub == 0x21)

/-- An object that a block's operation may write. -/
def blockObject (idx sub : Nat) : Bool := decide (sub < 256) && !vital (idx % 65536) sub

/-- `n` comes of `m` by operations that leave the lasting parts and the vital objects as they are, and what was sent stays
sent. `c` says whether descriptors may have completed on the way. -/
structure Node.Spares (m n : Node) (c : Bool) : Prop where
  lasting : n.lasting = m.lasting
  objects : ∀ j idx sub, sub < 256 → vital idx sub = true → n.oi j idx sub = m.oi j idx sub
  sent : ∀ o ∈ m.out, o ∈ n.out
  done : c = false → n.eng.done = m.eng.done

namespace Node.Spares
variable {m n : Node} {c : Bool}

theorem refl (n : Node) (c : Bool) : n.Spares n c := ⟨rfl, fun _ _ _ _ _ => rfl, fun _ h => h, fun _ => rfl⟩

theorem trans {k : Node} (h : m.Spares n c) (g : n.Spares k c) : m.Spares k c :=
  ⟨g.lasting.trans h.lasting, fun j x b hb hg => (g.objects j x b hb hg).trans (h.objects j x b hb hg),
    fun o ho => g.sent o (h.sent o ho), fun hc => (g.done hc).trans (h.done hc)⟩

/-- A change of other parts of the node. -/
theorem of_same {k : Node} (h : m.Spares n c) (e : k.spared = n.spared) : m.Spares k c := by
  obtain ⟨hl, ho, hs, hd⟩ : k.lasting = n.lasting ∧ k.od = n.od ∧ k.out = n.out ∧ k.eng.done = n.eng.done := by
    simpa only [Node.spared, Prod.mk.injEq] using e
  exact ⟨hl.trans h.lasting, fun j x b hb hg => by rw [Node.oi, ho]; exact h.objects j x b hb hg,
    fun o g => hs ▸ h.sent o g, fun hc => hd.trans (h.done hc)⟩

theorem ite {a b : Node} {p : Prop} [Decidable p] (h : m.Spares a c) (g : m.Spares b c) :
    m.Spares (if p then a else b) c := by
  split <;> assumption

theorem foldl {α : Type} {f : Node → α → Node} (hf : ∀ n a, m.Spares n c → m.Spares (f n a) c) {l : List α}
    (h : m.Spares n c) : m.Spares (l.foldl f n) c := by
  induction l generalizing n with
  | nil => exact h
  | cons a r ih => exact ih (hf n a h)

/-- A write of an object that is not vital. -/
theorem setI (h : m.Spares n c) {i idx sub v : Nat} (hu : blockObject idx sub = true) :
    m.Spares (n.setI i idx sub v) c := by
  refine ⟨h.lasting, fun j x b hb hg => ?_, h.sent, h.done⟩
  rw [← h.objects j x b hb hg]
  refine Node.oi_setI_ne n v fun e => ?_
  simp only [blockObject, Bool.and_eq_true, decide_eq_true_eq, Bool.not_eq_true'] at hu
  have hx : x < 65536 := by
    simp only [vital, Bool.or_eq_true, Bool.and_eq_true, beq_iff_eq] at hg
    omega
  have hi : idx % 65536 = x := by unfold key at e; omega
  have hs : sub = b := by unfold key at e; omega
  rw [hi, hs, hg] at hu
  exact Bool.noConfusion hu.2

theorem emit (h : m.Spares n c) {o : Out} : m.Spares (n.emit o) c :=
  ⟨h.lasting, h.objects, fun p hp => List.mem_append_left _ (h.sent p hp), h.done⟩

theorem complete (h : m.Spares n true) {d : DescDone} : m.Spares (n.complete d) true :=
  ⟨h.lasting, h.objects, h.sent, fun hc => Bool.noConfusion hc⟩

theorem draw (h : m.Spares n c) : m.Spares n.draw.2 c := h.of_same (by rfl)
theorem setDomI (h : m.Spares n c) {i idx sub : Nat} {bs : List Byte} : m.Spares (n.setDomI i idx sub bs) c := h.of_same (by rfl)
theorem fault (h : m.Spares n c) {src kind detail addr : Nat} : m.Spares (n.fault src kind detail addr) c := h.of_same (by rfl)
theorem setVat (h : m.Spares n c) {v : Nat} {x : VatSt} : m.Spares (n.setVat v x) c := h.of_same (by rfl)

theorem irq (h : m.Spares n c) {v s : Nat} : m.Spares (n.irq v s) c := by
  unfold Node.irq; exact h.ite h.setVat
theorem irqAll (h : m.Spares n c) {s : Nat} : m.Spares (n.irqAll s) c := h.foldl fun _ _ g => g.irq
theorem event (h : m.Spares n c) {e : Nat} : m.Spares (n.event e) c := by
  unfold Node.event; exact h.ite h.irq

/-! ## Vats (R34) -/

theorem haltVats (h : m.Spares n c) : m.Spares n.haltVats c := by
  unfold Node.haltVats
  exact (h.foldl fun _ _ g => .ite (g.setI (by decide)).setVat g).foldl fun _ _ g => .ite (g.setI (by decide)) g

/-! ## CAN controllers (chapter 13) -/

theorem setCan (h : m.Spares n c) {k : Nat} {x : CanSt} : m.Spares (n.setCan k x) c := h.of_same (by rfl)
theorem canAnswer (h : m.Spares n c) {k size : Nat} {bs : List Byte} : m.Spares (n.canAnswer k size bs) c := h.of_same (by rfl)
theorem setCanBit (h : m.Spares n c) {k i : Nat} {b : Bool} : m.Spares (n.setCanBit k i b) c := h.setI (by decide)
theorem canFlags (h : m.Spares n c) {k : Nat} : m.Spares (n.canFlags k) c := h.setCanBit.setCanBit.setCanBit
theorem setCanState (h : m.Spares n c) {k st : Nat} : m.Spares (n.setCanState k st) c := (h.setI (by decide)).canFlags
theorem canDropSends (h : m.Spares n true) {k code : Nat} : m.Spares (n.canDropSends k code) true :=
  h.setCan.foldl fun _ _ g => g.complete.foldl fun _ _ k => k.complete
theorem canStop (h : m.Spares n true) {k : Nat} : m.Spares (n.canStop k) true := h.canDropSends.setCan.setCanState
theorem canStopAll (h : m.Spares n true) : m.Spares n.canStopAll true := h.foldl fun _ _ g => g.canStop
theorem canToListen (h : m.Spares n true) : m.Spares n.canToListen true :=
  h.foldl fun _ _ g => .ite g.canDropSends.setCanState g

theorem canSessionCut (h : m.Spares n c) {k : Nat} : m.Spares (n.canSessionCut k) c := by
  unfold Node.canSessionCut
  dsimp only
  cases (n.canSt k).sess with
  | some _ => exact h.draw.setCan.canAnswer
  | none => exact h.setCan

/-! ## Annunciators and loop outputs (chapter 9) -/

theorem setAnn (h : m.Spares n c) {b : Nat} {x : AnnSt} : m.Spares (n.setAnn b x) c := h.of_same (by rfl)
theorem setLoop (h : m.Spares n c) {i : Nat} {x : LoopSt} : m.Spares (n.setLoop i x) c := h.of_same (by rfl)

theorem setAnnBit (h : m.Spares n c) {b i : Nat} {v : Bool} : m.Spares (n.setAnnBit b i v) c := h.setI (by decide)

theorem enterAnn (h : m.Spares n c) {b st : Nat} : m.Spares (n.enterAnn b st) c := by
  unfold Node.enterAnn
  extract_lets x entered shown
  have hs : m.Spares shown c := (h.setAnn.setI (by decide)).setAnnBit.setAnnBit
  exact hs.ite hs.setAnnBit

theorem annRefresh (h : m.Spares n c) {b : Nat} : m.Spares (n.annRefresh b) c := by
  unfold Node.annRefresh
  exact .ite (h.ite h.enterAnn) (.ite h.enterAnn (.ite (.ite h.enterAnn h) (.ite (.ite h h.enterAnn) h)))

theorem annRefreshAll (h : m.Spares n c) : m.Spares n.annRefreshAll c := h.foldl fun _ _ g => g.annRefresh

theorem holdSafe (h : m.Spares n c) : m.Spares n.holdSafe c := h.foldl fun _ _ g => g.setAnn

theorem fskCheck (h : m.Spares n c) {i : Nat} : m.Spares (n.fskCheck i) c := by
  have hu : blockObject (fskIdx i) 0x03 = true := by
    simp only [blockObject, vital, fskIdx, Bool.and_eq_true, Bool.not_eq_true', Bool.or_eq_false_iff, beq_eq_false_iff_ne,
      decide_eq_true_eq, Bool.and_eq_false_imp, beq_iff_eq]
    omega
  unfold Node.fskCheck
  exact .ite ((h.setI hu).setI hu).setLoop h

/-- The stage enables fall; only annunciators and modems follow. -/
theorem stageDisable (h : m.Spares n c) : m.Spares n.stageDisable c :=
  (annRefreshAll (h.of_same (by rfl))).foldl fun _ _ g => g.fskCheck

/-! ## The panel (chapter 14) -/

theorem setPix (h : m.Spares n c) {k : Nat} {p : UmbPix} : m.Spares (n.setPix k p) c := h.of_same (by rfl)
theorem panelDone (h : m.Spares n c) {r : UmbReq} {result band : Nat} {balanced : Bool} :
    m.Spares (n.panelDone r result band balanced) c := (h.setDomI.setI (by decide)).event
theorem uset (h : m.Spares n c) {sub v : Nat} (hs : sub < 256) : m.Spares (n.uset sub v) c :=
  h.setI (by simp [blockObject, vital, hs])
theorem panelCounts (h : m.Spares n c) : m.Spares n.panelCounts c := (h.uset (by decide)).uset (by decide)

theorem abortFlights (h : m.Spares n c) : m.Spares n.abortFlights c := by
  unfold Node.abortFlights
  exact (foldl (fun _ _ g => (g.foldl fun _ _ k => k.setPix).panelDone) (h.of_same (by rfl))).panelCounts

theorem discharge (h : m.Spares n c) {fromFault : Bool} : m.Spares (n.discharge fromFault) c := by
  unfold Node.discharge
  exact .ite h (.ite (.ite (h.uset (by decide)) h) (uset (of_same h.abortFlights (by rfl)) (by decide)))

/-! ## The ring (chapter 10) -/

theorem setRport (h : m.Spares n c) {p : Nat} {x : RingPort} : m.Spares (n.setRport p x) c := h.of_same (by rfl)
theorem nextSeq (h : m.Spares n c) {type : Nat} : m.Spares (n.nextSeq type).2 c := h.of_same (by rfl)
theorem setPortBit (h : m.Spares n c) {p i : Nat} {b : Bool} : m.Spares (n.setPortBit p i b) c := h.setI (by decide)
theorem portDrop (h : m.Spares n c) {p k : Nat} : m.Spares (n.portDrop p k) c := by
  unfold Node.portDrop; exact h.ite (h.setI (by decide)).setPortBit
theorem handTo (h : m.Spares n c) {p : Nat} {f : List Byte} : m.Spares (n.handTo p f) c := by
  unfold Node.handTo; exact .ite (h.setI (by decide)).emit (.ite h.setRport h.portDrop)
theorem portOff (h : m.Spares n c) {p st : Nat} : m.Spares (n.portOff p st) c :=
  (h.setI (by decide)).setPortBit.setPortBit.setPortBit.setRport.portDrop
theorem portsStop (h : m.Spares n c) : m.Spares n.portsStop c := h.foldl fun _ _ g => g.ite g.portOff

theorem sendTwinHeartbeat (h : m.Spares n c) {health : Nat} : m.Spares (n.sendTwinHeartbeat health) c := by
  unfold Node.sendTwinHeartbeat
  exact h.ite (handTo (of_same (h.nextSeq (type := 6)) (by rfl)))

/-! ## The persistent store and the data ports (chapter 4) -/

theorem setStore (h : m.Spares n c) {f : StoreSt → StoreSt} : m.Spares (n.setStore f) c := h.of_same (by rfl)
theorem setBank (h : m.Spares n c) {b : Bool} {x : Bank} : m.Spares (n.setBank b x) c := h.setStore
theorem storeRefresh (h : m.Spares n c) : m.Spares n.storeRefresh c := h.setI (by decide)
theorem eraseStart (h : m.Spares n c) : m.Spares n.eraseStart c := h.setStore.storeRefresh

theorem flashCut (h : m.Spares n c) : m.Spares n.flashCut c := by
  have hc : m.Spares n.commitAbandon c := by
    unfold Node.commitAbandon
    cases n.store.job with
    | some _ => exact h.setBank.setStore
    | none => exact h
  unfold Node.flashCut Node.eraseCut
  cases n.commitAbandon.store.erasing with
  | some _ => exact hc.setStore
  | none => exact hc

theorem commitKeeperReset (h : m.Spares n c) : m.Spares n.commitKeeperReset c := by
  unfold Node.commitKeeperReset
  cases n.store.job with
  | some _ => exact h.setBank.setStore.setI (by decide)
  | none => exact h.setStore.storeRefresh

theorem setPort (h : m.Spares n c) {p : Nat} {x : PortSt} : m.Spares (n.setPort p x) c := h.of_same (by rfl)
theorem portsCut (h : m.Spares n c) : m.Spares n.portsCut c := h.foldl fun _ _ g => .ite g.setPort g

/-! ## Sepia (chapter 12) -/

theorem dropSeg (h : m.Spares n c) {g : Seg} : m.Spares (n.dropSeg g) c :=
  emit (h.of_same (by rfl))

theorem makeRoom (h : m.Spares n c) {fuel : Nat} : m.Spares (n.makeRoom fuel) c := by
  induction fuel generalizing n with
  | zero => exact h
  | succ fuel ih =>
    unfold Node.makeRoom
    refine h.ite ?_
    cases n.oldestStreamSeg with
    | some g => exact ih h.dropSeg.fault
    | none => exact h

theorem openSeg (h : m.Spares n c) {log : Nat} : m.Spares (n.openSeg log).1 c := by
  have hr : m.Spares (n.makeRoom n.sep.segs.length) c := h.makeRoom
  unfold Node.openSeg
  dsimp only
  generalize n.makeRoom n.sep.segs.length = r at hr
  cases r.nextMember (if log = 0 then r.sep.last0 else r.sep.last1) with
  | some s => exact emit (hr.of_same (by split <;> rfl))
  | none =>
    dsimp only
    split
    · exact (setI (hr.of_same (by rfl)) (by decide)).fault
    · exact hr

theorem segFor (h : m.Spares n c) {log need : Nat} : m.Spares (n.segFor log need).1 c := by
  unfold Node.segFor
  cases n.curSeg log with
  | some g =>
    dsimp only
    split
    · exact h
    · exact h.openSeg
  | none => exact h.openSeg

theorem placeRec (h : m.Spares n c) {r : ArchRec} : m.Spares (n.placeRec r) c := by
  have hs : m.Spares (n.segFor (logOf r.kind) r.span).1 c := h.segFor
  unfold Node.placeRec
  dsimp only
  cases (n.segFor (logOf r.kind) r.span).2 with
  | some g => exact emit (hs.of_same (by rfl))
  | none => exact hs.of_same (by rfl)

theorem placeAll (h : m.Spares n c) : m.Spares n.placeAll c := by
  unfold Node.placeAll
  exact .ite (foldl (fun _ _ g => g.placeRec) (h.of_same (by rfl))) h

theorem sepRefresh (h : m.Spares n c) : m.Spares n.sepRefresh c := by
  unfold Node.sepRefresh
  extract_lets _ cleared st on marked was _ noted
  have hc : m.Spares cleared c := .ite (h.of_same (by rfl)) h
  have hm : m.Spares marked c := hc.setI (by decide)
  have hn : m.Spares noted c := .ite hm (hm.of_same (by rfl))
  exact hn.placeAll

theorem backlogCheck (h : m.Spares n c) : m.Spares n.backlogCheck c := by
  unfold Node.backlogCheck
  exact h.ite (.ite (h.setI (by decide)).fault (h.setI (by decide)))

theorem pushRec (h : m.Spares n c) {k : Nat} {x : OpenRec} : m.Spares (n.pushRec k x) c :=
  (placeAll (h.of_same (by rfl))).backlogCheck

theorem sealRec (h : m.Spares n c) {k : Nat} : m.Spares (n.sealRec k) c := by
  unfold Node.sealRec; exact h.ite h.pushRec

theorem recDone (h : m.Spares n c) {r : ArchRec} : m.Spares (n.recDone r) c :=
  (setI (h.of_same (by rfl)) (by decide)).backlogCheck

theorem writeOut (h : m.Spares n c) : m.Spares n.writeOut c := by
  have hs : m.Spares ((n.sepOpen.map (·.1)).foldl (fun n k => n.sealRec k) n) c := h.foldl fun _ _ g => g.sealRec
  unfold Node.writeOut
  dsimp only
  exact .ite (of_same (hs.draw.foldl fun _ _ g => g.recDone) (by rfl)) (of_same (hs.foldl fun _ _ g => g.recDone) (by rfl))

theorem cutOff (h : m.Spares n c) : m.Spares n.cutOff c := of_same h.draw (by rfl)

theorem copiesRefresh (h : m.Spares n c) : m.Spares n.copiesRefresh c := by
  unfold Node.copiesRefresh
  exact setI (setI (.ite (h.of_same (by rfl)) h) (by decide)) (by decide)

/-! ## Points and calls (chapter 8) -/

theorem setArea (h : m.Spares n c) {a : Nat} {x : AreaSt} : m.Spares (n.setArea a x) c := h.of_same (by rfl)
theorem callChanged (h : m.Spares n c) {a tk : Nat} : m.Spares (n.callChanged a tk) c := h.of_same (by rfl)

theorem raiseCall (h : m.Spares n c) {tk p prio : Nat} : m.Spares (n.raiseCall tk p prio) c := by
  unfold Node.raiseCall
  exact .ite h.setArea.callChanged (.ite h.setArea.callChanged (.ite h.setArea.callChanged h.setArea))

theorem raiseAll (h : m.Spares n c) {tk : Nat} : m.Spares (n.raiseAll tk) c := by
  unfold Node.raiseAll
  exact (h.foldl fun _ _ g => g.setArea).foldl fun _ _ g => g.raiseCall

/-! ## The twin's side (chapter 11) -/

theorem setRole (h : m.Spares n c) {r : Nat} : m.Spares (n.setRole r) c := by
  unfold Node.setRole; exact h.ite (h.setI (by decide)).irqAll
theorem setSync (h : m.Spares n c) {st : Nat} : m.Spares (n.setSync st) c := h.setI (by decide)
theorem mirrorClear (h : m.Spares n c) : m.Spares n.mirrorClear c := h.of_same (by rfl)
theorem syncStart (h : m.Spares n c) : m.Spares n.syncStart c := setSync (h.mirrorClear.of_same (by rfl))

theorem twinSend (h : m.Spares n c) {type : Nat} {body : List Byte} : m.Spares (n.twinSend type body) c := by
  unfold Node.twinSend; exact .ite (emit (h.of_same (by rfl))) h

theorem toFrame (h : m.Spares n c) {kind ref : Nat} {r : Reading} : m.Spares (n.toFrame kind ref r) c := by
  unfold Node.toFrame
  exact .ite (h.of_same (by rfl)) (.ite (twinSend (h.of_same (by rfl))) (h.of_same (by rfl)))

end Node.Spares

namespace Node.Spares
variable {m n : Node} {c : Bool}

/-! ## What is read off it -/

theorem now (h : m.Spares n c) : n.now = m.now := congrArg (·.1) h.lasting
theorem tai (h : m.Spares n c) : n.tai = m.tai := congrArg (·.2.1) h.lasting
theorem pwr (h : m.Spares n c) : n.pwr = m.pwr := congrArg (·.2.2.1) h.lasting
theorem mode (h : m.Spares n c) : n.mode = m.mode := congrArg (·.2.2.2.1) h.lasting
theorem cin (h : m.Spares n c) : n.cin = m.cin := congrArg (·.2.2.2.2.1) h.lasting
theorem lp (h : m.Spares n c) : n.lp = m.lp := congrArg (·.2.2.2.2.2.1) h.lasting
theorem drives (h : m.Spares n c) : n.sep.drives = m.sep.drives := congrArg (·.2.2.2.2.2.2.1) h.lasting
theorem own (h : m.Spares n c) : n.twin.own = m.twin.own := congrArg (·.2.2.2.2.2.2.2.1) h.lasting
theorem passed (h : m.Spares n c) : n.twin.passed = m.twin.passed := congrArg (·.2.2.2.2.2.2.2.2) h.lasting
theorem curMode (h : m.Spares n c) : n.curMode = m.curMode := h.objects 0 0x1010 0x01 (by decide) rfl
theorem modeCause (h : m.Spares n c) : n.o 0x1010 0x03 = m.o 0x1010 0x03 := h.objects 0 0x1010 0x03 (by decide) rfl
theorem power (h : m.Spares n c) {sub : Nat} (hs : sub < 256) : n.o 0x2000 sub = m.o 0x2000 sub := h.objects 0 0x2000 sub hs rfl

end Node.Spares

/-! ## OWN -/

/-- The node with OWN at `b`. -/
def Node.withOwn (n : Node) (b : Bool) : Node := { n with twin := { n.twin with own := b } }

theorem Node.withOwn_of_own {n : Node} {b : Bool} (h : n.twin.own = b) : n.withOwn b = n := by
  rw [Node.withOwn, ← h]

theorem Node.Spares.withOwn {m n : Node} {c : Bool} (h : m.Spares n c) (b : Bool) :
    (m.withOwn b).Spares (n.withOwn b) c := by
  refine ⟨?_, h.objects, h.sent, h.done⟩
  have hl := h.lasting
  simp only [Node.lasting, Prod.mk.injEq] at hl
  simp [Node.lasting, Node.withOwn, hl]

/-- R329: dropping OWN leaves the node as one without OWN. -/
theorem Node.spares_dropOwn (n : Node) (c : Bool) : (n.withOwn false).Spares n.dropOwn c := by
  unfold Node.dropOwn
  split
  · extract_lets dropped
    have hd : (n.withOwn false).Spares dropped c := .setSync (.stageDisable (.of_same (.refl _ c) (by rfl)))
    exact .ite hd.sendTwinHeartbeat hd
  · next h =>
    rw [Node.withOwn_of_own (by simpa using h)]
    exact .refl n c

/-- R329: a claim leaves the node as one that holds OWN. -/
theorem Node.spares_claimOwn (n : Node) (cause : Nat) (c : Bool) : (n.withOwn true).Spares (n.claimOwn cause) c :=
  .setSync (.setRole (.of_same (.refl _ c) (by rfl)))

theorem Node.Spares.dropOwn {m n : Node} {c : Bool} (h : m.Spares n c) : (m.withOwn false).Spares n.dropOwn c :=
  (h.withOwn false).trans (n.spares_dropOwn c)

theorem Node.Spares.claimOwn {m n : Node} {c : Bool} {cause : Nat} (h : m.Spares n c) :
    (m.withOwn true).Spares (n.claimOwn cause) c :=
  (h.withOwn true).trans (n.spares_claimOwn cause c)

end Sys2Proof.Machine
end

section
/-!
SUPPORT. Entering a mode (R18 to R20, R329, R330): the mode, its cause and OWN after it.
-/
namespace Sys2Proof.Machine

/-- The node with a mode, its cause and its time written (R18). -/
def Node.entered (n : Node) (m cause : Nat) : Node := ((n.set 0x1010 0x01 m).set 0x1010 0x03 cause).set 0x1010 0x07 n.tai

theorem Node.entered_curMode (n : Node) (m cause : Nat) : (n.entered m cause).curMode = m := by
  simp [Node.entered, Node.curMode, Node.o_eq, Node.set_eq, Node.oi_setI, key]

theorem Node.entered_cause (n : Node) (m cause : Nat) : (n.entered m cause).o 0x1010 0x03 = cause := by
  simp [Node.entered, Node.o_eq, Node.set_eq, Node.oi_setI, key]

/-- R330: on entry to COMMISSION OWN is held or not, and nothing else of what lasts changes. -/
theorem Node.spares_commissionOwn (n : Node) (cause : Nat) :
    ∃ b, (n.withOwn b).Spares (n.commissionOwn cause) true := by
  unfold Node.commissionOwn
  split
  · refine ⟨true, ?_⟩
    split
    · next h => rw [Node.withOwn_of_own h]; exact .refl n true
    · exact n.spares_claimOwn cause true
  · refine ⟨false, .setRole ?_⟩
    by_cases h : n.twin.own = true
    · simp only [Node.when, h, if_true]
      exact (n.spares_dropOwn true).canToListen
    · rw [Node.withOwn_of_own (by simpa using h)]
      simpa only [Node.when, h] using .refl n true

/-- What entering a mode leaves: the mode with its cause, OWN dropped in STANDBY and held in a mode that owns. -/
theorem Node.spares_enterMode (n : Node) (m cause : Nat) :
    ∃ b, ((n.entered m cause).withOwn b).Spares (n.enterMode m cause) true ∧ (m = 5 → b = false) ∧
      (m ≠ 3 → m ≠ 5 → b = true) := by
  unfold Node.enterMode
  extract_lets old anew written told leaving standing raised
  have ht : (n.entered m cause).Spares told true := (Node.Spares.fault (.refl _ true)).irqAll
  have hs : ∃ b, ((n.entered m cause).withOwn b).Spares standing true ∧ (m = 5 → b = false) ∧ (m ≠ 3 → m ≠ 5 → b = true) := by
    dsimp only [standing]
    by_cases h3 : m = 3
    · obtain ⟨b, hb⟩ := (told.set 0x1010 0x05 0).spares_commissionOwn cause
      have h0 : (n.entered m cause).Spares (told.set 0x1010 0x05 0) true := ht.setI (by decide)
      rw [if_pos h3]
      exact ⟨b, (h0.withOwn b).trans hb, by omega, by omega⟩
    rw [if_neg h3]
    by_cases h5 : m = 5
    · have h0 : (n.entered m cause).Spares leaving true := .ite (ht.setI (by decide)) ht
      rw [if_pos h5]
      exact ⟨false, h0.dropOwn.setRole.syncStart.canToListen, fun _ => rfl, fun _ h => absurd h5 h⟩
    rw [if_neg h5]
    refine ⟨true, ?_, fun h => absurd h h5, fun _ _ => rfl⟩
    split
    · next ho => exact Node.withOwn_of_own ho ▸ ht.withOwn true
    · exact ht.claimOwn
  obtain ⟨b, hb, h5, hown⟩ := hs
  have hr : ((n.entered m cause).withOwn b).Spares raised true := .ite hb.raiseAll hb
  exact ⟨b, .ite hr.holdSafe hr, h5, hown⟩

theorem Node.enterMode_curMode (n : Node) (m cause : Nat) : (n.enterMode m cause).curMode = m := by
  obtain ⟨b, h, -⟩ := n.spares_enterMode m cause
  exact h.curMode.trans (n.entered_curMode m cause)

theorem Node.enterMode_cause (n : Node) (m cause : Nat) : (n.enterMode m cause).o 0x1010 0x03 = cause := by
  obtain ⟨b, h, -⟩ := n.spares_enterMode m cause
  exact h.modeCause.trans (n.entered_cause m cause)

theorem Node.enterMode_mode (n : Node) (m cause : Nat) : (n.enterMode m cause).mode = n.mode := by
  obtain ⟨b, h, -⟩ := n.spares_enterMode m cause
  exact h.mode

/-- R326: a node in STANDBY does not hold OWN. -/
theorem Node.enterMode_standby_own (n : Node) (cause : Nat) : (n.enterMode 5 cause).twin.own = false := by
  obtain ⟨b, h, h5, -⟩ := n.spares_enterMode 5 cause
  exact h.own.trans (h5 rfl)

/-- R329: a mode that owns holds OWN. -/
theorem Node.enterMode_active_own (n : Node) {m : Nat} (cause : Nat) (h3 : m ≠ 3) (h5 : m ≠ 5) :
    (n.enterMode m cause).twin.own = true := by
  obtain ⟨b, h, -, hown⟩ := n.spares_enterMode m cause
  exact h.own.trans (hown h3 h5)

/-- R20: a transition into ACTIVE ends in a mode that owns. -/
theorem Node.activeTarget_owns (n : Node) : n.activeTarget = 4 ∨ n.activeTarget = 6 ∨ n.activeTarget = 7 := by
  unfold Node.activeTarget
  split
  · exact .inr (.inr rfl)
  · split
    · exact .inr (.inl rfl)
    · exact .inl rfl

end Sys2Proof.Machine
end

section
/-!
SUPPORT. What the forms of a command leave, for modes and resets: the mode and its cause through the storing of
completions, and requests of the local port that are no longer outstanding.
-/
namespace Sys2Proof.Machine

/-- A command that acts while the node is up answers what its operation leaves, with its completions stored. -/
theorem answers_whenUp {i : Instr} {s : State} {dt : Nat} {f : Node → Node} {P : State → Prop} (hup : s.node.up = true)
    (he : exec i s = actDone dt s fun n => n.whenUp f) (h : P (settle { s with node := f (s.at_ dt) })) : Answers i s P :=
  ⟨_, he.trans (actDone_whenUp hup), h⟩

theorem settle_curMode (s : State) : (settle s).node.curMode = s.node.curMode :=
  settle_oi s (by decide) (by decide) (by decide) (by decide) (by decide)

theorem settle_modeCause (s : State) : (settle s).node.o 0x1010 0x03 = s.node.o 0x1010 0x03 :=
  settle_oi s (by decide) (by decide) (by decide) (by decide) (by decide)

theorem settle_syncState (s : State) : (settle s).node.syncState = s.node.syncState :=
  settle_oi s (by decide) (by decide) (by decide) (by decide) (by decide)

/-! ## Answers -/

namespace Node.Spares
variable {m n : Node} {c : Bool}

theorem sendTagged (h : m.Spares n c) {dst : List Byte} {etype : Nat} {payload : List Byte} :
    m.Spares (n.sendTagged dst etype payload) c := (h.setI (by decide)).handTo.handTo

end Node.Spares

/-- Answering leaves no request of the local port outstanding where there was none. -/
theorem Node.respond_outstanding {n : Node} (h : n.lp.outstanding = []) (m : Master) (via : Via) (code : Nat)
    (data : List Byte) : (n.respond m via code data).lp.outstanding = [] := by
  cases via with
  | direct => exact h
  | lp id tag op => simp [Node.respond, Node.lpRespond, h]
  | ring mac token op =>
    have hs : n.Spares (n.respond m (.ring mac token op) code data) false :=
      .ite (.refl n false) (.sendTagged (.nextSeq (.refl n false)))
    rwa [hs.lp]
  | can c size toggle id =>
    have hs : n.Spares (n.respond m (.can c size toggle id) code data) false :=
      .ite (.canAnswer (.setCan (.refl n false))) (.refl n false)
    rwa [hs.lp]
  | od q pos => exact h

theorem Node.passDone_outstanding {n : Node} (h : n.lp.outstanding = []) (q pos : Nat) :
    (n.passDone q pos).1.lp.outstanding = [] := by
  have told : ∀ (l : List (Master × Via)) (k : Node), k.lp.outstanding = [] →
      (l.foldl (fun n r => n.answerTo r 0) k).lp.outstanding = [] := by
    intro l
    induction l with
    | nil => exact fun _ hk => hk
    | cons r l ih => exact fun k hk => ih _ (k.respond_outstanding hk ..)
  unfold Node.passDone
  extract_lets x live left orphans ended queued passed ci
  have hp : passed.lp.outstanding = [] := by
    dsimp only [passed]
    split
    · exact told _ _ h
    · exact h
  split
  · exact hp
  · exact hp

theorem settleOne_outstanding {n : Node} (h : n.lp.outstanding = []) (mem : List Host.Cell) (d : DescDone) :
    (settleOne mem n d).2.lp.outstanding = [] := by
  have hp : (n.passDone d.q d.pos).1.lp.outstanding = [] := Node.passDone_outstanding h ..
  unfold settleOne
  extract_lets v a buf flags own passed
  split
  · dsimp only
    split
    · rw [(Node.Spares.irq (.refl passed.1 false)).lp]; exact hp
    · exact hp
  · exact h

theorem settle_outstanding {s : State} (h : s.node.lp.outstanding = []) : (settle s).node.lp.outstanding = [] := by
  have all : ∀ (ds : List DescDone) (mem : List Host.Cell) (n : Node), n.lp.outstanding = [] →
      (settleAll mem n ds).2.lp.outstanding = [] := by
    intro ds
    induction ds with
    | nil => exact fun _ _ hn => hn
    | cons d r ih => exact fun mem n hn => ih _ _ (settleOne_outstanding hn mem d)
  exact all _ _ _ h

end Sys2Proof.Machine
end
section
/-!
SUPPORT. The role decision (R32), and a keeper reset from its beginning to its end (R41, R42, R342).
-/
namespace Sys2Proof.Machine

/-! ## The role decision (R32) -/

/-- A node that enters the mode that ACTIVE asks for owns, with the cause it came by. -/
theorem Node.enterMode_activeTarget (n k : Node) (cause : Nat) :
    let t := n.enterMode k.activeTarget cause
    (t.curMode = 4 ∨ t.curMode = 6 ∨ t.curMode = 7) ∧ t.twin.own = true ∧ t.o 0x1010 0x03 = cause := by
  have ho := k.activeTarget_owns
  exact ⟨n.enterMode_curMode _ _ ▸ ho, n.enterMode_active_own cause (by omega) (by omega), n.enterMode_cause _ _⟩

/-! ## A keeper reset (R41, R42, R342) -/

/-- What a keeper reset cuts off at once: the requests of the local port, those of queues and those passed to the owner,
and a clone. -/
def Node.keeperCut (n : Node) : Node :=
  { n with
    mode := { n.mode with keeperReset := some n.now }
    lp := { n.lp with outstanding := [] }
    queues := n.queues.map (fun (e : Nat × QueueSt) => (e.1, { e.2 with closing := [] }))
    twin := { n.twin with passed := [], clone := none } }

theorem Node.Spares.keeperCut {m n : Node} {c : Bool} (h : m.Spares n c) : m.keeperCut.Spares n.keeperCut c := by
  refine ⟨?_, h.objects, h.sent, h.done⟩
  have hl := h.lasting
  simp only [Node.lasting, Prod.mk.injEq] at hl
  simp [Node.lasting, Node.keeperCut, hl]

theorem Node.Spares.dropRequest {m n : Node} (h : m.Spares n true) {v : Via} : m.Spares (n.dropRequest v) true := by
  cases v with
  | od q pos => exact h.complete
  | _ => exact h

/-- R41, R42: a keeper reset cuts requests off, and all else that lasts runs on. -/
theorem Node.spares_keeperResetBegin {n : Node} (h : n.mode.keeperReset = none) :
    n.keeperCut.Spares n.keeperResetBegin true := by
  unfold Node.keeperResetBegin
  rw [if_neg (by simp [h])]
  have hd : n.Spares (n.unanswered.foldl (fun n v => n.dropRequest v) n) true :=
    .foldl (fun _ _ g => g.dropRequest) (.refl n true)
  exact (Node.Spares.foldl (fun _ _ g => g.canSessionCut) hd.keeperCut.portsCut).commitKeeperReset

/-- R42: the keeper serves again, and the node has handed nothing over. -/
theorem Node.keeperServes_resumes {n : Node} {t : Nat} (h : n.mode.keeperReset = some t) (hh : n.mode.keeperHandedOver = false) :
    n.keeperServes = ({ n with mode := { n.mode with keeperReset := none } }).eraseStart := by
  have he : ({ n with mode := { n.mode with keeperReset := none } } : Node).eraseStart.mode.keeperHandedOver = false := hh
  unfold Node.keeperServes
  simp [h, he]

/-- R42: the keeper serves again in a node that has handed over, which enters STANDBY. -/
theorem Node.keeperServes_standby {n : Node} {t : Nat} (h : n.mode.keeperReset = some t) (hh : n.mode.keeperHandedOver = true) :
    ∃ k : Node, n.keeperServes = (k.enterMode 5 n.mode.standbyCause).setSync n.syncState ∧ k.mode.keeperReset = none := by
  have he : ({ n with mode := { n.mode with keeperReset := none } } : Node).eraseStart.mode.keeperHandedOver = true := hh
  have hy : ({ n with mode := { n.mode with keeperReset := none } } : Node).eraseStart.syncState = n.syncState := by
    simp [Node.eraseStart, Node.syncState, Node.storeRefresh, Node.storeStatus, Node.o_eq, Node.set_eq, Node.oi_setI, key]
    rfl
  unfold Node.keeperServes
  simp only [h, he, hy]
  exact ⟨_, rfl, rfl⟩

/-- R340: what a proposed handover sends. -/
theorem Node.Spares.sendHandover {m n : Node} {c : Bool} (h : m.Spares n c) {close cause : Nat} {ack : Bool} :
    m.Spares (n.sendHandover close cause ack) c := h.twinSend

end Sys2Proof.Machine
end

section
/-!
SUPPORT. A request that the keeper cannot serve (R42, R103).
-/
namespace Sys2Proof.Machine

/-- A request of a master that cannot ask does nothing. -/
theorem actDone_when_false {dt : Nat} {s : State} {c : Node → Bool} {f : Node → Node} (h : c (s.at_ dt) = false) :
    (actDone dt s fun n => n.when (c n) f) = .next { s with node := s.at_ dt } := by
  have e : (s.node.begin dt).when (c (s.node.begin dt)) f = s.node.begin dt :=
    if_neg (show ¬ c (s.node.begin dt) = true from by simpa [State.at_] using h)
  rw [actDone_eq (by rw [e]; rfl), e]
  rfl

/-- Settles O7: each of the three requests acts only for a master that asks. -/
theorem requestsNeedTheKeeper : Obligations.RequestsNeedTheKeeper := by
  intro s dt m idx sub data h
  refine ⟨?_, ?_, ?_⟩
  · exact actDone_when_false (c := (Node.asks · m)) (f := fun n => n.serveWrite m .direct idx.toNat sub.toNat data false) h
  · exact actDone_when_false (c := (Node.asks · m)) (f := fun n => n.serveRead m .direct idx.toNat sub.toNat false) h
  · exact actDone_when_false (c := (Node.asks · m)) (f := fun n => n.serveInfo m .direct idx.toNat sub.toNat) h

end Sys2Proof.Machine
end

section
/-!
SUPPORT. The role decision (R32), and a keeper reset to its end: the statements.
-/
namespace Sys2Proof.Machine

/-! ## The role decision (R32) -/

/-- R443: what the entry to COMMISSION does to the tag leaves mode and cause. -/
theorem Node.tagEntry_mode (n : Node) :
    n.tagEntry.curMode = n.curMode ∧ n.tagEntry.o 0x1010 0x03 = n.o 0x1010 0x03 ∧ n.tagEntry.mode.roleDue = n.mode.roleDue := by
  unfold Node.tagEntry
  split
  · exact ⟨rfl, rfl, rfl⟩
  · exact ⟨rfl, rfl, rfl⟩

/-- The node whose role decision is under way. -/
def Node.deciding (n : Node) : Node := { n with mode := { n.mode with roleDue := false, roleWait := none } }

/-- R32: where there is no twin, and where the node is preferred and OWN_IN is not seen, it owns at once. -/
theorem Node.roleDecide_active {n : Node} (h : n.twinOn = true → n.twin.ownIn = false ∧ n.preferred = true) (cause : Nat) :
    n.roleDecide cause = n.deciding.enterMode n.deciding.activeTarget cause := by
  by_cases ht : n.twinOn = true
  · refine (if_neg (show ¬ (!n.twinOn) = true by simp [ht])).trans ?_
    exact (if_neg (show ¬ n.twin.ownIn = true by simp [h ht])).trans (if_pos (h ht).2)
  · exact if_pos (show (!n.twinOn) = true by simp [ht])

/-- R32: a node that sees OWN_IN follows. -/
theorem Node.roleDecide_standby {n : Node} (ht : n.twinOn = true) (hin : n.twin.ownIn = true) (cause : Nat) :
    n.roleDecide cause = n.deciding.enterMode 5 cause :=
  (if_neg (show ¬ (!n.twinOn) = true by simp [ht])).trans (if_pos hin)

/-- R32: a node that is not preferred waits. -/
theorem Node.roleDecide_waits {n : Node} (ht : n.twinOn = true) (hin : n.twin.ownIn = false) (hp : n.preferred = false)
    (cause : Nat) : n.roleDecide cause =
      { n with mode := { n.mode with roleDue := false, roleWait := some { since := n.now, cause := cause } } } := by
  refine (if_neg (show ¬ (!n.twinOn) = true by simp [ht])).trans ?_
  exact (if_neg (show ¬ n.twin.ownIn = true by simp [hin])).trans (if_neg (show ¬ n.preferred = true by simp [hp]))

/-- R32: a wait ends in STANDBY when OWN_IN is seen, or when it is over and the twin was heard. -/
theorem Node.roleWaitEnd_standby {n : Node} {w : RoleWait} (hw : n.mode.roleWait = some w)
    (h : n.twin.ownIn = true ∨ (n.twin.ownIn = false ∧ w.since + ms 500 ≤ n.now ∧ n.twin.hbSeen = true)) :
    ∃ k : Node, n.roleWaitEnd = k.enterMode 5 w.cause := by
  unfold Node.roleWaitEnd
  simp only [hw]
  obtain hin | ⟨hin, hnow, hb⟩ := h
  · exact ⟨_, by rw [if_pos hin]⟩
  · exact ⟨_, by rw [if_neg (by simp [hin]), if_neg (by omega), if_pos hb]⟩

/-- R32: a wait that is over ends in a mode that owns where the twin was not heard. -/
theorem Node.roleWaitEnd_active {n : Node} {w : RoleWait} (hw : n.mode.roleWait = some w) (hin : n.twin.ownIn = false)
    (hnow : w.since + ms 500 ≤ n.now) (hb : n.twin.hbSeen = false) :
    ∃ k : Node, n.roleWaitEnd = k.enterMode n.activeTarget w.cause := by
  unfold Node.roleWaitEnd
  simp only [hw]
  exact ⟨_, by rw [if_neg (by simp [hin]), if_neg (by omega), if_neg (by simp [hb])]⟩

/-- R32: a wait that is not over goes on. -/
theorem Node.roleWaitEnd_waits {n : Node} {w : RoleWait} (hw : n.mode.roleWait = some w) (hin : n.twin.ownIn = false)
    (hnow : n.now < w.since + ms 500) : n.roleWaitEnd = n := by
  unfold Node.roleWaitEnd
  simp only [hw]
  rw [if_neg (by simp [hin]), if_pos hnow]

/-- R32: the start of a commissioned node decides the role. -/
theorem Node.startRole_decides {n : Node} (hm : n.curMode = 2) (hd : n.mode.roleDue = true) (hc : n.mode.startCause = 0x20) :
    n.startRole = n.roleDecide 0x20 := by
  unfold Node.startRole
  rw [if_pos ⟨hm, hd⟩]
  exact if_neg (by omega)

/-- R32: the start of a node with a cause for COMMISSION enters it. -/
theorem Node.startRole_commission {n : Node} (hm : n.curMode = 2) (hd : n.mode.roleDue = true)
    (hc : n.mode.startCause = 0x10 ∨ n.mode.startCause = 0x11 ∨ n.mode.startCause = 0x12) :
    n.startRole.curMode = 3 ∧ n.startRole.o 0x1010 0x03 = n.mode.startCause ∧ n.startRole.mode.roleDue = false := by
  have e : n.startRole = (({ n with mode := { n.mode with roleDue := false } } : Node).enterMode 3 n.mode.startCause).tagEntry := by
    unfold Node.startRole
    rw [if_pos ⟨hm, hd⟩]
    exact if_pos hc
  obtain ⟨h1, h2, h3⟩ := Node.tagEntry_mode (({ n with mode := { n.mode with roleDue := false } } : Node).enterMode 3 n.mode.startCause)
  rw [e, h1, h2, h3]
  exact ⟨Node.enterMode_curMode .., Node.enterMode_cause .., congrArg ModeSt.roleDue (Node.enterMode_mode ..)⟩

/-- A command that ends in a mode that owns. -/
theorem settle_enters_active (s : State) (n k : Node) (cause : Nat) :
    let t := settle { s with node := n.enterMode k.activeTarget cause }
    (t.pending = s.pending ∧ (t.node.curMode = 4 ∨ t.node.curMode = 6 ∨ t.node.curMode = 7) ∧ t.node.twin.own = true) ∧
      t.node.o 0x1010 0x03 = cause := by
  obtain ⟨hm, ho, hc⟩ := n.enterMode_activeTarget k cause
  dsimp only
  rw [settle_curMode, settle_modeCause, settle_twin]
  exact ⟨⟨rfl, hm, ho⟩, hc⟩

/-- A command that ends in STANDBY. -/
theorem settle_enters_standby (s : State) (n : Node) (cause : Nat) :
    let t := settle { s with node := n.enterMode 5 cause }
    t.pending = s.pending ∧ t.node.curMode = 5 ∧ t.node.twin.own = false ∧ t.node.o 0x1010 0x03 = cause := by
  dsimp only
  rw [settle_curMode, settle_modeCause, settle_twin]
  exact ⟨rfl, n.enterMode_curMode 5 cause, n.enterMode_standby_own cause, n.enterMode_cause 5 cause⟩

/-! ## Handing over while the keeper resets (R342) -/

/-- The node with its change of mode left until its keeper serves again. -/
def Node.awaitingKeeper (n : Node) (cause : Nat) : Node :=
  { n with mode := { n.mode with keeperHandedOver := true, standbyCause := cause } }

/-- R42, R342: an owner whose keeper is in reset drops OWN at once, and its mode waits for the keeper. -/
theorem Node.handAway_inReset {n : Node} {h : HandAgreed} (hk : h.keeper = true) (hr : n.mode.keeperReset.isSome = true) :
    (n.handAway h).twin.own = false ∧ (n.handAway h).curMode = n.curMode ∧
      (n.handAway h).mode = { n.mode with keeperHandedOver := true, standbyCause := h.cause } := by
  let left : Node := n.setTwin fun t => { t with agreed := none }
  let dropped : Node := left.dropOwn.setRole 2
  have e : n.handAway h =
      ((dropped.awaitingKeeper h.cause).syncStart.setSync (if left.configMatch then 3 else 1)).canToListen :=
    if_pos ⟨hk, hr⟩
  have hd : (left.withOwn false).Spares dropped true := (left.spares_dropOwn true).setRole
  have hw : (dropped.awaitingKeeper h.cause).Spares (n.handAway h) true :=
    e ▸ (Node.Spares.refl _ true).syncStart.setSync.canToListen
  refine ⟨hw.own.trans hd.own, hw.curMode.trans hd.curMode, hw.mode.trans ?_⟩
  exact congrArg (fun (x : ModeSt) => { x with keeperHandedOver := true, standbyCause := h.cause }) hd.mode

/-- R342: what a keeper's reset hands over, and how. -/
theorem Node.keeperHandover_acts {n : Node} {t : Nat} (hr : n.mode.keeperReset = some t) (ho : n.twin.own = true)
    (hm : n.curMode = 4 ∨ n.curMode = 6 ∨ n.curMode = 7) (hf : n.twinFitPlanned = true) (ha : n.twin.agreed = none)
    (hnow : t + us 10 ≤ n.now) :
    n.keeperHandover.twin.own = false ∧ n.keeperHandover.curMode = n.curMode ∧
      n.keeperHandover.mode = { n.mode with keeperHandedOver := true, standbyCause := 0x25 } := by
  have e : n.keeperHandover = (n.sendHandover n.frame.num 0x25 false).handAway
      { close := n.frame.num, cause := 0x25, keeper := true, acked := true } := by
    unfold Node.keeperHandover
    simp only [hr]
    rw [if_pos ⟨ho, hm, hf, by simp [ha], hnow⟩]
  have hs : n.Spares (n.sendHandover n.frame.num 0x25 false) true := (Node.Spares.refl n true).sendHandover
  obtain ⟨h1, h2, h3⟩ := Node.handAway_inReset (n := n.sendHandover n.frame.num 0x25 false)
    (h := { close := n.frame.num, cause := 0x25, keeper := true, acked := true }) rfl (by rw [hs.mode, hr]; rfl)
  rw [e, h3, hs.mode]
  exact ⟨h1, h2.trans hs.curMode, rfl⟩

/-! ## The statement -/

/-- A keeper reset by a lockstep mismatch (R41, R42). -/
theorem keeperLockstepMismatch_begins {s : State} {dt : Nat} {stage : Byte} (hup : s.node.up = true)
    (hk : (s.at_ dt).mode.keeperReset = none) :
    Answers (.keeperLockstepMismatch dt stage) s fun t => t.pending = s.pending ∧ t.node.mode.keeperReset = some (s.at_ dt).now
      ∧ t.node.lp.outstanding = [] ∧ t.node.twin.passed = [] ∧ t.node.curMode = (s.at_ dt).curMode
      ∧ t.node.twin.own = (s.at_ dt).twin.own := by
  refine answers_whenUp hup rfl ?_
  have hb := Node.spares_keeperResetBegin (n := (s.at_ dt).fault 0x002 0x06 stage.toNat 0) hk
  refine ⟨rfl, ?_, settle_outstanding ?_, ?_, ?_, ?_⟩
  · rw [settle_mode, hb.mode]; rfl
  · exact (congrArg (·.outstanding) hb.lp).trans rfl
  · rw [settle_twin, hb.passed]; rfl
  · rw [settle_curMode]; exact hb.curMode
  · rw [settle_twin, hb.own]; rfl

/-- The end of a keeper reset in a node that has handed nothing over (R42). -/
theorem keeperServingAgain_resumes {s : State} {dt t₀ : Nat} (hup : s.node.up = true)
    (hk : (s.at_ dt).mode.keeperReset = some t₀) (hh : (s.at_ dt).mode.keeperHandedOver = false) :
    Answers (.keeperServingAgain dt) s fun t => t.pending = s.pending ∧ t.node.mode.keeperReset = none
      ∧ t.node.curMode = (s.at_ dt).curMode := by
  refine answers_whenUp hup rfl ?_
  have hb := (Node.Spares.refl ({ s.at_ dt with mode := { (s.at_ dt).mode with keeperReset := none } } : Node) true).eraseStart
  rw [Node.keeperServes_resumes hk hh, settle_mode, settle_curMode]
  exact ⟨rfl, congrArg ModeSt.keeperReset hb.mode, hb.curMode⟩

/-- The end of a keeper reset in a node that has handed over (R42). -/
theorem keeperServingAgain_follows {s : State} {dt t₀ : Nat} (hup : s.node.up = true)
    (hk : (s.at_ dt).mode.keeperReset = some t₀) (hh : (s.at_ dt).mode.keeperHandedOver = true) :
    Answers (.keeperServingAgain dt) s fun t => (t.pending = s.pending ∧ t.node.curMode = 5 ∧ t.node.twin.own = false
      ∧ t.node.o 0x1010 0x03 = (s.at_ dt).mode.standbyCause) ∧ t.node.mode.keeperReset = none
      ∧ t.node.syncState = (s.at_ dt).syncState := by
  refine answers_whenUp hup rfl ?_
  obtain ⟨k, e, hn⟩ := Node.keeperServes_standby hk hh
  have hb := (Node.Spares.refl (k.enterMode 5 (s.at_ dt).mode.standbyCause) true).setSync (st := (s.at_ dt).syncState)
  rw [e, settle_mode, settle_curMode, settle_modeCause, settle_twin, settle_syncState]
  refine ⟨⟨rfl, hb.curMode.trans (k.enterMode_curMode ..), hb.own.trans (k.enterMode_standby_own _),
    hb.modeCause.trans (k.enterMode_cause ..)⟩, ?_, Node.oi_setI_self ..⟩
  rw [hb.mode, k.enterMode_mode]
  exact hn

/-- The handover of an owner whose keeper is in reset (R342). -/
theorem keeperResetHandover_hands {s : State} {dt t₀ : Nat} (hup : s.node.up = true)
    (hk : (s.at_ dt).mode.keeperReset = some t₀) (ho : (s.at_ dt).twin.own = true)
    (hm : (s.at_ dt).curMode = 4 ∨ (s.at_ dt).curMode = 6 ∨ (s.at_ dt).curMode = 7) (hf : (s.at_ dt).twinFitPlanned = true)
    (ha : (s.at_ dt).twin.agreed = none) (hnow : t₀ + 10000 ≤ (s.at_ dt).now) :
    Answers (.keeperResetHandover dt) s fun t => t.pending = s.pending ∧ t.node.twin.own = false
      ∧ t.node.curMode = (s.at_ dt).curMode ∧ t.node.mode.keeperHandedOver = true ∧ t.node.mode.standbyCause = 0x25 := by
  refine answers_whenUp hup rfl ?_
  obtain ⟨h1, h2, h3⟩ := Node.keeperHandover_acts hk ho hm hf ha hnow
  rw [settle_mode, settle_twin, settle_curMode, h3]
  exact ⟨rfl, h1, h2, rfl, rfl⟩

/-- Settles O17: each command's form by its own lemma; the modes entered by what entering a mode leaves. -/
theorem rolesAreDecided : Obligations.RolesAreDecided := by
  intro s dt hup u x owns follows
  refine ⟨fun hm hd => ⟨fun hc => ?_, fun hc => ?_⟩, fun w hw => ⟨fun hin => ?_, fun hin hnow => ?_, fun hin hnow hb => ?_,
    fun hin hnow hb => ?_⟩, fun _ hk => keeperLockstepMismatch_begins hup hk, fun _ hk hh => keeperServingAgain_resumes hup hk hh,
    fun _ hk hh => keeperServingAgain_follows hup hk hh,
    fun _ hk ho hm hf ha hnow => keeperResetHandover_hands hup hk ho hm hf ha hnow⟩
  · obtain ⟨h1, h2, h3⟩ := Node.startRole_commission hm hd hc
    refine answers_whenUp hup rfl ?_
    rw [settle_mode, settle_curMode, settle_modeCause]
    exact ⟨rfl, h1, h2, h3⟩
  · have decides {P : State → Prop} (h : P (settle { s with node := u.roleDecide 0x20 })) : Answers (.roleDecision dt) s P :=
      answers_whenUp hup rfl (Node.startRole_decides hm hd hc ▸ h)
    refine ⟨fun ht => decides ?_, fun ht hin => decides ?_, fun ht hin hp => decides ?_, fun ht hin hp => decides ?_⟩
    · rw [Node.roleDecide_active (by simp [ht])]
      exact settle_enters_active ..
    · rw [Node.roleDecide_standby ht hin]
      exact settle_enters_standby ..
    · rw [Node.roleDecide_active fun _ => ⟨hin, hp⟩]
      exact settle_enters_active ..
    · rw [Node.roleDecide_waits ht hin hp, settle_of_done rfl]
      exact ⟨⟨rfl, rfl⟩, rfl, rfl⟩
  · obtain ⟨k, e⟩ := Node.roleWaitEnd_standby hw (.inl hin)
    exact answers_whenUp hup rfl (e ▸ settle_enters_standby ..)
  · refine answers_whenUp hup rfl ?_
    rw [Node.roleWaitEnd_waits hw hin hnow, settle_of_done rfl]
    exact ⟨⟨rfl, rfl⟩, rfl⟩
  · obtain ⟨k, e⟩ := Node.roleWaitEnd_standby hw (.inr ⟨hin, hnow, hb⟩)
    exact answers_whenUp hup rfl (e ▸ settle_enters_standby ..)
  · obtain ⟨k, e⟩ := Node.roleWaitEnd_active hw hin hnow hb
    exact answers_whenUp hup rfl (e ▸ settle_enters_active ..)

end Sys2Proof.Machine
end

section
/-!
SUPPORT. The line inputs and the backup source (R18, R26, R27, R33, R40, R448).
-/
namespace Sys2Proof.Machine

/-! ## The forms of a command -/

/-- A command that acts under a condition that holds answers what its operation leaves. -/
theorem answers_when {i : Instr} {s : State} {dt : Nat} {c : Bool} {f : Node → Node} {P : State → Prop} (hc : c = true)
    (he : exec i s = act dt s fun n => n.when c f) {k : Node} (hk : f (s.at_ dt) = k) (h : P { s with node := k }) :
    Answers i s P :=
  ⟨_, he.trans (act_when (c := fun _ => c) hc), hk ▸ h⟩

theorem Node.when_true {n : Node} {c : Bool} {f : Node → Node} (h : c = true) : n.when c f = f n := if_pos h

/-! ## Objects that stay -/

theorem SameObjects.refl (n : Node) (ks : List Nat) : SameObjects n n ks := fun _ _ => rfl

/-- A write of an object that is named. -/
theorem SameObjects.setI {m n : Node} {ks : List Nat} (h : SameObjects m n ks) {i idx sub v : Nat} (hk : key i idx sub ∈ ks) :
    SameObjects m (n.setI i idx sub v) ks := fun k hn =>
  (odGet_odPut_ne n.od v fun (e : k = key i idx sub) => hn (e ▸ hk)).trans (h k hn)

/-! ## The line inputs -/

@[simp] theorem Node.lineIn_setLineIn (n : Node) (i : LineInput) (x : LineIn) : (n.setLineIn i x).lineIn i = x := by
  cases i with
  | east => rfl
  | west => rfl

theorem Node.lineIn_of_pwr {m n : Node} (h : n.pwr = m.pwr) (i : LineInput) : n.lineIn i = m.lineIn i := by
  cases i with
  | east => exact congrArg PowerSt.east h
  | west => exact congrArg PowerSt.west h

/-- The bits of 0x2000.05. -/
theorem bit_feeds : ∀ e w : Bool, bit (b2n e + 2 * b2n w) 0 = e ∧ bit (b2n e + 2 * b2n w) 1 = w := by decide

/-- 0x2000.05 shows whether input `i` feeds. -/
def Node.feeds (n : Node) (i : LineInput) : Bool :=
  match i with
  | .east => bit (n.o 0x2000 0x05) 0
  | .west => bit (n.o 0x2000 0x05) 1

theorem Node.feedsRefresh_feeds (n : Node) (i : LineInput) : n.feedsRefresh.feeds i = (n.lineIn i).fedSince.isSome := by
  cases i with
  | east => exact (congrArg (bit · 0) (Node.o_set_self ..)).trans (bit_feeds ..).1
  | west => exact (congrArg (bit · 1) (Node.o_set_self ..)).trans (bit_feeds ..).2

/-- The node after input `i` began or ceased to feed. -/
def Node.withFeed (n : Node) (i : LineInput) (t : Option Nat) : Node :=
  (n.setLineIn i { n.lineIn i with fedSince := t }).feedsRefresh

theorem Node.withFeed_lineIn (n : Node) (i : LineInput) (t : Option Nat) :
    (n.withFeed i t).lineIn i = { n.lineIn i with fedSince := t } :=
  (Node.lineIn_of_pwr rfl i).trans (n.lineIn_setLineIn i _)

theorem Node.withFeed_feeds (n : Node) (i : LineInput) (t : Option Nat) : (n.withFeed i t).feeds i = t.isSome :=
  (Node.feedsRefresh_feeds _ i).trans (by rw [n.lineIn_setLineIn])

theorem Node.withFeed_sameObjects (n : Node) (i : LineInput) (t : Option Nat) {ks : List Nat} (h : key 0 0x2000 0x05 ∈ ks) :
    SameObjects n (n.withFeed i t) ks := SameObjects.setI (n := n.setLineIn i _) (.refl n ks) h

/-- R33: is a feed that begins now the end of a dip? -/
def Node.dipEnds (n : Node) : Bool := n.up && !n.feeding && decide (n.now < n.pwr.lastFeedEnd + 20000)

/-- R26, R33: an input begins to feed. -/
theorem Node.feedStart_eq {n : Node} {i : LineInput} (h : (n.lineIn i).fedSince = none) :
    n.feedStart i = (n.withFeed i (some n.now)).when n.dipEnds fun n => n.incSat 0x2000 0x06 :=
  if_neg (by simp [h])

/-- R26, R33: what the beginning of a feed leaves. -/
theorem Node.feedStart_leaves {n : Node} {i : LineInput} (h : (n.lineIn i).fedSince = none) :
    let k := n.feedStart i
    k.lineIn i = { n.lineIn i with fedSince := some n.now } ∧ k.feeds i = true
      ∧ k.o 0x2000 0x06 = (if n.dipEnds then min (n.o 0x2000 0x06 + 1) (2 ^ 32 - 1) else n.o 0x2000 0x06)
      ∧ SameObjects n k [key 0 0x2000 0x05, key 0 0x2000 0x06] := by
  have hs := n.withFeed_sameObjects i (some n.now) (ks := [key 0 0x2000 0x05, key 0 0x2000 0x06]) (by simp)
  have ho : (n.withFeed i (some n.now)).o 0x2000 0x06 = n.o 0x2000 0x06 := Node.oi_setI_ne (n.setLineIn i _) _ (by decide)
  rw [Node.feedStart_eq h]
  cases hd : n.dipEnds with
  | false => exact ⟨n.withFeed_lineIn i _, n.withFeed_feeds i _, ho, hs⟩
  | true =>
    rw [Node.when_true rfl]
    refine ⟨n.withFeed_lineIn i _, ?_, ?_, hs.setI (by simp)⟩
    · have hf : ((n.withFeed i (some n.now)).incSat 0x2000 0x06).o 0x2000 0x05 = (n.withFeed i (some n.now)).o 0x2000 0x05 :=
        Node.oi_setI_ne _ _ (by decide)
      refine Eq.trans ?_ (n.withFeed_feeds i (some n.now))
      cases i with
      | east => exact congrArg (bit · 0) hf
      | west => exact congrArg (bit · 1) hf
    · rw [if_pos rfl, ← ho]
      exact Node.oi_setI_self ..

/-- After the beginning of a feed the input feeds, and its lockout is as it was. -/
theorem Node.feedStart_fed (n : Node) (i : LineInput) :
    ((n.feedStart i).lineIn i).held = (n.lineIn i).held ∧ ((n.feedStart i).lineIn i).fedSince.isSome = true := by
  cases hf : (n.lineIn i).fedSince with
  | none => rw [(Node.feedStart_leaves hf).1]; exact ⟨rfl, rfl⟩
  | some t =>
    have e : n.feedStart i = n := if_pos (by simp [hf])
    rw [e, hf]; exact ⟨rfl, rfl⟩

/-- The DETAIL that names an input. -/
def inputDetail : LineInput → Nat
  | .east => 1
  | .west => 2

/-- R26, R27: an input ceases to feed: beside one that feeds the loss is reported, else its time is kept. -/
theorem Node.feedStop_eq {n : Node} {i : LineInput} (h : (n.lineIn i).fedSince.isSome = true) :
    n.feedStop i =
      if (n.withFeed i none).feeding then
        (n.withFeed i none).when n.up fun n => n.fault 0x000 0x02 (inputDetail i) 0
      else (n.withFeed i none).setPwr fun p => { p with lastFeedEnd := n.now } := by
  unfold Node.feedStop
  rw [if_neg (by simpa [Option.isSome_iff_ne_none] using h)]
  cases i with
  | east => rfl
  | west => rfl

/-- R26, R27: what the end of a feed leaves. -/
theorem Node.feedStop_leaves {n : Node} {i : LineInput} (h : (n.lineIn i).fedSince.isSome = true) :
    let k := n.feedStop i
    k.lineIn i = { n.lineIn i with fedSince := none } ∧ k.feeds i = false ∧ SameObjects n k [key 0 0x2000 0x05]
      ∧ (k.feeding = true → n.up = true → k.ver = (n.fault 0x000 0x02 (inputDetail i) 0).ver)
      ∧ (k.feeding = false → k.pwr.lastFeedEnd = n.now) := by
  have hs := n.withFeed_sameObjects i none (ks := [key 0 0x2000 0x05]) (by simp)
  rw [Node.feedStop_eq h]
  by_cases hf : (n.withFeed i none).feeding = true
  · rw [if_pos hf]
    cases hu : n.up with
    | true =>
      rw [Node.when_true rfl]
      exact ⟨n.withFeed_lineIn i _, n.withFeed_feeds i _, hs, fun _ _ => rfl, fun hk => absurd (hf.symm.trans hk) (by decide)⟩
    | false =>
      exact ⟨n.withFeed_lineIn i _, n.withFeed_feeds i _, hs, fun _ hk => absurd hk (by decide),
        fun hk => absurd (hf.symm.trans hk) (by decide)⟩
  · rw [if_neg hf]
    refine ⟨?_, n.withFeed_feeds i _, hs, fun hk => absurd hk hf, fun _ => rfl⟩
    cases i with
    | east => rfl
    | west => rfl

/-- After the end of a feed the input does not feed. -/
theorem Node.feedStop_unfed (n : Node) (i : LineInput) : ((n.feedStop i).lineIn i).fedSince = none := by
  cases hf : (n.lineIn i).fedSince with
  | none =>
    have e : n.feedStop i = n := if_pos (by simp [hf])
    rwa [e]
  | some t => rw [(Node.feedStop_leaves (by simp [hf])).1]

/-! ## The statements -/

/-- The backup source rises (R18). -/
theorem backupSourceRise_powersKeep {s : State} {dt mv : Nat} (h : 1800 < mv) :
    Answers (.backupSourceRise dt mv) s fun t => Rests s t ∧ t.node.pwr.backup = true
      ∧ t.node.pwr.phase = (if (s.at_ dt).pwr.phase = .off then .keep else (s.at_ dt).pwr.phase)
      ∧ t.node.o 0x1010 0x01 = (if (s.at_ dt).pwr.phase = .off then 1 else (s.at_ dt).o 0x1010 0x01)
      ∧ SameObjects s.node t.node [key 0 0x1010 0x01] := by
  by_cases hp : (s.at_ dt).pwr.phase = .off
  · rw [if_pos hp, if_pos hp]
    exact answers_when (decide_eq_true h) rfl (if_pos hp)
      ⟨⟨rfl, rfl⟩, rfl, rfl, Node.o_set_self .., SameObjects.setI (.refl s.node _) (by simp)⟩
  · rw [if_neg hp, if_neg hp]
    exact answers_when (decide_eq_true h) rfl (if_neg hp) ⟨⟨rfl, rfl⟩, rfl, rfl, rfl, .refl s.node _⟩

/-- The backup source falls while the node does not live on it (R18). -/
theorem backupSourceFall_noted {s : State} {dt mv : Nat} (h : mv < 1600) (hp : (s.at_ dt).pwr.phase ≠ .keep) :
    Answers (.backupSourceFall dt mv) s fun t => Rests s t ∧ t.node.od = s.node.od
      ∧ t.node.pwr = { (s.at_ dt).pwr with backup := false } :=
  answers_when (decide_eq_true h) rfl (if_neg hp) ⟨⟨rfl, rfl⟩, rfl, rfl⟩

/-- R40: what the loss of the KEEP domain leaves. -/
theorem Node.keepLost_leaves (n : Node) :
    let k := n.keepLost
    k.o 0x1010 0x01 = n.o 0x1010 0x01 ∧ k.o 0x2000 0x06 = 0 ∧ k.o 0x2000 0x07 = 0 ∧ k.o 0x2000 0x08 = 0 ∧ k.o 0x2000 0x0B = 0
      ∧ k.o 0x1200 0x06 = 1 := by
  have ho (idx sub : Nat) : n.keepLost.o idx sub =
      ((((((n.setI 0 0x2000 0x06 0).setI 0 0x2000 0x07 0).setI 0 0x2000 0x08 0).setI 0 0x2000 0x0B 0).setI 0 0x1200 0x08 0).setI
        0 0x1200 0x06 1).oi 0 idx sub := rfl
  simp [ho, Node.oi_setI, key, Node.o_eq]

/-- The backup source falls in KEEP: the KEEP domain is lost (R40). -/
theorem backupSourceFall_losesKeep {s : State} {dt mv : Nat} (h : mv < 1600) (hp : (s.at_ dt).pwr.phase = .keep) :
    Answers (.backupSourceFall dt mv) s fun t => Rests s t ∧ t.node.pwr.phase = .off ∧ t.node.o 0x1010 0x01 = 0
      ∧ t.node.o 0x2000 0x06 = 0 ∧ t.node.o 0x2000 0x07 = 0 ∧ t.node.o 0x2000 0x08 = 0 ∧ t.node.o 0x2000 0x0B = 0
      ∧ t.node.o 0x1200 0x06 = 1 ∧ t.node.rtc = {} ∧ t.node.cin.bootCount = 0 ∧ t.node.cin.anchor = List.replicate 48 0 := by
  obtain ⟨hm, h6, h7, h8, hB, hosf⟩ := Node.keepLost_leaves
    (((((s.at_ dt).setPwr fun p => { p with backup := false }).setPwr fun p => { p with phase := .off })).set 0x1010 0x01 0)
  exact answers_when (decide_eq_true h) rfl (if_pos hp)
    ⟨⟨rfl, rfl⟩, rfl, hm.trans (Node.o_set_self ..), h6, h7, h8, hB, hosf, rfl, rfl, rfl⟩

/-- The overvoltage lockout of an input (R448). -/
theorem overvoltageLockoutTrip_holds {s : State} {dt mv : Nat} {inp : LineInput} (h : 60000 < mv) :
    Answers (.overvoltageLockoutTrip dt inp mv) s fun t => Rests s t ∧ (t.node.lineIn inp).held = true
      ∧ (t.node.lineIn inp).fedSince = none := by
  refine answers_when (decide_eq_true h) rfl rfl ?_
  dsimp only
  rw [Node.lineIn_setLineIn]
  exact ⟨⟨rfl, rfl⟩, rfl, Node.feedStop_unfed _ inp⟩

/-- The end of an input's lockout (R448). -/
theorem overvoltageLockoutRelease_feeds {s : State} {dt mv : Nat} {inp : LineInput} (hh : ((s.at_ dt).lineIn inp).held = true)
    (h : mv < 59000) :
    Answers (.overvoltageLockoutRelease dt inp mv) s fun t => Rests s t ∧ (t.node.lineIn inp).held = false
      ∧ (40000 < mv → (t.node.lineIn inp).fedSince.isSome = true) ∧ (mv ≤ 40000 → t.node.od = s.node.od) := by
  have hc : (((s.at_ dt).lineIn inp).held && decide (mv < 59000)) = true := by simp [hh, h]
  by_cases hv : 40000 < mv
  · obtain ⟨h1, h2⟩ := ((s.at_ dt).setLineIn inp { (s.at_ dt).lineIn inp with held := false }).feedStart_fed inp
    rw [Node.lineIn_setLineIn] at h1
    exact answers_when hc rfl (if_pos hv) ⟨⟨rfl, rfl⟩, h1, fun _ => h2, fun g => by omega⟩
  · refine answers_when hc rfl (if_neg hv) ?_
    rw [Node.lineIn_setLineIn]
    exact ⟨⟨rfl, rfl⟩, rfl, fun g => absurd g hv, fun _ => rfl⟩

end Sys2Proof.Machine
end

section
/-!
SUPPORT. NRESET_IN, line loss and a hold-up that is too short (R33, R34, R36, R37, R45).
-/
namespace Sys2Proof.Machine

/-! ## Power down, and a node reset -/

/-- Table 2-3: what is left without the line: KEEP with a backup source, which keeps its memory, else OFF. -/
theorem Node.powerDown_leaves (n : Node) :
    n.powerDown.pwr.phase = (if n.pwr.backup then .keep else .off)
      ∧ n.powerDown.o 0x1010 0x01 = (if n.pwr.backup then 1 else 0)
      ∧ (n.pwr.backup = true → n.powerDown.pwr.shortDue = n.pwr.shortDue ∧
          ∀ sub, sub < 256 → n.powerDown.o 0x2000 sub = n.o 0x2000 sub) := by
  unfold Node.powerDown
  cases hb : n.pwr.backup with
  | true =>
    simp only [if_true]
    refine ⟨rfl, Node.o_set_self .., fun _ => ⟨rfl, fun sub hs => Node.oi_setI_ne _ _ ?_⟩⟩
    unfold key
    omega
  | false =>
    refine ⟨rfl, ?_, fun h => Bool.noConfusion h⟩
    exact (Node.keepLost_leaves _).1.trans (Node.o_set_self ..)

/-- R45, Table 2-12: what the beginning of a node reset leaves. -/
theorem Node.nodeReset_leaves {n : Node} (h : n.up = true) (cause : Nat) :
    (n.nodeReset cause).pwr = { n.pwr with phase := .inReset, resetOrigin := n.now, resetCause := cause }
      ∧ Out.pin 4 false ∈ (n.nodeReset cause).out ∧ (n.nodeReset cause).twin.own = false := by
  unfold Node.nodeReset
  rw [if_pos h]
  extract_lets dropped cut stopped
  have hs : (n.withOwn false).Spares stopped true :=
    (((n.spares_dropOwn true).abortFlights.discharge.writeOut.flashCut).portsStop).setI (by decide)
  refine ⟨?_, List.mem_append_right _ (List.mem_singleton_self _), hs.own⟩
  change { stopped.pwr with phase := .inReset, resetOrigin := stopped.now, resetCause := cause } = _
  rw [show stopped.now = n.now from hs.now, show stopped.pwr = n.pwr from hs.pwr]

/-- R33, R34: what the detection of line loss leaves. -/
theorem Node.lineLoss_leaves {n : Node} (h : n.up = true) (hf : n.feeding = false) (ht : n.pwr.lastFeedEnd + us 20 ≤ n.now) :
    n.lineLoss.pwr.phase = .lineLoss ∧ n.lineLoss.pwr.lossAt = n.pwr.lastFeedEnd ∧ n.lineLoss.o 0x2000 0x08 = n.tai
      ∧ n.lineLoss.twin.own = false := by
  unfold Node.lineLoss
  rw [if_pos ⟨by simp [Node.lineOn, h], by simp [hf], ht⟩, if_pos h]
  have hs : (n.withOwn false).Spares (((n.dropOwn.abortFlights.discharge false).stageDisable).haltVats) true :=
    ((n.spares_dropOwn true).abortFlights.discharge.stageDisable).haltVats
  generalize ((n.dropOwn.abortFlights.discharge false).stageDisable).haltVats = k at hs
  refine ⟨rfl, congrArg PowerSt.lastFeedEnd hs.pwr, ?_, hs.own⟩
  exact (Node.o_set_self ..).trans hs.tai

/-- R37: what a hold-up that is too short leaves. -/
theorem Node.holdUpShort_leaves {n : Node} {mv : Nat} (hp : n.pwr.phase = .lineLoss) (h : mv < 24000) :
    (n.holdUpShort mv).pwr.phase = (if n.pwr.backup then .keep else .off)
      ∧ (n.holdUpShort mv).o 0x1010 0x01 = (if n.pwr.backup then 1 else 0)
      ∧ (n.pwr.backup = true → (n.holdUpShort mv).o 0x2000 0x0B = 2 ∧ (n.holdUpShort mv).pwr.shortDue = true) := by
  unfold Node.holdUpShort
  rw [if_pos ⟨hp, h⟩]
  have hs : n.Spares n.cutOff.flashCut true := (Node.Spares.refl n true).cutOff.flashCut
  generalize n.cutOff.flashCut = cut at hs
  have hb : ((cut.set 0x2000 0x0B 2).setPwr fun p => { p with shortDue := true }).pwr.backup = n.pwr.backup :=
    Eq.trans (b := cut.pwr.backup) rfl (congrArg PowerSt.backup hs.pwr)
  obtain ⟨h1, h2, h3⟩ := ((cut.set 0x2000 0x0B 2).setPwr fun p => { p with shortDue := true }).powerDown_leaves
  rw [hb] at h1 h2 h3
  refine ⟨h1, h2, fun hk => ⟨((h3 hk).2 0x0B (by decide)).trans ?_, (h3 hk).1.trans rfl⟩⟩
  exact cut.o_set_self 0x2000 0x0B 2

/-! ## The statement -/

/-- Settles O15: each input's command by what its operation leaves. -/
theorem powerInputsAct : Obligations.PowerInputsAct := by
  intro s dt inp mv u x line feeds
  have hu : s.node.up = true → u.up = true := id
  have hfeeds (t : State) : feeds t = t.node.feeds inp := by
    cases inp with
    | east => rfl
    | west => rfl
  refine ⟨backupSourceRise_powersKeep, backupSourceFall_noted, backupSourceFall_losesKeep, fun hmv hh hf => ?_, fun hmv hf => ?_,
    overvoltageLockoutTrip_holds, overvoltageLockoutRelease_feeds, fun hp hmv => ?_,
    ?_, fun hup => ?_, fun hup hf ht => ?_⟩
  · obtain ⟨hl, hfd, h6, hs⟩ := Node.feedStart_leaves hf
    have hc : (decide (40000 < mv) && !(u.lineIn inp).held) = true := by simp [hmv, hh]
    refine answers_when hc rfl rfl ⟨⟨rfl, rfl⟩, congrArg LineIn.fedSince hl, (hfeeds _).trans hfd, h6, hs⟩
  · obtain ⟨hl, hfd, hs, hv, he⟩ := Node.feedStop_leaves hf
    refine answers_when (decide_eq_true hmv) rfl rfl
      ⟨⟨rfl, rfl⟩, congrArg LineIn.fedSince hl, (hfeeds _).trans hfd, hs, fun h g => (hv h g).trans ?_, he⟩
    cases inp with
    | east => rfl
    | west => rfl
  · exact ⟨_, rfl, ⟨rfl, rfl⟩, Node.holdUpShort_leaves hp hmv⟩
  · exact ⟨_, rfl, ⟨rfl, rfl⟩, rfl, rfl⟩
  · let k : Node := (u.setPwr fun p => { p with nresetLow := true }).nodeReset 0x01
    obtain ⟨hp, ho, hown⟩ := Node.nodeReset_leaves (n := u.setPwr fun p => { p with nresetLow := true }) (hu hup) 0x01
    have hq := (settle_pwr { s with node := k }).trans hp
    exact ⟨_, rfl, rfl, congrArg PowerSt.phase hq, congrArg PowerSt.nresetLow hq, congrArg PowerSt.resetCause hq,
      congrArg PowerSt.resetOrigin hq, settle_out { s with node := k } ho,
      (congrArg TwinSt.own (settle_twin { s with node := k })).trans hown⟩
  · obtain ⟨hp, hl, hkeep, hown⟩ := Node.lineLoss_leaves (hu hup) hf ht
    have hq := settle_pwr { s with node := u.lineLoss }
    exact ⟨_, rfl, rfl, (congrArg PowerSt.phase hq).trans hp, (congrArg PowerSt.lossAt hq).trans hl,
      (settle_oi _ (by decide) (by decide) (by decide) (by decide) (by decide)).trans hkeep,
      (congrArg TwinSt.own (settle_twin { s with node := u.lineLoss })).trans hown⟩

end Sys2Proof.Machine
end

section
/-!
SUPPORT. What a start keeps from its first step on (Table 2-8): the phase, unless it ends in BOOT; the commands and the
keeper's state; what the boot counted; the slots that run; and what was sent. Each step of a start has one lemma, which
carries `m.Starts n` one step on.
-/
namespace Sys2Proof.Machine

/-- What no step of a start changes. -/
def Node.startPart (n : Node) := (n.mode.cmds, n.mode.keeperReset, n.cin.bootCount, n.cin.loaderFail)

/-- `n` comes of `m` by steps of a start. -/
structure Node.Starts (m n : Node) : Prop where
  phase : n.pwr.phase = m.pwr.phase ∨ n.pwr.phase = .boot
  part : n.startPart = m.startPart
  running : ∀ k ∈ m.cin.running, k ∈ n.cin.running
  sent : ∀ o ∈ m.out, o ∈ n.out

namespace Node.Starts
variable {m n k : Node}

theorem refl (n : Node) : n.Starts n := ⟨.inl rfl, rfl, fun _ h => h, fun _ h => h⟩

theorem trans (h : m.Starts n) (g : n.Starts k) : m.Starts k := by
  refine ⟨?_, g.part.trans h.part, fun x hx => g.running x (h.running x hx), fun x hx => g.sent x (h.sent x hx)⟩
  rcases g.phase with hg | hg
  · exact hg ▸ h.phase
  · exact .inr hg

/-- A step that touches none of it. -/
theorem of_same (h : m.Starts n)
    (e : (k.pwr.phase, k.startPart, k.cin.running, k.out) = (n.pwr.phase, n.startPart, n.cin.running, n.out)) : m.Starts k := by
  simp only [Prod.mk.injEq] at e
  obtain ⟨hp, hs, hr, ho⟩ := e
  exact h.trans ⟨.inl hp, hs, fun _ hx => hr ▸ hx, fun _ hx => ho ▸ hx⟩

/-- An operation of a block. -/
theorem of_spares {c : Bool} (h : m.Starts n) (g : n.Spares k c) : m.Starts k :=
  h.trans ⟨.inl (congrArg PowerSt.phase g.pwr), by rw [startPart, startPart, g.mode, g.cin], fun _ hx => g.cin ▸ hx, g.sent⟩

theorem ite {a b : Node} {p : Prop} [Decidable p] (h : m.Starts a) (g : m.Starts b) : m.Starts (if p then a else b) := by
  split <;> assumption

theorem whenOn {c : Bool} {f : Node → Node} (h : m.Starts n) (g : m.Starts (f n)) : m.Starts (n.when c f) := .ite g h

theorem foldl {α : Type} {f : Node → α → Node} (hf : ∀ n a, m.Starts n → m.Starts (f n a)) {l : List α}
    (h : m.Starts n) : m.Starts (l.foldl f n) := by
  induction l generalizing n with
  | nil => exact h
  | cons a r ih => exact ih (hf n a h)

theorem setI (h : m.Starts n) {i idx sub v : Nat} : m.Starts (n.setI i idx sub v) := h.of_same (by rfl)
theorem setVat (h : m.Starts n) {v : Nat} {x : VatSt} : m.Starts (n.setVat v x) := h.of_same (by rfl)
theorem setWakePeriod (h : m.Starts n) {p : Nat} : m.Starts (n.setWakePeriod p) := h.of_same (by rfl)
theorem setTag (h : m.Starts n) {f : TagSt → TagSt} : m.Starts (n.setTag f) := h.of_same (by rfl)
theorem fault (h : m.Starts n) {src kind detail addr : Nat} : m.Starts (n.fault src kind detail addr) := h.of_same (by rfl)

/-! ## Measurements and slots (R433, R437) -/

theorem extend (h : m.Starts n) {r type master : Nat} {digest info : List Byte} : m.Starts (n.extend r type master digest info) := by
  unfold Node.extend Node.appendLog
  exact .ite (fault (h.of_same (by rfl))) (h.of_same (by rfl))

theorem measure (h : m.Starts n) {r type : Nat} {data info : List Byte} : m.Starts (n.measure r type data info) := h.extend

theorem bootSlot (h : m.Starts n) {i active : Nat} : m.Starts (n.bootSlot i active).2 := by
  unfold Node.bootSlot
  split
  · exact h
  · split
    · exact h.fault
    · exact h

/-- An image's slot joins those that run. -/
theorem runs (h : m.Starts n) {s : Nat} : m.Starts (n.setCin fun c => { c with running := c.running ++ [s] }) :=
  h.trans ⟨.inl rfl, rfl, fun _ hx => List.mem_append_left _ hx, fun _ hx => hx⟩

/-! ## The store (R86, R91) -/

theorem retireSector (h : m.Starts n) {s : Nat} : m.Starts (n.retireSector s) := by
  unfold Node.retireSector
  exact .ite (fault (h.of_same (by rfl))) (h.of_same (by rfl))

theorem recoverSectors (h : m.Starts n) {bad : List Nat} : m.Starts (n.recoverSectors bad) := by
  unfold Node.recoverSectors
  dsimp only
  refine foldl (fun _ _ g => g.retireSector) (of_same (foldl (fun k s g => ?_) h.setI) (by rfl))
  exact g.whenOn (g.of_spares (.setBank (.refl k true)))

theorem refreshDigest (h : m.Starts n) : m.Starts n.refreshDigest := h.setI
theorem eraseStart (h : m.Starts n) : m.Starts n.eraseStart := h.of_spares (.eraseStart (.refl n true))

theorem restoreStore (h : m.Starts n) : m.Starts n.restoreStore.2 := by
  unfold Node.restoreStore
  dsimp only
  split
  · exact (h.setI.setI.eraseStart).refreshDigest
  · next t _ =>
    refine (eraseStart (.ite (fault ?_) (.ite (of_spares ?_ (.setBank (.refl _ true))) ?_))).refreshDigest
    all_goals exact setI (setI (h.of_same (by rfl)))

/-! ## What a written object brings with it -/

theorem ptpStates (h : m.Starts n) : m.Starts n.ptpStates := h.foldl fun _ _ g => g.setI
theorem setUnitState (h : m.Starts n) {u st : Nat} : m.Starts (n.setUnitState u st) := h.setI

theorem canStart (h : m.Starts n) {c : Nat} : m.Starts (n.canStart c) := by
  have hs : n.Spares (n.canStart c) true := by
    unfold Node.canStart
    exact .ite (.setCanState (.setCan (.setCanBit (.setCan (.refl n true))))) (.setCanState (.setCanBit (.setCan (.refl n true))))
  exact h.of_spares hs

theorem canEnableWritten (h : m.Starts n) {c : Nat} : m.Starts (n.canEnableWritten c) := by
  unfold Node.canEnableWritten
  exact .ite (.ite h.canStart h) (h.of_spares (.setCanState (.setCan (.canDropSends (.refl n true)))))

theorem slotCheck (h : m.Starts n) {k : Nat} : m.Starts (n.slotCheck k) := by
  unfold Node.slotCheck
  exact .ite (of_spares h.setI.setI.setI (.toFrame (.refl _ true))) h

theorem slotsCheck (h : m.Starts n) : m.Starts n.slotsCheck := h.foldl fun _ _ g => g.slotCheck

theorem pinChanged (h : m.Starts n) {l p : Nat} : m.Starts (n.pinChanged l p) := by
  have touched : ∀ (c : Prop) [Decidable c] (k : Node) (j : Nat) (x : ConvSt), m.Starts k →
      m.Starts (if c then k.setConv l j x else k) :=
    fun _ _ _ _ _ g => .ite (g.of_same (by rfl)) g
  exact of_same (touched _ _ 1 _ (touched _ _ 0 _ h)) (by rfl)

theorem nominalMains (h : m.Starts n) : m.Starts n.nominalMains := h.foldl fun _ _ g => g.of_same (by rfl)

theorem mainsTrackingWritten (h : m.Starts n) : m.Starts n.mainsTrackingWritten := by
  unfold Node.mainsTrackingWritten
  exact .ite (.ite h h.nominalMains) h.setI.nominalMains

theorem setCrankState (h : m.Starts n) {d st : Nat} : m.Starts (n.setCrankState d st) := by
  have hd : m.Starts (n.dropAngles d) := h.foldl fun _ _ g => .ite (g.of_same (by rfl)) g
  exact setI (.ite hd h)

theorem crankRecheck (h : m.Starts n) : m.Starts n.crankRecheck :=
  h.foldl fun _ _ g => .ite (.ite g.setCrankState g) (.ite g g.setCrankState)

theorem crankConfigWritten (h : m.Starts n) {d : Nat} : m.Starts (n.crankConfigWritten d) := by
  have hs : m.Starts (n.crankStop d) := .ite h h.setCrankState
  exact hs.crankRecheck

theorem compareTake (h : m.Starts n) {d : Nat} : m.Starts (n.compareTake d) := .ite (h.of_same (by rfl)) h

theorem railsWanted (h : m.Starts n) : m.Starts n.railsWanted := .ite (h.of_same (by rfl)) h

theorem panelDisabled (h : m.Starts n) : m.Starts n.panelDisabled := by
  have hp : n.Spares ((n.umb.pend.foldl (fun (n : Node) r => n.panelDone r 4 0xFF false)
      { n with umb := { n.umb with pend := [] } }).panelCounts) true :=
    .panelCounts (.foldl (fun _ _ g => g.panelDone) (.of_same (.refl n true) (by rfl)))
  have hs := h.of_spares hp
  exact .ite (hs.of_same (by rfl)) hs

theorem written (h : m.Starts n) {idx sub i : Nat} : m.Starts (n.written idx sub i) := by
  unfold Node.written
  refine .ite (.ite (h.of_same (by rfl)) h) (.ite (.ite (h.of_same (by rfl)) h) (.ite h.ptpStates ?_))
  refine .ite (.ite h.canEnableWritten.slotsCheck (.ite h.slotCheck h)) (.ite h.pinChanged (.ite (.ite h.mainsTrackingWritten h) ?_))
  refine .ite (.ite h.crankConfigWritten (.ite h.compareTake (.ite h h.crankConfigWritten))) (.ite (.ite h.crankRecheck h) ?_)
  refine .ite (.ite (h.of_same (by rfl)) h) (.ite (.ite (h.of_spares (.fskCheck (.refl n true))) h) ?_)
  exact .ite (.ite (h.of_spares (.annRefresh (.refl n true))) h) (.ite (.ite (.ite h.railsWanted h.panelDisabled) h) h)

/-! ## The steps of a start -/

theorem configure (h : m.Starts n) {w : Nat} : m.Starts (n.configure w) := by
  unfold Node.configure
  extract_lets _ _ framed lakes dyns decls wrote cranks cans slots
  have h1 : m.Starts framed := h.of_same (by rfl)
  have h2 : m.Starts lakes := h1.foldl fun _ _ g => g.whenOn g.setUnitState
  have h3 : m.Starts dyns := h2.foldl fun _ _ g => g.whenOn g.setUnitState
  have h4 : m.Starts decls := h3.foldl fun _ _ g => g.foldl fun _ _ k => k.whenOn k.setI
  have h5 : m.Starts wrote := h4.foldl fun _ _ g => .ite g g.written
  have h6 : m.Starts cranks := h5.foldl fun _ _ g => g.whenOn g.crankConfigWritten
  have h7 : m.Starts cans := h6.foldl fun _ _ g => g.canStart
  exact .ite h7.slotsCheck h7.slotsCheck.setWakePeriod

theorem ringStart (h : m.Starts n) : m.Starts n.ringStart := by
  unfold Node.ringStart Node.bypassCheck
  exact .ite (fault (setI (h.of_same (by rfl))))
    (.ite (setI (setI (h.of_same (by rfl)))) (.ite (setI (setI (h.of_same (by rfl)))) (setI (h.of_same (by rfl)))))

theorem tagStart (h : m.Starts n) : m.Starts n.tagStart := by
  unfold Node.tagStart
  exact measure (.ite (h.of_same (by rfl)) h)

theorem vatLoad (h : m.Starts n) {v : Nat} : m.Starts (n.vatLoad v).1 := by
  have hb : m.Starts (n.bootSlot (0x10 + v) (n.oi v 0x9000 0x09)).2 := h.bootSlot
  unfold Node.vatLoad
  generalize n.bootSlot (0x10 + v) (n.oi v 0x9000 0x09) = r at hb ⊢
  obtain ⟨_ | s, b⟩ := r
  · exact setI (setVat hb)
  · dsimp only
    refine .ite (of_spares ?_ (.irq (.refl _ true))) ?_
    all_goals exact setI (setVat (runs (measure hb)))

theorem vatsStart (h : m.Starts n) {k at_ : Nat} : m.Starts (n.vatsStart k at_).1 := by
  induction k generalizing n at_ with
  | zero => exact h
  | succ k ih =>
    unfold Node.vatsStart
    dsimp only
    split
    · exact ih (vatLoad (h.of_same (by rfl)))
    · exact ih h

theorem keeperStart (h : m.Starts n) {w : Nat} : m.Starts (n.keeperStart w).1 := by
  unfold Node.keeperStart
  extract_lets active
  have hb : m.Starts (n.bootSlot 1 active).2 := h.bootSlot
  generalize n.bootSlot 1 active = r at hb ⊢
  obtain ⟨_ | s, b⟩ := r
  · exact hb.trans ⟨.inr rfl, rfl, fun _ hx => hx, fun _ hx => hx⟩
  · dsimp -zeta only
    extract_lets measured runs r _ _ timed banked stored
    have hr : m.Starts r.2 := restoreStore (.runs (.measure hb))
    have ht : m.Starts timed := hr.of_same (by rfl)
    have hk : m.Starts banked := by
      dsimp only [banked]
      split
      · exact ht.measure
      · exact ht
    have hs : m.Starts stored := .ite hk hk.measure
    exact hs.tagStart.configure.ringStart.setTag.vatsStart

end Node.Starts

end Sys2Proof.Machine
end

section
/-!
SUPPORT. When the node starts (R30, R36, R45, R430, R435).
-/
namespace Sys2Proof.Machine

/-! ## The forms of a command -/

/-- A command after which a start follows. -/
theorem answers_start {i : Instr} {s : State} {dt : Nat} {due : Node → Bool} {f : Node → Node}
    {start : Node → Node × List (Nat × Byte)} {P : State → Prop} (he : exec i s = actStart dt s due f start)
    {k : Node} (hf : f (s.at_ dt) = k) (hd : due k = true)
    (h : ∀ mem, P (settle { s with node := (start k).1, vmem := mem })) : Answers i s P :=
  ⟨_, he.trans (if_pos (hf ▸ hd)), hf ▸ h _⟩

/-- A command after which no start follows. -/
theorem answers_noStart {i : Instr} {s : State} {dt : Nat} {due : Node → Bool} {f : Node → Node}
    {start : Node → Node × List (Nat × Byte)} {P : State → Prop} (he : exec i s = actStart dt s due f start)
    {k : Node} (hf : f (s.at_ dt) = k) (hd : due k = false) (h : P (settle { s with node := k })) : Answers i s P :=
  ⟨_, he.trans (if_neg (by rw [show f (s.node.begin dt) = k from hf, hd]; decide)), hf ▸ h⟩

theorem settle_cin (s : State) : (settle s).node.cin = s.node.cin := (congrArg Node.cin (settle_calms s).1 :)

namespace Node.Starts
variable {m n : Node}

theorem cmds (h : m.Starts n) : n.mode.cmds = m.mode.cmds := congrArg (·.1) h.part
theorem keeperReset (h : m.Starts n) : n.mode.keeperReset = m.mode.keeperReset := congrArg (·.2.1) h.part
theorem bootCount (h : m.Starts n) : n.cin.bootCount = m.cin.bootCount := congrArg (·.2.2.1) h.part
theorem loaderFail (h : m.Starts n) : n.cin.loaderFail = m.cin.loaderFail := congrArg (·.2.2.2) h.part

/-- A start that began on goes on, or ends in BOOT. -/
theorem phaseOn (h : m.Starts n) (hm : m.pwr.phase = .on ∨ m.pwr.phase = .boot) : n.pwr.phase = .on ∨ n.pwr.phase = .boot := by
  rcases h.phase with e | e
  · exact e ▸ hm
  · exact .inr e

theorem enterTimeState (h : m.Starts n) {st : Nat} : m.Starts (n.enterTimeState st) := by
  unfold Node.enterTimeState
  extract_lets set rated
  have hs : m.Starts set := h.setI
  have hr : m.Starts rated := .ite hs hs.setI
  clear_value rated
  exact hr.of_same (by rfl)

theorem startTime (h : m.Starts n) : m.Starts n.startTime := by
  have ht : ∀ t, m.Starts { n with time := {}, tai := t } := fun _ => h.of_same (by rfl)
  exact .ite (ht 0).enterTimeState (ht _).enterTimeState

theorem setPins (h : m.Starts n) {strap : Nat} {pref low : Bool} {bad : List Nat} :
    m.Starts (n.setPwr fun p => { p with strap := strap, prefStrap := pref, bad := bad, nresetLow := low }) := h.of_same (by rfl)

theorem emit (h : m.Starts n) {o : Out} : m.Starts (n.emit o) :=
  h.trans ⟨.inl rfl, rfl, fun _ hx => hx, fun _ hx => List.mem_append_left _ hx⟩

theorem bulkEstimate (h : m.Starts n) {us : Nat} : m.Starts (n.bulkEstimate us) := by
  unfold Node.bulkEstimate
  exact .ite (fault (setI h)) (setI h)

theorem shortReport (h : m.Starts n) : m.Starts n.shortReport := .ite (h.of_same (by rfl)) h

end Node.Starts

/-! ## The loader (R430) -/

/-- R430: with an intact slot the loader runs from it. -/
theorem Node.loaderStart_of_slot {n b : Node} {s w : Nat} (e : n.bootSlot 0 0 = (some s, b)) :
    ∃ q : Node, q.Starts (n.loaderStart w).1 ∧ (q.pwr.phase = .on ∨ q.pwr.phase = .boot) ∧ q.mode.cmds = b.mode.cmds
      ∧ q.mode.keeperReset = b.mode.keeperReset ∧ q.cin.bootCount = b.cin.bootCount ∧ q.cin.loaderFail = false
      ∧ q.cin.running = [slotKey 0 s] ∧ ∀ o ∈ b.out, o ∈ q.out := by
  unfold Node.loaderStart
  rw [e]
  dsimp -zeta only
  extract_lets on measured loaded
  have hm : on.Starts measured := .measure (.refl on)
  exact ⟨loaded, ((Node.Starts.refl loaded).recoverSectors).keeperStart, hm.phaseOn (.inl rfl), hm.cmds, hm.keeperReset, hm.bootCount,
    rfl, rfl, hm.sent⟩

/-- What the loader's start leaves as it was. -/
theorem Node.loaderStart_leaves (n : Node) (w : Nat) :
    let k := (n.loaderStart w).1
    (k.pwr.phase = .on ∨ k.pwr.phase = .boot) ∧ k.mode.cmds = n.mode.cmds ∧ k.mode.keeperReset = n.mode.keeperReset
      ∧ k.cin.bootCount = n.cin.bootCount ∧ ∀ o ∈ n.out, o ∈ k.out := by
  have hb : n.Starts (n.bootSlot 0 0).2 := .bootSlot (.refl n)
  rcases e : n.bootSlot 0 0 with ⟨_ | s, b⟩
  · rw [e] at hb
    rw [Node.loaderStart, e]
    exact ⟨.inr rfl, hb.cmds, hb.keeperReset, hb.bootCount, hb.sent⟩
  · rw [e] at hb
    obtain ⟨q, hq, hp, hc, hk, hn, -, -, ho⟩ := Node.loaderStart_of_slot (w := w) e
    exact ⟨hq.phaseOn hp, hq.cmds.trans (hc.trans hb.cmds), hq.keeperReset.trans (hk.trans hb.keeperReset),
      hq.bootCount.trans (hn.trans hb.bootCount), fun o h => hq.sent o (ho o (hb.sent o h))⟩

/-- R430: with an intact slot the loader runs, from the first that is intact. -/
theorem Node.loaderStart_runs {n : Node} (h : (n.slotIntact 0 0 || n.slotIntact 0 1) = true) (w : Nat) :
    (n.loaderStart w).1.cin.loaderFail = false
      ∧ slotKey 0 (if n.slotIntact 0 0 then 0 else 1) ∈ (n.loaderStart w).1.cin.running := by
  obtain ⟨b, e⟩ : ∃ b, n.bootSlot 0 0 = (some (if n.slotIntact 0 0 then 0 else 1), b) := by
    cases h0 : n.slotIntact 0 0 with
    | true => exact ⟨n, if_pos h0⟩
    | false =>
      rw [h0, Bool.false_or] at h
      exact ⟨_, (if_neg (by simp [h0])).trans (if_pos h)⟩
  obtain ⟨q, hq, -, -, -, -, hf, hr, -⟩ := Node.loaderStart_of_slot (w := w) e
  exact ⟨hq.loaderFail.trans hf, hq.running _ (by rw [hr]; exact List.mem_singleton_self _)⟩

/-! ## The start (Table 2-8) -/

/-- R435: a start counts one boot more, and keeps what the steps before did. -/
theorem Node.cinStart_leaves (n : Node) :
    (n.cinStart.pwr.phase = n.pwr.phase ∨ n.cinStart.pwr.phase = .boot) ∧ n.cinStart.mode.cmds = n.mode.cmds
      ∧ n.cinStart.mode.keeperReset = n.mode.keeperReset ∧ n.cinStart.cin.bootCount = (n.cin.bootCount + 1) % 2 ^ 32
      ∧ ∀ o ∈ n.out, o ∈ n.cinStart.out := by
  unfold Node.cinStart
  extract_lets c boot old cnt counted
  have h : counted.Starts (counted.extend 20 1 0x006 old (toLE 4 boot ++ toLE 4 cnt)) := .extend (.refl counted)
  exact ⟨h.phase, h.cmds, h.keeperReset, h.bootCount, h.sent⟩

/-- Table 2-10: what a start finds counts the boots before it, and no command waits. -/
theorem Node.wiped_leaves (n : Node) :
    n.wiped.pwr.phase = .on ∧ n.wiped.mode.cmds = [] ∧ n.wiped.mode.keeperReset = none ∧ n.wiped.cin.bootCount = n.cin.bootCount :=
  ⟨rfl, rfl, rfl, rfl⟩

/-- Table 2-8: what every start leaves. -/
theorem Node.startUp_leaves (n : Node) (cause : Nat) (su : Startup) :
    let k := (n.startUp cause su).1
    (k.pwr.phase = .on ∨ k.pwr.phase = .boot) ∧ Out.pin 4 true ∈ k.out ∧ k.cin.bootCount = (n.cin.bootCount + 1) % 2 ^ 32
      ∧ k.mode.cmds = [] ∧ k.mode.keeperReset = none := by
  unfold Node.startUp
  extract_lets old period wiped strapped moded shown estimated
  obtain ⟨wp, wc, wk, wb⟩ : wiped.pwr.phase = .on ∧ wiped.mode.cmds = [] ∧ wiped.mode.keeperReset = none ∧
    wiped.cin.bootCount = n.cin.bootCount := n.wiped_leaves
  clear_value wiped
  have hs : wiped.Starts shown := ((((((Node.Starts.refl wiped).setPins.startTime).setI.setI).setI).setI).fault).emit
  have hpin : Out.pin 4 true ∈ shown.out := List.mem_append_right _ (List.mem_singleton_self _)
  have he : shown.Starts estimated.shortReport := .shortReport (.ite (.bulkEstimate (.refl shown)) (.refl shown))
  clear_value shown
  have h := hs.trans he
  obtain ⟨cp, cc, ck, cb, co⟩ := estimated.shortReport.cinStart_leaves
  obtain ⟨lp, lc, lk, lb, lo⟩ := estimated.shortReport.cinStart.loaderStart_leaves period
  refine ⟨lp, lo _ (co _ (he.sent _ hpin)), lb.trans (cb.trans ?_), ?_, ?_⟩
  · rw [h.bootCount, wb]
  · exact lc.trans (cc.trans (h.cmds.trans wc))
  · exact lk.trans (ck.trans (h.keeperReset.trans wk))

/-! ## Line loss (R36) -/

/-- R34, R36: the line-loss record of a loss that ends without line valid. -/
theorem Node.lossRecord_leaves (n : Node) (mv : Nat) :
    (n.lossRecord mv).pwr = n.pwr ∧ (n.lossRecord mv).cin = n.cin
      ∧ (n.lossRecord mv).o 0x2000 0x0B = (if n.lineValid mv then 3 else 1)
      ∧ (n.lossRecord mv).o 0x2000 0x07 = min (n.o 0x2000 0x07 + 1) (2 ^ 32 - 1) := by
  unfold Node.lossRecord
  extract_lets valid stopped
  have hs : n.Spares stopped true := (Node.Spares.refl n true).writeOut.flashCut.canStopAll.portsStop
  clear_value stopped
  refine ⟨hs.pwr, hs.cin, Node.o_set_self .., ?_⟩
  have ho : stopped.o 0x2000 0x07 = n.o 0x2000 0x07 := hs.power (by decide)
  rw [← ho]
  exact (Node.oi_setI_ne _ _ (by decide)).trans (Node.oi_setI_self ..)

/-! ## The statement -/

/-- A start, with its completions stored. -/
theorem settle_startUp (s : State) (n : Node) (cause : Nat) (su : Startup) (mem : List Host.Cell) :
    let t := settle { s with node := (n.startUp cause su).1, vmem := mem }
    t.pending = s.pending ∧ (t.node.pwr.phase = .on ∨ t.node.pwr.phase = .boot) ∧ Out.pin 4 true ∈ t.node.out
      ∧ t.node.cin.bootCount = (n.cin.bootCount + 1) % 2 ^ 32 ∧ t.node.mode.cmds = [] ∧ t.node.mode.keeperReset = none := by
  obtain ⟨hp, ho, hb, hc, hk⟩ := n.startUp_leaves cause su
  dsimp only
  rw [settle_pwr, settle_cin, settle_mode]
  exact ⟨rfl, hp, settle_out _ ho, hb, hc, hk⟩

section
variable {s : State} {dt mv : Nat} {su : Startup} {P : State → Prop}

/-- Line valid in OFF or KEEP starts the node (R30). -/
theorem lineValid_starts (hp : (s.at_ dt).pwr.phase = .off ∨ (s.at_ dt).pwr.phase = .keep) (hv : (s.at_ dt).lineValid mv = true)
    (h : ∀ mem, P (settle { s with node := ((s.at_ dt).startUp 0x00 su).1, vmem := mem })) : Answers (.lineValid dt mv su) s P := by
  have hd : (((s.at_ dt).pwr.phase == .off || (s.at_ dt).pwr.phase == .keep) && (s.at_ dt).lineValid mv) = true := by
    rcases hp with hp | hp
    · simp [hp, hv]
    · simp [hp, hv]
  have he : exec (.lineValid dt mv su) s = execLineValid dt mv su s := rfl
  unfold execLineValid at he
  exact answers_start he rfl hd h

/-- Without line valid the node stays (R30). -/
theorem lineValid_stays (hv : (s.at_ dt).lineValid mv = false) (h : P { s with node := s.at_ dt }) :
    Answers (.lineValid dt mv su) s P := by
  have hd : (((s.at_ dt).pwr.phase == .off || (s.at_ dt).pwr.phase == .keep) && (s.at_ dt).lineValid mv) = false := by
    rw [hv, Bool.and_false]
  have he : exec (.lineValid dt mv su) s = execLineValid dt mv su s := rfl
  unfold execLineValid at he
  refine answers_noStart he rfl hd ?_
  rw [settle_of_done (by rfl)]
  exact h

/-- The release of a node reset starts the node (R45). -/
theorem nodeResetRelease_starts (hr : (s.at_ dt).releaseDue = true)
    (h : ∀ mem, P (settle { s with node := ((s.at_ dt).startUp (s.at_ dt).pwr.resetCause su).1, vmem := mem })) :
    Answers (.nodeResetRelease dt su) s P := by
  have he : exec (.nodeResetRelease dt su) s = execNodeResetRelease dt su s := rfl
  unfold execNodeResetRelease at he
  exact answers_start he rfl hr h

/-- The end of the line-loss sequence with line valid starts the node (R36). -/
theorem lineLossSequenceEnd_starts (hl : (s.at_ dt).lossOver = true) (hv : (s.at_ dt).lineValid mv = true)
    (h : ∀ mem, P (settle { s with node := (((s.at_ dt).lossRecord mv).startUp 0x03 su).1, vmem := mem })) :
    Answers (.lineLossSequenceEnd dt mv su) s P := by
  have hd : ((s.at_ dt).pwr.phase == .lineLoss && (s.at_ dt).lossOver && (s.at_ dt).lineValid mv) = true := by
    have hp : ((s.at_ dt).pwr.phase == .lineLoss) = true := (Bool.and_eq_true_iff.mp hl).1
    rw [hp, hl, hv]; rfl
  have he : exec (.lineLossSequenceEnd dt mv su) s = execLineLossSequenceEnd dt mv su s := rfl
  unfold execLineLossSequenceEnd at he
  exact answers_start he (if_neg (by simp [hv])) hd h

/-- The end of the line-loss sequence without line valid powers the node down (R36). -/
theorem lineLossSequenceEnd_powersDown (hl : (s.at_ dt).lossOver = true) (hv : (s.at_ dt).lineValid mv = false)
    (h : P (settle { s with node := ((s.at_ dt).lossRecord mv).powerDown })) : Answers (.lineLossSequenceEnd dt mv su) s P := by
  have hd : (((s.at_ dt).lossRecord mv).powerDown.pwr.phase == .lineLoss) = false := by
    rw [(Node.powerDown_leaves _).1]
    split
    · rfl
    · rfl
  have he : exec (.lineLossSequenceEnd dt mv su) s = execLineLossSequenceEnd dt mv su s := rfl
  unfold execLineLossSequenceEnd at he
  exact answers_noStart he (if_pos ⟨hl, by simp [hv]⟩) (by rw [hd]; rfl) h

/-- A loader that failed starts again once one of its slots is intact (R430). -/
theorem loaderRetry_starts (hp : (s.at_ dt).pwr.phase = .boot) (hf : (s.at_ dt).cin.loaderFail = true)
    (hi : ((s.at_ dt).slotIntact 0 0 || (s.at_ dt).slotIntact 0 1) = true)
    (h : ∀ mem, P (settle { s with node := ((s.at_ dt).loaderStart ((s.at_ dt).o 0x1200 0x05)).1, vmem := mem })) :
    Answers (.loaderRetry dt) s P := by
  have he : exec (.loaderRetry dt) s = execLoaderRetry dt s := rfl
  unfold execLoaderRetry at he
  exact answers_start he rfl (by rw [id, hp, hf, hi]; rfl) h

/-- Without an intact slot the Boot ROM goes on trying (R430). -/
theorem loaderRetry_stays (h0 : (s.at_ dt).slotIntact 0 0 = false) (h1 : (s.at_ dt).slotIntact 0 1 = false)
    (h : P { s with node := s.at_ dt }) : Answers (.loaderRetry dt) s P := by
  have he : exec (.loaderRetry dt) s = execLoaderRetry dt s := rfl
  unfold execLoaderRetry at he
  refine answers_noStart he rfl (by rw [id, h0, h1]; simp) ?_
  rw [settle_of_done (by rfl)]
  exact h

end

/-- What the end of the line-loss sequence leaves without line valid (R36). -/
theorem settle_powerDown_lossRecord (s : State) {n : Node} {mv : Nat} (hv : n.lineValid mv = false) :
    let t := settle { s with node := (n.lossRecord mv).powerDown }
    t.pending = s.pending ∧ t.node.pwr.phase = (if n.pwr.backup then .keep else .off)
      ∧ t.node.o 0x1010 0x01 = (if n.pwr.backup then 1 else 0)
      ∧ (n.pwr.backup = true → t.node.o 0x2000 0x0B = 1 ∧ t.node.o 0x2000 0x07 = min (n.o 0x2000 0x07 + 1) (2 ^ 32 - 1)) := by
  obtain ⟨hpwr, -, hB, h7⟩ := n.lossRecord_leaves mv
  obtain ⟨hp, hm, hk⟩ := (n.lossRecord mv).powerDown_leaves
  rw [hpwr] at hp hm hk
  generalize (n.lossRecord mv).powerDown = k at hp hm hk
  have ho (idx sub : Nat) (hs : sub < 256) (hi : idx = 0x1010 ∨ idx = 0x2000) :
      (settle { s with node := k }).node.o idx sub = k.o idx sub :=
    settle_oi _ hs (by omega) (by omega) (by omega) (by omega)
  dsimp only
  rw [settle_pwr, ho _ _ (by decide) (by decide), ho _ _ (by decide) (by decide), ho _ _ (by decide) (by decide)]
  refine ⟨rfl, hp, hm, fun hb => ?_⟩
  obtain ⟨-, hkeep⟩ := hk hb
  rw [hkeep _ (by decide), hkeep _ (by decide), hB, h7, hv]
  exact ⟨rfl, rfl⟩

/-- Settles O16: a start leaves what Table 2-8 gives; where none is due the node stays, or powers down. -/
theorem nodesStart : Obligations.NodesStart := by
  intro s dt u x started
  refine ⟨fun mv su hp hv => ?_, fun mv su hp hv => ?_, fun su hr => ?_, fun mv su hl hv => ?_, fun mv su hl hv => ?_,
    fun hp hf hi => ?_, fun hp h0 h1 => ?_⟩
  · exact lineValid_starts hp hv fun mem => settle_startUp s u 0x00 su mem
  · exact lineValid_stays hv ⟨⟨rfl, rfl⟩, rfl⟩
  · exact nodeResetRelease_starts hr fun mem => settle_startUp s u u.pwr.resetCause su mem
  · refine lineLossSequenceEnd_starts hl hv fun mem => ?_
    have hc := congrArg CinSt.bootCount (u.lossRecord_leaves mv).2.1
    obtain ⟨h1, h2, h3, h4, h5⟩ := settle_startUp s (u.lossRecord mv) 0x03 su mem
    exact ⟨h1, h2, h3, h4.trans (by rw [hc]), h5⟩
  · exact lineLossSequenceEnd_powersDown hl hv (settle_powerDown_lossRecord s hv)
  · refine loaderRetry_starts hp hf hi fun mem => ?_
    rw [settle_cin]
    exact ⟨rfl, Node.loaderStart_runs hi _⟩
  · exact loaderRetry_stays h0 h1 ⟨⟨rfl, rfl⟩, rfl⟩

end Sys2Proof.Machine
end

section
/-!
SUPPORT. The judgement of a reset command (R43, R44, R76, Table 2-11, Table 4-4).
-/
namespace Sys2Proof.Machine

/-! ## The first check that fails (Table 4-4) -/

@[simp] theorem firstFail_zero (cs : List Nat) : firstFail (0 :: cs) = firstFail cs := rfl

theorem firstFail_singleton (c : Nat) : firstFail [c, 0] = c := by
  unfold firstFail
  dsimp only
  split
  · next h => exact h.symm
  · rfl

theorem firstFail_mem (cs : List Nat) : firstFail cs = 0 ∨ firstFail cs ∈ cs := by
  induction cs with
  | nil => exact .inl rfl
  | cons c cs ih =>
    unfold firstFail
    dsimp only
    split
    · exact ih.imp_right (List.mem_cons_of_mem _)
    · split
      · exact .inr List.mem_cons_self
      · next hd =>
        split
        · exact .inr (List.mem_cons_of_mem _ (ih.resolve_left hd))
        · exact .inr List.mem_cons_self

/-- A check that fails and that Table 4-4 lists before the others answers. -/
theorem firstFail_cons {c : Nat} {cs : List Nat} (hc : c ≠ 0) (h : ∀ d ∈ cs, d = 0 ∨ checkRank c ≤ checkRank d) :
    firstFail (c :: cs) = c := by
  unfold firstFail
  dsimp only
  rw [if_neg hc]
  split
  · rfl
  · next hd =>
    have hr := (h _ ((firstFail_mem cs).resolve_left hd)).resolve_left hd
    exact if_neg (Nat.not_lt.mpr hr)

/-- Where no code comes of the checks, none of them fails. -/
theorem firstFail_eq_zero {cs : List Nat} (h : firstFail cs = 0) : ∀ c ∈ cs, c = 0 := by
  induction cs with
  | nil => simp
  | cons c cs ih =>
    unfold firstFail at h
    dsimp only at h
    have hc : c = 0 := by
      by_contra hc
      rw [if_neg hc] at h
      split at h
      · exact hc h
      · next hd =>
        split at h
        · exact hd h
        · exact hc h
    rw [if_pos hc] at h
    exact List.forall_mem_cons.mpr ⟨hc, ih h⟩

theorem failIf_eq_zero {b : Bool} {c : Nat} (hc : c ≠ 0) (h : failIf b c = 0) : b = false := by
  cases b with
  | false => rfl
  | true => exact absurd h hc

/-- A check that may fail, behind one that Table 4-4 lists before it. -/
theorem failIf_after {c k : Nat} (h : checkRank k ≤ checkRank c) (b : Bool) :
    failIf b c = 0 ∨ checkRank k ≤ checkRank (failIf b c) := by
  cases b with
  | false => exact .inl rfl
  | true => exact .inr h

/-! ## The word of a reset command -/

theorem ofLE_resetWord (key : Byte) (kind : Nat) (inst : Byte) :
    ofLE (resetWord key kind inst) = inst.toNat + 2 ^ 8 * (kind % 256) + 2 ^ 24 * key.toNat := by
  simp [resetWord]
  omega

/-- The fields of Table 2-11. -/
theorem bits_resetWord (key : Byte) {kind : Nat} (hk : kind < 256) (inst : Byte) :
    let v := ofLE (resetWord key kind inst)
    bits v 15 8 = kind ∧ bits v 7 0 = inst.toNat ∧ bits v 31 24 = key.toNat ∧ bits v 23 16 = 0 := by
  have hi := inst.isLt
  have hy := key.isLt
  simp only [ofLE_resetWord, bits, Nat.shiftRight_eq_div_pow]
  omega

/-! ## The judgement -/

/-- The row of the reset command (0x1010.06). -/
def resetRow : Row := ⟨0x06, .u 4, .wo, 0, false, .any, false⟩

theorem Node.rowFor_reset (n : Node) : n.indexExists 0x1010 = true ∧ n.rowFor 0x1010 0x06 = some resetRow := ⟨rfl, rfl⟩

/-- A reset command has the length of its row, and every value is in range. -/
theorem resetRow_takes (key : Byte) (kind : Nat) (inst : Byte) :
    lengthOk (canonIdx 0x1010) 0x06 resetRow (resetWord key kind inst).length = true
      ∧ valueOk resetRow (ofLE (resetWord key kind inst)) (resetWord key kind inst) = true := ⟨rfl, rfl⟩

/-- No owner stands over the reset command, and outside BOOT every mode takes it. -/
theorem Node.reset_open (n : Node) (m : Master) :
    n.ownerWrite m (n.ownerMask m 0x1010 0x06) = 0 ∧ n.modeWrite 0x1010 0x06 .wo = failIf (n.curMode == 2) 0x0605 := by
  refine ⟨rfl, ?_⟩
  unfold Node.modeWrite
  split
  · next h => rw [h]; rfl
  · next h => rw [beq_false_of_ne h]; rfl

/-- A reset command is judged by its own code, then by the mode. -/
theorem Node.writeJudge_reset (n : Node) (m : Master) (key : Byte) (kind : Nat) (inst : Byte) :
    n.writeJudge m 0x1010 0x06 (resetWord key kind inst) =
      firstFail [n.resetCode m (ofLE (resetWord key kind inst)), failIf (n.curMode == 2) 0x0605] := by
  obtain ⟨hx, hr⟩ := n.rowFor_reset
  obtain ⟨hl, hv⟩ := resetRow_takes key kind inst
  obtain ⟨ho, hm⟩ := n.reset_open m
  have ha : resetRow.acc = .wo := rfl
  have hw : Acc.writes .wo = true := rfl
  have hf : failIf (!true) 0x0606 = 0 := rfl
  have hs : n.specific m 0x1010 0x06 (ofLE (resetWord key kind inst)) (resetWord key kind inst) =
    n.resetCode m (ofLE (resetWord key kind inst)) := rfl
  have hc : n.writeCode m 0x1010 0x06 (resetWord key kind inst) =
      firstFail [n.resetCode m (ofLE (resetWord key kind inst)), failIf (n.curMode == 2) 0x0605] := by
    unfold Node.writeCode
    rw [hx, hr]
    dsimp only
    rw [hl, hv, ha, hw, hf, ho, hs, hm, firstFail_zero]
    simp only [Bool.not_true, Bool.false_eq_true, if_false]
    rfl
  unfold Node.writeJudge
  rw [hc]
  exact firstFail_singleton _

/-- Does R44 leave a reset to the master? -/
def mayReset (m : Master) (kind inst : Nat) : Bool :=
  match m with
  | .vat w => kind == 3 && inst == w.val
  | _ => true

/-- The last domain of each kind of Table 2-11. -/
def lastInstance (kind : Nat) : Nat := ([0, 0, 0, 15, 31, 7, 1, 3, 3, 7] : List Nat).getD kind 0

/-- R43, R44: the code of a reset command, by its fields. -/
theorem Node.resetCode_eq (n : Node) (m : Master) {kind : Nat} (hk : kind < 256) (inst : Byte) :
    n.resetCode m (ofLE (resetWord 0xA5 kind inst)) =
      firstFail [failIf (!mayReset m kind inst.toNat) 0x0604,
        failIf (kind == 0 || decide (9 < kind) || decide (lastInstance kind < inst.toNat)) 0x0606,
        failIf ((kind == 4 && n.unitState inst.toNat == 6) || (kind == 5 && n.unitState (32 + inst.toNat) == 6)) 0x0606,
        failIf (n.inReset kind inst.toNat) 0x0608] := by
  obtain ⟨hkind, hinst, hkey, hrest⟩ := bits_resetWord 0xA5 hk inst
  unfold Node.resetCode
  rw [hkind, hinst, hkey, hrest]
  rfl

/-- What an accepted reset command has passed. -/
theorem Node.reset_accepted {n : Node} {m : Master} {kind : Nat} (hk : kind < 256) {inst : Byte}
    (h : n.writeJudge m 0x1010 0x06 (resetWord 0xA5 kind inst) = 0) :
    ((kind == 4 && n.unitState inst.toNat == 6) || (kind == 5 && n.unitState (32 + inst.toNat) == 6)) = false
      ∧ n.inReset kind inst.toNat = false := by
  rw [n.writeJudge_reset, n.resetCode_eq m hk] at h
  have hc := firstFail_eq_zero (firstFail_eq_zero h _ List.mem_cons_self)
  simp only [List.forall_mem_cons] at hc
  obtain ⟨-, -, hstate, hreset, -⟩ := hc
  exact ⟨failIf_eq_zero (by decide) hstate, failIf_eq_zero (by decide) hreset⟩

/-- R44: a reset that is not the vat's own is refused with 0x0604. -/
theorem Node.reset_refused {n : Node} {m : Master} {kind : Nat} (hk : kind < 256) {inst : Byte}
    (h : mayReset m kind inst.toNat = false) : n.writeJudge m 0x1010 0x06 (resetWord 0xA5 kind inst) = 0x0604 := by
  have hr : n.resetCode m (ofLE (resetWord 0xA5 kind inst)) = 0x0604 := by
    rw [n.resetCode_eq m hk, h]
    refine firstFail_cons (by decide) ?_
    simp only [List.forall_mem_cons]
    exact ⟨failIf_after (by decide) _, failIf_after (by decide) _, failIf_after (by decide) _, by simp⟩
  rw [n.writeJudge_reset, hr]
  refine firstFail_cons (by decide) ?_
  simp only [List.forall_mem_cons]
  exact ⟨failIf_after (by decide) _, by simp⟩

/-- R44: outside BOOT a vat that runs may reset itself. -/
theorem Node.vatReset_accepted {n : Node} {v : Fin 16} (hs : n.oi v 0x9000 0x07 = 2) (hm : n.curMode ≠ 2) :
    n.writeJudge (.vat v) 0x1010 0x06 (resetWord 0xA5 3 (BitVec.ofNat 8 v.val)) = 0 := by
  have hi : (BitVec.ofNat 8 v.val).toNat = v.val := by
    rw [BitVec.toNat_ofNat]; omega
  have ho : mayReset (.vat v) 3 v.val = true := by simp [mayReset]
  have hl : ¬ lastInstance 3 < v.val := by
    have := v.isLt
    simp [lastInstance]; omega
  have hr : n.inReset 3 v.val = false := by simp [Node.inReset, hs]
  rw [n.writeJudge_reset, n.resetCode_eq _ (by decide), hi, ho, hr, beq_false_of_ne hm]
  simp [hl, failIf]
  rfl

end Sys2Proof.Machine
end

section
/-!
SUPPORT. The reset of a vat (R41, R44): the vat's core and state through the answers it gives and the storing of completions.
-/
namespace Sys2Proof.Machine

/-- Every vat's program counter, its hold and its state are as they were. -/
structure Node.KeepsVats (m n : Node) : Prop where
  cores : ∀ v, (n.vat v).pc = (m.vat v).pc ∧ (n.vat v).held = (m.vat v).held
  states : ∀ v, n.oi v 0x9000 0x07 = m.oi v 0x9000 0x07

namespace Node.KeepsVats
variable {m n k : Node}

theorem refl (n : Node) : n.KeepsVats n := ⟨fun _ => ⟨rfl, rfl⟩, fun _ => rfl⟩

theorem trans (h : m.KeepsVats n) (g : n.KeepsVats k) : m.KeepsVats k :=
  ⟨fun v => ⟨(g.cores v).1.trans (h.cores v).1, (g.cores v).2.trans (h.cores v).2⟩, fun v => (g.states v).trans (h.states v)⟩

theorem of_same (h : m.KeepsVats n) (e : (k.vats, k.od) = (n.vats, n.od)) : m.KeepsVats k := by
  simp only [Prod.mk.injEq] at e
  exact h.trans ⟨fun v => by rw [Node.vat, e.1]; exact ⟨rfl, rfl⟩, fun v => by rw [Node.oi, e.2]; rfl⟩

theorem ite {a b : Node} {p : Prop} [Decidable p] (h : m.KeepsVats a) (g : m.KeepsVats b) : m.KeepsVats (if p then a else b) := by
  split <;> assumption

theorem foldl {α : Type} {f : Node → α → Node} (hf : ∀ n a, m.KeepsVats n → m.KeepsVats (f n a)) {l : List α}
    (h : m.KeepsVats n) : m.KeepsVats (l.foldl f n) := by
  induction l generalizing n with
  | nil => exact h
  | cons a r ih => exact ih (hf n a h)

/-- A write of an object that is not a vat's state. -/
theorem setI (h : m.KeepsVats n) {i idx sub x : Nat} (hk : (idx % 65536 == 0x9000 && sub == 0x07) = false ∧ sub < 256) :
    m.KeepsVats (n.setI i idx sub x) := by
  refine h.trans ⟨fun _ => ⟨rfl, rfl⟩, fun v => Node.oi_setI_ne n x fun e => ?_⟩
  obtain ⟨hk, hs⟩ := hk
  simp only [Bool.and_eq_false_iff, beq_eq_false_iff_ne] at hk
  unfold key at e
  omega

theorem setQueue (h : m.KeepsVats n) {q : Nat} {x : QueueSt} : m.KeepsVats (n.setQueue q x) := h.of_same (by rfl)
theorem emit (h : m.KeepsVats n) {o : Out} : m.KeepsVats (n.emit o) := h.of_same (by rfl)

theorem fault (h : m.KeepsVats n) {src kind detail addr : Nat} : m.KeepsVats (n.fault src kind detail addr) := h.of_same (by rfl)

theorem irq (h : m.KeepsVats n) {v s : Nat} : m.KeepsVats (n.irq v s) := by
  unfold Node.irq
  refine .ite h (h.trans ⟨fun w => ?_, fun _ => rfl⟩)
  by_cases e : w = v
  · rw [e, Node.vat_setVat_self]; exact ⟨rfl, rfl⟩
  · rw [Node.vat_setVat_ne n v _ e]; exact ⟨rfl, rfl⟩

/-! ## Answers -/

theorem portDrop (h : m.KeepsVats n) {p c : Nat} : m.KeepsVats (n.portDrop p c) := by
  unfold Node.portDrop
  exact .ite h ((h.setI (by decide)).setI (by decide))

theorem handTo (h : m.KeepsVats n) {p : Nat} {f : List Byte} : m.KeepsVats (n.handTo p f) := by
  unfold Node.handTo
  exact .ite (h.setI (by decide)).emit (.ite (h.of_same (by rfl)) h.portDrop)

theorem respond (h : m.KeepsVats n) {o : Master} {via : Via} {code : Nat} {data : List Byte} :
    m.KeepsVats (n.respond o via code data) := by
  cases via with
  | direct => exact h.emit
  | lp id tag op => exact .ite (h.of_same (by rfl)) h
  | ring mac token op => exact .ite h (handTo (handTo (setI (h.of_same (by rfl)) (by decide))))
  | can c size toggle id => exact .ite (h.of_same (by rfl)) h
  | od q pos => exact h.of_same (by rfl)

theorem passDone (h : m.KeepsVats n) {q pos : Nat} : m.KeepsVats (n.passDone q pos).1 := by
  unfold Node.passDone
  extract_lets x live left orphans ended queued passed ci
  have hp : m.KeepsVats passed := .ite (.foldl (fun _ _ g => g.respond) h.setQueue) h.setQueue
  split
  · exact hp
  · exact hp.setI (by decide)

/-! ## Completions -/

theorem settleOne (h : m.KeepsVats n) {mem : List Host.Cell} {d : DescDone} : m.KeepsVats (settleOne mem n d).2 := by
  unfold Machine.settleOne
  extract_lets v a buf flags own passed
  have hp : m.KeepsVats passed.1 := h.passDone
  split
  · exact .ite hp.irq hp
  · exact h

end Node.KeepsVats

theorem settle_keepsVats (s : State) : s.node.KeepsVats (settle s).node := by
  have all : ∀ (ds : List DescDone) (mem : List Host.Cell) (n : Node), s.node.KeepsVats n →
      s.node.KeepsVats (settleAll mem n ds).2 := by
    intro ds
    induction ds with
    | nil => exact fun _ _ h => h
    | cons d r ih => exact fun mem n h => ih _ _ h.settleOne
  exact all _ _ _ ((Node.KeepsVats.refl s.node).of_same (by rfl))

/-! ## The reset -/

theorem Node.KeepsVats.abandonPorts {m n : Node} (h : m.KeepsVats n) {f : Master → Bool} {code : Nat} :
    m.KeepsVats (n.abandonPorts f code) := by
  unfold Node.abandonPorts
  refine .foldl (fun k p g => ?_) h
  dsimp only
  split
  · exact .ite (g.of_same (by rfl)) g
  · exact g

theorem Node.KeepsVats.disableQueue {m n : Node} (h : m.KeepsVats n) {q : Nat} : m.KeepsVats (n.disableQueue q) :=
  ((h.setI (by decide)).setI (by decide)).setQueue

theorem Node.KeepsVats.incResets {m n : Node} (h : m.KeepsVats n) {v : Nat} : m.KeepsVats (n.incSatI 32 v 0x9000 0x08 1) :=
  h.setI (by decide)

/-- R41, R44: a vat that is neither disabled nor in reset is held, at its start address. -/
theorem Node.resetVat_leaves {n : Node} {v : Nat} (h : n.oi v 0x9000 0x07 ≠ 0 ∧ n.oi v 0x9000 0x07 ≠ 3) (detail : Nat) :
    (n.resetVat v detail).oi v 0x9000 0x07 = 3 ∧ ((n.resetVat v detail).vat v).pc = 0x80000000
      ∧ ((n.resetVat v detail).vat v).held = true := by
  unfold Node.resetVat
  rw [if_neg (by omega)]
  extract_lets x held counted closed freed
  have hx : (held.vat v).pc = 0x80000000 ∧ (held.vat v).held = true := by
    dsimp only [held]
    rw [Node.vat_setVat_self]
    exact ⟨rfl, rfl⟩
  clear_value held
  have hc : (held.setI v 0x9000 0x07 3).KeepsVats counted := .incResets (.refl _)
  have hv : (held.setI v 0x9000 0x07 3).KeepsVats closed := by
    refine .foldl (fun k q g => ?_) hc
    dsimp only
    refine .setI (.setI (.setQueue ?_) (by decide)) (by decide)
    exact .foldl (fun _ _ g => g.respond) g.disableQueue
  have hf : (held.setI v 0x9000 0x07 3).KeepsVats (freed.fault (0x010 + v) 0x22 detail 0) := .fault (.abandonPorts hv)
  clear_value freed
  rw [hf.states v, (hf.cores v).1, (hf.cores v).2]
  refine ⟨Node.oi_setI_self .., ?_⟩
  rwa [Node.vat, Node.setI_vats]

end Sys2Proof.Machine
end

section
/-!
SUPPORT. Requests of modes and resets: one that is refused, and one that is accepted (R44, R76).
-/
namespace Sys2Proof.Machine

/-! ## Refused -/

/-- A write that a check refuses, at an index whose refusals are not counted, is answered with the code and does nothing. -/
theorem askWrite_refused {dt : Nat} {m : Master} {idx sub : Nat} {data : List Byte} {s : State} {code : Nat}
    (ha : (s.at_ dt).asks m = true) (hj : (s.at_ dt).writeJudge m idx sub data = code) (hc : code ≠ 0)
    (h1 : idx ≠ 0x2300) (h2 : idx ≠ 0x3700) :
    askWrite dt m idx sub data s = .next { s with node := (s.at_ dt).emit (.reply m code []) } := by
  have e : (s.at_ dt).serveWrite m .direct idx sub data false = (s.at_ dt).emit (.reply m code []) := by
    have hn : (s.at_ dt).writeJudge m idx sub data ≠ 0 := hj ▸ hc
    have hw : (s.at_ dt).writeOne m .direct idx sub data false = (code, s.at_ dt, false) := by
      unfold Node.writeOne
      simp only [hj, ne_eq, hc, not_false_eq_true, if_true, Node.countRefusal, h1, h2, false_and, if_false]
    unfold Node.serveWrite
    rw [if_neg (fun h => hn h.2.2), if_neg (fun h => hn h.2.2.2), if_neg (fun h => hn h.2.2.2), hw]
    rfl
  have hd : (s.node.begin dt).when ((s.node.begin dt).asks m) (fun n => n.serveWrite m .direct idx sub data false) =
      (s.at_ dt).emit (.reply m code []) := (if_pos ha).trans e
  unfold askWrite
  rw [actDone_eq (by rw [hd]; rfl), hd]

/-! ## Accepted -/

/-- An accepted write of 0x1010 that is not a node reset, with the completions it brings. -/
theorem askWrite_1010 {s : State} {dt : Nat} {m : Master} {sub : Nat} {data : List Byte} {k : Node}
    (ht : Takes s dt m 0x1010 sub data) (hn : ¬ (sub = 0x06 ∧ bits (ofLE data) 15 8 = 1))
    (hd : (s.at_ dt).writeDo m .direct 0x1010 sub data = (k, false)) :
    askWrite dt m 0x1010 sub data s = .next (settle { s with node := k.emit (.reply m 0 []) }) :=
  askWrite_settles ht.1 ht.2 (fun h => absurd h.1 (by decide)) (fun h => absurd h.1 (by decide)) (fun h => hn h.2)
    (fun h => absurd h.1 (by decide)) hd

/-- The command is answered with 0x0000. -/
theorem settle_done (s : State) (k : Node) (m : Master) : Done m (settle { s with node := k.emit (.reply m 0 []) }) :=
  settle_out { s with node := k.emit (.reply m 0 []) } (List.mem_append_right _ (List.mem_singleton_self _))

/-- What writing a reset command of a kind other than the node's does. -/
theorem Node.writeDo_reset (n : Node) (m : Master) {kind : Nat} (hk : kind < 256) (h1 : kind ≠ 1) (inst : Byte) :
    n.writeDo m .direct 0x1010 0x06 (resetWord 0xA5 kind inst) = (n.domainReset m kind inst.toNat, false) := by
  obtain ⟨hkind, hinst, -⟩ := bits_resetWord 0xA5 hk inst
  change (if bits (ofLE (resetWord 0xA5 kind inst)) 15 8 = 1 then n.nodeReset 0x02 else
    n.domainReset m (bits (ofLE (resetWord 0xA5 kind inst)) 15 8) (bits (ofLE (resetWord 0xA5 kind inst)) 7 0), false) = _
  rw [hkind, hinst, if_neg h1]

/-- An accepted reset command of a kind other than the node's begins its domain's reset. -/
theorem answers_domainReset {i : Instr} {s : State} {dt : Nat} {m : Master} {kind : Nat} {inst : Byte} {P : State → Prop}
    (he : exec i s = askWrite dt m 0x1010 0x06 (resetWord 0xA5 kind inst) s) (hk : kind < 256) (h1 : kind ≠ 1)
    (ht : Takes s dt m 0x1010 0x06 (resetWord 0xA5 kind inst))
    (h : P (settle { s with node := ((s.at_ dt).domainReset m kind inst.toNat).emit (.reply m 0 []) })) : Answers i s P := by
  refine ⟨_, he.trans (askWrite_1010 ht (fun e => h1 ?_) (Node.writeDo_reset _ m hk h1 inst)), h⟩
  exact (bits_resetWord 0xA5 hk inst).1.symm.trans e.2

/-! ## The reset of a vat (R44) -/

/-- What the reset of vat `v` leaves, with the completions stored. -/
theorem settle_resetVat (s : State) {n : Node} {v : Nat} (h : n.inReset 3 v = false) (detail : Nat) (m : Master) :
    let t := settle { s with node := (n.resetVat v detail).emit (.reply m 0 []) }
    t.node.oi v 0x9000 0x07 = 3 ∧ (t.node.vat v).pc = 0x80000000 ∧ (t.node.vat v).held = true := by
  have hst : n.oi v 0x9000 0x07 ≠ 0 ∧ n.oi v 0x9000 0x07 ≠ 3 := by
    simp [Node.inReset] at h
    exact h.symm
  obtain ⟨hs, hp, hh⟩ := Node.resetVat_leaves hst detail
  have hk := (Node.KeepsVats.emit (.refl (n.resetVat v detail)) (o := .reply m 0 [])).trans
    (settle_keepsVats { s with node := (n.resetVat v detail).emit (.reply m 0 []) })
  dsimp only
  rw [hk.states, (hk.cores v).1, (hk.cores v).2]
  exact ⟨hs, hp, hh⟩

theorem mayReset_other {v : Fin 16} {kind inst : Byte} (h : ¬ (kind = 3 ∧ inst.toNat = v.val)) :
    mayReset (.vat v) kind.toNat inst.toNat = false := by
  rw [mayReset, Bool.and_eq_false_iff, beq_eq_false_iff_ne, beq_eq_false_iff_ne]
  by_contra hn
  push Not at hn
  exact h ⟨BitVec.eq_of_toNat_eq hn.1, hn.2⟩

/-- Settles O11: a vat's reset of another domain fails the check of R44; its own passes, and resets it. -/
theorem vatsResetOnlyThemselves : Obligations.VatsResetOnlyThemselves := by
  intro s dt v u m ha
  have hruns : u.vatRuns v.val = true := (Bool.and_eq_true_iff.mp ha).2
  have hs : u.oi v 0x9000 0x07 = 2 := by simpa using (Bool.and_eq_true_iff.mp hruns).2
  refine ⟨fun kind inst _ _ hother => ?_, fun hm => ?_⟩
  · have hj : u.writeJudge m 0x1010 0x06 (resetWord 0xA5 kind.toNat inst) = 0x0604 :=
      Node.reset_refused kind.isLt (mayReset_other hother)
    exact ⟨_, askWrite_refused ha hj (by decide) (by decide) (by decide), ⟨rfl, rfl⟩, rfl, rfl⟩
  · have ht : Takes s dt m 0x1010 0x06 (resetWord 0xA5 3 (BitVec.ofNat 8 v.val)) := ⟨ha, Node.vatReset_accepted hs hm⟩
    have hi : (BitVec.ofNat 8 v.val).toNat = v.val := by
      rw [BitVec.toNat_ofNat]; omega
    have hr : u.inReset 3 v.val = false := by simp [Node.inReset, hs]
    refine answers_domainReset rfl (by decide) (by decide) ht ⟨settle_done .., ?_⟩
    rw [hi]
    exact settle_resetVat s hr 2 m

end Sys2Proof.Machine
end

section
/-!
SUPPORT. Mode commands, and the reset of each domain (R21, R23, R41, R43, R45, R466).
-/
namespace Sys2Proof.Machine

/-! ## Mode commands (R466) -/

/-- An accepted mode command waits, and 0x1010.02 reads it. -/
theorem modeCommand_waits {i : Instr} {s : State} {dt : Nat} {m : Master} {b : Byte}
    (he : exec i s = askWrite dt m 0x1010 0x02 [b] s) (ht : Takes s dt m 0x1010 0x02 [b]) :
    Answers i s fun t => Done m t ∧ Rests s t ∧ t.node.o 0x1010 0x02 = b.toNat
      ∧ t.node.mode = { s.node.mode with cmds := s.node.mode.cmds ++ [b.toNat] }
      ∧ SameObjects s.node t.node [key 0 0x1010 0x02] := by
  have hd : (s.at_ dt).writeDo m .direct 0x1010 0x02 [b] = ((s.at_ dt).modeAccept b.toNat, false) := rfl
  refine ⟨_, he.trans (askWrite_1010 ht (fun e => absurd e.1 (by decide)) hd), settle_done .., ?_⟩
  rw [settle_of_done (by rfl)]
  have hs : SameObjects s.node ((s.at_ dt).set 0x1010 0x02 b.toNat) [key 0 0x1010 0x02] :=
    SameObjects.setI (n := s.at_ dt) (.refl s.node _) (by simp)
  exact ⟨⟨rfl, rfl⟩, (s.at_ dt).o_set_self 0x1010 0x02 b.toNat, rfl, fun k hk => hs k hk⟩

/-! ## The node and the keeper (R41, R45) -/

/-- An accepted reset of the node begins at once (R45). -/
theorem nodeResetCommand_begins {s : State} {dt : Nat} {m : Master} {inst : Byte}
    (ht : Takes s dt m 0x1010 0x06 (resetWord 0xA5 1 inst)) :
    Answers (.nodeResetCommand dt m 0xA5 inst) s fun t => t.node.pwr.phase = .inReset ∧ t.node.pwr.resetCause = 2
      ∧ t.node.pwr.resetOrigin = s.node.now + dt := by
  obtain ⟨ha, hj⟩ := ht
  have hup : (s.at_ dt).up = true := (Bool.and_eq_true_iff.mp (Bool.and_eq_true_iff.mp ha).1).1
  have e : (s.at_ dt).serveWrite m .direct 0x1010 0x06 (resetWord 0xA5 1 inst) false =
      ((s.at_ dt).emit (.reply m 0 [])).nodeReset 0x02 := by
    unfold Node.serveWrite
    rw [if_neg (fun h => absurd h.1 (by decide)), if_neg (fun h => absurd h.1 (by decide)),
      if_pos ⟨rfl, rfl, (bits_resetWord 0xA5 (by decide) inst).1, hj⟩]
    rfl
  obtain ⟨hp, -, -⟩ := Node.nodeReset_leaves (n := (s.at_ dt).emit (.reply m 0 [])) hup 0x02
  let k : Node := (s.node.begin dt).when ((s.node.begin dt).asks m) fun n =>
    n.serveWrite m .direct 0x1010 0x06 (resetWord 0xA5 1 inst) false
  have hk : k = ((s.at_ dt).emit (.reply m 0 [])).nodeReset 0x02 := (if_pos ha).trans e
  have hq : (settle { s with node := k }).node.pwr = _ := (settle_pwr { s with node := k }).trans ((congrArg Node.pwr hk).trans hp)
  exact ⟨_, rfl, congrArg PowerSt.phase hq, congrArg PowerSt.resetCause hq, congrArg PowerSt.resetOrigin hq⟩

/-! ## Lakes, dynamic lakes and the ring ports (R41, R43) -/

/-- R43: the reset of a lake that is neither in reset nor disabled. -/
theorem Node.resetUnit_leaves {n : Node} {u : Nat} (h5 : n.unitState u ≠ 5) (h6 : n.unitState u ≠ 6) :
    (n.resetUnit u).unitState u = 5 ∧ (n.resetUnit u).eng.done = n.eng.done := by
  unfold Node.resetUnit
  rw [if_neg (by omega)]
  extract_lets _ aborted back stopped
  have hd : aborted.eng.done = n.eng.done := by
    dsimp only [aborted]
    split
    · rfl
    · rfl
  have hs : (aborted.stopConverters u).eng.done = aborted.eng.done := by
    unfold Node.stopConverters
    split
    · rfl
    · rfl
  clear_value aborted
  refine ⟨?_, hs.trans hd⟩
  change odGet (odPut (aborted.stopConverters u).od (key 0 (unitIdx u) 0x02) 5) (key 0 (unitIdx u) 0x02) = 5
  exact odGet_odPut_self ..

theorem Node.portState_setPortBit (n : Node) (p i : Nat) (b : Bool) : (n.setPortBit p i b).portState p = n.portState p :=
  Node.oi_setI_ne n _ (by unfold key; omega)

theorem Node.setPortBit_eng (n : Node) (p i : Nat) (b : Bool) : (n.setPortBit p i b).eng = n.eng := n.setI_eng ..

theorem Node.portTrain_eng (n : Node) (p : Nat) : (n.portTrain p).eng = n.eng := by
  unfold Node.portTrain
  rw [Node.setRport_eng, Node.setPortBit_eng, Node.setPortBit_eng, Node.setPortBit_eng, Node.setI_eng]

/-- R285: a ring port that trains. -/
theorem Node.portTrain_portState (n : Node) (p : Nat) : (n.portTrain p).portState p = 1 := by
  unfold Node.portTrain
  rw [Node.portState, Node.setRport_oi]
  change ((((n.setI p 0x3000 0x0D 1).setPortBit p 0 false).setPortBit p 4 false).setPortBit p 5 false).portState p = 1
  rw [Node.portState_setPortBit, Node.portState_setPortBit, Node.portState_setPortBit]
  exact Node.oi_setI_self ..

/-- R41: the reset of a ring port: one that is UP trains anew, another forgets its failures. -/
theorem Node.ringPortReset_leaves (n : Node) (p : Nat) :
    (n.ringPortReset p).portUp p = false ∧ (n.portUp p = true → (n.ringPortReset p).portState p = 1)
      ∧ (n.ringPortReset p).eng = n.eng := by
  unfold Node.ringPortReset
  by_cases h : n.portUp p = true
  · rw [if_pos h, Node.portLost, if_pos h, Node.portUp, Node.portTrain_portState, Node.portTrain_eng]
    exact ⟨rfl, fun _ => rfl, Node.setI_eng ..⟩
  · rw [if_neg h, Node.portUp, Node.portState, Node.setRport_oi, Node.setRport_eng]
    exact ⟨Bool.eq_false_iff.mpr h, fun g => absurd g h, rfl⟩

/-! ## The drives of a PCIe port (R41) -/

/-- The loss of a drive sets its state, and touches nothing else that lasts. -/
theorem Node.spares_driveLost (n : Node) (d st : Nat) : (n.setI d 0x8000 0x21 st).Spares (n.driveLost d st) false := by
  unfold Node.driveLost
  extract_lets on again _ cut marked
  have hc : (n.setI d 0x8000 0x21 st).Spares (cut.setI d 0x8000 0x21 st) false := .of_same (.refl _ false) (by rfl)
  have hm : (n.setI d 0x8000 0x21 st).Spares marked false := by
    refine .setI hc ?_
    decide
  exact hm.fault.copiesRefresh.sepRefresh

theorem Node.driveLost_driveState (n : Node) (d st e : Nat) :
    (n.driveLost d st).driveState e = if e = d then st else n.driveState e := by
  rw [Node.driveState, (n.spares_driveLost d st).objects e 0x8000 0x21 (by decide) rfl, Node.oi_setI]
  by_cases h : e = d
  · rw [if_pos (congrArg (key · 0x8000 0x21) h), if_pos h]
  · rw [if_neg (by unfold key; omega), if_neg h]; rfl

/-- What the fall of the link of PCIe port `px` does to slot `d`. -/
def Node.slotDown (n : Node) (px d : Nat) : Node :=
  if (n.driveState d = 2 ∨ n.driveState d = 5) ∧ (n.drive d).port = px then n.driveLost d 6 else n

/-- One slot: its drive, where it was of the port and in use, is LOST; nothing else changes. -/
theorem Node.slotDown_leaves (n : Node) (px d : Nat) :
    (n.slotDown px d).eng.done = n.eng.done ∧ (n.slotDown px d).sep.drives = n.sep.drives
      ∧ (∀ e, (n.slotDown px d).driveState e = n.driveState e ∨ (n.slotDown px d).driveState e = 6)
      ∧ ((n.drive d).port = px → (n.slotDown px d).driveState d ≠ 2 ∧ (n.slotDown px d).driveState d ≠ 5) := by
  unfold Node.slotDown
  by_cases h : (n.driveState d = 2 ∨ n.driveState d = 5) ∧ (n.drive d).port = px
  · rw [if_pos h]
    have hs := n.spares_driveLost d 6
    refine ⟨(hs.done rfl).trans (congrArg EngineSt.done (n.setI_eng ..)), hs.drives.trans (congrArg SepSt.drives (n.setI_sep ..)),
      fun e => ?_, fun _ => ?_⟩
    · rw [Node.driveLost_driveState]
      split
      · exact .inr rfl
      · exact .inl rfl
    · rw [Node.driveLost_driveState, if_pos rfl]
      decide
  · rw [if_neg h]
    exact ⟨rfl, rfl, fun _ => .inl rfl, fun hp => not_or.mp fun hd => h ⟨hd, hp⟩⟩

/-- One slot after the other: every drive of the port leaves its state, and nothing completes. -/
theorem Node.slotsDown_leaves (px : Nat) (l : List Nat) (n : Node) :
    let k := l.foldl (fun n d => n.slotDown px d) n
    k.eng.done = n.eng.done ∧ (∀ e, k.driveState e = n.driveState e ∨ k.driveState e = 6)
      ∧ ∀ d ∈ l, (n.drive d).port = px → k.driveState d ≠ 2 ∧ k.driveState d ≠ 5 := by
  induction l generalizing n with
  | nil => exact ⟨rfl, fun _ => .inl rfl, by simp⟩
  | cons a l ih =>
    obtain ⟨hd, hs, hp⟩ := ih (n.slotDown px a)
    obtain ⟨ad, ar, as_, ap⟩ := n.slotDown_leaves px a
    rw [List.foldl_cons]
    generalize l.foldl (fun n d => n.slotDown px d) (n.slotDown px a) = k at hd hs hp
    refine ⟨hd.trans ad, fun e => ?_, fun d hm hport => ?_⟩
    · rcases hs e with h | h
      · exact h ▸ as_ e
      · exact .inr h
    · rcases List.mem_cons.mp hm with rfl | hm
      · rcases hs d with h | h
        · exact h ▸ ap hport
        · rw [h]; decide
      · exact hp d hm (by rw [Node.drive, ar]; exact hport)

/-- R41: the reset of a PCIe port: no drive of the port is in use. -/
theorem Node.pcieDown_leaves (n : Node) (px : Nat) :
    (n.pcieDown px).eng.done = n.eng.done
      ∧ ∀ d : Fin 32, (n.drive d).port = px → (n.pcieDown px).driveState d ≠ 2 ∧ (n.pcieDown px).driveState d ≠ 5 := by
  have e : n.pcieDown px = (List.range 32).foldl (fun n d => n.slotDown px d) n := by
    unfold Node.pcieDown Node.slotDown
    rfl
  obtain ⟨hd, -, hp⟩ := Node.slotsDown_leaves px (List.range 32) n
  rw [e]
  exact ⟨hd, fun d => hp d (List.mem_range.mpr d.isLt)⟩

/-! ## CAN controllers and serial ports (R41) -/

theorem Node.oi_setCanBit (n : Node) (c i : Nat) (b : Bool) {sub : Nat} (h : sub ≠ 0x17) :
    (n.setCanBit c i b).oi c 0x3400 sub = n.oi c 0x3400 sub :=
  Node.oi_setI_ne n _ (by unfold key; omega)

/-- The state of a controller, and its objects beside state and status, after a change of state. -/
theorem Node.oi_setCanState (n : Node) (c st : Nat) {sub : Nat} (h : sub ≠ 0x17) :
    (n.setCanState c st).oi c 0x3400 sub = if sub = 0x16 then st else n.oi c 0x3400 sub := by
  unfold Node.setCanState Node.canFlags
  dsimp only
  rw [Node.oi_setCanBit _ _ _ _ h, Node.oi_setCanBit _ _ _ _ h, Node.oi_setCanBit _ _ _ _ h, Node.oi_setI]
  by_cases h16 : sub = 0x16
  · rw [if_pos (congrArg (key c 0x3400) h16), if_pos h16]
  · rw [if_neg (by unfold key; omega), if_neg h16]

/-- R41: a CAN controller in reset is DISABLED, its error counters 0. -/
theorem Node.canReset_leaves (n : Node) (c : Nat) :
    (n.canReset c).canState c = 0 ∧ (n.canReset c).oi c 0x3400 0x18 = 0 ∧ (n.canReset c).oi c 0x3400 0x19 = 0 := by
  unfold Node.canReset Node.canState Node.co Node.canZero
  dsimp only
  generalize n.canDropSends c 0x0608 = k
  rw [Node.oi_setCanState _ _ _ (by decide), Node.oi_setCanState _ _ _ (by decide), Node.oi_setCanState _ _ _ (by decide)]
  simp [Node.oi_setI, key]

theorem Node.twinSend_leaves (n : Node) (type : Nat) (body : List Byte) :
    (n.twinSend type body).od = n.od ∧ (n.twinSend type body).serial = n.serial ∧ (n.twinSend type body).eng = n.eng := by
  unfold Node.twinSend
  split
  · exact ⟨rfl, rfl, rfl⟩
  · exact ⟨rfl, rfl, rfl⟩

theorem Node.toFrame_leaves (n : Node) (kind ref : Nat) (r : Reading) :
    (n.toFrame kind ref r).od = n.od ∧ (n.toFrame kind ref r).serial = n.serial ∧ (n.toFrame kind ref r).eng = n.eng := by
  unfold Node.toFrame
  dsimp only
  split
  · exact ⟨rfl, rfl, rfl⟩
  · split
    · obtain ⟨ho, hs, he⟩ := Node.twinSend_leaves _ _ _
      exact ⟨ho, hs, he⟩
    · exact ⟨rfl, rfl, rfl⟩

/-- R41: a serial port in reset: quality 4, and no completion. -/
theorem Node.serialReset_leaves (n : Node) (p : Nat) :
    (n.serialReset p).oi p 0x5600 0x14 = 4 ∧ ((n.serialReset p).serialPort p).inReset = true
      ∧ (n.serialReset p).eng = n.eng := by
  unfold Node.serialReset Node.sendSerial
  obtain ⟨ho, hs, he⟩ := ((n.setSerial p { inReset := true }).setI p 0x5600 0x14 4).toFrame_leaves 5 p
    { value := ((n.setSerial p { inReset := true }).setI p 0x5600 0x14 4).sp p 0x13,
      q := ((n.setSerial p { inReset := true }).setI p 0x5600 0x14 4).sp p 0x14,
      time := ((n.setSerial p { inReset := true }).setI p 0x5600 0x14 4).sp p 0x15 }
  rw [Node.oi, ho, Node.serialPort, hs, he, Node.setI_serial, Node.setI_eng]
  exact ⟨odGet_odPut_self .., congrArg SerialSt.inReset (mapGet_mapPut_self ..), rfl⟩

end Sys2Proof.Machine
end

section
/-!
SUPPORT. Mode commands and reset commands: the statement (R21, R23, R41, R43, R45, R466).
-/
namespace Sys2Proof.Machine

theorem Node.domainReset_keeper (n : Node) (m : Master) (i : Nat) : n.domainReset m 2 i = n.keeperResetBegin := if_pos rfl

theorem Node.domainReset_serial (n : Node) (m : Master) (i : Nat) : n.domainReset m 9 i = n.serialReset i := by
  unfold Node.domainReset
  simp only [Nat.reduceEqDiff, if_false]

/-- An accepted reset that completes no descriptor. -/
theorem answers_quietReset {i : Instr} {s : State} {dt : Nat} {m : Master} {kind : Nat} {inst : Byte} {P : State → Prop} {k : Node}
    (he : exec i s = askWrite dt m 0x1010 0x06 (resetWord 0xA5 kind inst) s) (hk : kind < 256) (h1 : kind ≠ 1)
    (ht : Takes s dt m 0x1010 0x06 (resetWord 0xA5 kind inst)) (hr : (s.at_ dt).domainReset m kind inst.toNat = k)
    (hd : k.eng.done = []) (h : P { s with node := k.emit (.reply m 0 []) }) : Answers i s P := by
  refine answers_domainReset he hk h1 ht ?_
  rw [hr, settle_of_done hd]
  exact h

theorem Node.emit_unitState (n : Node) (o : Out) (u : Nat) : (n.emit o).unitState u = n.unitState u := Node.emit_o ..
theorem Node.emit_serialPort (n : Node) (o : Out) (p : Nat) : (n.emit o).serialPort p = n.serialPort p := by
  rw [Node.serialPort, Node.emit_serial]; rfl
theorem Node.emit_portState (n : Node) (o : Out) (p : Nat) : (n.emit o).portState p = n.portState p := Node.emit_oi ..
theorem Node.emit_portUp (n : Node) (o : Out) (p : Nat) : (n.emit o).portUp p = n.portUp p := by
  rw [Node.portUp, Node.emit_portState]; rfl
theorem Node.emit_driveState (n : Node) (o : Out) (d : Nat) : (n.emit o).driveState d = n.driveState d := Node.emit_oi ..

/-- What was answered stands among the outputs. -/
theorem done_emit (s : State) (k : Node) (m : Master) : Done m { s with node := k.emit (.reply m 0 []) } :=
  List.mem_append_right _ (List.mem_singleton_self _)

section
variable {s : State} {dt : Nat} {m : Master} {inst : Byte}

/-- The reset of the keeper (R41). -/
theorem keeperResetCommand_begins (ht : Takes s dt m 0x1010 0x06 (resetWord 0xA5 2 inst)) :
    Answers (.keeperResetCommand dt m 0xA5 inst) s fun t =>
      Done m t ∧ t.node.mode.keeperReset = some (s.node.now + dt) := by
  have hn : (s.at_ dt).mode.keeperReset = none :=
    Option.isNone_iff_eq_none.mp (Bool.and_eq_true_iff.mp (Bool.and_eq_true_iff.mp ht.1).1).2
  have hb := Node.spares_keeperResetBegin hn
  have hm : (s.at_ dt).keeperResetBegin.mode.keeperReset = some (s.at_ dt).now := congrArg ModeSt.keeperReset hb.mode
  refine answers_domainReset rfl (by decide) (by decide) ht ⟨settle_done .., ?_⟩
  rw [settle_mode, Node.domainReset_keeper]
  generalize (s.at_ dt).keeperResetBegin = k at hm
  exact hm

/-- The reset of a vat (R41). -/
theorem vatResetCommand_begins (ht : Takes s dt m 0x1010 0x06 (resetWord 0xA5 3 inst)) :
    Answers (.vatResetCommand dt m 0xA5 inst) s fun t => Done m t ∧ t.node.oi inst.toNat 0x9000 0x07 = 3 := by
  refine answers_domainReset rfl (by decide) (by decide) ht ⟨settle_done .., ?_⟩
  exact (settle_resetVat s (Node.reset_accepted (by decide) ht.2).2 (if isVat m then 2 else 0) m).1

/-- The reset of a unit that is neither in reset nor disabled (R43). -/
theorem answers_unitReset {i : Instr} {kind u : Nat}
    (he : exec i s = askWrite dt m 0x1010 0x06 (resetWord 0xA5 kind inst) s) (hk : kind < 256) (h1 : kind ≠ 1)
    (ht : Takes s dt m 0x1010 0x06 (resetWord 0xA5 kind inst))
    (hr : (s.at_ dt).domainReset m kind inst.toNat = (s.at_ dt).resetUnit u) (h5 : (s.at_ dt).unitState u ≠ 5)
    (h6 : (s.at_ dt).unitState u ≠ 6) : Answers i s fun t => Done m t ∧ Rests s t ∧ t.node.unitState u = 5 := by
  obtain ⟨hs, hd⟩ := Node.resetUnit_leaves h5 h6
  refine answers_quietReset he hk h1 ht hr hd ⟨done_emit .., ⟨rfl, rfl⟩, ?_⟩
  rw [Node.emit_unitState]
  exact hs

/-- The reset of a lake (R43). -/
theorem lakeResetCommand_begins (ht : Takes s dt m 0x1010 0x06 (resetWord 0xA5 4 inst)) :
    Answers (.lakeResetCommand dt m 0xA5 inst) s fun t => Done m t ∧ Rests s t ∧ t.node.unitState inst.toNat = 5 := by
  obtain ⟨h6, h5⟩ := Node.reset_accepted (by decide) ht.2
  exact answers_unitReset rfl (by decide) (by decide) ht rfl (by simpa [Node.inReset] using h5) (by simpa using h6)

/-- The reset of a dynamic lake (R43). -/
theorem dynamicLakeResetCommand_begins (ht : Takes s dt m 0x1010 0x06 (resetWord 0xA5 5 inst)) :
    Answers (.dynamicLakeResetCommand dt m 0xA5 inst) s fun t => Done m t ∧ Rests s t ∧ t.node.unitState (32 + inst.toNat) = 5 := by
  obtain ⟨h6, h5⟩ := Node.reset_accepted (by decide) ht.2
  exact answers_unitReset rfl (by decide) (by decide) ht rfl (by simpa [Node.inReset] using h5) (by simpa using h6)

/-- The reset of a ring port (R41). -/
theorem ringPortResetCommand_begins (ht : Takes s dt m 0x1010 0x06 (resetWord 0xA5 6 inst)) :
    Answers (.ringPortResetCommand dt m 0xA5 inst) s fun t => Done m t ∧ Rests s t ∧ t.node.portUp inst.toNat = false ∧
      (s.node.portUp inst.toNat = true → t.node.portState inst.toNat = 1) := by
  obtain ⟨hu, hs, he⟩ := (s.at_ dt).ringPortReset_leaves inst.toNat
  refine answers_quietReset rfl (by decide) (by decide) ht (k := (s.at_ dt).ringPortReset inst.toNat) rfl
    (congrArg EngineSt.done he) ⟨done_emit .., ⟨rfl, rfl⟩, ?_⟩
  rw [Node.emit_portUp, Node.emit_portState]
  exact ⟨hu, hs⟩

/-- The reset of a PCIe port (R41). -/
theorem pciePortResetCommand_begins (ht : Takes s dt m 0x1010 0x06 (resetWord 0xA5 7 inst)) :
    Answers (.pciePortResetCommand dt m 0xA5 inst) s fun t => Done m t ∧ Rests s t ∧
      ∀ d : Fin 32, (s.node.drive d).port = inst.toNat → t.node.driveState d ≠ 2 ∧ t.node.driveState d ≠ 5 := by
  obtain ⟨hd, hp⟩ := (s.at_ dt).pcieDown_leaves inst.toNat
  refine answers_quietReset rfl (by decide) (by decide) ht (k := (s.at_ dt).pcieDown inst.toNat) rfl hd
    ⟨done_emit .., ⟨rfl, rfl⟩, fun d hport => ?_⟩
  rw [Node.emit_driveState]
  exact hp d hport

/-- The reset of a CAN controller (R41). -/
theorem canResetCommand_begins (ht : Takes s dt m 0x1010 0x06 (resetWord 0xA5 8 inst)) :
    Answers (.canResetCommand dt m 0xA5 inst) s fun t => Done m t ∧ t.node.canState inst.toNat = 0 ∧
      t.node.oi inst.toNat 0x3400 0x18 = 0 ∧ t.node.oi inst.toNat 0x3400 0x19 = 0 := by
  obtain ⟨hs, h18, h19⟩ := (s.at_ dt).canReset_leaves inst.toNat
  have hr : (s.at_ dt).domainReset m 8 inst.toNat = (s.at_ dt).canReset inst.toNat := rfl
  refine answers_domainReset rfl (by decide) (by decide) ht ⟨settle_done .., ?_⟩
  rw [hr]
  generalize (s.at_ dt).canReset inst.toNat = k at hs h18 h19
  have ho (sub : Nat) (h : sub < 256) :
      (settle { s with node := k.emit (.reply m 0 []) }).node.oi inst.toNat 0x3400 sub = k.oi inst.toNat 0x3400 sub :=
    (settle_oi _ h (by decide) (by decide) (by decide) (by decide)).trans (Node.emit_oi ..)
  exact ⟨(ho 0x16 (by decide)).trans hs, (ho 0x18 (by decide)).trans h18, (ho 0x19 (by decide)).trans h19⟩

/-- The reset of a serial port (R41). -/
theorem serialPortResetCommand_begins (ht : Takes s dt m 0x1010 0x06 (resetWord 0xA5 9 inst)) :
    Answers (.serialPortResetCommand dt m 0xA5 inst) s fun t => Done m t ∧ Rests s t ∧
      t.node.oi inst.toNat 0x5600 0x14 = 4 ∧ (t.node.serialPort inst.toNat).inReset = true := by
  obtain ⟨ho, hr, he⟩ := (s.at_ dt).serialReset_leaves inst.toNat
  refine answers_quietReset rfl (by decide) (by decide) ht (Node.domainReset_serial ..) (congrArg EngineSt.done he)
    ⟨done_emit .., ⟨rfl, rfl⟩, ?_⟩
  rw [Node.emit_oi, Node.emit_serialPort]
  exact ⟨ho, hr⟩

end

/-- Settles O14: a mode command waits; each reset command by what its domain's reset leaves. -/
theorem modeAndResetCommandsAct : Obligations.ModeAndResetCommandsAct :=
  ⟨fun _ _ _ => ⟨modeCommand_waits rfl, modeCommand_waits rfl, modeCommand_waits rfl, modeCommand_waits rfl⟩,
    fun _ _ _ _ => ⟨nodeResetCommand_begins, keeperResetCommand_begins, vatResetCommand_begins, lakeResetCommand_begins,
      dynamicLakeResetCommand_begins, ringPortResetCommand_begins, pciePortResetCommand_begins, canResetCommand_begins,
      serialPortResetCommand_begins⟩⟩

end Sys2Proof.Machine
end

section
/-!
SUPPORT. The RTC (R59 to R64): what its writes, its trim, its shift, a stop of its crystal and a periodic wake leave.
-/
namespace Sys2Proof.Machine

/-! ## Writes of the time's objects -/

/-- An accepted write of a time object or of the RTC that completes no descriptor: what it does, then the reply 0x0000. -/
theorem answers_clockWrite {i : Instr} {s : State} {dt : Nat} {m : Master} {idx sub : Nat} {data : List Byte}
    {P : State → Prop} {k : Node} (he : exec i s = askWrite dt m idx sub data s) (hi : idx = 0x1100 ∨ idx = 0x1200)
    (ht : Takes s dt m idx sub data) (hd : (s.at_ dt).writeDo m .direct idx sub data = (k, false)) (hc : k.eng.done = [])
    (h : P { s with node := k.emit (.reply m 0 []) }) : Answers i s P := by
  refine ⟨_, he.trans (askWrite_accepted ht.1 ht.2 (fun e => ?_) (fun e => ?_) (fun e => ?_) (fun e => ?_) hd hc), h⟩
  · omega
  · rcases hi with rfl | rfl
    · exact absurd e.1 (by decide)
    · exact absurd e.1 (by decide)
  · omega
  · rcases hi with rfl | rfl
    · exact absurd e.1 (by decide)
    · exact absurd e.1 (by decide)

theorem Node.writeDo_rtcShift (n : Node) (m : Master) (val : BitVec 32) :
    n.writeDo m .direct 0x1200 0x04 (toLE 4 val.toNat) = (n.askShift (toI 32 val.toNat), false) :=
  congrArg (fun v => (n.askShift (toI 32 v), false)) (ofLE_toLE_bv 4 val (by decide))

theorem Node.writeDo_rtcSetTime (n : Node) (m : Master) (sec : BitVec 64) :
    n.writeDo m .direct 0x1200 0x01 (toLE 8 sec.toNat) = (n.setRtc (sec.toNat * 32768), false) :=
  congrArg (fun v => (n.setRtc (v * 32768), false)) (ofLE_toLE_bv 8 sec (by decide))

/-! ## The status of the RTC (Table 3-8) -/

/-- The bits of 0x1200.06 after one of them is set. -/
theorem Node.bit_setRtcBit (n : Node) (i j : Nat) (b : Bool) :
    bit ((n.setRtcBit i b).o 0x1200 0x06) j = if j = i then b else bit (n.o 0x1200 0x06) j :=
  (congrArg (bit · j) (Node.oi_setI_self ..)).trans (bit_setBit ..)

/-- Setting a bit of 0x1200.06 changes no other object. -/
theorem SameObjects.setRtcBit {m n : Node} {ks : List Nat} (h : SameObjects m n ks) {i : Nat} {b : Bool}
    (hk : key 0 0x1200 0x06 ∈ ks) : SameObjects m (n.setRtcBit i b) ks := h.setI hk

/-! ## Interrupts at every vat (R113) -/

/-- Source `s` is pending or claimed at vat `v`. -/
def Node.raised (n : Node) (v s : Nat) : Prop := s ∈ (n.vat v).pend ∨ s ∈ (n.vat v).claimed

theorem Node.irq_eq (n : Node) (v s : Nat) : ∃ vs, n.irq v s = { n with vats := vs } := by
  unfold Node.irq
  dsimp only
  split
  · exact ⟨n.vats, rfl⟩
  · exact ⟨_, rfl⟩

/-- A source raised at every vat changes nothing but the vats. -/
theorem Node.irqAll_eq (n : Node) (s : Nat) : ∃ vs, n.irqAll s = { n with vats := vs } := by
  have all : ∀ (l : List Nat) (n : Node), ∃ vs, l.foldl (fun n v => n.irq v s) n = { n with vats := vs } := by
    intro l
    induction l with
    | nil => exact fun n => ⟨n.vats, rfl⟩
    | cons v l ih =>
      intro n
      obtain ⟨vs, hv⟩ := n.irq_eq v s
      obtain ⟨ws, hw⟩ := ih (n.irq v s)
      exact ⟨ws, by rw [List.foldl_cons, hw, hv]⟩
  exact all _ n

theorem Node.raised_irq (n : Node) (v : Nat) {s : Nat} (hs : s ≠ 0) : (n.irq v s).raised v s := by
  unfold Node.irq
  dsimp only
  split
  · next h =>
    rcases h with h | h | h
    · exact absurd h hs
    · exact .inr h
    · exact .inl h
  · exact .inl (by simp)

/-- A source stays raised while it is raised at other vats. -/
theorem Node.raised.irq {n : Node} {v s : Nat} (h : n.raised v s) (w : Nat) : (n.irq w s).raised v s := by
  unfold Node.irq
  dsimp only
  split
  · exact h
  · by_cases hv : v = w
    · subst hv
      rw [Node.raised, Node.vat_setVat_self]
      exact h.imp (List.mem_append_left _) id
    · rwa [Node.raised, Node.vat_setVat_ne _ _ _ hv]

/-- R113: every vat finds the source pending or claimed. -/
theorem Node.raised_irqAll (n : Node) {s : Nat} (hs : s ≠ 0) {v : Nat} (hv : v < 16) : (n.irqAll s).raised v s := by
  have all : ∀ (l : List Nat) (n : Node), n.raised v s ∨ v ∈ l → (l.foldl (fun n v => n.irq v s) n).raised v s := by
    intro l
    induction l with
    | nil => exact fun n h => h.resolve_right (by simp)
    | cons w l ih =>
      intro n h
      refine ih _ ?_
      rcases h with h | h
      · exact .inl (h.irq w)
      · rcases List.mem_cons.mp h with rfl | h
        · exact .inl (n.raised_irq v hs)
        · exact .inr h
  exact all _ n (.inr (List.mem_range.mpr hv))

/-! ## The periodic wake (R60, R61) -/

/-- The node whose next wake is due one period later. -/
def Node.nextWake (n : Node) : Node :=
  { n with rtc := { n.rtc with wakeDue := n.rtc.wakeDue.map (· + n.o 0x1200 0x05 * 32) } }

theorem Node.wake_eq (n : Node) : n.wake =
    if n.up then (n.nextWake.setRtcBit 2 true).irqAll 1
    else if n.pwr.phase = .keep then n.nextWake.incSatI 16 0 0x1200 0x08 1 else n.nextWake := rfl

/-- R61: what a wake leaves: the next is due one period later, and of the RTC's status only WAKE may change. -/
theorem Node.wake_leaves (n : Node) :
    n.wake.rtc = n.nextWake.rtc ∧ ∀ j, j ≠ 2 → bit (n.wake.o 0x1200 0x06) j = bit (n.o 0x1200 0x06) j := by
  rw [Node.wake_eq]
  split
  · obtain ⟨vs, hv⟩ := (n.nextWake.setRtcBit 2 true).irqAll_eq 1
    rw [hv]
    exact ⟨rfl, fun j hj => (n.nextWake.bit_setRtcBit 2 j true).trans (if_neg hj)⟩
  · split
    · exact ⟨rfl, fun j _ => congrArg (bit · j) (Node.oi_setI_ne n.nextWake _ (by decide))⟩
    · exact ⟨rfl, fun _ _ => rfl⟩

/-- R61: with line valid a wake sets WAKE and is raised at every vat. -/
theorem Node.wake_raises {n : Node} (h : n.up = true) :
    bit (n.wake.o 0x1200 0x06) 2 = true ∧ ∀ v : Fin 16, n.wake.raised v 1 := by
  rw [Node.wake_eq, if_pos h]
  refine ⟨?_, fun v => Node.raised_irqAll _ (by decide) v.isLt⟩
  obtain ⟨vs, hv⟩ := (n.nextWake.setRtcBit 2 true).irqAll_eq 1
  rw [hv]
  exact (n.nextWake.bit_setRtcBit 2 2 true).trans (if_pos rfl)

/-- R61: in KEEP a wake is counted. -/
theorem Node.wake_counts {n : Node} (h : n.pwr.phase = .keep) : n.wake.o 0x1200 0x08 = min (n.o 0x1200 0x08 + 1) 65535 := by
  have hu : ¬ n.up = true := by simp [Node.up, h]
  rw [Node.wake_eq, if_neg hu, if_pos h]
  exact Node.oi_setI_self ..

/-- A wake that is due, or none. -/
theorem Node.wakeIfDue_eq (n : Node) : n.wakeIfDue = n ∨ n.wakeIfDue = n.wake := by
  unfold Node.wakeIfDue
  split
  · split
    · exact .inr rfl
    · exact .inl rfl
  · exact .inl rfl

/-! ## Shift, trim and a stop of the crystal (R59, R60, R62) -/

/-- R60: a pending shift moves the count once, and no longer waits. -/
theorem Node.applyShift_leaves {n : Node} {d : Int} (h : n.rtc.shift = some d) :
    n.applyShift.rtc.shift = none ∧ n.applyShift.rtc.ticks = ((n.rtc.ticks : Int) + d).toNat
      ∧ bit (n.applyShift.o 0x1200 0x06) 3 = false := by
  let moved : Node := { n with rtc := { n.rtc with ticks := ((n.rtc.ticks : Int) + d).toNat, shift := none, winValid := false } }
  have e : n.applyShift = (moved.setRtcBit 3 false).wakeIfDue.wakeAhead := by
    unfold Node.applyShift
    rw [h]
  have hb : bit ((moved.setRtcBit 3 false).o 0x1200 0x06) 3 = false := (moved.bit_setRtcBit 3 3 false).trans (if_pos rfl)
  rw [e]
  rcases (moved.setRtcBit 3 false).wakeIfDue_eq with hw | hw
  · rw [hw]
    exact ⟨rfl, rfl, hb⟩
  · obtain ⟨hr, hs⟩ := (moved.setRtcBit 3 false).wake_leaves
    rw [hw]
    exact ⟨congrArg RtcSt.shift hr, congrArg RtcSt.ticks hr, (hs 3 (by decide)).trans hb⟩

/-- R62: a stop of the crystal loses its ticks; from 4 ms on it sets OSF, and below 2 ms it changes no object. -/
theorem Node.oscStop_leaves (n : Node) (dur : Nat) :
    (n.oscStop dur).rtc.ticks = n.rtc.ticks - dur * 32768 / 1000000000
      ∧ (4000000 ≤ dur → bit ((n.oscStop dur).o 0x1200 0x06) 0 = true) ∧ (dur < 2000000 → (n.oscStop dur).od = n.od) := by
  unfold Node.oscStop
  extract_lets _ stopped
  dsimp only [Node.draw]
  split
  · next h =>
    refine ⟨rfl, fun _ => (stopped.bit_setRtcBit 0 0 true).trans (if_pos rfl), fun g => ?_⟩
    simp only [ms] at h
    omega
  · next h =>
    simp only [ms] at h
    split
    · exact ⟨rfl, fun g => absurd g h, fun _ => rfl⟩
    · next h2 =>
      refine ⟨?_, fun g => absurd g h, fun g => absurd g h2⟩
      split
      · rfl
      · rfl

/-! ## The statement -/

section
variable {s : State} {dt : Nat}

/-- An accepted shift waits (R60). -/
theorem rtcShift_waits {m : Master} {val : BitVec 32} (ht : Takes s dt m 0x1200 0x04 (toLE 4 val.toNat)) :
    Answers (.rtcShift dt m val) s fun t => Done m t ∧ Rests s t
      ∧ t.node.rtc = { (s.at_ dt).rtc with shift := some (toI 32 val.toNat) } ∧ bit (t.node.o 0x1200 0x06) 3 = true
      ∧ SameObjects s.node t.node [key 0 0x1200 0x06] := by
  let k : Node := { s.at_ dt with rtc := { (s.at_ dt).rtc with shift := some (toI 32 val.toNat) } }
  exact answers_clockWrite rfl (.inr rfl) ht (Node.writeDo_rtcShift ..) rfl ⟨done_emit .., ⟨rfl, rfl⟩, rfl,
    (k.bit_setRtcBit 3 3 true).trans (if_pos rfl), SameObjects.setRtcBit (n := k) (.refl s.node _) (by simp)⟩

/-- An accepted time stands, and no shift waits (R62, R64). -/
theorem rtcSetTime_sets {m : Master} {sec : BitVec 64} (ht : Takes s dt m 0x1200 0x01 (toLE 8 sec.toNat)) :
    Answers (.rtcSetTime dt m sec) s fun t => Done m t ∧ Rests s t ∧ t.node.rtcSeconds = sec.toNat ∧ t.node.rtcSub = 0
      ∧ t.node.rtc.shift = none ∧ bit (t.node.o 0x1200 0x06) 3 = false ∧ bit (t.node.o 0x1200 0x06) 0 = false
      ∧ SameObjects s.node t.node [key 0 0x1200 0x06] := by
  let due := (s.at_ dt).rtc.wakeDue.map (fun d => sec.toNat * 32768 + (d - (s.at_ dt).rtc.ticks))
  let k : Node := { s.at_ dt with
    rtc := { (s.at_ dt).rtc with ticks := sec.toNat * 32768, rem := 0, shift := none, wakeDue := due, winValid := false } }
  have h3 : bit (((k.setRtcBit 3 false).setRtcBit 0 false).o 0x1200 0x06) 3 = false :=
    (Node.bit_setRtcBit _ 0 3 false).trans ((k.bit_setRtcBit 3 3 false).trans (if_pos rfl))
  exact answers_clockWrite rfl (.inr rfl) ht (Node.writeDo_rtcSetTime ..) rfl ⟨done_emit .., ⟨rfl, rfl⟩,
    Nat.mul_div_cancel _ (by decide), Nat.mul_mod_left .., rfl, h3, (Node.bit_setRtcBit _ 0 0 false).trans (if_pos rfl),
    ((SameObjects.refl s.node _).setRtcBit (n := k) (by simp)).setRtcBit (by simp)⟩

/-- An accepted capture waits (R63). -/
theorem timeStampCapture_waits {m : Master} (ht : Takes s dt m 0x1100 0x08 [1]) :
    Answers (.timeStampCapture dt m 1) s fun t => Done m t ∧ Rests s t
      ∧ t.node.rtc = { (s.at_ dt).rtc with capture := true } ∧ bit (t.node.o 0x1200 0x06) 1 = true
      ∧ SameObjects s.node t.node [key 0 0x1200 0x06] := by
  let k : Node := { s.at_ dt with rtc := { (s.at_ dt).rtc with capture := true } }
  exact answers_clockWrite rfl (.inl rfl) ht rfl rfl ⟨done_emit .., ⟨rfl, rfl⟩, rfl,
    (k.bit_setRtcBit 1 1 true).trans (if_pos rfl), SameObjects.setRtcBit (n := k) (.refl s.node _) (by simp)⟩

/-- A trim pulse moves the count by one (R59). -/
theorem rtcTrimPulse_moves (hp : ((s.at_ dt).pwr.phase != .off) = true) (hl : (s.at_ dt).rtc.trimLeft ≠ 0) :
    Answers (.rtcTrimPulse dt) s fun t => Rests s t ∧ t.node.rtc.trimLeft + 1 = (s.at_ dt).rtc.trimLeft
      ∧ t.node.rtc.ticks = (if 0 < (s.at_ dt).rtc.trim then (s.at_ dt).rtc.ticks + 1 else (s.at_ dt).rtc.ticks - 1)
      ∧ t.node.od = s.node.od :=
  answers_when hp rfl (if_neg hl) ⟨⟨rfl, rfl⟩, Nat.sub_add_cancel (Nat.one_le_iff_ne_zero.mpr hl), rfl, rfl⟩

/-- A periodic wake that is due (R61). -/
theorem periodicWake_wakes (hp : ((s.at_ dt).pwr.phase != .off) = true) {d : Nat} (hd : (s.at_ dt).rtc.wakeDue = some d)
    (ht : d ≤ (s.at_ dt).rtc.ticks) (h5 : (s.at_ dt).o 0x1200 0x05 ≠ 0) :
    Answers (.periodicWake dt) s fun t => Rests s t ∧ t.node.rtc.wakeDue = some (d + (s.at_ dt).o 0x1200 0x05 * 32)
      ∧ ((s.at_ dt).up = true → bit (t.node.o 0x1200 0x06) 2 = true ∧ ∀ v : Fin 16, t.node.raised v 1)
      ∧ ((s.at_ dt).pwr.phase = .keep → t.node.o 0x1200 0x08 = min ((s.at_ dt).o 0x1200 0x08 + 1) 65535) := by
  have e : (s.at_ dt).wakeIfDue = (s.at_ dt).wake := by
    unfold Node.wakeIfDue
    rw [hd]
    exact if_pos ⟨ht, h5⟩
  obtain ⟨hr, -⟩ := (s.at_ dt).wake_leaves
  refine answers_when hp rfl e ⟨⟨rfl, rfl⟩, ?_, Node.wake_raises, Node.wake_counts⟩
  rw [hr, Node.nextWake, hd]
  rfl

end

/-- Settles O18: each write by what it does and the reply; each event of the RTC by what its operation leaves. -/
theorem clocksAreSet : Obligations.ClocksAreSet := by
  refine ⟨fun s dt m => ⟨fun _ => rtcShift_waits, fun _ => rtcSetTime_sets, timeStampCapture_waits⟩, fun s dt hoff => ?_⟩
  have hp : ((s.at_ dt).pwr.phase != .off) = true := bne_iff_ne.mpr hoff
  exact ⟨answers_when hp rfl rfl ⟨⟨rfl, rfl⟩, rfl, rfl, rfl⟩, rtcTrimPulse_moves hp,
    fun _ hd => answers_when hp rfl rfl ⟨⟨rfl, rfl⟩, Node.applyShift_leaves hd⟩,
    fun durNs => answers_when hp rfl rfl ⟨⟨rfl, rfl⟩, (s.at_ dt).oscStop_leaves durNs⟩,
    fun _ hd ht h5 => periodicWake_wakes hp hd ht h5⟩

end Sys2Proof.Machine
end

section
/-!
SUPPORT. What a node passes on (R157, R165, R292, R315, R325, R357): readings, samples, records and frames. It changes the
units they pass through and the objects of these units, and nothing else of the node: clocks, broadcasts and power stay.
Each operation has one lemma, which carries `m.PassesOn n` one step on.
-/
namespace Sys2Proof.Machine

/-- The node without the units that pass things on. -/
def Node.beside (n : Node) : Node :=
  { n with out := [], fresh := 0, od := [], queues := [], ver := {}, input := [], lakes := [], sepOpen := [], srcLast := [],
           inputFirst := [], sep := {}, ring := {}, twin := {} }

/-- The indices of these units: ring, HSR, lake results, Sepia and queues. -/
def passIdx (idx : Nat) : Bool := [0x3000, 0x3200, 0x400C, 0x8000, 0x9100].contains (canonIdx idx)

/-- `n` comes of `m` by passing things on. -/
structure Node.PassesOn (m n : Node) : Prop where
  beside : n.beside = m.beside
  objects : ∀ j idx sub, idx < 65536 → sub < 256 → passIdx idx = false → n.oi j idx sub = m.oi j idx sub

namespace Node.PassesOn
variable {m n k : Node}

theorem refl (n : Node) : n.PassesOn n := ⟨rfl, fun _ _ _ _ _ _ => rfl⟩

theorem trans (h : m.PassesOn n) (g : n.PassesOn k) : m.PassesOn k :=
  ⟨g.beside.trans h.beside, fun j x b hx hb hp => (g.objects j x b hx hb hp).trans (h.objects j x b hx hb hp)⟩

/-- A change of the units beside their objects. -/
theorem of_same (h : m.PassesOn n) (e : (k.beside, k.od) = (n.beside, n.od)) : m.PassesOn k := by
  obtain ⟨hb, ho⟩ := Prod.mk.inj e
  exact h.trans ⟨hb, fun j x b _ _ _ => by rw [Node.oi, ho]; rfl⟩

theorem ite {a b : Node} {p : Prop} [Decidable p] (h : m.PassesOn a) (g : m.PassesOn b) : m.PassesOn (if p then a else b) := by
  split <;> assumption

theorem foldl {α : Type} {f : Node → α → Node} {l : List α} (hf : ∀ n, ∀ a ∈ l, m.PassesOn n → m.PassesOn (f n a))
    (h : m.PassesOn n) : m.PassesOn (l.foldl f n) := by
  induction l generalizing n with
  | nil => exact h
  | cons a r ih => exact ih (fun n b hb => hf n b (List.mem_cons_of_mem _ hb)) (hf n a List.mem_cons_self h)

/-- A write of an object of these units. -/
theorem setI (h : m.PassesOn n) {i idx sub v : Nat} (hu : (decide (idx < 65536) && decide (sub < 256) && passIdx idx) = true) :
    m.PassesOn (n.setI i idx sub v) := by
  simp only [Bool.and_eq_true, decide_eq_true_eq] at hu
  obtain ⟨⟨hi, hs⟩, hu⟩ := hu
  refine h.trans ⟨rfl, fun j x b hx hb hp => Node.oi_setI_ne n v fun e => ?_⟩
  obtain ⟨-, rfl, -⟩ := (key_inj hx hb hi hs).mp e
  exact absurd (hp.symm.trans hu) (by decide)

theorem emit (h : m.PassesOn n) {o : Out} : m.PassesOn (n.emit o) := h.of_same (by rfl)
theorem fault (h : m.PassesOn n) {src kind detail addr : Nat} : m.PassesOn (n.fault src kind detail addr) := h.of_same (by rfl)
theorem setQueue (h : m.PassesOn n) {q : Nat} {x : QueueSt} : m.PassesOn (n.setQueue q x) := h.of_same (by rfl)
theorem setLake (h : m.PassesOn n) {l : Nat} {x : LakeSt} : m.PassesOn (n.setLake l x) := h.of_same (by rfl)
theorem setPin (h : m.PassesOn n) {l p : Nat} {x : PinSt} : m.PassesOn (n.setPin l p x) := h.setLake

/-! ## Sepia (R355, R357, R359, R369) -/

theorem dropSeg (h : m.PassesOn n) {g : Seg} : m.PassesOn (n.dropSeg g) := h.of_same (by rfl)

theorem makeRoom (h : m.PassesOn n) {fuel : Nat} : m.PassesOn (n.makeRoom fuel) := by
  induction fuel generalizing n with
  | zero => exact h
  | succ fuel ih =>
    unfold Node.makeRoom
    refine h.ite ?_
    split
    · exact ih h.dropSeg.fault
    · exact h

theorem openSeg (h : m.PassesOn n) {log : Nat} : m.PassesOn (n.openSeg log).1 := by
  unfold Node.openSeg
  extract_lets roomy
  have hr : m.PassesOn roomy := h.makeRoom
  clear_value roomy
  split
  · split
    · exact fault (setI (hr.of_same (by rfl)) (by decide))
    · exact hr
  · exact hr.of_same (by rfl)

theorem segFor (h : m.PassesOn n) {log need : Nat} : m.PassesOn (n.segFor log need).1 := by
  unfold Node.segFor
  split
  · split
    · exact h
    · exact h.openSeg
  · exact h.openSeg

theorem placeRec (h : m.PassesOn n) {r : ArchRec} : m.PassesOn (n.placeRec r) := by
  have hs : m.PassesOn (n.segFor (logOf r.kind) r.span).1 := h.segFor
  unfold Node.placeRec
  dsimp only
  split
  · exact hs.of_same (by rfl)
  · exact hs.of_same (by rfl)

theorem placeAll (h : m.PassesOn n) : m.PassesOn n.placeAll := by
  unfold Node.placeAll
  exact .ite (foldl (fun _ _ _ g => g.placeRec) (h.of_same (by rfl))) h

theorem backlogCheck (h : m.PassesOn n) : m.PassesOn n.backlogCheck := by
  unfold Node.backlogCheck
  exact h.ite (.ite (h.setI (by decide)).fault (h.setI (by decide)))

theorem pushRec (h : m.PassesOn n) {k : Nat} {x : OpenRec} : m.PassesOn (n.pushRec k x) :=
  (placeAll (h.of_same (by rfl))).backlogCheck

theorem sealRec (h : m.PassesOn n) {k : Nat} : m.PassesOn (n.sealRec k) := h.ite h.pushRec

theorem keepBudget (h : m.PassesOn n) {fuel : Nat} : m.PassesOn (n.keepBudget fuel) := by
  induction fuel generalizing n with
  | zero => exact h
  | succ fuel ih =>
    unfold Node.keepBudget
    refine h.ite (h.ite ?_)
    split
    · exact ih h.sealRec
    · exact h

theorem archive (h : m.PassesOn n) {kind src time : Nat} {pre bytes : List Byte} :
    m.PassesOn (n.archive kind src time pre bytes) := by
  unfold Node.archive
  extract_lets k counted _ size _ started x y _ added sealed_
  have hc : m.PassesOn counted := h.setI (by decide)
  have hs : m.PassesOn started := .ite h.sealRec h
  clear_value counted started x y
  have ha : m.PassesOn added := hs.of_same (by rfl)
  have he : m.PassesOn sealed_ := .ite ha.sealRec ha
  exact .ite (.ite hc (hc.of_same (by rfl))) he.keepBudget

theorem archiveWhole (h : m.PassesOn n) {kind src first last count : Nat} {pre entries : List Byte} :
    m.PassesOn (n.archiveWhole kind src first last count pre entries) := h.sealRec.pushRec

/-! ## The frame island, the twin and the sample streams (R157, R166, R325) -/

theorem twinSend (h : m.PassesOn n) {type : Nat} {body : List Byte} : m.PassesOn (n.twinSend type body) := by
  unfold Node.twinSend
  exact .ite (h.of_same (by rfl)) h

theorem toFrame (h : m.PassesOn n) {kind ref : Nat} {r : Reading} : m.PassesOn (n.toFrame kind ref r) := by
  unfold Node.toFrame
  exact .ite (h.of_same (by rfl)) (.ite (twinSend (h.of_same (by rfl))) (h.of_same (by rfl)))

theorem deliver (h : m.PassesOn n) {q : Nat} {e : QEntry} : m.PassesOn (n.deliver q e) := by
  have hd : m.PassesOn (n.incSatI 32 q 0x9100 0x0E 1) := h.setI (by decide)
  unfold Node.deliver
  exact .ite (.ite h.setQueue hd.setQueue) (.ite hd.setQueue h)

theorem flushSlot (h : m.PassesOn n) {q : Nat} : m.PassesOn (n.flushSlot q) := by
  unfold Node.flushSlot
  extract_lets x b e before flushed
  have hf : m.PassesOn flushed := h.setQueue.deliver
  exact h.ite (.ite hf.setQueue hf)

theorem slotAdd (h : m.PassesOn n) {q time : Nat} {pre bytes : List Byte} : m.PassesOn (n.slotAdd q time pre bytes) :=
  .ite h.setQueue.flushSlot h.setQueue

theorem toStreams (h : m.PassesOn n) {f : Nat → Bool} {time : Nat} {pre bytes : List Byte} :
    m.PassesOn (n.toStreams f time pre bytes) := h.foldl fun _ _ _ g => g.slotAdd

/-! ## The readings of a lake (R149, R150, R157) -/

/-- The results of a pin of a lake stand where they belong. -/
theorem passIdx_pinRes {l p : Nat} (hl : l < 32) (hp : p < 8) : pinRes l p < 65536 ∧ passIdx (pinRes l p) = true := by
  have hc : canonIdx (pinRes l p) = 0x400C := by
    unfold canonIdx pinRes lakeIdx
    rw [if_pos (by omega)]
    dsimp only
    rw [if_neg (by omega), if_neg (by omega), if_neg (by omega), if_pos (by omega)]
  exact ⟨by unfold pinRes lakeIdx; omega, by rw [passIdx, hc]; rfl⟩

section
variable {l p : Nat} (hl : l < 32) (hp : p < 8)
include hl hp

/-- A write of a result of a pin. -/
theorem setRes (h : m.PassesOn n) {sub v : Nat} (hs : sub < 256) : m.PassesOn (n.setI 0 (pinRes l p) sub v) := by
  obtain ⟨hx, hi⟩ := passIdx_pinRes hl hp
  exact h.setI (by simp [hx, hi, hs])

theorem sendReading (h : m.PassesOn n) {r : Reading} {raw status : Nat} : m.PassesOn (n.sendReading l p r raw status) := by
  unfold Node.sendReading
  extract_lets _ told _ kept _
  have ht : m.PassesOn told := setRes hl hp (setRes hl hp (setRes hl hp (setRes hl hp (setRes hl hp h
    (by decide)) (by decide)) (by decide)) (by decide)) (by decide)
  have hk : m.PassesOn kept := .ite ht.setPin ht
  exact hk.setLake.toFrame

theorem sendSampled (h : m.PassesOn n) {r : Reading} {raw status : Nat} : m.PassesOn (n.sendSampled l p r raw status) := by
  unfold Node.sendSampled Node.sendSample
  exact (h.sendReading hl hp).archive.toStreams

theorem reportBand (h : m.PassesOn n) {band stamp : Nat} {first : Bool} : m.PassesOn (n.reportBand l p band stamp first) := by
  unfold Node.reportBand
  extract_lets _ _ _ _ _ _ held changed _ noted
  have hc : m.PassesOn changed := h.setPin.setRes hl hp (by decide)
  have hn : m.PassesOn noted :=
    .ite (((hc.setRes hl hp (by decide)).setRes hl hp (by decide)).setPin.fault) hc.setPin
  exact hn.sendSampled hl hp

end

theorem reportAllBands (h : m.PassesOn n) {l : Nat} (hl : l < 32) : m.PassesOn (n.reportAllBands l) :=
  h.foldl fun _ _ hp g => .ite (g.reportBand hl (List.mem_range.mp hp)) g

/-! ## The ring (R287, R292, R315) -/

theorem portDrop (h : m.PassesOn n) {p k : Nat} : m.PassesOn (n.portDrop p k) :=
  h.ite ((h.setI (by decide)).setI (by decide))

theorem handTo (h : m.PassesOn n) {p : Nat} {f : List Byte} : m.PassesOn (n.handTo p f) := by
  unfold Node.handTo
  exact .ite (h.setI (by decide)).emit (.ite (h.of_same (by rfl)) h.portDrop)

theorem sendWoad (h : m.PassesOn n) {w : WoadOut} : m.PassesOn (n.sendWoad w) := ((h.setI (by decide)).handTo).handTo

theorem snapAck (h : m.PassesOn n) {id init flags taken : Nat} : m.PassesOn (n.snapAck id init flags taken) := h.ite h.sendWoad

theorem takeSnapshot (h : m.PassesOn n) {id init method : Nat} {late : Bool} {ts : Nat} :
    m.PassesOn (n.takeSnapshot id init method late ts) := .ite h.snapAck (h.archiveWhole.setI (by decide)).snapAck

/-! ## What is read off it -/

theorem now (h : m.PassesOn n) : n.now = m.now := (congrArg Node.now h.beside :)
theorem tai (h : m.PassesOn n) : n.tai = m.tai := (congrArg Node.tai h.beside :)
theorem islands (h : m.PassesOn n) : n.islands = m.islands := (congrArg Node.islands h.beside :)
theorem bc (h : m.PassesOn n) : n.bc = m.bc := (congrArg Node.bc h.beside :)
theorem isl (h : m.PassesOn n) (i : Nat) : n.isl i = m.isl i := by
  rw [Node.isl, h.islands]
  rfl
theorem copy (h : m.PassesOn n) (i : Nat) : n.copy i = m.copy i := by
  unfold Node.copy
  rw [h.tai, h.isl, h.now]
theorem copyValid (h : m.PassesOn n) (i : Nat) : n.copyValid i = m.copyValid i := by
  unfold Node.copyValid Node.obi
  rw [h.objects i 0x2100 0x06 (by decide) (by decide) rfl]

end Node.PassesOn

end Sys2Proof.Machine
end

section
/-!
SUPPORT. The states of the time island, captures and leap seconds (R63, R65, R66, R69).
-/
namespace Sys2Proof.Machine

/-- A pattern of `w` bits spells the number that it was made of, where that is not negative and fits. -/
theorem toI_ofI_of_nonneg {w : Nat} {i : Int} (h0 : 0 ≤ i) (h : i < 2 ^ (w - 1)) : toI w (ofI w i) = i := by
  obtain ⟨k, rfl⟩ := Int.eq_ofNat_of_zero_le h0
  have hk : k < 2 ^ (w - 1) := by exact_mod_cast h
  have hw : k < 2 ^ w := Nat.lt_of_lt_of_le hk (Nat.pow_le_pow_right (by decide) (Nat.sub_le w 1))
  have ho : ofI w (k : Int) = k := by
    rw [ofI, ← Int.natCast_mod, Int.toNat_natCast, Nat.mod_eq_of_lt hw]
  rw [ho, toI, Nat.mod_eq_of_lt hw, if_neg (by omega)]

/-! ## The states (R65, R66) -/

/-- Another object of the same unit. -/
theorem Node.oi_setI_sub (n : Node) (i idx v : Nat) {sub jub : Nat} (h : jub ≠ sub) :
    (n.setI i idx sub v).oi i idx jub = n.oi i idx jub :=
  Node.oi_setI_ne n v (by unfold key; omega)

theorem Node.oi_incSatI_self (n : Node) (w i idx sub k : Nat) :
    (n.incSatI w i idx sub k).oi i idx sub = min (n.oi i idx sub + k) (2 ^ w - 1) := Node.oi_setI_self ..

/-- R65, R66: a state other than LOCKED, entered: no offset is shown, and outside HOLDOVER no rate applies. -/
theorem Node.enterTimeState_leaves (n : Node) {st : Nat} (h : st ≠ 2) :
    let k := n.enterTimeState st
    k.o 0x1100 0x03 = st ∧ k.o 0x1100 0x04 = 0 ∧ k.time.rate = (if st ≤ 1 then 0 else n.time.rate)
      ∧ k.time.holdSince = (if st = 3 then n.now else n.time.holdSince) := by
  let shown : Node := (n.setI 0 0x1100 0x03 st).setI 0 0x1100 0x04 0
  have ho (sub : Nat) : (n.enterTimeState st).o 0x1100 sub = shown.oi 0 0x1100 sub := by
    unfold Node.enterTimeState
    dsimp only
    rw [if_neg h]
    rfl
  have ht : (n.enterTimeState st).time.rate = (if st ≤ 1 then 0 else n.time.rate)
      ∧ (n.enterTimeState st).time.holdSince = (if st = 3 then n.now else n.time.holdSince) := by
    unfold Node.enterTimeState
    dsimp only
    rw [if_neg h]
    exact ⟨rfl, rfl⟩
  refine ⟨(ho 0x03).trans ?_, (ho 0x04).trans (Node.oi_setI_self ..), ht⟩
  exact (Node.oi_setI_sub _ 0 0x1100 0 (by decide)).trans (Node.oi_setI_self ..)

/-- The node with the captured times, and their calendar fields, in 0x1100.0B to .0E (R63). -/
def Node.captured (n : Node) (date time : Nat) : Node :=
  (((n.set 0x1100 0x0B n.tai).set 0x1100 0x0C (n.rtc.ticks % 2 ^ 63)).set 0x1100 0x0D date).set 0x1100 0x0E time

theorem Node.latchCapture_eq {n : Node} (h : n.rtc.capture = true) : ∃ date time, n.latchCapture =
    ({ n.captured date time with rtc := { (n.captured date time).rtc with capture := false } }).setRtcBit 1 false := by
  unfold Node.latchCapture
  rw [if_pos h]
  rcases n.utc with ⟨off, ns, leap⟩
  exact ⟨_, _, rfl⟩

/-- R63: what a capture latches. -/
theorem Node.latchCapture_leaves {n : Node} (h : n.rtc.capture = true) :
    let k := n.latchCapture
    k.rtc.capture = false ∧ bit (k.o 0x1200 0x06) 1 = false ∧ k.o 0x1100 0x0B = n.tai ∧ k.o 0x1100 0x0C = n.rtc.ticks % 2 ^ 63
      ∧ SameObjects n k [key 0 0x1100 0x0B, key 0 0x1100 0x0C, key 0 0x1100 0x0D, key 0 0x1100 0x0E, key 0 0x1200 0x06] := by
  obtain ⟨date, time, e⟩ := Node.latchCapture_eq h
  have ho (sub : Nat) (hs : sub < 256) : n.latchCapture.o 0x1100 sub = (n.captured date time).oi 0 0x1100 sub := by
    rw [e]
    exact Node.oi_setI_ne _ _ (show key 0 0x1100 sub ≠ key 0 0x1200 0x06 by unfold key; omega)
  have hs : SameObjects n (n.captured date time)
      [key 0 0x1100 0x0B, key 0 0x1100 0x0C, key 0 0x1100 0x0D, key 0 0x1100 0x0E, key 0 0x1200 0x06] :=
    ((((SameObjects.refl n _).setI (by simp)).setI (by simp)).setI (by simp)).setI (by simp)
  refine ⟨by rw [e]; rfl, ?_, (ho 0x0B (by decide)).trans ?_, (ho 0x0C (by decide)).trans ?_, ?_⟩
  · rw [e]
    exact (Node.bit_setRtcBit _ 1 1 false).trans (if_pos rfl)
  · simp only [Node.captured, Node.set_eq]
    rw [Node.oi_setI_sub _ _ _ _ (by decide), Node.oi_setI_sub _ _ _ _ (by decide), Node.oi_setI_sub _ _ _ _ (by decide),
      Node.oi_setI_self]
  · simp only [Node.captured, Node.set_eq]
    rw [Node.oi_setI_sub _ _ _ _ (by decide), Node.oi_setI_sub _ _ _ _ (by decide), Node.oi_setI_self]
  · rw [e]
    exact SameObjects.setI (n := { n.captured date time with rtc := _ }) hs (by simp)

/-- A command that acts under a condition on the node answers what its operation leaves. -/
theorem answers_whenAt {i : Instr} {s : State} {dt : Nat} {c : Node → Bool} {f : Node → Node} {P : State → Prop}
    (he : exec i s = act dt s fun n => n.when (c n) f) (hc : c (s.at_ dt) = true) (h : P { s with node := f (s.at_ dt) }) :
    Answers i s P :=
  ⟨_, he.trans (act_when hc), h⟩

section
variable {s : State} {dt : Nat} (hup : s.node.up = true)
include hup

/-- In state RTC the count is slewed to the RTC (R65, Table 3-4). -/
theorem rtcSecond_slews (h1 : (s.at_ dt).o 0x1100 0x03 = 1) :
    Answers (.rtcSecond dt) s fun t => Rests s t ∧ t.node.od = s.node.od
      ∧ t.node.time = { (s.at_ dt).time with slewLeft := (s.at_ dt).rtcPhase, slewPpm := 100 } := by
  have he : exec (.rtcSecond dt) s = execRtcSecond dt s := rfl
  unfold execRtcSecond at he
  refine answers_whenAt he ?_ ⟨⟨rfl, rfl⟩, rfl, rfl⟩
  simp only [Bool.and_eq_true, beq_iff_eq]
  exact ⟨hup, h1⟩

/-- LOCKED without Sync ends in HOLDOVER (R66). -/
theorem syncTimeout_holds (h2 : (s.at_ dt).o 0x1100 0x03 = 2) (hs : (s.at_ dt).time.lastSync + 3000000000 ≤ (s.at_ dt).now) :
    Answers (.syncTimeout dt) s fun t => Rests s t ∧ t.node.o 0x1100 0x03 = 3 ∧ t.node.o 0x1100 0x04 = 0
      ∧ t.node.time.holdSince = (s.at_ dt).now ∧ t.node.time.rate = (s.at_ dt).time.rate := by
  obtain ⟨h3, h4, hr, hh⟩ := (s.at_ dt).enterTimeState_leaves (st := 3) (by decide)
  have e : (s.at_ dt).toHoldover = (s.at_ dt).enterTimeState 3 := if_pos h2
  have he : exec (.syncTimeout dt) s = execSyncTimeout dt s := rfl
  unfold execSyncTimeout at he
  refine answers_whenAt he ?_ ⟨⟨rfl, rfl⟩, ?_⟩
  · simp only [Bool.and_eq_true, decide_eq_true_eq]
    exact ⟨hup, by simpa only [sec] using hs⟩
  · rw [e]
    exact ⟨h3, h4, hh, hr⟩

/-- HOLDOVER beyond its limit ends in RTC, or in UNSET where OSF is set (R66). -/
theorem holdoverLimit_ends (h3 : (s.at_ dt).o 0x1100 0x03 = 3)
    (hl : (s.at_ dt).time.holdSince + (s.at_ dt).o 0x1100 0x09 * 1000000000 < (s.at_ dt).now) :
    Answers (.holdoverLimit dt) s fun t => Rests s t
      ∧ t.node.o 0x1100 0x03 = (if bit ((s.at_ dt).o 0x1200 0x06) 0 then 0 else 1) ∧ t.node.time.rate = 0 := by
  have hst : (if (s.at_ dt).osf then 0 else 1) ≤ 1 := by split <;> decide
  obtain ⟨h03, -, hr, -⟩ := (s.at_ dt).enterTimeState_leaves (st := if (s.at_ dt).osf then 0 else 1) (by omega)
  have he : exec (.holdoverLimit dt) s = execHoldoverLimit dt s := rfl
  unfold execHoldoverLimit at he
  refine answers_whenAt he ?_ ⟨⟨rfl, rfl⟩, h03, hr.trans (if_pos hst)⟩
  simp only [Bool.and_eq_true, beq_iff_eq, decide_eq_true_eq]
  exact ⟨⟨hup, h3⟩, by simpa only [sec] using hl⟩

/-- An announced leap second moves the leap offset, and not the count (R69). -/
theorem leapSecond_applies (h2 : (s.at_ dt).o 0x1100 0x03 = 2) (hv : (s.at_ dt).time.utcValid = true)
    (hl : ((s.at_ dt).time.leap59 || (s.at_ dt).time.leap61) = true) :
    Answers (.leapSecond dt) s fun t => Rests s t ∧ t.node.time.leap59 = false ∧ t.node.time.leap61 = false
      ∧ t.node.tai = (s.at_ dt).tai
      ∧ t.node.oint 16 0 0x1100 0x02
          = max 0 (min 1000 ((s.at_ dt).oint 16 0 0x1100 0x02 + (if (s.at_ dt).time.leap61 then 1 else -1)))
      ∧ SameObjects s.node t.node [key 0 0x1100 0x02] := by
  have he : exec (.leapSecond dt) s = execLeapSecond dt s := rfl
  unfold execLeapSecond at he
  refine answers_whenAt he ?_ ⟨⟨rfl, rfl⟩, rfl, rfl, rfl, ?_, SameObjects.setI (n := s.node) (.refl s.node _) (by simp)⟩
  · simp only [Bool.and_eq_true, beq_iff_eq]
    exact ⟨⟨⟨hup, h2⟩, hv⟩, hl⟩
  · exact (congrArg (toI 16) (Node.oi_setI_self ..)).trans (toI_ofI_of_nonneg (by omega) (by omega))

end

end Sys2Proof.Machine
end

section
/-!
SUPPORT. The islands: PLL lock and its loss, time tokens and the calibration of a channel (R49, R52, R55).
-/
namespace Sys2Proof.Machine

theorem Node.setI_isl (n : Node) (i idx sub v j : Nat) : (n.setI i idx sub v).isl j = n.isl j := by
  rw [Node.isl, Node.setI_islands]
  rfl

/-- An island that has just taken a value shows it. -/
theorem Node.copy_taken {n : Node} {i : Nat} (hi : i ≠ 0) (hs : (n.isl i).since = n.now) : n.copy i = (n.isl i).base := by
  unfold Node.copy
  rw [if_neg hi]
  dsimp only
  rw [hs]
  omega

/-- R418: the islands have no owner object, and a message of theirs names no vat. -/
theorem Node.fault_ver_of_island {m n : Node} (h : n.ver = m.ver) {src : Nat} (hs : 0x100 ≤ src) (kind detail addr : Nat) :
    (n.fault src kind detail addr).ver = (m.fault src kind detail addr).ver := by
  have ho (k : Node) : k.ownerOfSource src = 0xFF := by
    unfold Node.ownerOfSource
    rw [if_neg (by omega), if_neg (by omega), if_neg (by omega)]
  unfold Node.fault Node.raiseMsg
  dsimp only
  rw [ho m, ho n, h]

theorem Node.incSatI_ver (n : Node) (w i idx sub k : Nat) : (n.incSatI w i idx sub k).ver = n.ver := rfl

/-- The node with the objects of island `i` as the loss of its lock leaves them. -/
def Node.lockLost (n : Node) (i : Nat) : Node := ((n.setI i 0x2100 0x03 3).setI i 0x2100 0x06 0).incSatI 32 i 0x2100 0x08 1

theorem Node.lockLost_ver (n : Node) (i : Nat) : (n.lockLost i).ver = n.ver :=
  (Node.incSatI_ver _ 32 i 0x2100 0x08 1).trans ((Node.setI_ver ..).trans (Node.setI_ver ..))

/-- The node whose island `i` lost its lock: its last valid time is kept aside, and the loss reported (R49). -/
def Node.unlocked (n : Node) (i : Nat) : Node :=
  let lost := n.lockLost i
  (lost.setIsl i { lost.isl i with tokens := 0, held := if n.copyValid i then n.copy i else (lost.isl i).held }).fault
    (0x100 + i) 0x04 0 0

/-- R49: beside that, a lake discards its conversions. -/
theorem Node.unlockPll_eq {n : Node} {i : Nat} (h : n.oi i 0x2100 0x03 = 2) : ∃ ls,
    n.unlockPll i = if 21 ≤ i ∧ i ≤ 52 then { n.unlocked i with lakes := ls } else n.unlocked i := ⟨_, if_pos h⟩

theorem Node.unlockPll_od_ver {n : Node} {i : Nat} (h : n.oi i 0x2100 0x03 = 2) :
    (n.unlockPll i).od = (n.unlocked i).od ∧ (n.unlockPll i).ver = (n.unlocked i).ver := by
  obtain ⟨ls, e⟩ := Node.unlockPll_eq h
  rw [e]
  generalize n.unlocked i = k
  split
  · exact ⟨rfl, rfl⟩
  · exact ⟨rfl, rfl⟩

theorem Node.lockLost_objects (n : Node) (i : Nat) :
    (n.lockLost i).oi i 0x2100 0x03 = 3 ∧ (n.lockLost i).oi i 0x2100 0x06 = 0
      ∧ (n.lockLost i).oi i 0x2100 0x08 = min (n.oi i 0x2100 0x08 + 1) (2 ^ 32 - 1)
      ∧ SameObjects n (n.lockLost i) [key i 0x2100 0x03, key i 0x2100 0x06, key i 0x2100 0x08] := by
  unfold Node.lockLost
  refine ⟨?_, ?_, ?_, (((SameObjects.refl n _).setI (by simp)).setI (by simp)).setI (by simp)⟩
  · rw [Node.incSatI, Node.oi_setI_sub _ _ _ _ (by decide), Node.oi_setI_sub _ _ _ _ (by decide), Node.oi_setI_self]
  · rw [Node.incSatI, Node.oi_setI_sub _ _ _ _ (by decide), Node.oi_setI_self]
  · rw [Node.oi_incSatI_self, Node.oi_setI_sub _ _ _ _ (by decide), Node.oi_setI_sub _ _ _ _ (by decide)]

/-- R49, R55: what the loss of a lock leaves. -/
theorem Node.unlockPll_leaves {n : Node} {i : Nat} (h : n.oi i 0x2100 0x03 = 2) :
    let k := n.unlockPll i
    k.oi i 0x2100 0x03 = 3 ∧ k.oi i 0x2100 0x06 = 0 ∧ k.oi i 0x2100 0x08 = min (n.oi i 0x2100 0x08 + 1) (2 ^ 32 - 1)
      ∧ k.ver = (n.fault (0x100 + i) 0x04 0 0).ver
      ∧ SameObjects n k [key i 0x2100 0x03, key i 0x2100 0x06, key i 0x2100 0x08] := by
  obtain ⟨ho, hv⟩ := Node.unlockPll_od_ver h
  obtain ⟨h3, h6, h8, hs⟩ := n.lockLost_objects i
  replace ho := ho.trans ((Node.fault_od (Node.setIsl ..) ..).trans (Node.setIsl_od ..))
  replace hv := hv.trans (Node.fault_ver_of_island ((Node.setIsl_ver ..).trans (n.lockLost_ver i)) (by omega) ..)
  simp only [Node.oi, SameObjects] at h3 h6 h8 hs ⊢
  rw [ho]
  exact ⟨h3, h6, h8, hv, hs⟩

/-- R52: the record of island `i` after a token with value `tv`. -/
def Node.tokened (n : Node) (i tv : Nat) : IslandSt :=
  let target := tv + n.oi i 0x2100 0x07 / 1000
  let base := if n.copyValid i ∧ target ≤ n.copy i then n.copy i else target
  { n.isl i with
    base := base, since := n.now, debt := base - target, tokens := if n.oi i 0x2100 0x03 = 2 then (n.isl i).tokens + 1 else 0,
    target := target }

theorem Node.token_eq (n : Node) {i : Nat} (hi : i ≠ 0) (tv : Nat) : n.token i tv =
    if n.oi i 0x2100 0x03 = 2 ∧ (n.isl i).tokens + 1 = 4 then (n.setIsl i (n.tokened i tv)).setI i 0x2100 0x06 1
    else n.setIsl i (n.tokened i tv) := if_neg hi

/-- R52: an island shows the value it took from a token. -/
theorem Node.token_copy (n : Node) {i : Nat} (hi : i ≠ 0) (tv : Nat) :
    (n.token i tv).isl i = n.tokened i tv ∧ (n.token i tv).copy i = (n.tokened i tv).base := by
  have h : (n.token i tv).isl i = n.tokened i tv ∧ (n.token i tv).now = n.now := by
    rw [n.token_eq hi]
    split
    · exact ⟨(Node.setI_isl ..).trans (n.isl_setIsl_self i _), Node.setI_now (n.setIsl i _) ..⟩
    · exact ⟨n.isl_setIsl_self i _, rfl⟩
  obtain ⟨hx, hn⟩ := h
  refine ⟨hx, (Node.copy_taken hi ?_).trans (congrArg IslandSt.base hx)⟩
  rw [hx, hn]
  rfl

/-- R52, R55: what a token leaves of its island: its target, its copy and that copy's validity. -/
theorem Node.token_leaves (n : Node) {i : Nat} (hi : i ≠ 0) (tv : Nat) :
    let k := n.token i tv
    let target := tv + n.oi i 0x2100 0x07 / 1000
    (k.isl i).target = target ∧ (n.copy i < target → k.copy i = target) ∧ (n.copyValid i = true → n.copy i ≤ k.copy i)
      ∧ (n.oi i 0x2100 0x03 = 2 → (n.isl i).tokens = 3 → k.copyValid i = true) := by
  obtain ⟨hx, hc⟩ := n.token_copy hi tv
  dsimp only
  rw [hx, hc]
  refine ⟨rfl, fun h => if_neg (by omega), fun hv => ?_, fun h2 h3 => ?_⟩
  · unfold Node.tokened
    dsimp only
    split
    · exact Nat.le_refl _
    · next h =>
      have := mt (And.intro hv) h
      omega
  · rw [n.token_eq hi, if_pos ⟨h2, by omega⟩]
    unfold Node.copyValid Node.obi
    rw [Node.oi_setI_self]
    simp

/-- R150: with the token a lake may report its bands, which pass on and leave the clocks alone. -/
theorem Node.passesOn_reports (k : Node) {i : Nat} {c : Prop} [Decidable c] :
    k.PassesOn (if 21 ≤ i ∧ i ≤ 52 ∧ c then k.reportAllBands (i - 21) else k) := by
  split
  · exact .reportAllBands (.refl k) (by omega)
  · exact .refl k

/-- A command that acts while the node is up, and completes nothing, answers what its operation leaves. -/
theorem answers_actUp {i : Instr} {s : State} {dt : Nat} {f : Node → Node} {P : State → Prop} (hup : s.node.up = true)
    (he : exec i s = act dt s fun n => n.whenUp f) (h : P { s with node := f (s.at_ dt) }) : Answers i s P :=
  ⟨_, he.trans (act_whenUp hup), h⟩

section
variable {s : State} {dt : Nat} {i : Fin 61} (hup : s.node.up = true)
include hup

/-- A PLL locks (R49). -/
theorem pllLock_locks (h : (s.at_ dt).oi i 0x2100 0x03 ≠ 2) :
    Answers (.pllLock dt i) s fun t => Rests s t ∧ t.node.oi i 0x2100 0x03 = 2 ∧ (t.node.isl i).tokens = 0
      ∧ SameObjects s.node t.node [key i 0x2100 0x03] := by
  have e : (s.at_ dt).lockPll i = ((s.at_ dt).setIsl i { (s.at_ dt).isl i with tokens := 0 }).setI i 0x2100 0x03 2 := if_neg h
  refine answers_actUp hup rfl ⟨⟨rfl, rfl⟩, ?_⟩
  rw [e]
  exact ⟨Node.oi_setI_self .., congrArg IslandSt.tokens ((Node.setI_isl ..).trans (Node.isl_setIsl_self (s.at_ dt) i _)),
    SameObjects.setI (n := (s.at_ dt).setIsl i _) (.refl s.node _) (by simp)⟩

/-- A PLL loses its lock (R49, R55). -/
theorem pllLockLost_falls (h : (s.at_ dt).oi i 0x2100 0x03 = 2) :
    Answers (.pllLockLost dt i) s fun t => Rests s t ∧ t.node.oi i 0x2100 0x03 = 3 ∧ t.node.oi i 0x2100 0x06 = 0
      ∧ t.node.oi i 0x2100 0x08 = min ((s.at_ dt).oi i 0x2100 0x08 + 1) (2 ^ 32 - 1)
      ∧ t.node.ver = ((s.at_ dt).fault (0x100 + i) 0x04 0 0).ver
      ∧ SameObjects s.node t.node [key i 0x2100 0x03, key i 0x2100 0x06, key i 0x2100 0x08] :=
  answers_actUp hup rfl ⟨⟨rfl, rfl⟩, Node.unlockPll_leaves h⟩

/-- A time token arrives (R52, R55). -/
theorem timeToken_updates {tv : Nat} (hi : i.val ≠ 0) :
    Answers (.timeToken dt i tv) s fun t => Rests s t
      ∧ (t.node.isl i).target = tv + (s.at_ dt).oi i 0x2100 0x07 / 1000
      ∧ ((s.at_ dt).copy i < (t.node.isl i).target → t.node.copy i = (t.node.isl i).target)
      ∧ ((s.at_ dt).copyValid i = true → (s.at_ dt).copy i ≤ t.node.copy i)
      ∧ ((s.at_ dt).oi i 0x2100 0x03 = 2 → ((s.at_ dt).isl i).tokens = 3 → t.node.copyValid i = true) := by
  obtain ⟨ht, hc, hm, hv⟩ := (s.at_ dt).token_leaves hi tv
  have he : exec (.timeToken dt i tv) s = execTimeToken dt i tv s := rfl
  unfold execTimeToken at he
  refine answers_actUp hup he ⟨⟨rfl, rfl⟩, ?_⟩
  have hp := ((s.at_ dt).token i tv).passesOn_reports (i := i)
    (c := (!(s.at_ dt).copyValid i) = true ∧ ((s.at_ dt).token i tv).copyValid i = true)
  rw [hp.isl, hp.copy, hp.copyValid, ht]
  exact ⟨rfl, hc, hm, hv⟩

/-- A channel is calibrated (R52). -/
theorem latencyCalibration_stores {sumPs : Nat} :
    Answers (.latencyCalibration dt i sumPs) s fun t => Rests s t ∧ t.node.oi i 0x2100 0x07 = sumPs / 128 % 2 ^ 32
      ∧ SameObjects s.node t.node [key i 0x2100 0x07] :=
  answers_actUp hup rfl ⟨⟨rfl, rfl⟩, Node.oi_setI_self .., SameObjects.setI (n := s.at_ dt) (.refl s.node _) (by simp)⟩

end

end Sys2Proof.Machine
end

section
/-!
SUPPORT. Broadcasts: their issue, acknowledgement and action (R56, R57, R58, R67).
-/
namespace Sys2Proof.Machine

/-! ## Issue and acknowledgement (R57, R58) -/

/-- R57, R58: the oldest broadcast that waits enters an empty chain, and acts on arrival where its time is too near. -/
theorem Node.issueBcast_issues {n : Node} {b : Bcast} {rest : List Bcast} (hc : n.bc.chain = none)
    (hw : n.bc.waiting = b :: rest) : ∃ late, n.issueBcast = { n with bc :=
        { chain := some ({ b with late := late }, n.now), waiting := rest,
          armed := n.bc.armed ++ [⟨{ b with late := late }, List.range 61⟩] } }
      ∧ (∀ at_, b.time = some at_ → b.late = false → late = decide (at_ < n.tai + 3400)) ∧ (b.time = none → late = true) := by
  unfold Node.issueBcast
  rw [hc, hw]
  refine ⟨_, rfl, fun at_ ht hl => ?_, fun ht => ?_⟩
  · rw [ht, hl]
    rfl
  · rw [ht]

theorem Node.ackBcast_eq {n : Node} {b : Bcast} {t : Nat} (hc : n.bc.chain = some (b, t)) :
    n.ackBcast = ({ n with bc := { n.bc with chain := none } }).set 0x2100 0x09 ((n.now - t) % 2 ^ 32) := by
  unfold Node.ackBcast
  rw [hc]

/-! ## A time step (R67) -/

/-- The node with the record of island `i` moved by a step. -/
def Node.stepped (n : Node) (i : Nat) (d : Int) : Node :=
  n.setIsl i { n.isl i with base := ((n.copy i : Int) + d).toNat, since := n.now, debt := 0 }

/-- R67: at the frame island the ring and the frames follow the step. -/
theorem Node.stepIsland_eq (n : Node) {i : Nat} (hi : i ≠ 0) (d : Int) : ∃ r f, n.stepIsland i d =
    if i = isleFrame then { n.stepped i d with ring := r, frame := f } else n.stepped i d := ⟨_, _, if_neg hi⟩

/-- R67: a step moves the copy of an island, and no broadcast. -/
theorem Node.stepIsland_leaves (n : Node) {i : Nat} (hi : i ≠ 0) (d : Int) :
    (n.stepIsland i d).copy i = ((n.copy i : Int) + d).toNat ∧ (n.stepIsland i d).bc = n.bc := by
  have hs : (n.stepped i d).isl i = { n.isl i with base := ((n.copy i : Int) + d).toNat, since := n.now, debt := 0 } :=
    n.isl_setIsl_self i _
  have hn : (n.stepped i d).now = n.now := Node.setIsl_now ..
  have hb : (n.stepped i d).bc = n.bc := Node.setIsl_bc ..
  have hk : (n.stepped i d).copy i = ((n.copy i : Int) + d).toNat := by
    rw [Node.copy_taken hi (by rw [hs, hn]), hs]
  obtain ⟨r, f, e⟩ := n.stepIsland_eq hi d
  rw [e]
  generalize n.stepped i d = k at hk hb
  split
  · exact ⟨hk, hb⟩
  · exact ⟨hk, hb⟩

/-- The time island's node with the step in the count (R67). -/
def Node.recounted (n : Node) (d : Int) : Node := { n with tai := ((n.tai : Int) + d).toNat }

/-- R67: at the time island a step moves the count and is counted, and moves no broadcast. -/
theorem Node.stepIsland_zero (n : Node) (d : Int) :
    (n.stepIsland 0 d).tai = ((n.tai : Int) + d).toNat
      ∧ (n.stepIsland 0 d).o 0x1100 0x0A = min (n.o 0x1100 0x0A + 1) (2 ^ 32 - 1) ∧ (n.stepIsland 0 d).bc = n.bc := by
  have e : n.stepIsland 0 d = (((n.recounted d).incSatI 32 0 0x1100 0x0A 1).fault 0x001 0x05 0 (satI 32 (d / 1000))).irqAll 5 :=
    if_pos rfl
  have ho : ((n.recounted d).incSatI 32 0 0x1100 0x0A 1).oi 0 0x1100 0x0A = min (n.o 0x1100 0x0A + 1) (2 ^ 32 - 1) :=
    Node.oi_incSatI_self (n.recounted d) 32 0 0x1100 0x0A 1
  have ht : ((n.recounted d).incSatI 32 0 0x1100 0x0A 1).tai = ((n.tai : Int) + d).toNat := Node.setI_tai ..
  have hb : ((n.recounted d).incSatI 32 0 0x1100 0x0A 1).bc = n.bc := Node.setI_bc ..
  rw [e]
  generalize (n.recounted d).incSatI 32 0 0x1100 0x0A 1 = k at ho ht hb
  obtain ⟨vs, hv⟩ := (k.fault 0x001 0x05 0 (satI 32 (d / 1000))).irqAll_eq 5
  rw [hv]
  have hoi : (k.fault 0x001 0x05 0 (satI 32 (d / 1000))).oi 0 0x1100 0x0A = k.oi 0 0x1100 0x0A := Node.fault_oi ..
  have htai : (k.fault 0x001 0x05 0 (satI 32 (d / 1000))).tai = k.tai := Node.fault_tai ..
  have hbc : (k.fault 0x001 0x05 0 (satI 32 (d / 1000))).bc = k.bc := Node.fault_bc ..
  exact ⟨htai.trans ht, hoi.trans ho, hbc.trans hb⟩

/-! ## Action (R58) -/

/-- The broadcasts armed after the first of them acted at island `i`. -/
def armedAfter (i : Nat) (a : BcastArmed) (rest : List BcastArmed) : List BcastArmed :=
  if a.islands.filter (· != i) = [] then rest else { a with islands := a.islands.filter (· != i) } :: rest

/-- The node whose first armed broadcast has acted at island `i`. -/
def Node.disarmed (n : Node) (i : Nat) (a : BcastArmed) (rest : List BcastArmed) : Node :=
  { n with bc := { n.bc with armed := armedAfter i a rest } }

theorem takeArmed_cons {i : Nat} {due : BcastArmed → Bool} {a : BcastArmed} (h : due a = true) (rest : List BcastArmed) :
    takeArmed i due (a :: rest) = (some a, armedAfter i a rest) := if_pos h

section
variable {n : Node} {i : Nat} {a : BcastArmed} {rest : List BcastArmed} (ha : n.bc.armed = a :: rest) (hd : n.bcastDue i a = true)
include ha hd

/-- R58, R67: a time step that is due steps the island. -/
theorem Node.actBcast_timeStep {d : Int} (hk : a.b.kind = .timeStep d) : n.actBcast i = (n.disarmed i a rest).stepIsland i d := by
  unfold Node.actBcast
  rw [ha, takeArmed_cons hd]
  dsimp only
  rw [hk]
  rfl

/-- R58, R315: another broadcast that is due takes a snapshot, which leaves clocks and broadcasts alone, or asks nothing. -/
theorem Node.actBcast_passesOn (hk : ∀ d, a.b.kind ≠ .timeStep d) : (n.disarmed i a rest).PassesOn (n.actBcast i) := by
  unfold Node.actBcast
  rw [ha, takeArmed_cons hd]
  dsimp only
  split
  · next d h => exact absurd h (hk d)
  · exact .ite (.takeSnapshot (.refl (n.disarmed i a rest))) (.refl _)
  · exact .refl (n.disarmed i a rest)

/-- R58: a broadcast that has acted everywhere is armed no more. -/
theorem Node.actBcast_armed : (n.actBcast i).bc.armed = armedAfter i a rest := by
  by_cases hk : ∃ d, a.b.kind = .timeStep d
  · obtain ⟨d, hk⟩ := hk
    rw [Node.actBcast_timeStep ha hd hk]
    by_cases hi : i = 0
    · rw [hi, ((n.disarmed 0 a rest).stepIsland_zero d).2.2]
      rfl
    · rw [((n.disarmed i a rest).stepIsland_leaves hi d).2]
      rfl
  · rw [(Node.actBcast_passesOn ha hd (not_exists.mp hk)).bc]
    rfl

end

/-! ## The statement -/

section
variable {s : State} {dt : Nat} (hup : s.node.up = true)
include hup

/-- A broadcast is issued (R57, R58). -/
theorem broadcastIssue_issues {b : Bcast} {rest : List Bcast} (hc : (s.at_ dt).bc.chain = none)
    (hw : (s.at_ dt).bc.waiting = b :: rest) :
    Answers (.broadcastIssue dt) s fun t => Rests s t ∧ t.node.od = s.node.od ∧ ∃ late, t.node.bc =
      { chain := some ({ b with late := late }, (s.at_ dt).now), waiting := rest,
        armed := (s.at_ dt).bc.armed ++ [⟨{ b with late := late }, List.range 61⟩] }
      ∧ (∀ at_, b.time = some at_ → b.late = false → late = decide (at_ < (s.at_ dt).tai + 3400))
      ∧ (b.time = none → late = true) := by
  obtain ⟨late, e, h⟩ := Node.issueBcast_issues hc hw
  refine answers_actUp hup rfl ⟨⟨rfl, rfl⟩, ?_⟩
  rw [e]
  exact ⟨rfl, late, rfl, h⟩

/-- A broadcast is acknowledged (R56, R57). -/
theorem broadcastAck_ends {b : Bcast} {t₀ : Nat} (hc : (s.at_ dt).bc.chain = some (b, t₀)) :
    Answers (.broadcastAck dt) s fun t => Rests s t ∧ t.node.bc = { (s.at_ dt).bc with chain := none }
      ∧ t.node.o 0x2100 0x09 = ((s.at_ dt).now - t₀) % 2 ^ 32 ∧ SameObjects s.node t.node [key 0 0x2100 0x09] := by
  refine answers_actUp hup rfl ⟨⟨rfl, rfl⟩, ?_⟩
  rw [Node.ackBcast_eq hc]
  exact ⟨Node.setI_bc .., Node.o_set_self ..,
    SameObjects.setI (n := { s.at_ dt with bc := { (s.at_ dt).bc with chain := none } }) (.refl s.node _) (by simp)⟩

/-- An armed broadcast acts at an island (R58, R67). -/
theorem timedBroadcastAct_acts {i : Fin 61} {a : BcastArmed} {rest : List BcastArmed} (ha : (s.at_ dt).bc.armed = a :: rest)
    (hd : (s.at_ dt).bcastDue i a = true) :
    Answers (.timedBroadcastAct dt i) s fun t => Rests s t ∧ t.node.bc.armed = armedAfter i a rest
      ∧ (∀ d, a.b.kind = .timeStep d → i.val ≠ 0 → t.node.copy i = (((s.at_ dt).copy i : Int) + d).toNat)
      ∧ (∀ d, a.b.kind = .timeStep d → i.val = 0 → t.node.tai = (((s.at_ dt).tai : Int) + d).toNat
          ∧ t.node.o 0x1100 0x0A = min ((s.at_ dt).o 0x1100 0x0A + 1) (2 ^ 32 - 1)) := by
  refine answers_actUp hup rfl ⟨⟨rfl, rfl⟩, Node.actBcast_armed ha hd, fun d hk hi => ?_, fun d hk hi => ?_⟩
  · dsimp only
    rw [Node.actBcast_timeStep ha hd hk]
    exact (Node.stepIsland_leaves _ hi d).1
  · dsimp only
    rw [Node.actBcast_timeStep ha hd hk, hi]
    obtain ⟨ht, ho, -⟩ := ((s.at_ dt).disarmed 0 a rest).stepIsland_zero d
    exact ⟨ht, ho⟩

end

/-- Settles O19: each command by what its operation leaves of the count, the islands' copies and the broadcasts. -/
theorem timeIslandsAct : Obligations.TimeIslandsAct :=
  ⟨fun _ _ hup => ⟨rtcSecond_slews hup, fun h => answers_actUp hup rfl ⟨⟨rfl, rfl⟩, Node.latchCapture_leaves h⟩,
      syncTimeout_holds hup, holdoverLimit_ends hup, leapSecond_applies hup⟩,
    fun _ _ _ hup => ⟨pllLock_locks hup, pllLockLost_falls hup, fun _ hi => timeToken_updates hup hi,
      fun _ => latencyCalibration_stores hup⟩,
    fun _ _ hup => ⟨fun _ _ => broadcastIssue_issues hup, fun _ _ => broadcastAck_ends hup,
      fun _ _ _ ha hd => timedBroadcastAct_acts hup ha hd⟩⟩

end Sys2Proof.Machine
end

section
/-!
SUPPORT. Steps, and what every command's outcome is (R76, R79, R81).
-/
namespace Sys2Proof.Machine

/-- Settles O1: by the queue that `step` looks at. -/
theorem stepTakesTheFront : Obligations.StepTakesTheFront := by
  intro c rest s h
  rw [step, h]

/-- Settles O2: by the queue that `step` looks at. -/
theorem emptyQueuesIdle : Obligations.EmptyQueuesIdle := by
  intro s h
  rw [step, h]

/-- The state goes on with another node and another DRAM: what each form of a meaning in Ops.lean, and the storing of
completions, answers. -/
theorem next_pending (s : State) (n : Node) (mem : List Host.Cell) :
    ∃ t : State, (.next { s with node := n, vmem := mem } : Host.Outcome State Fault Refusal) = .next t ∧ t.pending = s.pending :=
  ⟨_, rfl, rfl⟩

/-- A command after which a start may follow goes on too, whether the start is due or not. -/
theorem actStart_pending (dt : Nat) (s : State) (due : Node → Bool) (f : Node → Node)
    (start : Node → Node × List (Nat × Byte)) : ∃ t, actStart dt s due f start = .next t ∧ t.pending = s.pending := by
  unfold actStart
  dsimp only
  split
  · exact next_pending s _ _
  · exact next_pending s _ _

/-- Settles O3: four commands may be followed by a start; every other has one of the forms of Ops.lean. -/
theorem commandsEndInANextState : Obligations.CommandsEndInANextState := by
  intro c s
  cases c with
  | lineValid =>
    unfold exec execLineValid
    exact actStart_pending ..
  | lineLossSequenceEnd =>
    unfold exec execLineLossSequenceEnd
    exact actStart_pending ..
  | nodeResetRelease =>
    unfold exec execNodeResetRelease
    exact actStart_pending ..
  | loaderRetry =>
    unfold exec execLoaderRetry
    exact actStart_pending ..
  | _ => exact next_pending s _ _

end Sys2Proof.Machine
end

section
/-!
SUPPORT. Reads and information requests that are judged and answered (R72, R76, R77).
-/
namespace Sys2Proof.Machine

/-! ## The form of a request -/

/-- A request of a master that may ask, which completes no descriptor. -/
theorem actDone_when {dt : Nat} {s : State} {c : Node → Bool} {f : Node → Node} {k : Node} (hc : c (s.at_ dt) = true)
    (hk : f (s.at_ dt) = k) (hd : k.eng.done = []) : (actDone dt s fun n => n.when (c n) f) = .next { s with node := k } := by
  have e : (s.node.begin dt).when (c (s.node.begin dt)) f = k := (Node.when_true hc).trans hk
  rw [actDone_eq (by rw [e]; exact hd), e]

/-! ## Reads -/

/-- What reading an object brings with it: a receive FIFO is emptied, a page of the tag is held. -/
def Node.readBrings (n : Node) (m : Master) (idx sub : Nat) : Node :=
  if canonIdx idx = 0x7001 ∧ sub = 0x02 then n.receiveTaken ((idx - 0x7000) / 0x10)
  else if canonIdx idx = 0x3700 ∧ sub = 0x02 then n.wiredAccess (n.sel m 0x3700 0x01)
  else n

theorem Node.readBrings_leaves (n : Node) (m : Master) (idx sub : Nat) :
    (n.readBrings m idx sub).od = n.od ∧ (n.readBrings m idx sub).out = n.out ∧ (n.readBrings m idx sub).eng = n.eng := by
  unfold Node.readBrings
  split
  · exact ⟨rfl, rfl, rfl⟩
  · split
    · exact ⟨rfl, rfl, rfl⟩
    · exact ⟨rfl, rfl, rfl⟩

/-- Outside the data ports a read is judged by Table 4-4 alone. -/
theorem Node.readOne_refused {n : Node} {m : Master} {idx sub : Nat} (hc : n.readCode m idx sub ≠ 0) (hp : canonIdx idx ≠ 0xF000)
    (busy : Bool) : n.readOne m idx sub busy = (n.readCode m idx sub, [], n.countRefusal idx sub (n.readCode m idx sub)) := by
  unfold Node.readOne
  simp only [hp, if_false, firstFail_singleton]
  exact if_pos hc

/-- A read that no check refuses, of an object that is neither measured nor a data port's. -/
theorem Node.readOne_accepted {n : Node} {m : Master} {idx sub : Nat} {r : Row} (hr : n.rowFor idx sub = some r)
    (hc : n.readCode m idx sub = 0) (hp : canonIdx idx ≠ 0xF000) (hm : measured idx sub = false) (busy : Bool) :
    n.readOne m idx sub busy =
      (0, toLE r.ty.size (n.valueOf m idx sub (n.instOf m idx sub) r), n.readBrings m idx sub) := by
  unfold Node.readOne
  simp only [hp, if_false, firstFail_singleton, hc, ne_eq, not_true_eq_false, false_and, hm, Bool.false_eq_true, hr]
  rfl

/-- Refusals are counted for quotes and for the tag alone. -/
theorem Node.countRefusal_other (n : Node) {idx : Nat} (h1 : idx ≠ 0x2300) (h2 : idx ≠ 0x3700) (sub code : Nat) :
    n.countRefusal idx sub code = n := by
  simp only [Node.countRefusal, h1, h2, false_and, if_false]

/-- A read of a master that may ask, as it is judged and done. -/
theorem askRead_eq {dt : Nat} {m : Master} {idx sub : Nat} {s : State} {code : Nat} {data : List Byte} {k : Node}
    (ha : (s.at_ dt).asks m = true) (hr : (s.at_ dt).readOne m idx sub false = (code, data, k)) (hd : k.eng.done = []) :
    askRead dt m idx sub s = .next { s with node := k.emit (.reply m code data) } := by
  refine actDone_when (c := (Node.asks · m)) ha ?_ hd
  unfold Node.serveRead
  rw [hr]
  rfl

/-! ## Information requests -/

/-- R77: the record of Table 4-5 for an object that exists. -/
theorem Node.information_eq {n : Node} {idx sub : Nat} {r : Row} (hx : n.indexExists idx = true) (hr : n.rowFor idx sub = some r)
    (m : Master) : n.information m idx sub = (0, toLE 2 r.ty.code ++ toLE 1 r.acc.code ++ toLE 1 (b2n r.kept + 2 * b2n r.nan)
      ++ toLE 2 (n.ownerMask m idx sub) ++ zeros 2 ++ toLE 8 r.ty.maxLen) := by
  unfold Node.information
  rw [hx, hr]
  rfl

/-- An information request of a master that may ask, as it is judged. -/
theorem askInformation_eq {dt : Nat} {m : Master} {idx : BitVec 16} {sub : Byte} {s : State} {code : Nat} {data : List Byte}
    (ha : (s.at_ dt).asks m = true) (hr : (s.at_ dt).information m idx.toNat sub.toNat = (code, data)) :
    exec (.odInformation dt m idx sub) s = .next { s with node := (s.at_ dt).emit (.reply m code data) } := by
  refine actDone_when (c := (Node.asks · m)) (f := fun n => n.serveInfo m .direct idx.toNat sub.toNat) ha ?_ rfl
  unfold Node.serveInfo
  rw [hr]
  rfl

/-! ## The statements -/

/-- Settles O8: a read by what it is judged and done as, an information request by its record. -/
theorem readsAnswer : Obligations.ReadsAnswer := by
  intro s dt m idx sub r u ha hr
  refine ⟨fun hc hp hm => ?_, fun hx => ?_⟩
  · obtain ⟨hod, hout, heng⟩ := u.readBrings_leaves m idx.toNat sub.toNat
    refine ⟨_, askRead_eq ha (Node.readOne_accepted hr hc hp hm false) (by rw [heng]; rfl), ⟨rfl, rfl⟩, hod, ?_⟩
    exact congrArg (· ++ [_]) hout
  · exact ⟨_, askInformation_eq ha (Node.information_eq hx hr m), ⟨rfl, rfl⟩, rfl, rfl⟩

/-- Settles O9: a write or read that is refused, at an index whose refusals are not counted. -/
theorem refusedRequestsChangeNoObject : Obligations.RefusedRequestsChangeNoObject := by
  intro s dt m idx sub data u ha h1 h2
  refine ⟨fun hj => askWrite_refused ha rfl hj h1 h2, fun hc hp => ?_⟩
  refine askRead_eq ha ?_ rfl
  rw [Node.readOne_refused hc hp, Node.countRefusal_other _ h1 h2]

end Sys2Proof.Machine
end

section
/-!
SUPPORT. Writes that store a value and bring nothing with them (R72, R76, R82, R90, R91).
-/
namespace Sys2Proof.Machine

/-! ## Plain indices -/

/-- The index of a plain object stands under no other table. -/
theorem plain_apart {idx a : Nat} (h : plainIdx idx = true) (e : canonIdx idx = a)
    (ha : canonIdx a = a ∧ plainIdx a = false := by decide) : False := by
  have hp : plainIdx a = plainIdx idx := by unfold plainIdx; rw [ha.1, e]
  rw [h, ha.2] at hp
  exact absurd hp (by decide)

theorem canonIdx_private {idx : Nat} (h : 0xA000 ≤ idx ∧ idx < 0xF000) : canonIdx idx = 0 ∨ canonIdx idx = 0xA000 := by
  unfold canonIdx
  rw [if_neg (by omega), if_neg (by omega), if_neg (by omega), if_pos h]
  split
  · exact .inr rfl
  · exact .inl rfl

/-- A plain object lies in no vat's own range. -/
theorem privVat_of_plain {idx : Nat} (h : plainIdx idx = true) : privVat idx = none := by
  refine if_neg fun hi => ?_
  rcases canonIdx_private hi with e | e
  · exact plain_apart h e
  · exact plain_apart h e

/-- No table but its own stands at the index of the operator's commands. -/
theorem idx_of_canonIdx_6000 {idx : Nat} (h : canonIdx idx = 0x6000) : idx = 0x6000 := by
  unfold canonIdx at h
  dsimp only at h
  split_ifs at h <;> omega

/-! ## The value -/

/-- Nothing follows the change of a plain object's value. -/
theorem Node.written_plain (n : Node) {idx : Nat} (h : plainIdx idx = true) (sub i : Nat) : n.written idx sub i = n := by
  unfold Node.written
  dsimp only
  iterate 12 rw [if_neg fun e => plain_apart h e]

theorem SameObjects.append {m n k : Node} {ks js : List Nat} (h : SameObjects m n ks) (g : SameObjects n k js) :
    SameObjects m k (ks ++ js) := fun x hx =>
  (g x fun hj => hx (List.mem_append_right _ hj)).trans (h x fun hk => hx (List.mem_append_left _ hk))

/-! ## The uncommitted flag (R90, R91) -/

/-- R90: a kept write with no commit under way is uncommitted; one in the cycle of a commit belongs to it. -/
theorem Node.keptWritten_eq (n : Node) : n.keptWritten = n.set 0x1020 0x06 1 ∨ (n.store.job ≠ none ∧ ∃ f, n.keptWritten = n.setStore f) := by
  unfold Node.keptWritten
  split
  · next hj =>
    split
    · exact .inr ⟨by simp [hj], _, rfl⟩
    · exact .inl rfl
  · exact .inl rfl

/-- What the writing of a kept object may change. -/
theorem Node.keptHook_leaves (n : Node) (idx sub : Nat) :
    SameObjects n (n.keptHook idx sub) [key 0 0x1020 0x06] ∧ (n.keptHook idx sub).eng = n.eng ∧ (n.keptHook idx sub).dom = n.dom
      ∧ (n.keptHook idx sub).ports = n.ports := by
  unfold Node.keptHook
  split
  · rcases n.keptWritten_eq with e | ⟨-, f, e⟩
    · rw [e]; exact ⟨(SameObjects.refl n _).setI (by simp), rfl, rfl, rfl⟩
    · rw [e]; exact ⟨.refl n _, rfl, rfl, rfl⟩
  · exact ⟨.refl n _, rfl, rfl, rfl⟩

theorem Node.keptHook_uncommitted {n : Node} {idx sub : Nat} (hk : n.keptKey (key 0 idx sub) = true) (hj : n.store.job = none) :
    (n.keptHook idx sub).o 0x1020 0x06 = 1 := by
  unfold Node.keptHook
  rw [if_pos hk]
  obtain e | ⟨h, -⟩ := n.keptWritten_eq
  · rw [e]; exact Node.o_set_self ..
  · exact absurd hj h

/-! ## The write -/

/-- A plain object with a new value: an object that reads so already is left alone. -/
def Node.stored (n : Node) (idx sub i v : Nat) : Node := if n.oi i idx sub = v then n else n.setI i idx sub v

theorem Node.store_plain (n : Node) (m : Master) {idx : Nat} (h : plainIdx idx = true) (sub i v : Nat) :
    n.store_ m idx sub i v = (n.stored idx sub i v).keptHook idx sub := by
  unfold Node.store_ Node.privChanged
  rw [privVat_of_plain h]
  simp only [Node.written_plain _ h]
  rfl

theorem Node.stored_leaves (n : Node) (idx sub i v : Nat) :
    (n.stored idx sub i v).oi i idx sub = v ∧ SameObjects n (n.stored idx sub i v) [key i idx sub]
      ∧ (n.stored idx sub i v).eng = n.eng ∧ (n.stored idx sub i v).store = n.store
      ∧ ∀ k, (n.stored idx sub i v).keptKey k = n.keptKey k := by
  unfold Node.stored
  split
  · next h => exact ⟨h, .refl n _, rfl, rfl, fun _ => rfl⟩
  · exact ⟨Node.oi_setI_self .., (SameObjects.refl n _).setI (by simp), rfl, rfl, fun _ => rfl⟩

/-- What a write does that neither chapter's list gives a meaning of its own. -/
theorem Node.writeDo_store {n : Node} {m : Master} {idx sub : Nat} {data : List Byte} (via : Via)
    (hq : ¬ (canonIdx idx = 0x9100 ∧ sub = 0x0A)) (ho : ¬ (canonIdx idx = 0x6000 ∧ sub = 0x08)) (hp : canonIdx idx ≠ 0xF000)
    (hn : n.writeNode m idx sub (n.instOf m idx sub) (ofLE data) data = none)
    (hb : n.writeBlock m idx sub (n.instOf m idx sub) (ofLE data) data = none) :
    n.writeDo m via idx sub data = (n.store_ m idx sub (n.instOf m idx sub) (ofLE data), false) := by
  unfold Node.writeDo
  dsimp only
  rw [if_neg hq, if_neg ho, if_neg hp, hn, hb]

/-- Settles O10: the value is stored, and a kept object counts as an uncommitted write. -/
theorem plainWritesStore : Obligations.PlainWritesStore := by
  intro s dt m idx sub data u i ht hpl hop hn hb
  let k := u.stored idx.toNat sub.toNat i (ofLE data)
  obtain ⟨hv, hs, he, hst, hkk⟩ := u.stored_leaves idx.toNat sub.toNat i (ofLE data)
  obtain ⟨hs', he', -, -⟩ := k.keptHook_leaves idx.toNat sub.toNat
  have h6 : ¬ (canonIdx idx.toNat = 0x6000 ∧ sub.toNat = 0x08) := fun h =>
    hop ⟨BitVec.eq_of_toNat_eq (idx_of_canonIdx_6000 h.1), BitVec.eq_of_toNat_eq h.2⟩
  have hd : u.writeDo m .direct idx.toNat sub.toNat data = (k.keptHook idx.toNat sub.toNat, false) := by
    rw [Node.writeDo_store _ (fun h => plain_apart hpl h.1) h6 (fun h => plain_apart hpl h) hn hb, Node.store_plain _ m hpl]
  have hne : key i idx.toNat sub.toNat ∉ [key 0 0x1020 0x06] := by
    rw [List.mem_singleton, key_inj idx.isLt sub.isLt (by decide) (by decide)]
    exact fun h => plain_apart hpl (congrArg canonIdx h.2.1)
  refine ⟨_, askWrite_accepted ht.1 ht.2 (fun h => plain_apart hpl (congrArg canonIdx h.1)) (fun h => ?_)
    (fun h => plain_apart hpl (congrArg canonIdx h.1)) (fun h => plain_apart hpl h.1) hd (by rw [he', he]; rfl), done_emit ..,
    ⟨rfl, rfl⟩, (hs' _ hne).trans hv, hs.append hs', fun hk hj => Node.keptHook_uncommitted ((hkk _).trans hk) (hst ▸ hj)⟩
  rw [privVat_of_plain hpl] at h
  exact absurd h.1 (by decide)

end Sys2Proof.Machine
end

section
/-!
SUPPORT. Data ports: claim, release, offset, open and bursts (R92 to R96).
-/
namespace Sys2Proof.Machine

/-! ## The form of a command -/

theorem canonIdx_portIdx {p : Nat} (h : p < 16) : canonIdx (portIdx p) = 0xF000 := by
  unfold canonIdx portIdx
  rw [if_neg (by omega), if_neg (by omega), if_neg (by omega), if_neg (by omega), if_pos (by omega)]

theorem privVat_portIdx (p : Nat) : privVat (portIdx p) = none := if_neg (by unfold portIdx; omega)

theorem portIdx_sub (p : Nat) : portIdx p - 0xF000 = p := Nat.add_sub_cancel_left ..

/-- The subindices of a data port hold objects of their own. -/
theorem Node.o_portIdx_set (n : Node) (p v : Nat) {sub jub : Nat} (h : sub ≠ jub) :
    (n.set (portIdx p) jub v).o (portIdx p) sub = n.o (portIdx p) sub := n.oi_setI_sub 0 (portIdx p) v h

/-- An accepted write of a data port's object is what `portWrite` does, then the reply 0x0000. -/
theorem answers_portWrite {i : Instr} {s : State} {dt : Nat} {m : Master} {p : Fin 16} {sub : Nat} {data : List Byte} {v : Nat}
    {P : State → Prop} {k : Node} (he : exec i s = askWrite dt m (portIdx p) sub data s) (h4 : sub ≠ 0x04 ∧ sub ≠ 0x0A)
    (hv : ofLE data = v) (ht : Takes s dt m (portIdx p) sub data) (hd : (s.at_ dt).portWrite m p sub v = k)
    (hc : k.eng = (s.at_ dt).eng) (h : P { s with node := k.emit (.reply m 0 []) }) : Answers i s P := by
  have hw : (s.at_ dt).writeDo m .direct (portIdx p) sub data = (k, false) := by
    unfold Node.writeDo
    dsimp only
    rw [canonIdx_portIdx p.isLt, if_neg (by omega), if_neg (by omega), if_pos rfl, portIdx_sub, hv, hd]
  refine ⟨_, he.trans (askWrite_accepted ht.1 ht.2 (fun e => ?_) (fun e => ?_) (fun e => ?_) (fun e => h4.1 e.2) hw (by rw [hc]; rfl)), h⟩
  · unfold portIdx at e; omega
  · rw [privVat_portIdx] at e
    exact absurd e.1 (by decide)
  · unfold portIdx at e; omega

@[simp] theorem Node.emit_port (n : Node) (o : Out) (p : Nat) : (n.emit o).port p = n.port p := rfl
@[simp] theorem Node.set_port (n : Node) (idx sub v p : Nat) : (n.set idx sub v).port p = n.port p := rfl

/-! ## What each write leaves (R92 to R97) -/

/-- A port that is released: what is moved is given up; nothing was moved in CLAIMED. -/
theorem Node.portRelease_leaves (n : Node) (p : Nat) :
    ((n.portRelease p).port p).state = (if (n.port p).state = .opened ∨ (n.port p).state = .hold then .abandoned else .idle)
      ∧ ((n.portRelease p).port p).buf = [] ∧ (n.portRelease p).od = n.od ∧ (n.portRelease p).eng = n.eng := by
  unfold Node.portRelease
  dsimp only
  rw [Node.port_setPort_self]
  refine ⟨?_, rfl, rfl, rfl⟩
  simp only [Bool.or_eq_true, beq_iff_eq]

/-- An offset: in HOLD it is the present position, and the transfer goes on from it. -/
theorem Node.offsetApply_leaves (n : Node) (p v : Nat) :
    (n.offsetApply p v).o (portIdx p) 0x02 = v
      ∧ ((n.offsetApply p v).port p).state = (if (n.port p).state = .hold then .opened else (n.port p).state)
      ∧ (n.offsetApply p v).eng = n.eng := by
  unfold Node.offsetApply
  dsimp only
  split
  · exact ⟨(Node.o_portIdx_set _ p 0 (by decide)).trans (Node.o_set_self ..), by rw [Node.set_port, Node.port_setPort_self], rfl⟩
  · exact ⟨Node.o_set_self .., by rw [Node.port_setPort_self], rfl⟩

/-- A transfer that is opened. -/
theorem Node.openApply_leaves (n : Node) (m : Master) (p len : Nat) :
    (n.openApply m p len).o (portIdx p) 0x03 = len ∧ (n.openApply m p len).o (portIdx p) 0x06 = 0
      ∧ ((n.openApply m p len).port p).state = .opened ∧ ((n.openApply m p len).port p).holder = some m
      ∧ (n.openApply m p len).eng = n.eng := by
  unfold Node.openApply
  dsimp only
  rw [Node.port_setPort_self]
  exact ⟨(Node.o_portIdx_set _ p 0 (by decide)).trans (Node.o_set_self ..), Node.o_set_self .., rfl, rfl, rfl⟩

/-! ## Bursts (R94, R95, R98) -/

/-- A burst that is moved is the holder's. -/
theorem Node.portForeign_of_burstCode {n : Node} {m : Master} {p len : Nat} {w b : Bool} (h : n.burstCode m p w b len = 0) :
    n.portForeign m p = false := by
  cases hf : n.portForeign m p with
  | false => rfl
  | true =>
    unfold Node.burstCode at h
    rw [if_pos hf] at h
    exact absurd h (by decide)

/-- The end of a transfer stands with its base. -/
theorem Node.portEnd_setPort (n : Node) {p : Nat} {x : PortSt} (h : x.base = (n.port p).base) :
    (n.setPort p x).portEnd p = n.portEnd p := by
  unfold Node.portEnd
  rw [Node.port_setPort_self, h]
  rfl

/-- R94: a burst of a write is moved into the buffer. -/
theorem Node.burst_write {n : Node} {m : Master} {p : Nat} {bs : List Byte} (h : n.burstCode m p true false bs.length = 0) :
    ∃ k, n.burst m p (some bs) false = (0, [], k) ∧ (k.port p).buf = (n.port p).buf ++ bs
      ∧ k.o (portIdx p) 0x06 = n.o (portIdx p) 0x06 + bs.length
      ∧ (k.port p).state = (if n.portPos p + bs.length = n.portEnd p then .applying else .opened) ∧ k.eng = n.eng := by
  have hf : ¬ n.portForeign m p = true := by simp [Node.portForeign_of_burstCode h]
  have hc : n.burstCode m p (some bs).isSome false bs.length = 0 := h
  unfold Node.burst
  dsimp only
  rw [hc, if_neg hf, if_neg (by simp)]
  refine ⟨_, rfl, ?_⟩
  rw [Node.set_port, Node.port_setPort_self, Node.port_setPort_self]
  refine ⟨rfl, Node.o_set_self .., ?_, rfl⟩
  dsimp only
  rw [Node.portEnd_setPort n (by rfl)]
  simp only [beq_iff_eq]
  rfl

/-- R94: a burst of a read is moved out of the buffer. -/
theorem Node.burst_read {n : Node} {m : Master} {p len : Nat} (hl : min 1408 (n.portEnd p - n.portPos p) = len)
    (h : n.burstCode m p false false len = 0) :
    ∃ k, n.burst m p none false = (0, slice (n.port p).buf (n.portPos p - (n.port p).base) len, k)
      ∧ k.out = n.out ∧ k.eng = n.eng := by
  have hf : ¬ n.portForeign m p = true := by simp [Node.portForeign_of_burstCode h]
  have hc : n.burstCode m p (none : Option (List Byte)).isSome false len = 0 := h
  unfold Node.burst
  dsimp only
  rw [hl, hc, if_neg hf, if_neg (by simp)]
  exact ⟨_, rfl, rfl, rfl⟩

/-! ## The commands -/

section
variable {s : State} {dt : Nat} {m : Master} {p : Fin 16}

/-- An accepted claim (R92). -/
theorem dataPortClaim_claims {target : BitVec 32} (h0 : target ≠ 0) (ht : Takes s dt m (portIdx p) 0x01 (toLE 4 target.toNat)) :
    Answers (.dataPortClaim dt m p target) s fun t => Done m t ∧ Rests s t ∧ t.node.portTarget p = target.toNat
      ∧ (t.node.port p).state = .claimed ∧ (t.node.port p).holder = some m ∧ (t.node.port p).buf = []
      ∧ SameObjects s.node t.node [key 0 (portIdx p) 0x01] := by
  have h1 : target.toNat ≠ 0 := fun e => h0 (BitVec.eq_of_toNat_eq e)
  refine answers_portWrite rfl (by decide) (ofLE_toLE_bv 4 target (by decide)) ht (if_neg h1) rfl ?_
  rw [Node.emit_port, Node.port_setPort_self]
  exact ⟨done_emit .., ⟨rfl, rfl⟩, Node.o_set_self .., rfl, rfl, rfl, (SameObjects.refl s.node _).setI (by simp)⟩

/-- An accepted release (R96, R97). -/
theorem dataPortRelease_releases (ht : Takes s dt m (portIdx p) 0x01 (zeros 4)) :
    Answers (.dataPortRelease dt m p) s fun t => Done m t ∧ Rests s t ∧ t.node.portTarget p = 0
      ∧ (t.node.port p).state =
        (if ((s.at_ dt).port p).state = .opened ∨ ((s.at_ dt).port p).state = .hold then .abandoned else .idle)
      ∧ (t.node.port p).buf = [] := by
  obtain ⟨hst, hbuf, hod, heng⟩ := ((s.at_ dt).set (portIdx p) 0x01 0).portRelease_leaves p
  refine answers_portWrite rfl (by decide) rfl ht (if_pos rfl) heng ?_
  refine ⟨done_emit .., ⟨rfl, rfl⟩, ?_, hst, hbuf⟩
  exact (congrArg (odGet · _) hod).trans (Node.o_set_self ..)

/-- An accepted offset (R95). -/
theorem dataPortSetOffset_sets {off : BitVec 64} (ht : Takes s dt m (portIdx p) 0x02 (toLE 8 off.toNat)) :
    Answers (.dataPortSetOffset dt m p off) s fun t => Done m t ∧ Rests s t ∧ t.node.o (portIdx p) 0x02 = off.toNat
      ∧ (t.node.port p).state = (if ((s.at_ dt).port p).state = .hold then .opened else ((s.at_ dt).port p).state) := by
  obtain ⟨ho, hst, heng⟩ := (s.at_ dt).offsetApply_leaves p off.toNat
  exact answers_portWrite rfl (by decide) (ofLE_toLE_bv 8 off (by decide)) ht rfl heng
    ⟨done_emit .., ⟨rfl, rfl⟩, ho, hst⟩

/-- An accepted opening (R93). -/
theorem dataPortOpen_opens {len : BitVec 64} (ht : Takes s dt m (portIdx p) 0x03 (toLE 8 len.toNat)) :
    Answers (.dataPortOpen dt m p len) s fun t => Done m t ∧ Rests s t ∧ t.node.o (portIdx p) 0x03 = len.toNat
      ∧ t.node.o (portIdx p) 0x06 = 0 ∧ (t.node.port p).state = .opened ∧ (t.node.port p).holder = some m := by
  obtain ⟨h3, h6, hst, hh, heng⟩ := (s.at_ dt).openApply_leaves m p len.toNat
  exact answers_portWrite rfl (by decide) (ofLE_toLE_bv 8 len (by decide)) ht rfl heng
    ⟨done_emit .., ⟨rfl, rfl⟩, h3, h6, hst, hh⟩

/-- An access of .04 that passes the common checks is a burst of the port. -/
theorem Node.writeOne_port {n : Node} {bs : List Byte} (h : n.writeJudge m (portIdx p) 0x04 bs = 0) (busy : Bool) :
    n.writeOne m .direct (portIdx p) 0x04 bs busy = ((n.burst m p (some bs) busy).1, (n.burst m p (some bs) busy).2.2, false) := by
  unfold Node.writeOne
  dsimp only
  rw [if_neg (by simp [h]), if_pos ⟨canonIdx_portIdx p.isLt, rfl⟩, portIdx_sub]

theorem Node.readOne_port {n : Node} (h : n.readCode m (portIdx p) 0x04 = 0) (busy : Bool) :
    n.readOne m (portIdx p) 0x04 busy = n.burst m p none busy := by
  have hr : n.portReadCode m p 0x04 = 0 := rfl
  unfold Node.readOne
  dsimp only
  rw [canonIdx_portIdx p.isLt, portIdx_sub, if_pos rfl, h, hr, if_neg (by decide), if_pos ⟨rfl, rfl⟩]

/-- An accepted burst of a write (R94). -/
theorem dataPortBurst_writes {bs : List Byte} (ht : Takes s dt m (portIdx p) 0x04 bs)
    (hb : (s.at_ dt).burstCode m p true false bs.length = 0) :
    Answers (.dataPortBurst dt m p (some bs) false) s fun t => Done m t ∧ Rests s t
      ∧ (t.node.port p).buf = ((s.at_ dt).port p).buf ++ bs
      ∧ t.node.o (portIdx p) 0x06 = (s.at_ dt).o (portIdx p) 0x06 + bs.length
      ∧ (t.node.port p).state =
        (if (s.at_ dt).portPos p + bs.length = (s.at_ dt).portEnd p then .applying else .opened) := by
  obtain ⟨k, e, hbuf, h6, hst, heng⟩ := Node.burst_write hb
  have hs : (s.at_ dt).serveWrite m .direct (portIdx p) 0x04 bs false = k.emit (.reply m 0 []) := by
    unfold Node.serveWrite
    rw [if_neg (fun h => absurd h.2.1 (by decide)), if_neg (fun h => absurd h.2.2.1 (by decide)),
      if_neg (fun h => absurd h.2.1 (by decide)), Node.writeOne_port ht.2, e]
    rfl
  exact ⟨_, actDone_when (c := (Node.asks · m)) (f := fun n => n.serveWrite m .direct (portIdx p) 0x04 bs false) ht.1 hs
    (by rw [Node.emit_eng, heng]; rfl), done_emit .., ⟨rfl, rfl⟩, hbuf, h6, hst⟩

/-- An accepted burst of a read (R94). -/
theorem dataPortBurst_reads {len : Nat} (hl : min 1408 ((s.at_ dt).portEnd p - (s.at_ dt).portPos p) = len)
    (ha : (s.at_ dt).asks m = true) (hc : (s.at_ dt).readCode m (portIdx p) 0x04 = 0)
    (hb : (s.at_ dt).burstCode m p false false len = 0) :
    Answers (.dataPortBurst dt m p none false) s fun t => Rests s t ∧ t.node.out =
      [.reply m 0 (slice ((s.at_ dt).port p).buf ((s.at_ dt).portPos p - ((s.at_ dt).port p).base) len)] := by
  obtain ⟨k, e, hout, heng⟩ := Node.burst_read hl hb
  refine ⟨_, askRead_eq ha ((Node.readOne_port hc false).trans e) (by rw [heng]; rfl), ⟨rfl, rfl⟩, ?_⟩
  exact congrArg (· ++ [_]) hout

end

end Sys2Proof.Machine
end

section
/-!
SUPPORT. Data ports: the end of applying, and the hold timeout (R97, R98, Table 4-13).
-/
namespace Sys2Proof.Machine

/-! ## The ports stay while a DOMAIN is written -/

/-- What every step of a fold leaves, the fold leaves. -/
theorem foldl_keeps {α β γ : Type} {g : β → γ} {f : β → α → β} (hf : ∀ b a, g (f b a) = g b) (l : List α) (b : β) :
    g (l.foldl f b) = g b :=
  l.foldlRecOn (motive := fun c => g c = g b) f rfl fun c hc a _ => (hf c a).trans hc

theorem ite_ports {m a b : Node} {c : Prop} [Decidable c] (ha : a.ports = m.ports) (hb : b.ports = m.ports) :
    (if c then a else b).ports = m.ports := by
  split
  · exact ha
  · exact hb

theorem Node.privChanged_leaves (n : Node) (m : Master) (idx sub : Nat) :
    (n.privChanged m idx sub).ports = n.ports ∧ (n.privChanged m idx sub).dom = n.dom := by
  unfold Node.privChanged
  split
  · split
    · exact ⟨rfl, rfl⟩
    · obtain ⟨vs, e⟩ := Node.irq_eq _ _ 7
      rw [e]
      exact ⟨rfl, rfl⟩
  · exact ⟨rfl, rfl⟩

theorem Node.putRecord_ports (n : Node) (p : Nat) (r : List Byte) : (n.putRecord p r).ports = n.ports := by
  unfold Node.putRecord
  refine ite_ports rfl ?_
  dsimp only
  rw [Node.setPt_ports]
  exact foldl_keeps (g := Node.ports) (fun _ _ => Node.setI_ports ..) ..

theorem Node.putRecords_ports (n : Node) (p : Nat) (bs : List Byte) (k : Nat) : (n.putRecords p bs k).ports = n.ports := by
  induction k generalizing n p bs with
  | zero => rfl
  | succ k ih => rw [Node.putRecords, ih, Node.putRecord_ports]

theorem Node.appendLog_ports (n : Node) (reg type master : Nat) (digest info : List Byte) :
    (n.appendLog reg type master digest info).ports = n.ports := by
  unfold Node.appendLog
  extract_lets c e full logged
  have h : logged.ports = n.ports := Node.setCin_ports ..
  exact ite_ports ((Node.fault_ports ..).trans h) h

theorem Node.takeCopy_ports (n : Node) (r : UmbReq) : (n.takeCopy r).2.ports = n.ports := by
  unfold Node.takeCopy
  dsimp only
  split
  · rfl
  · rfl

theorem Node.imageApplied_ports (n : Node) : n.imageApplied.ports = n.ports := by
  unfold Node.imageApplied
  dsimp only
  refine foldl_keeps (g := fun a : List UmbReq × Node => a.2.ports) (fun a r => ?_) ..
  split
  · exact a.2.takeCopy_ports r
  · rfl

theorem Node.setCrankState_ports (n : Node) (d st : Nat) : (n.setCrankState d st).ports = n.ports := by
  unfold Node.setCrankState Node.dropAngles
  dsimp only
  rw [Node.setI_ports]
  exact ite_ports (foldl_keeps (g := Node.ports) (fun _ _ => ite_ports (Node.setDyn_ports ..) rfl) ..) rfl

theorem Node.crankConfigWritten_ports (n : Node) (d : Nat) : (n.crankConfigWritten d).ports = n.ports :=
  (foldl_keeps (g := Node.ports) (fun k e => ite_ports (ite_ports (k.setCrankState_ports e 1) rfl) (ite_ports rfl (k.setCrankState_ports e 0))) ..).trans
    (ite_ports rfl (n.setCrankState_ports d 1))

/-- R97: no data port changes while a DOMAIN takes its range. -/
theorem Node.domApply_ports (n : Node) (m : Master) (idx sub i off : Nat) (bs : List Byte) :
    (n.domApply m idx sub i off bs).ports = n.ports := by
  unfold Node.domApply
  dsimp only
  rw [(Node.privChanged_leaves ..).1, (Node.keptHook_leaves ..).2.2.2]
  refine ite_ports (n.putRecords_ports ..) (ite_ports rfl (ite_ports ?_ (ite_ports rfl (ite_ports ?_ (ite_ports ?_ rfl)))))
  · exact Node.appendLog_ports ..
  · exact Node.imageApplied_ports _
  · exact Node.crankConfigWritten_ports ..

/-! ## The DOMAIN that an applied transfer stores -/

theorem Node.domI_setDomI_self (n : Node) (i idx sub : Nat) (bs : List Byte) : (n.setDomI i idx sub bs).domI i idx sub = bs := by
  unfold Node.domI Node.setDomI
  dsimp only
  split
  · next h => rw [mapGet_mapErase_self, h]
  · exact mapGet_mapPut_self ..

/-- R97: a DOMAIN of a plain index holds the whole range. -/
theorem Node.domApply_plain (n : Node) (m : Master) {idx : Nat} (h : plainIdx idx = true) (sub i off : Nat) (bs : List Byte) :
    (n.domApply m idx sub i off bs).domI i idx sub = n.domSpliced idx sub i off bs := by
  have hne {a : Nat} (ha : canonIdx a = a ∧ plainIdx a = false) : idx ≠ a := fun e =>
    plain_apart h ((congrArg canonIdx e).trans ha.1) ha
  have hd : (n.domApply m idx sub i off bs).dom = (n.setDomI i idx sub (n.domSpliced idx sub i off bs)).dom := by
    unfold Node.domApply
    dsimp only
    rw [(Node.privChanged_leaves ..).2, (Node.keptHook_leaves ..).2.2.1, if_neg (hne (by decide)), if_neg (hne (by decide)),
      if_neg (hne (by decide)), if_neg (hne (by decide)), if_neg fun e => hne (by decide) e.1, if_neg fun e => hne (by decide) e.1]
  exact (congrArg (mapGet · (key i idx sub) []) hd).trans (n.domI_setDomI_self ..)

/-! ## The commands -/

/-- R97: the write judged again, as it applies. -/
def Node.applyCode (n : Node) (p : Nat) (m : Master) : Nat :=
  firstFail [n.targetCode m (n.portTarget p) (n.port p).inst,
    n.domApplyCode (targetIdx (n.portTarget p)) (targetSub (n.portTarget p)) (n.port p).inst (n.port p).base (n.port p).buf]

section
variable {n : Node} {p : Nat} {m : Master} (hh : (n.port p).holder = some m) (ha : (n.port p).state = .applying)
include hh ha

/-- R98: a transfer that a check refuses is abandoned. -/
theorem Node.portApply_refused (hc : n.applyCode p m ≠ 0) : n.portApply p =
    n.setPort p { n.port p with state := .abandoned, buf := [], lastAbort := n.applyCode p m } := by
  unfold Node.portApply
  dsimp only
  rw [hh]
  dsimp only
  rw [if_neg (not_not_intro ha)]
  exact if_pos hc

/-- R97: a transfer that no check refuses is written as one change. -/
theorem Node.portApply_accepted (hc : n.applyCode p m = 0) : n.portApply p =
    (n.setPort p { n.port p with state := .done, buf := [] }).domApply m (targetIdx (n.portTarget p))
      (targetSub (n.portTarget p)) (n.port p).inst (n.port p).base (n.port p).buf := by
  unfold Node.portApply
  dsimp only
  rw [hh]
  dsimp only
  rw [if_neg (not_not_intro ha)]
  exact if_neg (not_not_intro hc)

end

section
variable {s : State} {dt : Nat} {p : Fin 16} (hup : s.node.up = true)
include hup

/-- The end of applying (R97, R98). -/
theorem dataPortApplyDone_applies {m : Master} (hh : ((s.at_ dt).port p).holder = some m)
    (ha : ((s.at_ dt).port p).state = .applying) :
    Answers (.dataPortApplyDone dt p) s fun r => Rests s r
      ∧ ((s.at_ dt).applyCode p m = 0 → (r.node.port p).state = .done ∧ (r.node.port p).buf = [])
      ∧ ((s.at_ dt).applyCode p m = 0 → plainIdx (targetIdx ((s.at_ dt).portTarget p)) = true →
        r.node.domI ((s.at_ dt).port p).inst (targetIdx ((s.at_ dt).portTarget p)) (targetSub ((s.at_ dt).portTarget p)) =
          (s.at_ dt).domSpliced (targetIdx ((s.at_ dt).portTarget p)) (targetSub ((s.at_ dt).portTarget p))
            ((s.at_ dt).port p).inst ((s.at_ dt).port p).base ((s.at_ dt).port p).buf)
      ∧ ((s.at_ dt).applyCode p m ≠ 0 → (r.node.port p).state = .abandoned
        ∧ (r.node.port p).lastAbort = (s.at_ dt).applyCode p m ∧ r.node.dom = s.node.dom) := by
  refine ⟨_, act_whenUp hup, ⟨rfl, rfl⟩, fun hc => ?_, fun hc hpl => ?_, fun hc => ?_⟩
  · dsimp only
    rw [Node.portApply_accepted hh ha hc, Node.port, Node.domApply_ports]
    exact ⟨congrArg PortSt.state (Node.port_setPort_self ..), congrArg PortSt.buf (Node.port_setPort_self ..)⟩
  · dsimp only
    rw [Node.portApply_accepted hh ha hc, Node.domApply_plain _ m hpl]
    rfl
  · dsimp only
    rw [Node.portApply_refused hh ha hc, Node.port_setPort_self]
    exact ⟨rfl, rfl, rfl⟩

/-- The hold timeout (Table 4-13). -/
theorem dataPortHoldTimeout_ends
    (hs : ((s.at_ dt).port p).state = .claimed ∨ ((s.at_ dt).port p).state = .opened ∨ ((s.at_ dt).port p).state = .hold)
    (ht : ((s.at_ dt).port p).lastAccess + (s.at_ dt).o (portIdx p) 0x07 * 1000000000 ≤ (s.at_ dt).now) :
    Answers (.dataPortHoldTimeout dt p) s fun r => Rests s r ∧ r.node.od = s.node.od
      ∧ (r.node.port p).state = (if ((s.at_ dt).port p).state = .claimed then .idle else .abandoned) := by
  have e : (s.at_ dt).portTimeout p = (s.at_ dt).portRelease p := if_pos ⟨by simpa using hs, ht⟩
  obtain ⟨hst, -, hod, -⟩ := (s.at_ dt).portRelease_leaves p
  refine ⟨_, act_whenUp hup, ⟨rfl, rfl⟩, ?_, ?_⟩
  · dsimp only
    rw [e]
    exact hod
  · dsimp only
    rw [e, hst]
    rcases hs with h | h | h
    · simp [h]
    · simp [h]
    · simp [h]

end

/-- Settles O21: each write of a port's object, its bursts, and the ends of a transfer. -/
theorem dataPortsAct : Obligations.DataPortsAct :=
  ⟨fun _ _ _ _ => ⟨fun _ => dataPortClaim_claims, dataPortRelease_releases, fun _ => dataPortSetOffset_sets,
      fun _ => dataPortOpen_opens, fun _ => dataPortBurst_writes, dataPortBurst_reads rfl⟩,
    fun _ _ _ hup => ⟨fun _ => dataPortApplyDone_applies hup, dataPortHoldTimeout_ends hup⟩⟩

end Sys2Proof.Machine
end

section
/-!
SUPPORT. The local port's transactions (R100 to R103).
-/
namespace Sys2Proof.Machine

/-! ## A request frame (Tables 4-16, 10-7) -/

theorem crcBit_lt {c : Nat} (h : c < 2 ^ 32) : crcBit c < 2 ^ 32 := by
  unfold crcBit
  split
  · exact Nat.xor_lt_two_pow (by omega) (by decide)
  · omega

theorem crcByte_lt {c : Nat} (h : c < 2 ^ 32) (b : Byte) : crcByte c b < 2 ^ 32 := by
  have hx : c ^^^ b.toNat < 2 ^ 32 := Nat.xor_lt_two_pow h (Nat.lt_trans b.isLt (by decide))
  unfold crcByte
  iterate 8 apply crcBit_lt
  exact hx

/-- A CRC-32 takes four bytes. -/
theorem crc32_lt (bs : List Byte) : crc32 bs < 2 ^ 32 :=
  Nat.xor_lt_two_pow (bs.foldlRecOn (motive := (· < 2 ^ 32)) crcByte (by decide) fun _ h b _ => crcByte_lt h b) (by decide)

/-- Table 4-16: the frame of a read request, up to its CRC. -/
def readFrame (tag : Byte) (idx : BitVec 16) (sub : Byte) : List Byte := [tag, 1] ++ toLE 2 idx.toNat ++ [sub, 0, 0, 0]

/-- A frame of a read in good order: its length fits, its CRC is right, and it carries no value. -/
theorem readFrame_fields (tag : Byte) (idx : BitVec 16) (sub : Byte) :
    let f := readFrame tag idx sub ++ toLE 4 (crc32 (1 :: readFrame tag idx sub))
    f.length = 12 ∧ fieldLE f 6 2 = 0 ∧ f.take 8 = readFrame tag idx sub ∧ fieldLE f 8 4 = crc32 (1 :: readFrame tag idx sub)
      ∧ fieldLE f 0 1 = tag.toNat ∧ fieldLE f 1 1 = 1 ∧ slice f 8 0 = [] := by
  refine ⟨rfl, rfl, rfl, ?_, ?_, rfl, rfl⟩
  · exact ofLE_toLE (k := 4) (crc32_lt _)
  · simp [fieldLE, slice, readFrame]

/-! ## Reading leaves the port alone -/

/-- The local port is as it was, and no descriptor more has completed. -/
def Node.LeavesPort (n k : Node) : Prop := k.lp = n.lp ∧ k.eng = n.eng

namespace Node.LeavesPort
variable {n : Node} {c : Prop} [Decidable c]

theorem ite {a b : Node} (ha : n.LeavesPort a) (hb : n.LeavesPort b) : n.LeavesPort (if c then a else b) := by
  split
  · exact ha
  · exact hb

/-- The same of the answers of the operations that read. -/
theorem answer_ite {a b : Nat × List Byte × Node} (ha : n.LeavesPort a.2.2) (hb : n.LeavesPort b.2.2) :
    n.LeavesPort (if c then a else b).2.2 := by
  split
  · exact ha
  · exact hb

end Node.LeavesPort

theorem Node.countRefusal_leavesPort (n : Node) (idx sub code : Nat) : n.LeavesPort (n.countRefusal idx sub code) :=
  .ite ⟨rfl, rfl⟩ (.ite ⟨rfl, rfl⟩ ⟨rfl, rfl⟩)

theorem Node.burst_leavesPort (n : Node) (m : Master) (p : Nat) (data : Option (List Byte)) (busy : Bool) :
    n.LeavesPort (n.burst m p data busy).2.2 := by
  unfold Node.burst
  extract_lets x len code judged
  exact .answer_ite ⟨rfl, rfl⟩ (.answer_ite (.ite ⟨rfl, rfl⟩ ⟨rfl, rfl⟩) ⟨rfl, rfl⟩)

theorem Node.portTouched_leavesPort (n : Node) (m : Master) (p sub : Nat) : n.LeavesPort (n.portTouched m p sub) :=
  .ite ⟨rfl, rfl⟩ ⟨rfl, rfl⟩

/-- No read changes the local port's queues, and none completes a descriptor. -/
theorem Node.readOne_leavesPort (n : Node) (m : Master) (idx sub : Nat) (busy : Bool) :
    n.LeavesPort (n.readOne m idx sub busy).2.2 := by
  unfold Node.readOne
  dsimp only
  refine .answer_ite (n.countRefusal_leavesPort ..) (.answer_ite (n.burst_leavesPort ..) (.answer_ite ⟨rfl, rfl⟩ ?_))
  split
  · exact ⟨rfl, rfl⟩
  · exact .ite (n.portTouched_leavesPort ..) (.ite ⟨rfl, rfl⟩ (.ite ⟨rfl, rfl⟩ ⟨rfl, rfl⟩))

/-! ## The answer of a request -/

/-- A request of the port that is outstanding alone by its number becomes the last ready response. -/
theorem Node.lpRespond_eq {n : Node} {id : Nat} {before : List Nat} (h : n.lp.outstanding = before ++ [id])
    (hf : before.contains id = false) (tag op code : Nat) (data : List Byte) : n.lpRespond id tag op code data =
      { n with lp := { n.lp with outstanding := before, ready := n.lp.ready ++ [lpResponse tag op code data] } } := by
  have hc : n.lp.outstanding.contains id = true := by simp [h]
  have hb : (before ++ [id]).filter (· != id) = before := by
    rw [List.filter_append, List.filter_eq_self.mpr fun a ha => ?_]
    · simp
    · rw [bne_iff_ne]
      rintro rfl
      simp [ha] at hf
  unfold Node.lpRespond
  rw [if_pos hc, h, hb]

/-- A read that the port serves. -/
theorem Node.serveRead_lp {n : Node} {id : Nat} {before : List Nat} (h : n.lp.outstanding = before ++ [id])
    (hf : before.contains id = false) (tag idx sub : Nat) :
    let k := n.serveRead .localPort (.lp id tag 1) idx sub false
    k.lp.outstanding = before ∧ k.eng = n.eng ∧ ∃ code data, k.lp.ready = n.lp.ready ++ [lpResponse tag 1 code data] := by
  obtain ⟨hlp, heng⟩ := n.readOne_leavesPort .localPort idx sub false
  have e : n.serveRead .localPort (.lp id tag 1) idx sub false = _ :=
    Node.lpRespond_eq (n := (n.readOne .localPort idx sub false).2.2) ((congrArg LpSt.outstanding hlp).trans h) hf tag 1 _ _
  dsimp only
  rw [e]
  exact ⟨rfl, heng, _, _, congrArg (fun (x : LpSt) => x.ready ++ [_]) hlp⟩

/-! ## The transactions -/

section
variable {s : State} {dt : Nat} (hup : s.node.up = true) (hon : s.node.lp.on = true)
include hup hon

/-- A transaction of an enabled port. -/
theorem act_lpDo (f : Node → Node) : (act dt s fun n => n.lpDo f) = .next { s with node := f (s.at_ dt) } :=
  act_when (c := fun n => n.up && n.lp.on) (Bool.and_eq_true_iff.mpr ⟨hup, hon⟩)

theorem actDone_lpDo {f : Node → Node} (hd : (f (s.at_ dt)).eng.done = []) :
    (actDone dt s fun n => n.lpDo f) = .next { s with node := f (s.at_ dt) } :=
  actDone_when (c := fun n => n.up && n.lp.on) (Bool.and_eq_true_iff.mpr ⟨hup, hon⟩) rfl hd

/-- A frame of another length than its header says (R101, R102). -/
theorem request_badLength {frame : List Byte} (h : frame.length ≠ 12 + fieldLE frame 6 2) :
    Answers (.request dt frame) s fun t => Rests s t ∧ t.node.lp = { (s.at_ dt).lp with crcErr := true }
      ∧ t.node.o 0x3600 0x02 = min ((s.at_ dt).o 0x3600 0x02 + 1) (2 ^ 32 - 1) := by
  have e : (s.at_ dt).lpRequest frame =
      ({ s.at_ dt with lp := { (s.at_ dt).lp with crcErr := true } } : Node).incSat 0x3600 0x02 := if_pos (.inl h)
  refine ⟨_, actDone_lpDo hup hon (by rw [e]; rfl), ⟨rfl, rfl⟩, ?_⟩
  rw [e]
  exact ⟨rfl, Node.oi_incSatI_self ..⟩

/-- A read request in good order (R101). -/
theorem request_read {tag : Byte} {idx : BitVec 16} {sub : Byte} (hk : (s.at_ dt).mode.keeperReset = none)
    (hfree : (s.at_ dt).lpFree ≠ 0) (hid : (s.at_ dt).lp.outstanding.contains (s.at_ dt).lp.serial = false) :
    Answers (.request dt (readFrame tag idx sub ++ toLE 4 (crc32 (1 :: readFrame tag idx sub)))) s fun t => Rests s t
      ∧ t.node.lp.outstanding = (s.at_ dt).lp.outstanding
      ∧ ∃ code data, t.node.lp.ready = (s.at_ dt).lp.ready ++ [lpResponse tag.toNat 1 code data] := by
  obtain ⟨hlen, hval, hbody, hcrc, htag, hop, hdata⟩ := readFrame_fields tag idx sub
  generalize readFrame tag idx sub ++ toLE 4 (crc32 (1 :: readFrame tag idx sub)) = frame at *
  let u := s.at_ dt
  let n : Node := ({ u with lp := { u.lp with serial := u.lp.serial + 1, outstanding := u.lp.outstanding ++ [u.lp.serial] } }
    : Node).incWrap 0x3600 0x04
  have e : u.lpRequest frame =
      n.serveRead .localPort (.lp u.lp.serial tag.toNat 1) (fieldLE frame 2 2) (fieldLE frame 4 1) false := by
    unfold Node.lpRequest
    dsimp only
    rw [hval, hbody, hcrc, htag, hop, hdata, if_neg (by simp [hlen]; rfl), if_neg (by simp [u, hk]), if_neg hfree]
    rfl
  obtain ⟨hout, heng, hready⟩ := Node.serveRead_lp (n := n) rfl hid tag.toNat (fieldLE frame 2 2) (fieldLE frame 4 1)
  refine ⟨_, actDone_lpDo hup hon (by rw [e, heng]; rfl), ⟨rfl, rfl⟩, ?_⟩
  rw [e]
  exact ⟨hout, hready⟩

/-- The oldest response that is ready (R100). -/
theorem response_next {r : List Byte} {rest : List (List Byte)} (h : (s.at_ dt).lp.ready = r :: rest) :
    Answers (.response dt) s fun t => Rests s t ∧ t.node.out = [.spi r] ∧ t.node.lp.ready = rest := by
  refine ⟨_, act_lpDo hup hon _, ⟨rfl, rfl⟩, ?_⟩
  have hu : (((s.at_ dt).emit (.spi r)).up && ((s.at_ dt).emit (.spi r)).lp.on) = true := Bool.and_eq_true_iff.mpr ⟨hup, hon⟩
  simp only [h]
  rw [Node.lpDo, if_pos hu]
  exact ⟨rfl, rfl⟩

/-- With no response ready the port sends zeros (R100). -/
theorem response_none (h : (s.at_ dt).lp.ready = []) :
    Answers (.response dt) s fun t => Rests s t ∧ t.node.out = [.spi (zeros 8)] ∧ t.node.lp = (s.at_ dt).lp := by
  refine ⟨_, act_lpDo hup hon _, ⟨rfl, rfl⟩, ?_⟩
  simp only [h]
  exact ⟨rfl, rfl⟩

end

/-- Settles O22: each transaction while the port is enabled. -/
theorem localPortCommandsAct : Obligations.LocalPortCommandsAct := fun _ _ hup hon =>
  ⟨fun _ _ _ hk hfree hid => request_read hup hon hk hfree hid, fun _ h => request_badLength hup hon h,
    ⟨_, act_lpDo hup hon _, ⟨rfl, rfl⟩, rfl, rfl⟩, fun _ _ h => response_next hup hon h, fun h => response_none hup hon h,
    ⟨_, act_lpDo hup hon _, ⟨rfl, rfl⟩, rfl, rfl, rfl⟩⟩

end Sys2Proof.Machine
end

section
/-!
SUPPORT. Applying a configuration description (R104, R105).
-/
namespace Sys2Proof.Machine

/-- The text that apply reads: the staged one, or with nothing staged the stored one (log 99). -/
def Node.cezelText (n : Node) : List Byte := if n.domI 1 0x1030 0x01 = [] then n.store.stored else n.domI 1 0x1030 0x01

/-- What apply reports: the code in .03 and the line in .04, and no other object changes. -/
theorem Node.applyResult_leaves (n : Node) (code line : Nat) :
    (n.applyResult code line).o 0x1030 0x03 = code ∧ (n.applyResult code line).o 0x1030 0x04 = line
      ∧ SameObjects n (n.applyResult code line) [key 0 0x1030 0x03, key 0 0x1030 0x04] :=
  ⟨(Node.oi_setI_sub _ 0 0x1030 line (by decide)).trans (Node.o_set_self ..), Node.o_set_self ..,
    ((SameObjects.refl n _).setI (by simp)).setI (by simp)⟩

/-- R436: the log of commissioning events is no object, nor is it in the store. -/
theorem Node.commissionEvent_leaves (n : Node) (type master : Nat) (data info : List Byte) :
    (n.commissionEvent type master data info).od = n.od ∧ (n.commissionEvent type master data info).store = n.store := by
  unfold Node.commissionEvent Node.extend Node.appendLog
  dsimp only
  split
  · exact ⟨rfl, rfl⟩
  · exact ⟨rfl, rfl⟩

section
variable {n : Node} {m : Master}

/-! ## The three ends of apply -/

theorem Node.cezelApply_unread {line : Nat} (h : cezParse n.cezelText = .error line) :
    n.cezelApply m = n.applyResult 0x0607 line := by
  unfold Node.cezelText at h
  unfold Node.cezelApply
  dsimp only
  rw [h]

theorem Node.cezelApply_refused {es : List CezEntry} {code line : Nat} (h : cezParse n.cezelText = .ok es)
    (he : n.entriesDo m es = .inl (code, line)) : n.cezelApply m = n.applyResult code line := by
  unfold Node.cezelText at h
  unfold Node.cezelApply
  dsimp only
  rw [h]
  dsimp only
  rw [he]

/-- R105: the node with every entry written, and the result. -/
def Node.applied (k : Node) (m : Master) (text : List Byte) (count : Nat) : Node :=
  (((k.applyResult 0 0).set 0x1030 0x05 count).setStore fun s => { s with applied := some text }).commissionEvent 5
    (masterSource m) text []

theorem Node.cezelApply_applied {es : List CezEntry} {k : Node} (h : cezParse n.cezelText = .ok es)
    (he : n.entriesDo m es = .inr k) : n.cezelApply m = k.applied m n.cezelText es.length := by
  unfold Node.cezelText at h ⊢
  unfold Node.cezelApply
  dsimp only
  rw [h]
  dsimp only
  rw [he]
  rfl

theorem Node.applied_leaves (k : Node) (m : Master) (text : List Byte) (count : Nat) :
    (k.applied m text count).o 0x1030 0x03 = 0 ∧ (k.applied m text count).o 0x1030 0x04 = 0
      ∧ (k.applied m text count).o 0x1030 0x05 = count ∧ (k.applied m text count).store.applied = some text := by
  obtain ⟨hod, hst⟩ := Node.commissionEvent_leaves
    (((k.applyResult 0 0).set 0x1030 0x05 count).setStore fun s => { s with applied := some text }) 5 (masterSource m) text []
  obtain ⟨h3, h4, -⟩ := k.applyResult_leaves 0 0
  have ho (sub : Nat) : (k.applied m text count).o 0x1030 sub = ((k.applyResult 0 0).set 0x1030 0x05 count).o 0x1030 sub :=
    congrArg (odGet · _) hod
  rw [ho, ho, ho]
  exact ⟨(Node.oi_setI_sub _ 0 0x1030 count (by decide)).trans h3, (Node.oi_setI_sub _ 0 0x1030 count (by decide)).trans h4,
    Node.o_set_self .., congrArg StoreSt.applied hst⟩

end

/-! ## The command -/

section
variable {s : State} {dt : Nat} {m : Master} (ht : Takes s dt m 0x1030 0x02 [1])
include ht

/-- An accepted apply, with the completions that its entries bring. -/
theorem apply_settles {k : Node} (hk : (s.at_ dt).cezelApply m = k) :
    exec (.apply dt m 1) s = .next (settle { s with node := k.emit (.reply m 0 []) }) := by
  have hw : (s.at_ dt).serveWrite m .direct 0x1030 0x02 [1] false = k.emit (.reply m 0 []) := by
    unfold Node.serveWrite
    rw [if_pos ⟨rfl, rfl, ht.2⟩, hk]
    rfl
  have e : (s.node.begin dt).when ((s.node.begin dt).asks m) (fun n => n.serveWrite m .direct 0x1030 0x02 [1] false) = _ :=
    (Node.when_true ht.1).trans hw
  change actDone dt s (fun n => n.when (n.asks m) fun n => n.serveWrite m .direct 0x1030 0x02 [1] false) = _
  rw [actDone, e]

/-- An apply that writes no entry: its result alone. -/
theorem apply_reports {code line : Nat} (hk : (s.at_ dt).cezelApply m = (s.at_ dt).applyResult code line) :
    Answers (.apply dt m 1) s fun t => Done m t ∧ Rests s t ∧ t.node.o 0x1030 0x03 = code ∧ t.node.o 0x1030 0x04 = line
      ∧ SameObjects s.node t.node [key 0 0x1030 0x03, key 0 0x1030 0x04] := by
  obtain ⟨h3, h4, hs⟩ := (s.at_ dt).applyResult_leaves code line
  refine ⟨_, (apply_settles ht hk).trans (congrArg _ (settle_of_done rfl)), done_emit .., ⟨rfl, rfl⟩, h3, h4, hs⟩

/-- An apply that writes every entry. -/
theorem apply_applies {es : List CezEntry} {k : Node} (h : cezParse (s.at_ dt).cezelText = .ok es)
    (he : (s.at_ dt).entriesDo m es = .inr k) :
    Answers (.apply dt m 1) s fun t => Done m t ∧ t.node.o 0x1030 0x03 = 0 ∧ t.node.o 0x1030 0x04 = 0
      ∧ t.node.o 0x1030 0x05 = es.length ∧ t.node.store.applied = some (s.at_ dt).cezelText := by
  obtain ⟨h3, h4, h5, hst⟩ := k.applied_leaves m (s.at_ dt).cezelText es.length
  have ho (n : Node) (sub : Nat) (hsub : sub < 256) : (settle { s with node := n }).node.o 0x1030 sub = n.o 0x1030 sub :=
    settle_oi _ hsub (by decide) (by decide) (by decide) (by decide)
  refine ⟨_, apply_settles ht (Node.cezelApply_applied h he), settle_done .., ?_⟩
  rw [ho _ _ (by decide), ho _ _ (by decide), ho _ _ (by decide), settle_store]
  exact ⟨h3, h4, h5, hst⟩

end

/-- Settles O23: each end of apply. -/
theorem cezelApplies : Obligations.CezelApplies := fun _ _ _ ht =>
  ⟨fun _ h => apply_reports ht (Node.cezelApply_unread h), fun _ _ _ h he => apply_reports ht (Node.cezelApply_refused h he),
    fun _ _ h he => apply_applies ht h he⟩

end Sys2Proof.Machine
end

section
/-!
SUPPORT. The DRAM of the vats keeps its canonical form (R110, R111): one lemma for each form of a meaning, and every
command has one of these forms.
-/
namespace Sys2Proof.Machine

/-- The state that an outcome goes on with has its DRAM in canonical form. -/
def KeepsDram (o : Host.Outcome State Fault Refusal) : Prop := ∀ t, o = .next t → t.Inv

theorem keepsDram_next {t : State} (h : memWf t.vmem = true) : KeepsDram (.next t) := by
  rintro _ ⟨⟩
  exact h

section forms
variable {s : State} (h : s.Inv)
include h

/-- A command that stores nothing. -/
theorem keepsDram_node (n : Node) : KeepsDram (.next { s with node := n }) := keepsDram_next h

/-- A command that may complete descriptors stores their completions. -/
theorem keepsDram_settle (n : Node) : KeepsDram (.next (settle { s with node := n })) := keepsDram_next (settle_memWf h)

/-- A command that carries the stores of a vat's core. -/
theorem keepsDram_stores (n : Node) (ws : List (Nat × Byte)) :
    KeepsDram (.next { s with node := n, vmem := memWriteAll s.vmem ws }) := keepsDram_next (memWf_memWriteAll h _)

/-- A grant stores what the engine delivers, and the completions. -/
theorem keepsDram_storesSettle (n : Node) (ws : List (Nat × Byte)) :
    KeepsDram (.next (settle { s with node := n, vmem := memWriteAll s.vmem ws })) :=
  keepsDram_next (settle_memWf (memWf_memWriteAll h _))

/-- A start stores into empty DRAM. -/
theorem keepsDram_actStart (dt : Nat) (due : Node → Bool) (f : Node → Node) (start : Node → Node × List (Nat × Byte)) :
    KeepsDram (actStart dt s due f start) := by
  unfold actStart
  dsimp only
  split
  · exact keepsDram_next (settle_memWf (memWf_memWriteAll memWf_nil _))
  · exact keepsDram_settle h _

end forms

/-- Every command keeps DRAM in canonical form: the four commands that a start may follow, the four that carry the stores
of a core, the engines' grants, the requests of a master and the events that may complete descriptors, and the rest,
which leave DRAM alone. -/
theorem exec_keepsDram {s : State} (h : s.Inv) (c : Instr) : KeepsDram (exec c s) := by
  cases c with
  | lineValid =>
    unfold exec execLineValid
    exact keepsDram_actStart h _ _ _ _
  | lineLossSequenceEnd =>
    unfold exec execLineLossSequenceEnd
    exact keepsDram_actStart h _ _ _ _
  | nodeResetRelease =>
    unfold exec execNodeResetRelease
    exact keepsDram_actStart h _ _ _ _
  | loaderRetry =>
    unfold exec execLoaderRetry
    exact keepsDram_actStart h _ _ _ _
  | timerInterrupt | interruptClaim | interruptComplete | doorbellWrite => exact keepsDram_stores h _ _
  | engineGrant => exact keepsDram_storesSettle h _ _
  | enterCommission | requestActive | plannedHandoverToTwin | commandSafe | nodeResetCommand | keeperResetCommand
  | vatResetCommand | lakeResetCommand | dynamicLakeResetCommand | ringPortResetCommand | pciePortResetCommand
  | canResetCommand | serialPortResetCommand | rtcShift | rtcSetTime | timeStampCapture | registerWrite | commit
  | commissioningReset | discard | dataPortClaim | dataPortRelease | dataPortSetOffset | dataPortOpen | apply
  | queueEnable | queueDisable | declare | takeOut | test | returnToService | integratorReset | compareEntriesWrite
  | ackPoint | ackGroup | ackArea | silence | shelve | unshelve | outOfService | inService | offer | accept | reject
  | take | attended | unattended | answer | esOn | esReset | esOff | rearm | cancelScheduled | transmit
  | bypassForceClose | bypassRelease | snapshotMarkerCommand | snapshotScheduledCommand | clone | adopt | prepareRemoval
  | keep | forget | query | sleep | wake | recover | updateRequest | railCommand | clearLatch | raise | clearNodeCapture
  | clearVatCapture | isolationRelease | kindRuleWrite | overrideCountWrite | extend | quoteRequest | tagPageWrite
  | odRead | receive | counterClear | pointConfigWrite | groupRelease | annunciatorRelease => exact keepsDram_settle h _
  | roleDecision | roleDecisionWaitExpiry | lineLossDetected | nresetInLow | keeperLockstepMismatch | keeperServingAgain
  | keeperResetHandover | odInformation | dataPortBurst | request | frameClose | ringFrameReceived | dictionaryRequest
  | close | closeContinuation | command | commandReplyTimeout | handover | replayDone | ownInRise | takeover
  | forceHoldEnd | forceInRise | archiveReadDone | canFrameReceived | canError | canFrameSent | initRead | initWrite
  | info | segment | abort | faultMessage | twinLinkLaneLost | twinDetNChange => exact keepsDram_settle h _
  | _ => exact keepsDram_node h _

/-- Settles O5: a step idles, or runs the command at the front of the queue on the same DRAM. -/
theorem stepKeepsInv : Obligations.StepKeepsInv := by
  intro s t h e
  cases hq : s.pending with
  | nil =>
    rw [emptyQueuesIdle s hq] at e
    exact keepsDram_next h t e
  | cons c rest =>
    rw [stepTakesTheFront c rest s hq] at e
    exact exec_keepsDram (s := { s with pending := rest }) h c t e

end Sys2Proof.Machine
end

section
/-!
SUPPORT. The source that a claim takes (R113): of the sources that are pending, enabled and above the threshold, the one
that comes before all others.
-/
namespace Sys2Proof.Machine

/-- Source `a` comes before source `b`, or is `b`: higher priority, then lower number. -/
def Precedes (x : VatSt) (a b : Nat) : Prop := prioOf x b < prioOf x a ∨ (prioOf x b = prioOf x a ∧ a ≤ b)

theorem Precedes.refl (x : VatSt) (a : Nat) : Precedes x a a := .inr ⟨rfl, le_refl a⟩

theorem Precedes.trans {x : VatSt} {a b c : Nat} (h : Precedes x a b) (g : Precedes x b c) : Precedes x a c := by
  unfold Precedes at *
  omega

/-- The better of two sources is one of them, and comes before both. -/
theorem betterSource_spec (x : VatSt) (a b : Nat) : (betterSource x a b = a ∨ betterSource x a b = b) ∧
    Precedes x (betterSource x a b) a ∧ Precedes x (betterSource x a b) b := by
  unfold betterSource
  split
  · next h => exact ⟨.inr rfl, by unfold Precedes; omega, .refl x b⟩
  · next h => exact ⟨.inl rfl, .refl x a, by unfold Precedes; omega⟩

/-- What is picked in turn from several numbers is one of them. -/
theorem foldl_pick_mem {f : Nat → Nat → Nat} (hf : ∀ a b, f a b = a ∨ f a b = b) (l : List Nat) (a : Nat) :
    l.foldl f a ∈ a :: l := by
  induction l generalizing a with
  | nil => exact List.mem_cons_self
  | cons b l ih =>
    rw [List.foldl_cons]
    rcases List.mem_cons.mp (ih (f a b)) with h | h
    · rw [h]; simpa using (hf a b).imp_right Or.inl
    · exact List.mem_cons_of_mem _ (List.mem_cons_of_mem _ h)

/-- The best of several sources comes before all of them. -/
theorem foldl_betterSource_precedes (x : VatSt) (l : List Nat) (a : Nat) :
    ∀ i ∈ a :: l, Precedes x (l.foldl (betterSource x) a) i := by
  induction l generalizing a with
  | nil => simpa using Precedes.refl x a
  | cons b l ih =>
    obtain ⟨-, ha, hb⟩ := betterSource_spec x a b
    have hfirst := ih (betterSource x a b) _ List.mem_cons_self
    intro i hi
    rw [List.foldl_cons]
    simp only [List.mem_cons] at hi
    rcases hi with rfl | rfl | hi
    · exact hfirst.trans ha
    · exact hfirst.trans hb
    · exact ih _ i (List.mem_cons_of_mem _ hi)

/-- The sources that a context may claim. -/
def readySources (x : VatSt) (c : IrqContext) : List Nat :=
  x.pend.filter fun s => enabledIn x c s && decide (threshOf x c < prioOf x s)

theorem mem_readySources {x : VatSt} {c : IrqContext} {i : Nat} :
    i ∈ readySources x c ↔ i ∈ x.pend ∧ enabledIn x c i = true ∧ threshOf x c < prioOf x i := by
  simp [readySources]

/-- A claim takes 0 where no source is ready, and otherwise a ready source that comes before all of them. -/
theorem claimSource_cases (x : VatSt) (c : IrqContext) : (readySources x c = [] ∧ claimSource x c = 0) ∨
    (claimSource x c ∈ readySources x c ∧ ∀ i ∈ readySources x c, Precedes x (claimSource x c) i) := by
  cases hr : readySources x c with
  | nil => exact .inl ⟨rfl, by rw [claimSource, show x.pend.filter _ = [] from hr]⟩
  | cons s rest =>
    have e : claimSource x c = rest.foldl (betterSource x) s := by rw [claimSource, show x.pend.filter _ = s :: rest from hr]
    rw [e]
    exact .inr ⟨foldl_pick_mem (fun a b => (betterSource_spec x a b).1) rest s, foldl_betterSource_precedes x rest s⟩

/-- Settles O25: 0 is never pending, so a claim takes 0 in the first case of `claimSource_cases` only. -/
theorem claimsTakeTheHighestPriority : Obligations.ClaimsTakeTheHighestPriority := by
  intro x c h0 ready
  rcases claimSource_cases x c with ⟨hnone, hz⟩ | ⟨hmem, hbest⟩
  · have hno : ∀ i, ¬ ready i := fun i hi => by simpa [hnone] using mem_readySources.mpr hi
    exact ⟨⟨fun _ => hno, fun _ => hz⟩, fun h => absurd hz h⟩
  · have hr : ready (claimSource x c) := mem_readySources.mp hmem
    have hne : claimSource x c ≠ 0 := fun h => h0 (h ▸ hr.1)
    exact ⟨⟨fun h => absurd h hne, fun h => absurd hr (h _)⟩, fun _ => ⟨hr, fun i hi => by
      have hp := hbest i (mem_readySources.mpr hi)
      unfold Precedes at hp
      omega⟩⟩

end Sys2Proof.Machine
end

section
/-!
SUPPORT. Where the stores of a vat's core reach (R110, R111): a store of several bytes is judged as a whole against the
allotment, and neither a store to a window nor a refused access moves the allotment.
-/
namespace Sys2Proof.Machine

/-- The model's address `a` lies in an allotment of `mib` MiB of vat `v`. -/
def InAllotment (v mib a : Nat) : Prop := vatAddr v 0x80000000 ≤ a ∧ a < vatAddr v (0x80000000 + mib * 2 ^ 20)

/-- The bytes of a store go to the addresses from its first one on. -/
theorem mem_vatStores {v a : Nat} {bs : List Byte} {w : Nat × Byte} (h : w ∈ vatStores v a bs) :
    vatAddr v a ≤ w.1 ∧ w.1 < vatAddr v (a + bs.length) := by
  induction bs generalizing a with
  | nil => simp [vatStores] at h
  | cons b bs ih =>
    rw [List.length_cons]
    rcases List.mem_cons.mp h with rfl | h
    · simp only [vatAddr]; omega
    · have := ih h
      simp only [vatAddr] at *; omega

/-- What an engine or a core may store lies in the allotment. -/
theorem vatStores_inAllotment {n : Node} {v a : Nat} {bs : List Byte} (h : n.inAllot v a bs.length = true) :
    ∀ w ∈ vatStores v a bs, InAllotment v (n.vat v).allotMiB w.1 := by
  intro w hw
  have hr := mem_vatStores hw
  simp only [Node.inAllot, Bool.and_eq_true, decide_eq_true_eq] at h
  simp only [InAllotment, vatAddr] at *
  omega

/-- `n'` comes of `n`, and vat `v` has the same allotment. -/
def Node.SameAllot (v : Nat) (n n' : Node) : Prop := (n'.vat v).allotMiB = (n.vat v).allotMiB

theorem Node.sameAllot_setVat (n : Node) {v : Nat} {x : VatSt} (h : x.allotMiB = (n.vat v).allotMiB) :
    n.SameAllot v (n.setVat v x) := by
  rw [Node.SameAllot, Node.vat_setVat_self, h]

theorem Node.SameAllot.ite {v : Nat} {n a b : Node} {p : Prop} [Decidable p] (h : n.SameAllot v a) (g : n.SameAllot v b) :
    n.SameAllot v (if p then a else b) := by
  split <;> assumption

/-- A store to the control window or the interrupt controller writes the vat's registers there, or nothing. -/
theorem Node.sameAllot_windowStore (n : Node) (v : Nat) (st : VatStore) : n.SameAllot v (n.windowStore v st) :=
  have set {x : VatSt} (h : x.allotMiB = (n.vat v).allotMiB) : n.SameAllot v (n.setVat v x) := n.sameAllot_setVat h
  .ite (set rfl) (.ite (.ite (set rfl) rfl) (.ite (set rfl) (.ite (set rfl)
    (.ite (.ite (set rfl) rfl) (.ite (set rfl) (.ite (set rfl) rfl))))))

/-- A refused access is kept at the vat and reported. -/
theorem Node.sameAllot_coreFault (n : Node) (v a access : Nat) : n.SameAllot v (n.coreFault v a access) :=
  n.sameAllot_setVat (x := { n.vat v with accessFault := some (a, access) }) rfl

/-- The stores of a core that reach DRAM lie in its allotment. -/
theorem Node.vatStoresAll_inAllotment (n : Node) (v : Nat) (stores : List VatStore) :
    ∀ w ∈ (n.vatStoresAll v stores).2, InAllotment v (n.vat v).allotMiB w.1 := by
  induction stores generalizing n with
  | nil => simp [Node.vatStoresAll]
  | cons st rest ih =>
    intro w hw
    rw [Node.vatStoresAll] at hw
    rcases List.mem_append.mp hw with hw | hw
    · split at hw
      · next h => exact vatStores_inAllotment (by rwa [toLE_length]) w hw
      · cases hw
    · have hr := ih _ w hw
      rwa [show n.SameAllot v _ from .ite (.ite (n.sameAllot_windowStore v st) rfl) (n.sameAllot_coreFault v _ 1)] at hr

/-- The form of the four commands that carry a core's stores: these take place, and the command then acts. -/
def vatCommand (dt v : Nat) (stores : List VatStore) (s : State) (g : Node → Node) : Host.Outcome State Fault Refusal :=
  actMem dt s fun _ n => if n.vatRuns v then (g (n.vatStoresAll v stores).1, (n.vatStoresAll v stores).2) else (n, [])

/-- The timers of vat `v` whose time has come become pending. -/
def Node.timersFire (n : Node) (v : Nat) : Node :=
  n.setVat v { n.vat v with
    mtip := (n.vat v).mtip || decide ((n.vat v).mtimecmp ≤ n.vatTime v)
    stip := (n.vat v).stip || decide ((n.vat v).stimecmp ≤ n.vatTime v) }

section commands
variable (s : State) (dt : Nat) (v : Fin 16) (stores : List VatStore)

theorem exec_timerInterrupt : exec (.timerInterrupt dt v stores) s = vatCommand dt v stores s (·.timersFire v) := by rfl

theorem exec_interruptClaim (ctx : IrqContext) :
    exec (.interruptClaim dt v ctx stores) s = vatCommand dt v stores s (·.claimIrq v ctx) := by rfl

theorem exec_interruptComplete (ctx : IrqContext) (src : Byte) :
    exec (.interruptComplete dt v ctx src stores) s =
      vatCommand dt v stores s fun n => n.when (enabledIn (n.vat v) ctx src.toNat) (·.completeIrq v src.toNat) := by rfl

theorem exec_doorbellWrite (slot : Fin 8192) (value : BitVec 32) :
    exec (.doorbellWrite dt v slot value stores) s =
      vatCommand dt v stores s fun n =>
        if slot.val < (n.vat v).countQ then n.doorbell v ((n.vat v).firstQ + slot.val) value.toNat else n := by
  rfl

end commands

/-- Such a command leaves alone what lies outside the vat's allotment. -/
theorem vatCommand_leaves {s t : State} {dt v : Nat} {stores : List VatStore} {g : Node → Node}
    (h : nextOf (vatCommand dt v stores s g) = some t) {a : Nat} (ha : ¬ InAllotment v (s.node.vat v).allotMiB a) :
    memRead t.vmem a = memRead s.vmem a := by
  obtain rfl := Option.some.inj h
  refine memRead_memWriteAll_other fun w hw e => ha ?_
  dsimp only at hw
  split at hw
  · exact e ▸ (s.node.begin dt).vatStoresAll_inAllotment v stores w hw
  · cases hw

/-- Settles O26: each of the four commands has the form of `vatCommand`. -/
theorem vatStoresStayInTheirAllotment : Obligations.VatStoresStayInTheirAllotment := by
  rintro s t dt v stores _ (rfl | ⟨ctx, rfl⟩ | ⟨ctx, src, rfl⟩ | ⟨slot, value, rfl⟩) h a ha
  · rw [exec_timerInterrupt] at h
    exact vatCommand_leaves h ha
  · rw [exec_interruptClaim] at h
    exact vatCommand_leaves h ha
  · rw [exec_interruptComplete] at h
    exact vatCommand_leaves h ha
  · rw [exec_doorbellWrite] at h
    exact vatCommand_leaves h ha

end Sys2Proof.Machine
end

section
/-!
SUPPORT. The vats' commands (R108, R109, R113, R117, R118, R125): access faults, timers, claims and completions, restart,
and doorbells.
-/
namespace Sys2Proof.Machine

/-! ## The forms -/

/-- A core that runs and made no store: the command acts. -/
theorem vatCommand_runs {s : State} {dt v : Nat} (h : s.node.vatRuns v = true) (g : Node → Node) :
    vatCommand dt v [] s g = .next { s with node := g (s.at_ dt) } := by
  have hu : (s.node.begin dt).vatRuns v = true := h
  simp only [vatCommand, actMem, hu, if_true, Node.vatStoresAll]
  rfl

/-- Such a command answers the node that it leaves, with queue and DRAM as they were. -/
theorem answers_vatCommand {i : Instr} {s : State} {dt v : Nat} {g : Node → Node} {P : State → Prop}
    (hr : s.node.vatRuns v = true) (he : exec i s = vatCommand dt v [] s g) {k : Node} (hk : g (s.at_ dt) = k)
    (h : P { s with node := k }) : Answers i s fun t => Rests s t ∧ P t :=
  ⟨_, he.trans (vatCommand_runs hr g), ⟨rfl, rfl⟩, hk ▸ h⟩

theorem exec_vatAccessFault (s : State) (dt : Nat) (v : Fin 16) (addr : BitVec 64) (kind : AccessKind) :
    exec (.vatAccessFault dt v addr kind) s = act dt s fun n =>
      n.when (n.vatRuns v && !n.vatMayAccess v addr.toNat (kind == .write || kind == .atomic))
        (·.coreFault v addr.toNat (accessCode kind)) := by rfl

theorem exec_vatRestart (s : State) (dt : Nat) (v : Fin 16) :
    exec (.vatRestart dt v) s = act dt s fun n => n.whenUp (·.restartVat v) := by rfl

/-! ## Access faults (R109) -/

theorem Node.coreFault_vat (n : Node) (v a access : Nat) :
    (n.coreFault v a access).vat v = { n.vat v with accessFault := some (a, access) } := Node.vat_setVat_self ..

theorem vatAccessFault_reports {s : State} {dt : Nat} {v : Fin 16} (hr : s.node.vatRuns v = true) {addr : BitVec 64}
    {kind : AccessKind} (hm : (s.at_ dt).vatMayAccess v addr.toNat (kind == .write || kind == .atomic) = false) :
    Answers (.vatAccessFault dt v addr kind) s fun t => Rests s t ∧ t.node.od = s.node.od
      ∧ (t.node.vat v).accessFault = some (addr.toNat, accessCode kind)
      ∧ t.node.ver = ((s.at_ dt).raiseMsg ⟨faultWord (0x010 + v) 0x20 v (accessCode kind) (addr.toNat % 2 ^ 32), addr.toNat, 1, v,
          accessCode kind⟩).ver := by
  refine ⟨_, (exec_vatAccessFault s dt v addr kind).trans (act_when ?_), ⟨rfl, rfl⟩, rfl, ?_, rfl⟩
  · have hu : (s.at_ dt).vatRuns v = true := hr
    simp only [hu, hm, Bool.not_false, Bool.and_self]
  · exact congrArg VatSt.accessFault (Node.coreFault_vat ..)

/-! ## Claims and completions (R113) -/

/-- A source that is neither pending nor claimed becomes pending. -/
theorem Node.irq_new {n : Node} {v i : Nat} (h0 : i ≠ 0) (hc : i ∉ (n.vat v).claimed) (hp : i ∉ (n.vat v).pend) :
    n.irq v i = n.setVat v { n.vat v with pend := (n.vat v).pend ++ [i] } := by
  simp only [Node.irq, h0, hc, hp, or_self, if_false]

theorem Node.irq_od (n : Node) (v i : Nat) : (n.irq v i).od = n.od := by
  obtain ⟨vs, e⟩ := n.irq_eq v i
  rw [e]

/-- A source raised changes what is pending, and nothing else of any vat. -/
theorem Node.irq_vat (n : Node) (v i w : Nat) : ∃ p, (n.irq v i).vat w = { n.vat w with pend := p } := by
  unfold Node.irq
  dsimp only
  split
  · exact ⟨(n.vat w).pend, rfl⟩
  · by_cases hw : w = v
    · rw [hw, Node.vat_setVat_self]; exact ⟨_, rfl⟩
    · rw [Node.vat_setVat_ne n v _ hw]; exact ⟨(n.vat w).pend, rfl⟩

/-- Whose a queue is depends on the vats' shares of the queues only. -/
theorem Node.queueOwner_setVat (n : Node) {v : Nat} {x : VatSt} (he : x.enabled = (n.vat v).enabled)
    (hf : x.firstQ = (n.vat v).firstQ) (hc : x.countQ = (n.vat v).countQ) (q : Nat) :
    (n.setVat v x).queueOwner q = n.queueOwner q := by
  have same (w : Nat) : ((n.setVat v x).vat w).enabled = (n.vat w).enabled ∧ ((n.setVat v x).vat w).firstQ = (n.vat w).firstQ
      ∧ ((n.setVat v x).vat w).countQ = (n.vat w).countQ := by
    by_cases hw : w = v
    · rw [hw, Node.vat_setVat_self]; exact ⟨he, hf, hc⟩
    · rw [Node.vat_setVat_ne n v x hw]; exact ⟨rfl, rfl, rfl⟩
  unfold Node.queueOwner
  simp only [same]

theorem Node.causeHolds_setVat (n : Node) {v : Nat} {x : VatSt} (he : x.enabled = (n.vat v).enabled)
    (hf : x.firstQ = (n.vat v).firstQ) (hc : x.countQ = (n.vat v).countQ) (w i : Nat) :
    (n.setVat v x).causeHolds w i = n.causeHolds w i := by
  unfold Node.causeHolds
  simp only [n.queueOwner_setVat he hf hc, Node.setVat_oi, Node.setVat_o, Node.setVat_queues]

theorem Node.claimIrq_spec (n : Node) (v : Nat) (c : IrqContext) :
    (n.claimIrq v c).od = n.od ∧ (n.claimIrq v c).out = n.out ++ [.claim v (claimSource (n.vat v) c)] ∧
    (claimSource (n.vat v) c ≠ 0 → claimSource (n.vat v) c ∉ ((n.claimIrq v c).vat v).pend
      ∧ claimSource (n.vat v) c ∈ ((n.claimIrq v c).vat v).claimed) := by
  unfold Node.claimIrq
  extract_lets x i sent
  by_cases h : i = 0
  · rw [if_pos h]
    exact ⟨rfl, rfl, fun hn => absurd h hn⟩
  · rw [if_neg h, Node.vat_setVat_self]
    exact ⟨rfl, rfl, fun _ => ⟨by simp [i, x], by simp [i, x]⟩⟩

/-- The node with source `i` of vat `v` claimed no more. -/
def Node.unclaimed (n : Node) (v i : Nat) : Node :=
  n.setVat v { n.vat v with claimed := (n.vat v).claimed.filter (· != i) }

theorem Node.completeIrq_eq {n : Node} {v i : Nat} (h : i ∈ (n.vat v).claimed) :
    n.completeIrq v i = if n.causeHolds v i then (n.unclaimed v i).irq v i else n.unclaimed v i := by
  have hc : (n.unclaimed v i).causeHolds v i = n.causeHolds v i := by
    unfold Node.unclaimed
    exact n.causeHolds_setVat (by rfl) (by rfl) (by rfl) v i
  simp only [Node.completeIrq, if_pos h, ← hc]
  rfl

theorem Node.completeIrq_spec {n : Node} {v i : Nat} (h : i ∈ (n.vat v).claimed) (hp : i ∉ (n.vat v).pend) (h0 : i ≠ 0) :
    (n.completeIrq v i).od = n.od ∧ i ∉ ((n.completeIrq v i).vat v).claimed
      ∧ (i ∈ ((n.completeIrq v i).vat v).pend ↔ n.causeHolds v i = true) := by
  have hx : (n.unclaimed v i).vat v = { n.vat v with claimed := (n.vat v).claimed.filter (· != i) } := by
    rw [Node.unclaimed, Node.vat_setVat_self]
  have hn : i ∉ ((n.unclaimed v i).vat v).claimed := by simp [hx]
  have hm : i ∉ ((n.unclaimed v i).vat v).pend := by simpa [hx] using hp
  rw [Node.completeIrq_eq h]
  by_cases hc : n.causeHolds v i = true
  · rw [if_pos hc, Node.irq_new h0 hn hm, Node.vat_setVat_self]
    exact ⟨rfl, hn, by simp [hc]⟩
  · rw [if_neg hc]
    exact ⟨rfl, hn, by simp [hc, hm]⟩

/-! ## Restart (R125) -/

/-- A vat that leaves its reset starts at 0x8000_0000 in M mode, held while VATS is stopped; what WAKE raises is pending. -/
theorem Node.restartVat_spec {n : Node} {v : Nat} (h3 : n.oi v 0x9000 0x07 = 3) (hb : bit (n.o 0x2200 0x16) v = false)
    (hs : (n.vat v).slot < 2) :
    ((n.restartVat v).vat v).pc = 0x80000000 ∧ ((n.restartVat v).vat v).priv = 3
      ∧ ((n.restartVat v).vat v).held = bit (n.o 0x1010 0x04) 7
      ∧ (n.restartVat v).od = (n.setI v 0x9000 0x07 (if bit (n.o 0x1010 0x04) 7 then 4 else 2)).od := by
  unfold Node.restartVat
  rw [if_pos ⟨h3, by simp [hb], hs⟩]
  extract_lets halted x held freed
  have hv : freed.vat v = { n.vat v with held := halted, pc := 0x80000000, priv := 3 } := Node.vat_setVat_self ..
  have ho : freed.od = (n.setI v 0x9000 0x07 (if halted then 4 else 2)).od := rfl
  clear_value freed
  split
  · obtain ⟨p, hp⟩ := freed.irq_vat v 1 v
    rw [hp, hv, Node.irq_od]
    exact ⟨rfl, rfl, rfl, ho⟩
  · rw [hv]
    exact ⟨rfl, rfl, rfl, ho⟩

theorem vatRestart_restarts {s : State} {dt : Nat} {v : Fin 16} (hup : s.node.up = true) (h3 : s.node.oi v 0x9000 0x07 = 3)
    (hb : bit (s.node.o 0x2200 0x16) v = false) (hs : (s.node.vat v).slot < 2) :
    Answers (.vatRestart dt v) s fun t => Rests s t ∧ (t.node.vat v).pc = 0x80000000 ∧ (t.node.vat v).priv = 3
      ∧ (t.node.vat v).held = bit (s.node.o 0x1010 0x04) 7
      ∧ t.node.oi v 0x9000 0x07 = (if bit (s.node.o 0x1010 0x04) 7 then 4 else 2)
      ∧ SameObjects s.node t.node [key v 0x9000 0x07] := by
  obtain ⟨hpc, hpriv, hheld, hod⟩ := Node.restartVat_spec (n := s.at_ dt) (v := v) h3 hb hs
  refine ⟨_, (exec_vatRestart s dt v).trans (act_whenUp hup), ⟨rfl, rfl⟩, hpc, hpriv, hheld, ?_, fun k hk => ?_⟩
  · dsimp only
    rw [Node.oi, hod]
    exact Node.oi_setI_self ..
  · dsimp only
    rw [hod]
    exact (SameObjects.refl s.node _).setI List.mem_cons_self k hk

/-! ## Doorbells (R117, R118) -/

/-- R418: a message of a vat's block names that vat. -/
theorem Node.fault_ver_of_vat {m n : Node} (h : n.ver = m.ver) {v : Nat} (hv : v < 16) (kind detail addr : Nat) :
    (n.fault (0x010 + v) kind detail addr).ver = (m.fault (0x010 + v) kind detail addr).ver := by
  have hs : 0x010 ≤ 0x010 + v ∧ 0x010 + v < 0x020 := by omega
  unfold Node.fault Node.raiseMsg
  dsimp only
  rw [if_pos hs, if_pos hs, h]

/-- R118: the queue stops in ERROR, which source 6 and a message tell. -/
theorem Node.queueError_spec (n : Node) {v : Nat} (hv : v < 16) (q : Nat) :
    (n.queueError v q).od = (n.setI q 0x9100 0x0B 2).od ∧ (n.queueError v q).raised v 6
      ∧ (n.queueError v q).ver = (n.fault (0x010 + v) 0x21 0 q).ver := by
  obtain ⟨vs, e⟩ := (n.setI q 0x9100 0x0B 2).irq_eq v 6
  refine ⟨?_, (n.setI q 0x9100 0x0B 2).raised_irq v (by decide), Node.fault_ver_of_vat ?_ hv ..⟩
  · exact (n.setI q 0x9100 0x0B 2).irq_od v 6
  · rw [e, Node.setI_ver]

/-- The node with the value that the vat wrote to the doorbell of queue `q`. -/
def Node.rung (n : Node) (q value : Nat) : Node := n.setQueue q { n.queue q with written := value }

theorem Node.rung_written (n : Node) (q value : Nat) : ((n.rung q value).queue q).written = value := by
  rw [Node.rung, Node.queue_setQueue_self]

/-- R117: may the vat move its index of queue `q` to `value`? Of a submission queue it sends no fewer and no more than the
depth, of a delivery queue it takes no more than there is. -/
def Node.IndexMoves (n : Node) (q value : Nat) : Prop :=
  if isSubmission (n.oi q 0x9100 0x03) then
    occupancy (n.pi q) (n.ci q) ≤ occupancy value (n.ci q) ∧ occupancy value (n.ci q) ≤ n.depth q
  else occupancy (n.pi q) value ≤ occupancy (n.pi q) (n.ci q)

theorem Node.indexMoves_submission {n : Node} {q value : Nat} (h : isSubmission (n.oi q 0x9100 0x03) = true) :
    n.IndexMoves q value ↔ occupancy (n.pi q) (n.ci q) ≤ occupancy value (n.ci q) ∧ occupancy value (n.ci q) ≤ n.depth q :=
  iff_of_eq (if_pos h)

theorem Node.indexMoves_delivery {n : Node} {q value : Nat} (h : isSubmission (n.oi q 0x9100 0x03) = false) :
    n.IndexMoves q value ↔ occupancy (n.pi q) value ≤ occupancy (n.pi q) (n.ci q) :=
  iff_of_eq (if_neg (ne_true_of_eq_false h))

/-- The index that the vat moves: PI of a submission queue, CI of a delivery queue. -/
def vatIndex (type : Nat) : Nat := if isSubmission type then 0x0C else 0x0D

theorem Node.doorbell_kept {n : Node} {v q value : Nat} (h : n.oi q 0x9100 0x0B ≠ 1) : n.doorbell v q value = n.rung q value :=
  if_neg h

theorem Node.doorbell_moves {n : Node} {v q value : Nat} (h : n.oi q 0x9100 0x0B = 1) (hm : n.IndexMoves q value) :
    n.doorbell v q value = (n.rung q value).setI q 0x9100 (vatIndex (n.oi q 0x9100 0x03)) value := by
  refine (if_pos h).trans ?_
  cases ht : isSubmission (n.oi q 0x9100 0x03)
  · rw [vatIndex, ht]
    exact (if_neg (ne_true_of_eq_false ht)).trans (if_pos ((Node.indexMoves_delivery ht).mp hm))
  · rw [vatIndex, ht]
    exact (if_pos ht).trans (if_pos ((Node.indexMoves_submission ht).mp hm))

theorem Node.doorbell_stops {n : Node} {v q value : Nat} (h : n.oi q 0x9100 0x0B = 1) (hm : ¬ n.IndexMoves q value) :
    n.doorbell v q value = (n.rung q value).queueError v q := by
  refine (if_pos h).trans ?_
  cases ht : isSubmission (n.oi q 0x9100 0x03)
  · exact (if_neg (ne_true_of_eq_false ht)).trans (if_neg fun g => hm ((Node.indexMoves_delivery ht).mpr g))
  · exact (if_pos ht).trans (if_neg fun g => hm ((Node.indexMoves_submission ht).mpr g))

section doorbells
variable {s : State} {dt : Nat} {v : Fin 16} {slot : Fin 8192} {value : BitVec 32} (hr : s.node.vatRuns v = true)
  (hs : slot.val < ((s.at_ dt).vat v).countQ)
include hr hs

/-- A doorbell of a queue in the vat's block answers what the doorbell leaves. -/
theorem answers_doorbell {P : State → Prop} {k : Node}
    (hk : (s.at_ dt).doorbell v (((s.at_ dt).vat v).firstQ + slot) value.toNat = k) (h : P { s with node := k }) :
    Answers (.doorbellWrite dt v slot value []) s fun t => Rests s t ∧ P t :=
  answers_vatCommand hr (exec_doorbellWrite s dt v [] slot value) ((if_pos hs).trans hk) h

theorem doorbellWrite_moves {q sub : Nat} (hq : ((s.at_ dt).vat v).firstQ + slot = q) (h1 : (s.at_ dt).oi q 0x9100 0x0B = 1)
    (hm : (s.at_ dt).IndexMoves q value.toNat) (hsub : vatIndex ((s.at_ dt).oi q 0x9100 0x03) = sub) :
    Answers (.doorbellWrite dt v slot value []) s fun t => Rests s t ∧ t.node.oi q 0x9100 sub = value.toNat
      ∧ (t.node.queue q).written = value.toNat ∧ SameObjects s.node t.node [key q 0x9100 sub] := by
  subst hq hsub
  refine answers_doorbell hr hs (Node.doorbell_moves h1 hm) ⟨Node.oi_setI_self .., Node.rung_written .., ?_⟩
  exact (SameObjects.refl s.node _).setI List.mem_cons_self

theorem doorbellWrite_stops {q : Nat} (hq : ((s.at_ dt).vat v).firstQ + slot = q) (h1 : (s.at_ dt).oi q 0x9100 0x0B = 1)
    (hm : ¬ (s.at_ dt).IndexMoves q value.toNat) :
    Answers (.doorbellWrite dt v slot value []) s fun t => Rests s t ∧ t.node.oi q 0x9100 0x0B = 2
      ∧ (6 ∈ (t.node.vat v).pend ∨ 6 ∈ (t.node.vat v).claimed) ∧ t.node.ver = ((s.at_ dt).fault (0x010 + v) 0x21 0 q).ver
      ∧ SameObjects s.node t.node [key q 0x9100 0x0B] := by
  subst hq
  obtain ⟨hod, hraised, hver⟩ := ((s.at_ dt).rung _ value.toNat).queueError_spec v.isLt (((s.at_ dt).vat v).firstQ + slot)
  refine answers_doorbell hr hs (Node.doorbell_stops h1 hm) ⟨?_, hraised, hver.trans (Node.fault_ver_of_vat rfl v.isLt ..), ?_⟩
  · dsimp only
    rw [Node.oi, hod]
    exact Node.oi_setI_self ..
  · intro k hk
    dsimp only
    rw [hod]
    exact (SameObjects.refl s.node _).setI List.mem_cons_self k hk

theorem doorbellWrite_kept {q : Nat} (hq : ((s.at_ dt).vat v).firstQ + slot = q) (h1 : (s.at_ dt).oi q 0x9100 0x0B ≠ 1) :
    Answers (.doorbellWrite dt v slot value []) s fun t => Rests s t ∧ t.node.od = s.node.od
      ∧ (t.node.queue q).written = value.toNat := by
  subst hq
  exact answers_doorbell hr hs (Node.doorbell_kept h1) ⟨rfl, Node.rung_written ..⟩

end doorbells

/-! ## The statement -/

/-- Settles O24: a running core's commands, a restart, and the four ends of a doorbell. -/
theorem vatsAct : Obligations.VatsAct := by
  refine ⟨fun s dt v hr => ?_, fun s dt v => vatRestart_restarts, fun s dt v slot value => ?_⟩
  · refine ⟨fun addr kind => vatAccessFault_reports hr, ?_, fun ctx => ?_, fun ctx src he hc hp h0 => ?_⟩
    · exact answers_vatCommand hr (exec_timerInterrupt s dt v []) rfl (Node.vat_setVat_self ..)
    · exact answers_vatCommand hr (exec_interruptClaim s dt v [] ctx) rfl ((s.at_ dt).claimIrq_spec v ctx)
    · exact answers_vatCommand hr (exec_interruptComplete s dt v [] ctx src) (Node.when_true he) (Node.completeIrq_spec hc hp h0)
  · intro u q sends old hr hs
    refine ⟨fun h1 ht hle hd => ?_, fun h1 ht hle => ?_, fun h1 hbad => ?_, doorbellWrite_kept hr hs rfl⟩
    · exact doorbellWrite_moves hr hs rfl h1 ((Node.indexMoves_submission ht).mpr ⟨hle, hd⟩) (if_pos ht)
    · exact doorbellWrite_moves hr hs rfl h1 ((Node.indexMoves_delivery ht).mpr hle) (if_neg (ne_true_of_eq_false ht))
    · refine doorbellWrite_stops hr hs rfl h1 fun hm => ?_
      rcases hbad with ⟨ht, hb⟩ | ⟨ht, hb⟩
      · obtain ⟨hle, hd⟩ := (Node.indexMoves_submission ht).mp hm
        exact hb.elim (Nat.not_lt.mpr hle) (Nat.not_lt.mpr hd)
      · exact Nat.not_lt.mpr ((Node.indexMoves_delivery ht).mp hm) hb

end Sys2Proof.Machine
end

section
/-!
SUPPORT. Enabling and disabling a queue (R124), and the declaration of private objects (R127).
-/
namespace Sys2Proof.Machine

/-! ## A write of a queue's Enable (R124) -/

theorem Node.writeDo_queueEnable (n : Node) (m : Master) (data : List Byte) :
    n.writeDo m .direct 0x9100 0x0A data = n.queueWrite m .direct (n.sel m 0x9100 0x01) (ofLE data == 1) := by rfl

/-- An accepted write of Enable is answered at once, or later by the completions that it waits for. -/
theorem Node.serveWrite_queueEnable {n : Node} {m : Master} {data : List Byte} (hj : n.writeJudge m 0x9100 0x0A data = 0)
    {q : Nat} (hq : n.sel m 0x9100 0x01 = q) {on : Bool} (hon : (ofLE data == 1) = on) {k : Node} {later : Bool}
    (hk : n.queueWrite m .direct q on = (k, later)) :
    n.serveWrite m .direct 0x9100 0x0A data false = if later then k else k.emit (.reply m 0 []) := by
  have hc : ¬ (canonIdx 0x9100 = 0xF000 ∧ 0x0A = 0x04) := by decide
  unfold Node.serveWrite
  rw [if_neg (fun h => absurd h.1 (by decide)), if_neg (fun h => absurd h.1 (by decide)), if_neg (fun h => absurd h.1 (by decide))]
  simp only [Node.writeOne, hj, ne_eq, not_true_eq_false, if_false, hc, Node.writeDo_queueEnable, hq, hon, hk]
  rfl

theorem Node.queueWrite_enable {n : Node} {q : Nat} (h : n.obi q 0x9100 0x0A = false) (m : Master) (via : Via) :
    n.queueWrite m via q true = (n.enableQueue q, false) := by
  simp only [Node.queueWrite, h, if_true, Bool.false_eq_true, if_false]

/-- A queue that is enabled afresh. -/
theorem Node.enableQueue_spec (n : Node) (q : Nat) :
    (n.enableQueue q).oi q 0x9100 0x0A = 1 ∧ ((n.enableQueue q).oi q 0x9100 0x0B = 1 ∨ (n.enableQueue q).oi q 0x9100 0x0B = 3)
      ∧ (n.enableQueue q).oi q 0x9100 0x0C = 0 ∧ (n.enableQueue q).oi q 0x9100 0x0D = 0 ∧ (n.enableQueue q).oi q 0x9100 0x0E = 0
      ∧ ((n.enableQueue q).queue q).fetched = 0 := by
  have other {k : Node} {sub jub v : Nat} (h : jub ≠ sub) : (k.setI q 0x9100 sub v).oi q 0x9100 jub = k.oi q 0x9100 jub :=
    k.oi_setI_sub q 0x9100 v h
  unfold Node.enableQueue
  refine ⟨?_, ?_, ?_, ?_, ?_, ?_⟩
  · rw [Node.setQueue_oi, other (by decide), other (by decide), other (by decide), other (by decide), Node.oi_setI_self]
  · rw [Node.setQueue_oi, other (by decide), other (by decide), other (by decide), Node.oi_setI_self]
    split
    · exact .inr rfl
    · exact .inl rfl
  · rw [Node.setQueue_oi, other (by decide), other (by decide), Node.oi_setI_self]
  · rw [Node.setQueue_oi, other (by decide), Node.oi_setI_self]
  · rw [Node.setQueue_oi, Node.oi_setI_self]
  · rw [Node.queue_setQueue_self]

/-- A queue that is disabled: what waited is gone, what is in flight stays. -/
theorem Node.disableQueue_spec (n : Node) (q : Nat) :
    (n.disableQueue q).oi q 0x9100 0x0A = 0 ∧ (n.disableQueue q).oi q 0x9100 0x0B = 0
      ∧ (n.disableQueue q).queue q = { n.queue q with wait := [], fill := [], dropped := false } := by
  unfold Node.disableQueue
  rw [Node.setQueue_oi, Node.setQueue_oi, Node.queue_setQueue_self, Node.oi_setI_self, Node.oi_setI_sub _ _ _ _ (by decide)]
  exact ⟨Node.oi_setI_self .., rfl, rfl⟩

/-- The node with queue `q` disabled, whose answer waits for the descriptors in flight. -/
def Node.closingQueue (n : Node) (q : Nat) (m : Master) (via : Via) : Node :=
  (n.disableQueue q).setQueue q
    { (n.disableQueue q).queue q with closing := ((n.disableQueue q).queue q).closing ++ [(m, via)] }

theorem Node.queueWrite_disable {n : Node} {q : Nat} (h : n.obi q 0x9100 0x0A = true) (m : Master) (via : Via) :
    n.queueWrite m via q false =
      if (n.queue q).inFlight = [] then (n.disableQueue q, false) else (n.closingQueue q m via, true) := by
  obtain ⟨-, -, hq⟩ := n.disableQueue_spec q
  have hf : ((n.disableQueue q).queue q).inFlight = (n.queue q).inFlight := by rw [hq]
  rw [← hf]
  exact (if_neg Bool.false_ne_true).trans (if_pos h)

theorem exec_queueEnable (s : State) (dt : Nat) (m : Master) :
    exec (.queueEnable dt m) s = askWrite dt m 0x9100 0x0A [1] s := by rfl

theorem exec_queueDisable (s : State) (dt : Nat) (m : Master) :
    exec (.queueDisable dt m) s = askWrite dt m 0x9100 0x0A [0] s := by rfl

/-- A request that is served and completes no descriptor. -/
theorem askWrite_served {s : State} {dt : Nat} {m : Master} {idx sub : Nat} {data : List Byte} {k : Node}
    (ha : (s.at_ dt).asks m = true) (hs : (s.at_ dt).serveWrite m .direct idx sub data false = k) (hc : k.eng.done = []) :
    askWrite dt m idx sub data s = .next { s with node := k } := by
  have e : (s.node.begin dt).when ((s.node.begin dt).asks m) (fun n => n.serveWrite m .direct idx sub data false) = k :=
    (Node.when_true ha).trans hs
  unfold askWrite
  rw [actDone_eq (by rw [e]; exact hc), e]

section queues
variable {s : State} {dt : Nat} {m : Master} {q : Nat} (hq : (s.at_ dt).sel m 0x9100 0x01 = q)
include hq

theorem queueEnable_starts (ht : Takes s dt m 0x9100 0x0A [1]) (ho : (s.at_ dt).obi q 0x9100 0x0A = false) :
    Answers (.queueEnable dt m) s fun t => Done m t ∧ Rests s t
      ∧ t.node.oi q 0x9100 0x0A = 1 ∧ (t.node.oi q 0x9100 0x0B = 1 ∨ t.node.oi q 0x9100 0x0B = 3)
      ∧ t.node.oi q 0x9100 0x0C = 0 ∧ t.node.oi q 0x9100 0x0D = 0 ∧ t.node.oi q 0x9100 0x0E = 0 ∧ (t.node.queue q).fetched = 0 := by
  have hw := Node.serveWrite_queueEnable ht.2 hq (on := true) (by decide) (Node.queueWrite_enable ho m .direct)
  have hdone : ((s.at_ dt).enableQueue q).eng.done = [] := rfl
  have hspec := (s.at_ dt).enableQueue_spec q
  generalize (s.at_ dt).enableQueue q = k at hw hdone hspec
  exact ⟨_, (exec_queueEnable s dt m).trans (askWrite_served ht.1 hw hdone), done_emit .., ⟨rfl, rfl⟩, hspec⟩

theorem queueDisable_empties (ht : Takes s dt m 0x9100 0x0A [0]) (ho : (s.at_ dt).obi q 0x9100 0x0A = true) :
    Answers (.queueDisable dt m) s fun t => Rests s t
      ∧ t.node.oi q 0x9100 0x0A = 0 ∧ t.node.oi q 0x9100 0x0B = 0 ∧ (t.node.queue q).wait = []
      ∧ (((s.at_ dt).queue q).inFlight = [] → t.node.out = [.reply m 0 []])
      ∧ (((s.at_ dt).queue q).inFlight ≠ [] → t.node.out = []
        ∧ (t.node.queue q).closing = ((s.at_ dt).queue q).closing ++ [(m, .direct)]) := by
  obtain ⟨hA, hB, hQ⟩ := (s.at_ dt).disableQueue_spec q
  have hw := Node.queueWrite_disable ho m .direct
  by_cases hf : ((s.at_ dt).queue q).inFlight = []
  · rw [if_pos hf] at hw
    have hs := Node.serveWrite_queueEnable ht.2 hq (on := false) (by decide) hw
    refine ⟨_, (exec_queueDisable s dt m).trans (askWrite_served ht.1 hs rfl), ⟨rfl, rfl⟩, hA, hB, ?_, fun _ => rfl, fun h => absurd hf h⟩
    exact congrArg QueueSt.wait hQ
  · rw [if_neg hf] at hw
    have hs := Node.serveWrite_queueEnable ht.2 hq (on := false) (by decide) hw
    have hC : ((s.at_ dt).closingQueue q m .direct).queue q = { (s.at_ dt).queue q with
        wait := [], fill := [], dropped := false, closing := ((s.at_ dt).queue q).closing ++ [(m, .direct)] } := by
      rw [Node.closingQueue, Node.queue_setQueue_self, hQ]
    refine ⟨_, (exec_queueDisable s dt m).trans (askWrite_served ht.1 hs rfl), ⟨rfl, rfl⟩, hA, hB, ?_, fun h => absurd h hf,
      fun _ => ⟨rfl, ?_⟩⟩
    · exact congrArg QueueSt.wait hC
    · exact congrArg QueueSt.closing hC

end queues

/-! ## Declarations (R127) -/

theorem privVat_privIdx (v : Fin 16) : privVat (privIdx v) = some v.val := by
  unfold privVat privIdx
  rw [if_pos (by omega)]
  congr 1
  omega

theorem exec_declare (s : State) (dt : Nat) (m : Master) (v : Fin 16) (val : Byte) :
    exec (.declare dt m v val) s = askWrite dt m (privIdx v) 0x02 [val] s := by rfl

/-- An accepted declare command is answered with what declaring gives. -/
theorem Node.serveWrite_declare {n k : Node} {m : Master} {v : Fin 16} {data : List Byte} {code : Nat}
    (hj : n.writeJudge m (privIdx v) 0x02 data = 0) (hk : n.declare v = (code, k)) :
    n.serveWrite m .direct (privIdx v) 0x02 data false = k.emit (.reply m code []) := by
  have hv : (privIdx v - 0xA000) / 0x500 = v.val := by unfold privIdx; omega
  have hs : (privVat (privIdx v)).isSome = true := by rw [privVat_privIdx]; rfl
  unfold Node.serveWrite
  rw [if_neg (fun h => by have := h.1; unfold privIdx at this; omega), hv, if_pos ⟨hs, rfl, rfl, hj⟩, hk]
  rfl

/-- What a declaration reports: the code in .03 and the line in .04. -/
def Node.declReported (n : Node) (v code line : Nat) : Node := (n.set (privIdx v) 0x03 code).set (privIdx v) 0x04 line

theorem Node.declReported_leaves (n : Node) (v code line : Nat) :
    (n.declReported v code line).o (privIdx v) 0x03 = code ∧ (n.declReported v code line).o (privIdx v) 0x04 = line
      ∧ (n.declReported v code line).dom = n.dom ∧ (n.declReported v code line).eng = n.eng :=
  ⟨(Node.oi_setI_sub _ 0 (privIdx v) line (by decide)).trans (Node.o_set_self ..), Node.o_set_self .., rfl, rfl⟩

section
variable {n : Node} {v : Nat}

theorem Node.declare_unread {line : Nat} (h : cezParse (n.domI 0 (privIdx v) 0x01) = .error line) :
    n.declare v = (0, n.declReported v 0x0607 line) := by
  unfold Node.declare
  dsimp only
  rw [h]
  rfl

theorem Node.declare_refused {es : List CezEntry} {code line : Nat} (h : cezParse (n.domI 0 (privIdx v) 0x01) = .ok es)
    (hc : declCheck v [] es = some (code, line)) : n.declare v = (0, n.declReported v code line) := by
  unfold Node.declare
  dsimp only
  rw [h]
  dsimp only
  rw [hc]
  rfl

theorem Node.declare_installs {es : List CezEntry} (h : cezParse (n.domI 0 (privIdx v) 0x01) = .ok es)
    (hc : declCheck v [] es = none) (hb : declBytes es ≤ 524288) :
    n.declare v = (0, ((n.declInstall v (n.domI 0 (privIdx v) 0x01) es).declReported v 0 0).keptHook (privIdx v) 0x01) := by
  unfold Node.declare
  dsimp only
  rw [h]
  dsimp only
  rw [hc]
  dsimp only
  rw [if_neg (Nat.not_lt.mpr hb)]
  rfl

/-- A declaration in force: its text, and no descriptor has completed. -/
theorem Node.declInstall_leaves (n : Node) (v : Nat) (text : List Byte) (es : List CezEntry) :
    (n.declInstall v text es).domI 1 (privIdx v) 0x01 = text ∧ (n.declInstall v text es).eng = n.eng := by
  have writes (l : List (Nat × Nat × Nat)) (k : Node) : (l.foldl (fun n e => n.set e.1 e.2.1 e.2.2) k).eng = k.eng := by
    induction l generalizing k with
    | nil => rfl
    | cons e l ih => exact ih _
  exact ⟨Node.domI_setDomI_self .., writes ..⟩

end

section declarations
variable {s : State} {dt : Nat} {m : Master} {v : Fin 16} (ht : Takes s dt m (privIdx v) 0x02 [1])
include ht

/-- A declaration that is not taken: its code and line are reported. -/
theorem declare_reports {code line : Nat} (hk : (s.at_ dt).declare v = (0, (s.at_ dt).declReported v code line)) :
    Answers (.declare dt m v 1) s fun t => Done m t ∧ Rests s t
      ∧ t.node.o (privIdx v) 0x03 = code ∧ t.node.o (privIdx v) 0x04 = line ∧ t.node.dom = s.node.dom := by
  obtain ⟨h3, h4, hd, he⟩ := (s.at_ dt).declReported_leaves v code line
  have hw := Node.serveWrite_declare ht.2 hk
  exact ⟨_, (exec_declare s dt m v 1).trans (askWrite_served ht.1 hw (congrArg EngineSt.done he)), done_emit .., ⟨rfl, rfl⟩,
    h3, h4, hd⟩

/-- A declaration that comes into force. -/
theorem declare_takes {es : List CezEntry} (h : cezParse ((s.at_ dt).domI 0 (privIdx v) 0x01) = .ok es)
    (hc : declCheck v [] es = none) (hb : declBytes es ≤ 524288) :
    Answers (.declare dt m v 1) s fun t => Done m t ∧ Rests s t
      ∧ t.node.o (privIdx v) 0x03 = 0 ∧ t.node.o (privIdx v) 0x04 = 0
      ∧ t.node.domI 1 (privIdx v) 0x01 = (s.at_ dt).domI 0 (privIdx v) 0x01 := by
  have hw := Node.serveWrite_declare ht.2 (Node.declare_installs h hc hb)
  obtain ⟨htext, heng⟩ := (s.at_ dt).declInstall_leaves v ((s.at_ dt).domI 0 (privIdx v) 0x01) es
  generalize (s.at_ dt).declInstall v ((s.at_ dt).domI 0 (privIdx v) 0x01) es = k at hw htext heng
  obtain ⟨h3, h4, hd, he⟩ := k.declReported_leaves v 0 0
  obtain ⟨hsame, heng', hdom, -⟩ := (k.declReported v 0 0).keptHook_leaves (privIdx v) 0x01
  have hkey {sub : Nat} (hs : sub < 256) : key 0 (privIdx v) sub ∉ [key 0 0x1020 0x06] := by
    rw [List.mem_singleton]
    unfold key privIdx
    omega
  have hdone : (((k.declReported v 0 0).keptHook (privIdx v) 0x01).emit (.reply m 0 [])).eng.done = [] :=
    congrArg EngineSt.done (heng'.trans (he.trans heng))
  refine ⟨_, (exec_declare s dt m v 1).trans (askWrite_served ht.1 hw hdone), done_emit .., ⟨rfl, rfl⟩, ?_, ?_, ?_⟩
  · exact (hsame _ (hkey (by decide))).trans h3
  · exact (hsame _ (hkey (by decide))).trans h4
  · exact (congrArg (mapGet · (key 1 (privIdx v) 0x01) []) (hdom.trans hd)).trans htext

end declarations

/-- Settles O27: a queue enabled and disabled, and the three ends of a declaration. -/
theorem queuesAndDeclarationsAct : Obligations.QueuesAndDeclarationsAct := by
  refine ⟨fun s dt m => ⟨queueEnable_starts rfl, queueDisable_empties rfl⟩, ?_⟩
  intro s dt m v u text ht
  refine ⟨?_, ?_, ?_⟩
  · exact fun line h => declare_reports ht (Node.declare_unread h)
  · exact fun es code line h hc => declare_reports ht (Node.declare_refused h hc)
  · exact fun es h hc hb => declare_takes ht h hc hb

end Sys2Proof.Machine
end

section
/-!
SUPPORT. The queue engines (R123, R365): whose turn it is, and what a grant leaves of the queues and of the turns through
the engine's work and the storing of completions.
-/
namespace Sys2Proof.Machine

/-! ## The next grant (R123) -/

/-- The queue that a grant picks is one of those that are ready. -/
theorem firstFrom_mem (first count place : Nat) {qs : List Nat} (h : qs ≠ []) : firstFrom first count place qs ∈ qs := by
  cases qs with
  | nil => exact absurd rfl h
  | cons q rest =>
    refine foldl_pick_mem (fun a b => ?_) rest q
    split
    · exact .inr rfl
    · exact .inl rfl

/-- What `find?` finds among the images of 0, 1, …: the first image that meets `p`. -/
theorem find?_map_range {f : Nat → Nat} {p : Nat → Bool} {k v : Nat} (h : ((List.range k).map f).find? p = some v) :
    ∃ i < k, f i = v ∧ p v = true ∧ ∀ j < i, p (f j) = false := by
  obtain ⟨hp, i, hi, hv, hbefore⟩ := List.find?_eq_some_iff_getElem.mp h
  simp only [List.length_map, List.length_range] at hi
  refine ⟨i, hi, by simpa using hv, hp, fun j hj => ?_⟩
  simpa using hbefore j hj

/-- R123: the first vat in rotation with a ready queue, and a ready queue of its. -/
theorem Node.nextGrant_spec {n : Node} {mem : List Host.Cell} {e v q : Nat} (h : n.nextGrant mem e = some (v, q)) :
    v < 16 ∧ n.readyOf mem e v ≠ [] ∧ q ∈ n.readyOf mem e v
      ∧ ∀ k, k < (v + 16 - mapGet n.eng.vp e 0 % 16) % 16 → n.readyOf mem e ((mapGet n.eng.vp e 0 + k) % 16) = [] := by
  unfold Node.nextGrant at h
  extract_lets vp at h
  split at h
  · cases h
  next w hw =>
    simp only [Option.some.injEq, Prod.mk.injEq] at h
    obtain ⟨rfl, rfl⟩ := h
    obtain ⟨i, hi, hv, hready, hbefore⟩ := find?_map_range hw
    have hne : n.readyOf mem e w ≠ [] := by simpa using hready
    refine ⟨by omega, hne, firstFrom_mem _ _ _ hne, fun k hk => ?_⟩
    simpa using hbefore k (by omega)

/-! ## What leaves the turns and the queues alone -/

/-- The engines' turns and the queues beside their objects are as they were. -/
structure Node.SameQueues (m n : Node) : Prop where
  turns : n.eng.vp = m.eng.vp
  queues : n.queues = m.queues

namespace Node.SameQueues
variable {m n : Node}

theorem refl (n : Node) : n.SameQueues n := ⟨rfl, rfl⟩

theorem queue (h : m.SameQueues n) (q : Nat) : n.queue q = m.queue q := by
  unfold Node.queue
  rw [h.queues]

theorem ite {a b : Node} {p : Prop} [Decidable p] (h : m.SameQueues a) (g : m.SameQueues b) :
    m.SameQueues (if p then a else b) := by
  split <;> assumption

theorem foldl {α : Type} {f : Node → α → Node} (hf : ∀ n a, m.SameQueues n → m.SameQueues (f n a)) {l : List α}
    (h : m.SameQueues n) : m.SameQueues (l.foldl f n) := by
  induction l generalizing n with
  | nil => exact h
  | cons a r ih => exact ih (hf n a h)

theorem setI (h : m.SameQueues n) {i idx sub v : Nat} : m.SameQueues (n.setI i idx sub v) := ⟨h.turns, h.queues⟩
theorem emit (h : m.SameQueues n) {o : Out} : m.SameQueues (n.emit o) := ⟨h.turns, h.queues⟩
theorem complete (h : m.SameQueues n) {d : DescDone} : m.SameQueues (n.complete d) := ⟨h.turns, h.queues⟩
theorem accessFault (h : m.SameQueues n) {v a access master id : Nat} : m.SameQueues (n.accessFault v a access master id) :=
  ⟨h.turns, h.queues⟩
theorem setCan (h : m.SameQueues n) {c : Nat} {x : CanSt} : m.SameQueues (n.setCan c x) := ⟨h.turns, h.queues⟩
theorem setRport (h : m.SameQueues n) {p : Nat} {x : RingPort} : m.SameQueues (n.setRport p x) := ⟨h.turns, h.queues⟩
theorem withTwin (h : m.SameQueues n) {x : TwinSt} : m.SameQueues { n with twin := x } := ⟨h.turns, h.queues⟩
theorem withRing (h : m.SameQueues n) {x : RingSt} : m.SameQueues { n with ring := x } := ⟨h.turns, h.queues⟩

theorem irq (h : m.SameQueues n) {v i : Nat} : m.SameQueues (n.irq v i) := by
  obtain ⟨vs, e⟩ := n.irq_eq v i
  rw [e]
  exact ⟨h.turns, h.queues⟩

/-! ### The ring, the twin and the answers -/

theorem portDrop (h : m.SameQueues n) {p c : Nat} : m.SameQueues (n.portDrop p c) := by
  unfold Node.portDrop
  exact .ite h h.setI.setI

theorem handTo (h : m.SameQueues n) {p : Nat} {f : List Byte} : m.SameQueues (n.handTo p f) := by
  unfold Node.handTo
  exact .ite h.setI.emit (.ite h.setRport h.portDrop)

theorem sendTagged (h : m.SameQueues n) {dst : List Byte} {etype : Nat} {payload : List Byte} :
    m.SameQueues (n.sendTagged dst etype payload) := h.setI.handTo.handTo

theorem twinSend (h : m.SameQueues n) {type : Nat} {body : List Byte} : m.SameQueues (n.twinSend type body) := by
  unfold Node.twinSend
  exact .ite h.withTwin.emit h

theorem toFrame (h : m.SameQueues n) {kind ref : Nat} {r : Reading} : m.SameQueues (n.toFrame kind ref r) := by
  unfold Node.toFrame
  extract_lets key before moved change taken twin stored
  have ht : m.SameQueues taken := ⟨h.turns, h.queues⟩
  have hs : m.SameQueues stored := ⟨h.turns, h.queues⟩
  exact .ite ht.withTwin (.ite hs.twinSend hs)

theorem nextSeq (h : m.SameQueues n) {type : Nat} : m.SameQueues (n.nextSeq type).2 := ⟨h.turns, h.queues⟩
theorem withLp (h : m.SameQueues n) {x : LpSt} : m.SameQueues { n with lp := x } := ⟨h.turns, h.queues⟩
theorem withCan (h : m.SameQueues n) {x : List (Nat × CanSt)} : m.SameQueues { n with can := x } := ⟨h.turns, h.queues⟩

theorem respond (h : m.SameQueues n) {o : Master} {via : Via} {code : Nat} {data : List Byte} :
    m.SameQueues (n.respond o via code data) := by
  cases via with
  | direct => exact h.emit
  | lp id tag op => exact .ite h.withLp h
  | ring mac token op => exact .ite h h.nextSeq.sendTagged
  | can c size toggle id => exact .ite h.withCan.withCan h
  | od q pos => exact h.complete

/-! ### The engines (R119, R120, R313, R365, R380) -/

theorem engineBuffer (h : m.SameQueues n) {v q pos access : Nat} {d : Desc} {f : Node → Node} (hf : m.SameQueues (f n)) :
    m.SameQueues (n.engineBuffer v q pos access d f) := by
  unfold Node.engineBuffer
  exact .ite hf h.accessFault.complete

theorem pointWrite (h : m.SameQueues n) {v q pos : Nat} {d : Desc} : m.SameQueues (n.pointWrite v q pos d) := by
  unfold Node.pointWrite
  exact .ite h.complete h.complete.toFrame

theorem ringTransmit (h : m.SameQueues n) {mem : List Host.Cell} {v q pos : Nat} {d : Desc} :
    m.SameQueues (n.ringTransmit mem v q pos d) :=
  h.engineBuffer (.ite h.complete h.complete.withRing.sendTagged)

theorem canFetchSend (h : m.SameQueues n) {q pos tag len ident aux : Nat} {data : List Byte} :
    m.SameQueues (n.canFetchSend q pos tag len ident aux data) := by
  unfold Node.canFetchSend
  exact .ite h.complete h.setCan

theorem canFetchCancel (h : m.SameQueues n) {q pos aux : Nat} {begun : Bool} :
    m.SameQueues (n.canFetchCancel q pos aux begun) := by
  unfold Node.canFetchCancel
  dsimp only
  split
  · exact h.complete
  · exact .ite h.setCan h.setCan.complete.complete

theorem canTransmit (h : m.SameQueues n) {mem : List Host.Cell} {v q pos : Nat} {d : Desc} {begun : Bool} :
    m.SameQueues (n.canTransmit mem v q pos d begun) := by
  unfold Node.canTransmit
  exact .ite h.complete (.ite h.canFetchCancel (h.engineBuffer h.canFetchSend))

theorem archiveRead (h : m.SameQueues n) {v q pos : Nat} {d : Desc} : m.SameQueues (n.archiveRead v q pos d) :=
  h.engineBuffer (.ite h.complete ⟨h.turns, h.queues⟩)

/-- A request for information of the OD service. -/
theorem odService (h : m.SameQueues n) {mem : List Host.Cell} {v : Fin 16} {q pos : Nat} {d : Desc} {busy : Bool} (h3 : d.op = 3) :
    m.SameQueues (n.odService mem v q pos d busy) := by
  unfold Node.odService
  extract_lets o idx sub done
  refine .ite h.complete (h.engineBuffer ?_)
  rw [if_neg (by omega), if_neg (by omega)]
  exact .ite h.complete h.complete

end Node.SameQueues

/-! ## The storing of completions -/

/-- The engines' turns, and which descriptor of each queue comes next, are as they were. -/
structure Node.KeepsFetched (m n : Node) : Prop where
  turns : n.eng.vp = m.eng.vp
  fetched : ∀ q, (n.queue q).fetched = (m.queue q).fetched

theorem Node.KeepsFetched.refl (n : Node) : n.KeepsFetched n := ⟨rfl, fun _ => rfl⟩

theorem Node.KeepsFetched.trans {m n k : Node} (h : m.KeepsFetched n) (g : n.KeepsFetched k) : m.KeepsFetched k :=
  ⟨g.turns.trans h.turns, fun q => (g.fetched q).trans (h.fetched q)⟩

theorem Node.SameQueues.keepsFetched {m n : Node} (h : m.SameQueues n) : m.KeepsFetched n :=
  ⟨h.turns, fun q => congrArg QueueSt.fetched (h.queue q)⟩

/-- A completed descriptor is in flight no more; of the queues nothing else but what waits for it changes. -/
theorem Node.passDone_spec (n : Node) (q pos : Nat) : ∃ x, x.fetched = (n.queue q).fetched ∧ pos ∉ x.inFlight
    ∧ (n.setQueue q x).SameQueues (n.passDone q pos).1 := by
  unfold Node.passDone
  extract_lets x live left orphans ended queued passed ci
  have hp : queued.SameQueues passed := .ite (.foldl (fun _ _ g => g.respond) (.refl _)) (.refl _)
  refine ⟨{ x with inFlight := left, orphans := orphans, closing := if ended then [] else x.closing }, rfl, ?_,
    show queued.SameQueues _ from ?_⟩
  · by_cases hl : pos ∈ x.inFlight
    · simp [left, live, hl]
    · simp [left, live, hl]
  · split
    · exact hp
    · exact hp.setI

theorem settleOne_spec (mem : List Host.Cell) (n : Node) (d : DescDone) :
    n.KeepsFetched (settleOne mem n d).2 ∧ d.pos ∉ ((settleOne mem n d).2.queue d.q).inFlight := by
  obtain ⟨x, hx, hpos, hsame⟩ := n.passDone_spec d.q d.pos
  have hk : n.KeepsFetched (n.setQueue d.q x) := by
    refine ⟨rfl, fun w => ?_⟩
    by_cases hw : w = d.q
    · rw [hw, Node.queue_setQueue_self, hx]
    · rw [Node.queue_setQueue_ne n d.q x hw]
  unfold settleOne
  extract_lets v a buf flags own passed
  split
  · have hs : (n.setQueue d.q x).SameQueues (if bit flags 0 then passed.1.irq v (n.oi d.q 0x9100 0x09) else passed.1) :=
      .ite hsame.irq hsame
    refine ⟨hk.trans hs.keepsFetched, ?_⟩
    dsimp only
    rw [hs.queue, Node.queue_setQueue_self]
    exact hpos
  · next h =>
    simp only [Bool.or_eq_true, List.contains_iff_mem, not_or] at h
    exact ⟨.refl n, h.1⟩

theorem settle_keepsFetched (s : State) : s.node.KeepsFetched (settle s).node := by
  have all (ds : List DescDone) : ∀ (mem : List Host.Cell) (n : Node), n.KeepsFetched (settleAll mem n ds).2 := by
    induction ds with
    | nil => exact fun _ n => .refl n
    | cons d r ih => exact fun mem n => (settleOne_spec mem n d).1.trans (ih _ _)
  exact Node.KeepsFetched.trans (n := { s.node with eng := { s.node.eng with done := [] } }) ⟨rfl, fun _ => rfl⟩ (all _ _ _)

/-! ## Grants (R123) -/

theorem Node.granted_turns (n : Node) (e v q : Nat) : mapGet (n.granted e v q).eng.vp e 0 = (v + 1) % 16 := mapGet_mapPut_self ..

/-- A queue that is ready on an engine is of the engine's type. -/
theorem Node.readyOf_type {n : Node} {mem : List Host.Cell} {e v q : Nat} (h : q ∈ n.readyOf mem e v) : n.oi q 0x9100 0x03 = e := by
  simp only [Node.readyOf, List.mem_filter, Bool.and_eq_true, beq_iff_eq] at h
  exact h.2.1

/-- The node whose queue `q` has fetched one descriptor more. -/
def Node.fetchedNext (n : Node) (q : Nat) : Node :=
  n.setQueue q { n.queue q with
    fetched := ((n.queue q).fetched + 1) % 2 ^ 32
    inFlight := (n.queue q).inFlight ++ [(n.queue q).fetched] }

/-- A descriptor is fetched, and what its engine does leaves the queues alone; of the OD service, a request for
information. -/
theorem Node.submit_spec {n : Node} {mem : List Host.Cell} {v : Fin 16} {q : Nat} (busy : Bool)
    (h5 : n.oi q 0x9100 0x03 = 5 → (n.fetchDesc mem v q (n.queue q).fetched).op = 3) :
    (n.fetchedNext q).SameQueues (n.submit mem v q busy) := by
  have h : (n.fetchedNext q).SameQueues (n.fetchedNext q) := .refl _
  refine .ite h.ringTransmit (.ite h.canTransmit ?_)
  split
  · next ht => exact h.odService (h5 ht)
  · exact .ite h.archiveRead h.pointWrite

/-- The oldest waiting entry is delivered, and the index moves. -/
theorem Node.deliverHead_spec (n : Node) (v q : Nat) : (n.deliverHead v q).1.eng = n.eng
    ∧ ∀ x rest, (n.queue q).wait = x :: rest → ((n.deliverHead v q).1.queue q).wait = rest
      ∧ (n.deliverHead v q).1.oi q 0x9100 0x0C = (n.pi q + 1) % 2 ^ 32 := by
  unfold Node.deliverHead
  dsimp only
  split
  · next hw => exact ⟨rfl, fun x rest h => absurd (hw.symm.trans h) (by simp)⟩
  · next e rest hw =>
    obtain ⟨vs, hv⟩ := ((n.setQueue q { n.queue q with wait := rest }).setI q 0x9100 0x0C ((n.pi q + 1) % 2 ^ 32)).irq_eq v
      (n.oi q 0x9100 0x09)
    dsimp only
    rw [hv]
    refine ⟨rfl, fun x rest' h => ⟨?_, Node.oi_setI_self ..⟩⟩
    obtain ⟨-, rfl⟩ := List.cons.inj (hw.symm.trans h)
    exact congrArg QueueSt.wait (Node.queue_setQueue_self ..)

theorem isDelivery_of_isSubmission {type : Nat} (h : isSubmission type = true) : isDelivery type = false := by
  simp only [isSubmission, List.contains_eq_mem, List.mem_cons, List.not_mem_nil, or_false, decide_eq_true_eq] at h
  rcases h with rfl | rfl | rfl | rfl | rfl <;> rfl

theorem exec_engineGrant {s : State} (hup : s.node.up = true) (dt : Nat) (e : Fin 10) (busy : Bool) :
    exec (.engineGrant dt e busy) s = .next (settle { s with
      node := ((s.at_ dt).grant s.vmem e busy).1, vmem := memWriteAll s.vmem ((s.at_ dt).grant s.vmem e busy).2 }) := by
  have hu : (s.node.begin dt).up = true := hup
  change execEngineGrant dt e busy s = _
  simp only [execEngineGrant, hu, if_true]
  rfl

section grants
variable {s : State} {dt : Nat} {e : Fin 10} {v q : Nat} (hup : s.node.up = true)
  (hg : (s.at_ dt).nextGrant s.vmem e = some (v, q))
include hup hg

/-- A grant of a submission queue. -/
theorem engineGrant_submits (hs : isSubmission e = true)
    (h5 : e.val = 5 → ((s.at_ dt).fetchDesc s.vmem v q ((s.at_ dt).queue q).fetched).op = 3) (busy : Bool) :
    Answers (.engineGrant dt e busy) s fun t => mapGet t.node.eng.vp e 0 = (v + 1) % 16
      ∧ (t.node.queue q).fetched = (((s.at_ dt).queue q).fetched + 1) % 2 ^ 32 := by
  obtain ⟨hv, -, hq, -⟩ := Node.nextGrant_spec hg
  have hv' : ((BitVec.ofNat 4 v).toFin : Fin 16).val = v := Nat.mod_eq_of_lt hv
  have hr : (s.at_ dt).grant s.vmem e busy =
      (((s.at_ dt).granted e v q).submit s.vmem (BitVec.ofNat 4 v).toFin q busy, []) := by
    simp only [Node.grant, hg, hs, if_true]
  have hsub := Node.submit_spec (n := (s.at_ dt).granted e v q) (mem := s.vmem) (v := (BitVec.ofNat 4 v).toFin) (q := q) busy
    fun ht => by rw [hv']; exact h5 ((Node.readyOf_type hq).symm.trans ht)
  have hk := hsub.keepsFetched.trans (settle_keepsFetched { s with
    node := ((s.at_ dt).granted e v q).submit s.vmem (BitVec.ofNat 4 v).toFin q busy, vmem := memWriteAll s.vmem [] })
  refine ⟨_, (exec_engineGrant hup dt e busy).trans (by rw [hr]), ?_, ?_⟩
  · exact (congrArg (mapGet · e.val 0) hk.turns).trans (Node.granted_turns ..)
  · exact (hk.fetched q).trans (congrArg QueueSt.fetched (Node.queue_setQueue_self ..))

/-- A grant of any other queue. -/
theorem engineGrant_delivers (hs : isSubmission e = false) (busy : Bool) :
    Answers (.engineGrant dt e busy) s fun t => mapGet t.node.eng.vp e 0 = (v + 1) % 16
      ∧ ∀ x rest, ((s.at_ dt).queue q).wait = x :: rest → (t.node.queue q).wait = rest
        ∧ t.node.oi q 0x9100 0x0C = ((s.at_ dt).pi q + 1) % 2 ^ 32 := by
  have hr : (s.at_ dt).grant s.vmem e busy = ((s.at_ dt).granted e v q).deliverHead v q := by
    simp only [Node.grant, hg, hs, Bool.false_eq_true, if_false]
  obtain ⟨heng, hd⟩ := ((s.at_ dt).granted e v q).deliverHead_spec v q
  refine ⟨{ s with
      node := (((s.at_ dt).granted e v q).deliverHead v q).1
      vmem := memWriteAll s.vmem (((s.at_ dt).granted e v q).deliverHead v q).2 }, (exec_engineGrant hup dt e busy).trans ?_, ?_, hd⟩
  · rw [hr, settle_of_done]
    exact congrArg EngineSt.done heng
  · exact (congrArg (fun x : EngineSt => mapGet x.vp e.val 0) heng).trans (Node.granted_turns ..)

end grants

/-! ## Archive reads (R365) -/

theorem exec_archiveReadDone (s : State) (dt : Nat) (q : Fin 8192) :
    exec (.archiveReadDone dt q) s = actDone dt s fun n => n.whenUp (·.archiveReadDone q) := by rfl

/-- The queue's oldest read leaves its descriptor complete. -/
theorem archiveReadDone_completes {s : State} {dt : Nat} {q : Fin 8192} {j : ReadJob} (hup : s.node.up = true)
    (hj : s.node.sep.reads.find? (fun (j : ReadJob) => j.q == q) = some j) :
    Answers (.archiveReadDone dt q) s fun t => t.node.sep.reads = s.node.sep.reads.erase j ∧ j.pos ∉ (t.node.queue q).inFlight := by
  have hf : (s.at_ dt).sep.reads.find? (fun (j : ReadJob) => j.q == q) = some j := hj
  refine ⟨_, (exec_archiveReadDone s dt q).trans (actDone_whenUp hup), ?_, ?_⟩
  · rw [settle_sep]
    simp only [Node.archiveReadDone, hf]
    rfl
  · simp only [Node.archiveReadDone, hf]
    exact (settleOne_spec _ _ { q := q, pos := j.pos, status := 0, data := j.result }).2

/-- Settles O28: whose turn it is, a grant of a submission queue and of another, and the end of an archive read. -/
theorem enginesAct : Obligations.EnginesAct := by
  refine ⟨?_, fun s dt q j => archiveReadDone_completes⟩
  intro s dt e busy v q u hup hg
  refine ⟨Node.nextGrant_spec hg, fun h5 => ?_⟩
  cases hs : isSubmission e with
  | true =>
    obtain ⟨t, ht, hturn, hfetched⟩ := engineGrant_submits hup hg hs h5 busy
    refine ⟨t, ht, hturn, fun _ => hfetched, fun hd => ?_⟩
    rw [isDelivery_of_isSubmission hs] at hd
    exact Bool.noConfusion hd
  | false =>
    obtain ⟨t, ht, hturn, hwait⟩ := engineGrant_delivers hup hg hs busy
    exact ⟨t, ht, hturn, fun h => Bool.noConfusion h, fun _ => hwait⟩

end Sys2Proof.Machine
end

section
/-!
SUPPORT. The work of a lake (R154 to R157, R162, R165): what filing a sample, sending a reading, scanning and the cutting off
of a conversion leave of the lake and of the objects. `Node.Works l d m n`: `n` has come of `m` by such work of lake `l`,
no deeper than `d`. Each operation has one lemma, which carries such work one step on. Beside `PassesOn`, which lets go of a
lake and of its results, it says what of these stays.
-/
namespace Sys2Proof.Machine

/-! ## The objects of a lake (Tables 6-15 to 6-18) -/

theorem canonIdx_lake {l o : Nat} (hl : l < 32) (ho : o < 0x40) : canonIdx (lakeIdx l + o) =
    if o = 0 then 0x4000 else if o ≤ 2 then 0x4001
    else if 4 ≤ o ∧ o < 12 then 0x4004 else if 12 ≤ o ∧ o < 20 then 0x400C else 0 := by
  have hm : (lakeIdx l + o - 0x4000) % 0x40 = o := by unfold lakeIdx; omega
  unfold canonIdx
  rw [if_pos (by unfold lakeIdx; omega)]
  dsimp only
  rw [hm]

/-- The objects that the work of a lake may write, by its depth: 0 files samples (the archive's and the queues' objects),
1 sends readings (the results .01 to .05 of pins), 2 moves converters on (theirs), 3 cuts conversions off (and counts it). -/
def lakeWrites (d idx sub : Nat) : Bool :=
  idx == 0x8000 || idx == 0x9100 || (canonIdx idx == 0x400C && decide (1 ≤ d ∧ sub ≤ 5))
    || (canonIdx idx == 0x4001 && decide (2 ≤ d)) || (canonIdx idx == 0x4000 && decide (3 ≤ d ∧ sub = 8))

theorem lakeWrites_of_lt {idx : Nat} (h : idx < 0x8000) (d sub : Nat) : lakeWrites d idx sub =
    (canonIdx idx == 0x400C && decide (1 ≤ d ∧ sub ≤ 5) || canonIdx idx == 0x4001 && decide (2 ≤ d)
      || canonIdx idx == 0x4000 && decide (3 ≤ d ∧ sub = 8)) := by
  have h8 : (idx == 0x8000) = false := beq_eq_false_iff_ne.mpr (by omega)
  have h9 : (idx == 0x9100) = false := beq_eq_false_iff_ne.mpr (by omega)
  simp [lakeWrites, h8, h9]

section
variable {l : Nat} (hl : l < 32)
include hl

theorem lakeWrites_pinRes {p : Nat} (hp : p < 8) (d sub : Nat) : lakeWrites d (pinRes l p) sub = decide (1 ≤ d ∧ sub ≤ 5) := by
  have hc : canonIdx (pinRes l p) = 0x400C := by
    have h := canonIdx_lake hl (o := 12 + p) (by omega)
    rwa [if_neg (by omega), if_neg (by omega), if_neg (by omega), if_pos (by omega), ← Nat.add_assoc] at h
  rw [lakeWrites_of_lt (by unfold pinRes lakeIdx; omega), hc]
  simp

theorem lakeWrites_convIdx {k : Nat} (hk : k < 2) (d sub : Nat) : lakeWrites d (convIdx l k) sub = decide (2 ≤ d) := by
  have hc : canonIdx (convIdx l k) = 0x4001 := by
    have h := canonIdx_lake hl (o := 1 + k) (by omega)
    rwa [if_neg (by omega), if_pos (by omega), ← Nat.add_assoc] at h
  rw [lakeWrites_of_lt (by unfold convIdx lakeIdx; omega), hc]
  simp

theorem lakeWrites_lakeIdx (d sub : Nat) : lakeWrites d (lakeIdx l) sub = decide (3 ≤ d ∧ sub = 8) := by
  have hc : canonIdx (lakeIdx l) = 0x4000 := (canonIdx_lake hl (o := 0) (by decide)).trans (if_pos rfl)
  rw [lakeWrites_of_lt (by unfold lakeIdx; omega), hc]
  simp

end

/-! ## Converters and pins beside their objects -/

/-- A pin without its last valid value, which every reading sent may move. -/
def PinSt.marks (x : PinSt) : PinSt := { x with lastGood := 0 }

@[simp] theorem Node.pin_setPin_self (n : Node) (l p : Nat) (x : PinSt) : (n.setPin l p x).pin l p = x := by
  rw [Node.pin, Node.setPin, Node.lake_setLake_self]
  exact mapGet_mapPut_self ..

@[simp] theorem Node.conv_setConv_self (n : Node) (l k : Nat) (c : ConvSt) : (n.setConv l k c).conv l k = c := by
  unfold Node.conv Node.setConv
  by_cases hk : k = 0
  · simp [hk]
  · simp [hk]

@[simp] theorem Node.setConv_o (n : Node) (l k : Nat) (c : ConvSt) (idx sub : Nat) :
    (n.setConv l k c).o idx sub = n.o idx sub := by
  unfold Node.setConv
  exact Node.setLake_o ..

/-- A change of a converter leaves the rest of its lake. -/
theorem Node.setConv_eq (n : Node) (l k : Nat) (c : ConvSt) :
    ∃ a b, n.setConv l k c = n.setLake l { n.lake l with c0 := a, c1 := b } := by
  unfold Node.setConv
  split
  · exact ⟨_, _, rfl⟩
  · exact ⟨_, _, rfl⟩

/-! ## The relation -/

/-- `n` has come of `m` by work of lake `l` no deeper than `d`: other objects read as before, and the readings in hold and
what is known of the pins stay. -/
structure Node.Works (l d : Nat) (m n : Node) : Prop where
  objects : ∀ j idx sub, idx < 65536 → sub < 256 → lakeWrites d idx sub = false → n.oi j idx sub = m.oi j idx sub
  held : (n.lake l).held = (m.lake l).held
  pins : ∀ p, (n.pin l p).marks = (m.pin l p).marks

namespace Node.Works
variable {l d : Nat} {m n k : Node}

theorem refl (n : Node) : Works l d n n := ⟨fun _ _ _ _ _ _ => rfl, rfl, fun _ => rfl⟩

theorem trans (h : Works l d m n) (g : Works l d n k) : Works l d m k :=
  ⟨fun j x b hx hb hw => (g.objects j x b hx hb hw).trans (h.objects j x b hx hb hw), g.held.trans h.held,
    fun p => (g.pins p).trans (h.pins p)⟩

/-- A change of other parts of the node. -/
theorem of_same (h : Works l d m n) (e : (k.lakes, k.od) = (n.lakes, n.od)) : Works l d m k := by
  obtain ⟨hk, ho⟩ := Prod.mk.inj e
  have hl : k.lake l = n.lake l := by rw [Node.lake, hk]; rfl
  exact h.trans ⟨fun j x b _ _ _ => by rw [Node.oi, ho]; rfl, by rw [hl], fun p => by rw [Node.pin, hl]; rfl⟩

theorem ite {a b : Node} {p : Prop} [Decidable p] (h : Works l d m a) (g : Works l d m b) :
    Works l d m (if p then a else b) := by
  split <;> assumption

theorem foldl {α : Type} {f : Node → α → Node} {as : List α}
    (hf : ∀ n, ∀ a ∈ as, Works l d m n → Works l d m (f n a)) (h : Works l d m n) :
    Works l d m (as.foldl f n) := by
  induction as generalizing n with
  | nil => exact h
  | cons a r ih => exact ih (fun n b hb => hf n b (List.mem_cons_of_mem _ hb)) (hf n a List.mem_cons_self h)

/-- A write of an object of this work. -/
theorem setI (h : Works l d m n) {i idx sub v : Nat} (hw : lakeWrites d idx sub = true)
    (hb : idx < 65536 ∧ sub < 256 := by decide) : Works l d m (n.setI i idx sub v) := by
  refine h.trans ⟨fun j x b hx hb' hf => Node.oi_setI_ne n v fun e => ?_, rfl, fun _ => rfl⟩
  obtain ⟨-, rfl, rfl⟩ := (key_inj hx hb' hb.1 hb.2).mp e
  exact absurd (hf.symm.trans hw) (by decide)

/-- A change of the lake that keeps its readings in hold and what is known of its pins. -/
theorem setLake (h : Works l d m n) {x : LakeSt} (hh : x.held = (n.lake l).held)
    (hp : ∀ p, (mapGet x.pins p {}).marks = (n.pin l p).marks) : Works l d m (n.setLake l x) := by
  have hx : (n.setLake l x).lake l = x := Node.lake_setLake_self ..
  exact h.trans ⟨fun _ _ _ _ _ _ => rfl, by rw [hx, hh], fun p => by rw [Node.pin, hx, hp]⟩

theorem fault (h : Works l d m n) {src kind detail addr : Nat} : Works l d m (n.fault src kind detail addr) :=
  h.of_same (by rfl)
theorem setQueue (h : Works l d m n) {q : Nat} {x : QueueSt} : Works l d m (n.setQueue q x) := h.of_same (by rfl)
theorem draw (h : Works l d m n) : Works l d m n.draw.2 := h.of_same (by rfl)

/-! ## Filing a sample: Sepia and the sample streams (R166, R355, R357, R359) -/

theorem makeRoom (h : Works l d m n) {fuel : Nat} : Works l d m (n.makeRoom fuel) := by
  induction fuel generalizing n with
  | zero => exact h
  | succ fuel ih =>
    unfold Node.makeRoom
    refine h.ite ?_
    split
    · exact ih (fault (h.of_same (by rfl)))
    · exact h

theorem openSeg (h : Works l d m n) {log : Nat} : Works l d m (n.openSeg log).1 := by
  unfold Node.openSeg
  extract_lets roomy
  have hr : Works l d m roomy := h.makeRoom
  clear_value roomy
  split
  · split
    · exact fault (setI (hr.of_same (by rfl)) rfl)
    · exact hr
  · exact hr.of_same (by rfl)

theorem segFor (h : Works l d m n) {log need : Nat} : Works l d m (n.segFor log need).1 := by
  unfold Node.segFor
  split
  · split
    · exact h
    · exact h.openSeg
  · exact h.openSeg

theorem placeRec (h : Works l d m n) {r : ArchRec} : Works l d m (n.placeRec r) := by
  have hs : Works l d m (n.segFor (logOf r.kind) r.span).1 := h.segFor
  unfold Node.placeRec
  dsimp only
  split
  · exact hs.of_same (by rfl)
  · exact hs.of_same (by rfl)

theorem pushRec (h : Works l d m n) {k : Nat} {x : OpenRec} : Works l d m (n.pushRec k x) := by
  have placed (n : Node) (h : Works l d m n) : Works l d m n.placeAll := by
    unfold Node.placeAll
    exact .ite (foldl (fun _ _ _ g => g.placeRec) (h.of_same (by rfl))) h
  have checked (n : Node) (h : Works l d m n) : Works l d m n.backlogCheck := by
    unfold Node.backlogCheck
    exact h.ite (.ite (h.setI rfl).fault (h.setI rfl))
  exact checked _ (placed _ (h.of_same (by rfl)))

theorem sealRec (h : Works l d m n) {k : Nat} : Works l d m (n.sealRec k) := h.ite h.pushRec

theorem keepBudget (h : Works l d m n) {fuel : Nat} : Works l d m (n.keepBudget fuel) := by
  induction fuel generalizing n with
  | zero => exact h
  | succ fuel ih =>
    unfold Node.keepBudget
    refine h.ite (h.ite ?_)
    split
    · exact ih h.sealRec
    · exact h

theorem archive (h : Works l d m n) {kind src time : Nat} {pre bytes : List Byte} :
    Works l d m (n.archive kind src time pre bytes) := by
  unfold Node.archive
  extract_lets k counted _ size _ started x y _ added sealed_
  have hc : Works l d m counted := h.setI rfl
  have hs : Works l d m started := .ite h.sealRec h
  clear_value counted started x y
  have ha : Works l d m added := hs.of_same (by rfl)
  have he : Works l d m sealed_ := .ite ha.sealRec ha
  exact .ite (.ite hc (hc.of_same (by rfl))) he.keepBudget

theorem deliver (h : Works l d m n) {q : Nat} {e : QEntry} : Works l d m (n.deliver q e) := by
  have hd : Works l d m (n.incSatI 32 q 0x9100 0x0E 1) := h.setI rfl
  unfold Node.deliver
  exact .ite (.ite h.setQueue hd.setQueue) (.ite hd.setQueue h)

theorem flushSlot (h : Works l d m n) {q : Nat} : Works l d m (n.flushSlot q) := by
  unfold Node.flushSlot
  extract_lets x b e before flushed
  have hf : Works l d m flushed := h.setQueue.deliver
  exact h.ite (.ite hf.setQueue hf)

theorem toStreams (h : Works l d m n) {f : Nat → Bool} {time : Nat} {pre bytes : List Byte} :
    Works l d m (n.toStreams f time pre bytes) :=
  h.foldl fun _ _ _ g => .ite g.setQueue.flushSlot g.setQueue

theorem sendSample (h : Works l d m n) {p time value raw q : Nat} {phaseA : Bool} :
    Works l d m (n.sendSample l p time value raw phaseA q) := by
  unfold Node.sendSample
  exact h.archive.toStreams

theorem sendNan (h : Works l d m n) {p time raw : Nat} {phaseA : Bool} :
    Works l d m (n.sendNan l p time raw phaseA) := h.draw.sendSample

/-! ## Sending a reading (R154, R157, R162) -/

theorem twinSend (h : Works l d m n) {type : Nat} {body : List Byte} : Works l d m (n.twinSend type body) := by
  unfold Node.twinSend
  exact .ite (h.of_same (by rfl)) h

theorem toFrame (h : Works l d m n) {kind ref : Nat} {r : Reading} : Works l d m (n.toFrame kind ref r) := by
  unfold Node.toFrame
  exact .ite (h.of_same (by rfl)) (.ite (twinSend (h.of_same (by rfl))) (h.of_same (by rfl)))

/-- A pin's last valid value moves. -/
theorem setGood (h : Works l d m n) {p v : Nat} : Works l d m (n.setPin l p { n.pin l p with lastGood := v }) := by
  refine h.setLake rfl fun q => ?_
  by_cases e : q = p
  · subst e
    rw [mapGet_mapPut_self]
    rfl
  · rw [mapGet_mapPut_ne _ _ e]
    rfl

/-- A converter moves on. -/
theorem setConv (h : Works l d m n) {c : Nat} {x : ConvSt} : Works l d m (n.setConv l c x) := by
  obtain ⟨a, b, e⟩ := n.setConv_eq l c x
  rw [e]
  exact h.setLake rfl fun _ => rfl

section
variable (hl : l < 32)
include hl

/-- A write of one of the first results of a pin. -/
theorem setRes (h : Works l d m n) (hd : 1 ≤ d) {p : Nat} (hp : p < 8) {sub v : Nat} (hs : sub ≤ 5) :
    Works l d m (n.setI 0 (pinRes l p) sub v) :=
  h.setI (by simp [lakeWrites_pinRes hl hp, hd, hs]) ⟨by unfold pinRes lakeIdx; omega, by omega⟩

theorem sendReading (h : Works l d m n) (hd : 1 ≤ d) {p : Nat} (hp : p < 8) {r : Reading} {raw status : Nat} :
    Works l d m (n.sendReading l p r raw status) := by
  unfold Node.sendReading
  extract_lets _ told y kept _
  have ht : Works l d m told := setRes hl (setRes hl (setRes hl (setRes hl (setRes hl h hd hp (by decide))
    hd hp (by decide)) hd hp (by decide)) hd hp (by decide)) hd hp (by decide)
  have hk : Works l d m kept := .ite ht.setGood ht
  refine toFrame (hk.setLake ?_ fun _ => ?_)
  · rfl
  · rfl

theorem sendSampled (h : Works l d m n) (hd : 1 ≤ d) {p : Nat} (hp : p < 8) {r : Reading} {raw status : Nat} :
    Works l d m (n.sendSampled l p r raw status) := (h.sendReading hl hd hp).sendSample

theorem sendBroken (h : Works l d m n) (hd : 1 ≤ d) {p : Nat} (hp : p < 8) {stamp : Nat} :
    Works l d m (n.sendBroken l p stamp) := h.sendReading hl hd hp

theorem markUnscanned (h : Works l d m n) (hd : 1 ≤ d) {cfg : List (Nat × Nat)} : Works l d m (n.markUnscanned l cfg) :=
  h.foldl fun _ _ hp g => .ite (g.sendReading hl hd (List.mem_range.mp hp)) g

/-- Sets that are broken send on the way to the next slot that takes time. -/
theorem seekSlot (h : Works l d m n) (hd : 1 ≤ d) {cfg : List (Nat × Nat)} {pos : Nat} {slots : List Nat} :
    Works l d m (n.seekSlot l cfg pos slots).1 := by
  induction slots generalizing n pos with
  | nil => exact h
  | cons c rest ih =>
    unfold Node.seekSlot
    split
    · exact h
    · split
      · next hc => exact ih (h.sendBroken hl hd hc.1)
      · exact ih h

/-! ## Scanning (R140, R154, R155) -/

theorem setConvObject (h : Works l d m n) (hd : 2 ≤ d) {c : Nat} (hc : c < 2) {sub v : Nat} (hs : sub < 256) :
    Works l d m (n.set (convIdx l c) sub v) :=
  h.setI (by simp [lakeWrites_convIdx hl hc, hd]) ⟨by unfold convIdx lakeIdx; omega, hs⟩

theorem startScan (h : Works l d m n) (hd : 2 ≤ d) {c : Nat} (hc : c < 2) : Works l d m (n.startScan l c) := by
  unfold Node.startScan
  extract_lets cfg slots shown marked
  have hs : Works l d m shown := h.setConvObject hl hd hc (by decide)
  have hm : Works l d m marked := .ite (hs.markUnscanned hl (by omega)) hs
  have hk : Works l d m (marked.seekSlot l cfg 0 slots).1 := hm.seekSlot hl (by omega)
  exact .ite hk.setConv (hk.setConv.setConvObject hl hd hc (by decide))

theorem nextSlot (h : Works l d m n) (hd : 2 ≤ d) {c : Nat} (hc : c < 2) : Works l d m (n.nextSlot l c) := by
  unfold Node.nextSlot
  extract_lets x
  have hk : Works l d m (n.seekSlot l x.cfg (x.pos + 1) (x.list.drop (x.pos + 1))).1 := h.seekSlot hl (by omega)
  have ended (k : Node) (g : Works l d m k) : Works l d m (if x.late then k.startScan l c else k) :=
    .ite (g.startScan hl hd hc) g
  exact .ite h.setConv (.ite hk.setConv (ended _ (hk.setConvObject hl hd hc (by decide)).setConv))

end

/-! ## What is read off it -/

theorem broken (h : Works l d m n) (p : Nat) : (n.pin l p).broken = (m.pin l p).broken := (congrArg PinSt.broken (h.pins p) :)
theorem band (h : Works l d m n) (p : Nat) : (n.pin l p).band = (m.pin l p).band := (congrArg PinSt.band (h.pins p) :)

theorem slotTakesTime (h : Works l d m n) (cfg : List (Nat × Nat)) (c : Nat) :
    n.slotTakesTime cfg l c = m.slotTakesTime cfg l c := by
  unfold Node.slotTakesTime
  rw [h.broken]

section
variable (hl : l < 32)
include hl

theorem o_pinRes (h : Works l d m n) {p : Nat} (hp : p < 8) {sub : Nat} (hs : sub < 256) (hw : d = 0 ∨ 5 < sub) :
    n.o (pinRes l p) sub = m.o (pinRes l p) sub :=
  h.objects 0 _ _ (by unfold pinRes lakeIdx; omega) hs (by rw [lakeWrites_pinRes hl hp]; simp; omega)

theorem o_convIdx (h : Works l d m n) {c : Nat} (hc : c < 2) {sub : Nat} (hs : sub < 256) (hd : d < 2) :
    n.o (convIdx l c) sub = m.o (convIdx l c) sub :=
  h.objects 0 _ _ (by unfold convIdx lakeIdx; omega) hs (by rw [lakeWrites_convIdx hl hc]; simp; omega)

theorem o_lakeIdx (h : Works l d m n) {sub : Nat} (hs : sub < 256) (hd : d < 3) :
    n.o (lakeIdx l) sub = m.o (lakeIdx l) sub :=
  h.objects 0 _ _ (by unfold lakeIdx; omega) hs (by rw [lakeWrites_lakeIdx hl]; simp; omega)

end

end Node.Works
end Sys2Proof.Machine
end

section
/-!
SUPPORT. Scans and conversions (R49, R137, R139, R140, R154, R155, R157).
-/
namespace Sys2Proof.Machine

/-! ## The start of a scan (R140, R154, R155) -/

/-- A scan finds a slot that takes time where its list has one. -/
theorem Node.seekSlot_finds {l : Nat} (hl : l < 32) (cfg : List (Nat × Nat)) (slots : List Nat) (n : Node) (pos : Nat) :
    (n.seekSlot l cfg pos slots).2 < pos + slots.length ↔ slots.any (n.slotTakesTime cfg l) = true := by
  induction slots generalizing n pos with
  | nil => simp [Node.seekSlot]
  | cons c rest ih =>
    have step (k : Node) (h : Node.Works l 1 n k) (hc : n.slotTakesTime cfg l c = false) :
        (k.seekSlot l cfg (pos + 1) rest).2 < pos + (c :: rest).length ↔ (c :: rest).any (n.slotTakesTime cfg l) = true := by
      have hf : k.slotTakesTime cfg l = n.slotTakesTime cfg l := funext fun c => h.slotTakesTime cfg c
      rw [List.any_cons, hc, Bool.false_or, ← hf, ← ih k (pos + 1), List.length_cons]
      omega
    unfold Node.seekSlot
    by_cases hc : n.slotTakesTime cfg l c = true
    · rw [if_pos hc]
      simp [hc]
    · rw [if_neg hc]
      have hc' := Bool.eq_false_iff.mpr hc
      split
      · next hb => exact step _ (.sendBroken hl (.refl n) (by decide) hb.1) hc'
      · exact step _ (.refl n) hc'

/-- R140, R154, R155: what the start of a scan leaves of its converter. -/
theorem Node.startScan_leaves (n : Node) {l k : Nat} (hl : l < 32) (hk : k < 2) :
    (n.startScan l k).o (convIdx l k) 0x05 = listObject (activeList (n.lakeCfg l) l k)
      ∧ ((n.startScan l k).conv l k).cfg = n.lakeCfg l
      ∧ ((n.startScan l k).conv l k).running = (activeList (n.lakeCfg l) l k).any (n.slotTakesTime (n.lakeCfg l) l) := by
  unfold Node.startScan
  extract_lets cfg slots shown marked
  have hm : Node.Works l 1 shown marked := .ite (.markUnscanned hl (.refl shown) (by decide)) (.refl shown)
  have hs : Node.Works l 1 shown (marked.seekSlot l cfg 0 slots).1 := hm.seekSlot hl (by decide)
  have hf : marked.slotTakesTime cfg l = n.slotTakesTime cfg l := funext fun c => hm.slotTakesTime cfg c
  have hfinds := Node.seekSlot_finds hl cfg slots marked 0
  rw [hf, Nat.zero_add] at hfinds
  have ho := (hs.o_convIdx hl hk (sub := 0x05) (by decide) (by decide)).trans (Node.o_set_self ..)
  generalize marked.seekSlot l cfg 0 slots = found at hfinds ho ⊢
  obtain ⟨sought, pos⟩ := found
  dsimp only at hfinds ho ⊢
  by_cases hp : pos < slots.length
  · rw [if_pos hp, Node.setConv_o, Node.conv_setConv_self]
    exact ⟨ho, rfl, (hfinds.mp hp).symm⟩
  · have h6 (x : Node) : (x.set (convIdx l k) 0x06 0).conv l k = x.conv l k := rfl
    rw [if_neg hp, h6, Node.conv_setConv_self]
    refine ⟨?_, rfl, (Bool.eq_false_iff.mpr (mt hfinds.mpr hp)).symm⟩
    exact (Node.oi_setI_sub _ 0 (convIdx l k) 0 (by decide)).trans ((Node.setConv_o ..).trans ho)

/-- R155: a scan that falls due while one runs, in periodic mode. -/
theorem Node.scanDue_overrun {n : Node} {l k : Nat} (hs : n.lakeState l = 0 ∨ n.lakeState l = 4) (hr : (n.conv l k).running = true)
    (hm : n.o (convIdx l k) 0x02 = 1) :
    n.scanDue l k = (n.incSatI 32 0 (convIdx l k) 0x07 1).setConv l k { n.conv l k with late := true } := by
  unfold Node.scanDue
  rw [if_neg (by rcases hs with h | h <;> simp [h]), if_pos hr, if_pos hm]

theorem Node.scanDue_starts {n : Node} {l k : Nat} (hs : n.lakeState l = 0 ∨ n.lakeState l = 4)
    (hr : (n.conv l k).running = false) : n.scanDue l k = n.startScan l k := by
  unfold Node.scanDue
  rw [if_neg (by rcases hs with h | h <;> simp [h]), if_neg (by simp [hr])]

/-! ## The end of a conversion (R49, R139, R140, R157) -/

/-- The centre of the window of the conversion that ends (R157). -/
def Node.windowCentre (n : Node) (l k : Nat) : Nat :=
  let c := n.conv l k
  let slot := c.list.getD c.pos 0xFF
  n.copy (isleLake l) - windowNs (pinCfg c.cfg l slot 0x02) (pinCfg c.cfg l slot 0x03 == 1) (pinCfg c.cfg l slot 0x01) (q32 c.freq) / 2

/-- A conversion that is not discarded, of a set that is not swapped: its reading goes into hold, and the next slot begins. -/
theorem Node.conversionEnd_holds {n : Node} {l k : Nat} (hl : n.lakeConverts l = true) (hr : (n.conv l k).running = true)
    (hd : (n.conv l k).discard = false) (ha : (n.conv l k).phaseA = none) (hv : n.copyValid (isleLake l) = true)
    {slot : Nat} (hs : (n.conv l k).list.getD (n.conv l k).pos 0xFF = slot) (h8 : slot < 8)
    (hm : ¬ (pinCfg (n.conv l k).cfg l slot 0x01 = 3 ∧ pinCfg (n.conv l k).cfg l slot 0x17 = 1)) (code : Int) (raw cj : Nat) :
    n.conversionEnd l k code raw cj = (n.holdReading l slot (n.windowCentre l k) raw
      (n.formReading (n.conv l k).cfg l slot none code (n.conv l k).refBad)).nextSlot l k := by
  have hswap : (pinCfg (n.conv l k).cfg l slot 0x01 == 3 && pinCfg (n.conv l k).cfg l slot 0x17 == 1) = false := by
    simpa using hm
  unfold Node.conversionEnd Node.windowCentre
  dsimp only
  rw [hs, hr, hl, hd, hv, ha, hswap]
  simp only [Bool.and_self, Bool.not_true, Bool.false_eq_true, if_false, Bool.or_self, Bool.false_and]
  rw [if_neg (by omega), if_neg (by omega)]

/-- A conversion that is discarded is counted, and the next slot begins; it may send a sample. -/
theorem Node.conversionEnd_discards {n : Node} {l k : Nat} (hl : n.lakeConverts l = true) (hr : (n.conv l k).running = true)
    (hd : (n.conv l k).discard = true ∨ n.copyValid (isleLake l) = false) (code : Int) (raw cj : Nat) :
    ∃ x, Node.Works l 0 (n.incSatI 32 0 (lakeIdx l) 0x08 1) x ∧ n.conversionEnd l k code raw cj = x.nextSlot l k := by
  have hd' : ((n.conv l k).discard || !n.copyValid (isleLake l)) = true := by simpa using hd
  unfold Node.conversionEnd
  dsimp only
  rw [hr, hl, hd']
  exact ⟨_, .ite (.sendNan (.refl _)) (.refl _), rfl⟩

/-- R157: a reading in hold, once its time has run, is sent with its sample. -/
theorem Node.releaseReading_sends {n : Node} {l p : Nat} {h : HeldReading} (hf : (n.lake l).held.find? (fun h => h.pin == p) = some h)
    (hn : h.ready ≤ n.now) (hl : n.lakeConverts l = true) :
    n.releaseReading l p =
      (n.setLake l { n.lake l with held := (n.lake l).held.erase h }).sendSampled l p h.r h.raw h.status := by
  unfold Node.releaseReading
  dsimp only
  rw [hf]
  exact if_pos ⟨hn, hl⟩

/-! ## The results of a pin (Table 6-18) -/

/-- The node with a reading in the results .01 to .05 of a pin. -/
def Node.withResults (n : Node) (l p : Nat) (r : Reading) (raw status : Nat) : Node :=
  ((((n.set (pinRes l p) 0x01 r.value).set (pinRes l p) 0x02 r.q).set (pinRes l p) 0x03 r.time).set (pinRes l p) 0x04
    (if raw < 0x800000 then raw else raw + 0xFF000000)).set (pinRes l p) 0x05 status

theorem Node.withResults_results (n : Node) (l p : Nat) (r : Reading) (raw status : Nat) :
    let t := n.withResults l p r raw status
    t.o (pinRes l p) 0x01 = r.value ∧ t.o (pinRes l p) 0x02 = r.q ∧ t.o (pinRes l p) 0x03 = r.time ∧ t.o (pinRes l p) 0x05 = status := by
  simp [Node.withResults, Node.o_eq, Node.set_eq, Node.oi_setI, key]

theorem Node.sendReading_od (n : Node) (l p : Nat) (r : Reading) (raw status : Nat) :
    (n.sendReading l p r raw status).od = (n.withResults l p r raw status).od := by
  unfold Node.sendReading
  refine (Node.toFrame_leaves ..).1.trans ?_
  dsimp only
  split
  · rfl
  · rfl

/-- What the results of a pin read after a reading sent with its sample. -/
theorem Node.sendSampled_results (n : Node) {l p : Nat} (hl : l < 32) (hp : p < 8) (r : Reading) (raw status : Nat) :
    let t := n.sendSampled l p r raw status
    t.o (pinRes l p) 0x01 = r.value ∧ t.o (pinRes l p) 0x02 = r.q ∧ t.o (pinRes l p) 0x03 = r.time ∧ t.o (pinRes l p) 0x05 = status := by
  have hw : Node.Works l 0 (n.sendReading l p r raw status) (n.sendSampled l p r raw status) := .sendSample (.refl _)
  have hr (sub : Nat) (hs : sub < 256) :
      (n.sendSampled l p r raw status).o (pinRes l p) sub = (n.withResults l p r raw status).o (pinRes l p) sub :=
    (hw.o_pinRes hl hp hs (.inl rfl)).trans (congrArg (odGet · (key 0 (pinRes l p) sub)) (n.sendReading_od ..))
  dsimp only
  rw [hr 0x01 (by decide), hr 0x02 (by decide), hr 0x03 (by decide), hr 0x05 (by decide)]
  exact n.withResults_results ..

/-- What the release of a reading leaves. -/
theorem Node.releaseReading_leaves {n : Node} {l p : Nat} (hl : l < 32) (hp : p < 8) {h : HeldReading}
    (hf : (n.lake l).held.find? (fun h => h.pin == p) = some h) (hn : h.ready ≤ n.now) (hc : n.lakeConverts l = true) :
    (n.releaseReading l p).o (pinRes l p) 0x01 = h.r.value ∧ (n.releaseReading l p).o (pinRes l p) 0x02 = h.r.q
      ∧ (n.releaseReading l p).o (pinRes l p) 0x03 = h.r.time ∧ (n.releaseReading l p).o (pinRes l p) 0x05 = h.status
      ∧ ((n.releaseReading l p).lake l).held = (n.lake l).held.erase h := by
  rw [Node.releaseReading_sends hf hn hc]
  have hx := congrArg LakeSt.held (n.lake_setLake_self l { n.lake l with held := (n.lake l).held.erase h })
  generalize n.setLake l { n.lake l with held := (n.lake l).held.erase h } = freed at hx ⊢
  obtain ⟨h1, h2, h3, h5⟩ := freed.sendSampled_results hl hp h.r h.raw h.status
  have hw : Node.Works l 1 freed (freed.sendSampled l p h.r h.raw h.status) := .sendSampled hl (.refl freed) (by decide) hp
  exact ⟨h1, h2, h3, h5, hw.held.trans hx⟩

/-! ## The statement -/

section
variable {s : State} {dt : Nat} {l : Fin 32} {k : Fin 2} (hup : s.node.up = true)
include hup

/-- A scan starts (R140, R154, R155). -/
theorem scanStart_starts (hs : (s.at_ dt).lakeState l = 0 ∨ (s.at_ dt).lakeState l = 4)
    (hr : ((s.at_ dt).conv l k).running = false) : Answers (.scanStart dt l k) s fun t => Rests s t
      ∧ t.node.o (convIdx l k) 0x05 = listObject (activeList ((s.at_ dt).lakeCfg l) l k)
      ∧ (t.node.conv l k).cfg = (s.at_ dt).lakeCfg l
      ∧ (t.node.conv l k).running =
        (activeList ((s.at_ dt).lakeCfg l) l k).any ((s.at_ dt).slotTakesTime ((s.at_ dt).lakeCfg l) l) := by
  refine answers_actUp hup rfl ⟨⟨rfl, rfl⟩, ?_⟩
  rw [Node.scanDue_starts hs hr]
  exact (s.at_ dt).startScan_leaves l.isLt k.isLt

/-- A scan that falls due while one runs counts an overrun (R155). -/
theorem scanStart_overruns (hs : (s.at_ dt).lakeState l = 0 ∨ (s.at_ dt).lakeState l = 4)
    (hr : ((s.at_ dt).conv l k).running = true) (hm : (s.at_ dt).o (convIdx l k) 0x02 = 1) :
    Answers (.scanStart dt l k) s fun t => Rests s t
      ∧ t.node.o (convIdx l k) 0x07 = min ((s.at_ dt).o (convIdx l k) 0x07 + 1) (2 ^ 32 - 1) ∧ (t.node.conv l k).late = true
      ∧ SameObjects s.node t.node [key 0 (convIdx l k) 0x07] := by
  have hso : SameObjects s.node ((s.at_ dt).incSatI 32 0 (convIdx l k) 0x07 1) [key 0 (convIdx l k) 0x07] :=
    SameObjects.setI (n := s.at_ dt) (.refl s.node _) (by simp)
  refine answers_actUp hup rfl ⟨⟨rfl, rfl⟩, ?_⟩
  rw [Node.scanDue_overrun hs hr hm, Node.conv_setConv_self, Node.setConv_o]
  refine ⟨Node.oi_incSatI_self .., rfl, fun x hx => ?_⟩
  obtain ⟨a, b, e⟩ := ((s.at_ dt).incSatI 32 0 (convIdx l k) 0x07 1).setConv_eq l k { (s.at_ dt).conv l k with late := true }
  rw [e]
  exact hso x hx

/-- A conversion's reading goes into hold (R137, R139, R157). -/
theorem conversionEnd_holds {code : BitVec 24} {cj : BitVec 32} {slot : Nat} (hc : (s.at_ dt).lakeConverts l = true)
    (hr : ((s.at_ dt).conv l k).running = true) (hd : ((s.at_ dt).conv l k).discard = false)
    (ha : ((s.at_ dt).conv l k).phaseA = none) (hv : (s.at_ dt).copyValid (isleLake l) = true)
    (hs : ((s.at_ dt).conv l k).list.getD ((s.at_ dt).conv l k).pos 0xFF = slot) (h8 : slot < 8)
    (hm : ¬ (pinCfg ((s.at_ dt).conv l k).cfg l slot 0x01 = 3 ∧ pinCfg ((s.at_ dt).conv l k).cfg l slot 0x17 = 1)) :
    Answers (.conversionEnd dt l k code cj) s fun t => Rests s t ∧ ∃ h, (t.node.lake l).held = ((s.at_ dt).lake l).held ++ [h]
      ∧ h.pin = slot ∧ h.raw = code.toNat ∧ h.ready = (s.at_ dt).now + 250000 ∧ h.r.time = (s.at_ dt).windowCentre l k
      ∧ h.r.q = ((s.at_ dt).formReading ((s.at_ dt).conv l k).cfg l slot none code.toInt ((s.at_ dt).conv l k).refBad).q := by
  let f := (s.at_ dt).formReading ((s.at_ dt).conv l k).cfg l slot none code.toInt ((s.at_ dt).conv l k).refBad
  let held : Node := (s.at_ dt).holdReading l slot ((s.at_ dt).windowCentre l k) code.toNat f
  have hw : Node.Works l 2 held (held.nextSlot l k) := .nextSlot l.isLt (.refl held) (by decide) k.isLt
  refine answers_actUp hup rfl ⟨⟨rfl, rfl⟩, ?_⟩
  rw [Node.conversionEnd_holds hc hr hd ha hv hs h8 hm, hw.held]
  exact ⟨_, congrArg LakeSt.held (Node.lake_setLake_self ..), rfl, rfl, rfl, rfl, rfl⟩

/-- A conversion is discarded and counted (R49, R140). -/
theorem conversionEnd_discards {code : BitVec 24} {cj : BitVec 32} (hc : (s.at_ dt).lakeConverts l = true)
    (hr : ((s.at_ dt).conv l k).running = true)
    (hd : ((s.at_ dt).conv l k).discard = true ∨ (s.at_ dt).copyValid (isleLake l) = false) :
    Answers (.conversionEnd dt l k code cj) s fun t => Rests s t ∧ (t.node.lake l).held = ((s.at_ dt).lake l).held
      ∧ t.node.o (lakeIdx l) 0x08 = min ((s.at_ dt).o (lakeIdx l) 0x08 + 1) (2 ^ 32 - 1) := by
  obtain ⟨x, hx, e⟩ := Node.conversionEnd_discards hc hr hd code.toInt code.toNat cj.toNat
  have hn : Node.Works l 2 x (x.nextSlot l k) := .nextSlot l.isLt (.refl x) (by decide) k.isLt
  refine answers_actUp hup rfl ⟨⟨rfl, rfl⟩, ?_⟩
  rw [e, hn.held, hx.held, hn.o_lakeIdx l.isLt (by decide) (by decide), hx.o_lakeIdx l.isLt (by decide) (by decide)]
  exact ⟨rfl, Node.oi_incSatI_self ..⟩

/-- A reading in hold is released (R157). -/
theorem lakeReadingRelease_sends {p : Fin 8} {h : HeldReading} (hf : ((s.at_ dt).lake l).held.find? (fun h => h.pin == p.val) = some h)
    (hn : h.ready ≤ (s.at_ dt).now) (hc : (s.at_ dt).lakeConverts l = true) :
    Answers (.lakeReadingRelease dt l p) s fun t => Rests s t ∧ t.node.o (pinRes l p) 0x01 = h.r.value
      ∧ t.node.o (pinRes l p) 0x02 = h.r.q ∧ t.node.o (pinRes l p) 0x03 = h.r.time ∧ t.node.o (pinRes l p) 0x05 = h.status
      ∧ (t.node.lake l).held = ((s.at_ dt).lake l).held.erase h := by
  exact answers_actUp hup rfl ⟨⟨rfl, rfl⟩, Node.releaseReading_leaves l.isLt p.isLt hf hn hc⟩

end

/-- Settles O29: a scan's start and overrun, a conversion held and discarded, and a release, each by what it leaves. -/
theorem scansConvert : Obligations.ScansConvert := fun _ _ _ _ hup =>
  ⟨scanStart_starts hup, scanStart_overruns hup,
    fun _ _ hc hr hd ha hv h8 hm => conversionEnd_holds hup hc hr hd ha hv rfl h8 hm,
    fun _ _ => conversionEnd_discards hup, fun _ _ => lakeReadingRelease_sends hup⟩

end Sys2Proof.Machine
end

section
/-!
SUPPORT. Contact bands, wire breaks and pulse tests (R149, R153, R158 to R163).
-/
namespace Sys2Proof.Machine

/-! ## Contact bands (R149) -/

@[simp] theorem Node.setPin_o (n : Node) (l p : Nat) (x : PinSt) (idx sub : Nat) : (n.setPin l p x).o idx sub = n.o idx sub :=
  Node.setLake_o ..

/-- The low byte of a contact's status, below its band. -/
theorem Node.bandStatus_lt (n : Node) (l p band : Nat) (closed : Bool) :
    (if band = 2 then 8 else 0) + (if band = 3 then 4 else 0) + (if band < 2 then b2n closed else n.o (pinRes l p) 0x05 % 2) < 256 := by
  have hb : b2n closed < 2 := by cases closed <;> decide
  have ho : n.o (pinRes l p) 0x05 % 2 < 2 := Nat.mod_lt _ (by decide)
  split_ifs <;> omega

/-- R149: what a reported band leaves. -/
theorem Node.reportBand_leaves (n : Node) {l p : Nat} (hl : l < 32) (hp : p < 8) (band stamp : Nat) (first : Bool) :
    ((n.reportBand l p band stamp first).pin l p).band = some band
      ∧ (n.reportBand l p band stamp first).o (pinRes l p) 0x02 = (if band < 2 then (if first then 1 else 0) else 2)
      ∧ (n.reportBand l p band stamp first).o (pinRes l p) 0x03 = stamp
      ∧ (n.reportBand l p band stamp first).o (pinRes l p) 0x07 = (n.o (pinRes l p) 0x07 + 1) % 2 ^ 32
      ∧ (n.reportBand l p band stamp first).o (pinRes l p) 0x05 / 256 = band := by
  unfold Node.reportBand
  extract_lets inv closed v q st _ noted changed old reported
  have hst : st / 256 = band := by
    have := n.bandStatus_lt l p band closed
    omega
  have hr : (reported.pin l p).band = some band
      ∧ reported.o (pinRes l p) 0x07 = (n.o (pinRes l p) 0x07 + 1) % 2 ^ 32 := by
    have hb : old.band = some band := congrArg PinSt.band (n.pin_setPin_self l p _)
    have h7 : changed.o (pinRes l p) 0x07 = (n.o (pinRes l p) 0x07 + 1) % 2 ^ 32 := by
      rw [← n.setPin_o l p { n.pin l p with band := some band }]
      exact Node.oi_setI_self ..
    clear_value changed old
    dsimp only [reported]
    split
    · rw [Node.fault_o, Node.setPin_o, Node.o_eq, Node.set_eq, Node.oi_setI_sub _ _ _ _ (by decide), Node.incSatI,
        Node.oi_setI_sub _ _ _ _ (by decide)]
      exact ⟨(congrArg PinSt.band (Node.pin_setPin_self ..)).trans hb, h7⟩
    · rw [Node.pin_setPin_self, Node.setPin_o]
      exact ⟨hb, h7⟩
  clear_value reported st
  have hw : Node.Works l 1 reported (reported.sendSampled l p { value := v, q := q, time := stamp } band st) :=
    .sendSampled hl (.refl _) (by decide) hp
  obtain ⟨-, h2, h3, h5⟩ := reported.sendSampled_results hl hp { value := v, q := q, time := stamp } band st
  exact ⟨(hw.band p).trans hr.1, h2, h3, (hw.o_pinRes hl hp (by decide) (.inr (by decide))).trans hr.2, (congrArg (· / 256) h5).trans hst⟩

/-- R149: a qualified change of the band is reported. -/
theorem Node.bandChange_reports {n : Node} {l p band ago : Nat} (hm : contactMode (n.o (pinIdx l p) 0x01) = true)
    (hb : bandOk (n.o (pinIdx l p) 0x01) band = true) (hc : n.lakeConverts l = true) (hv : n.copyValid (isleLake l) = true)
    (hne : (n.pin l p).band ≠ some band)
    (hq : (if band < 2 then 20000 + n.o (pinIdx l p) 0x14 * 1000000 else 20000) ≤ ago + 1000) :
    n.bandChange l p band ago =
      (n.setPin l p { n.pin l p with sampled := band }).reportBand l p band (n.copy (isleLake l) - ago) false := by
  have hv' : (n.setPin l p { n.pin l p with sampled := band }).copyValid (isleLake l) = true := hv
  unfold Node.bandChange
  dsimp only
  rw [hm, hb, hc, hv', Node.pin_setPin_self, Node.setPin_o]
  refine (if_pos rfl).trans (if_pos ?_)
  simpa [us, ms, hne] using hq

/-! ## Wire breaks (R158, R160, R162) -/

/-- R162: the conversion of set `p` in progress at converter `k` is cut off. -/
def Node.cutConversion (n : Node) (l p k : Nat) : Node :=
  let c := n.conv l k
  if c.running && c.list.getD c.pos 0xFF == p then
    ((n.incSatI 32 0 (lakeIdx l) 0x08 1).setConv l k { c with phaseA := none }).nextSlot l k
  else n

theorem Node.Works.cutConversion {l d : Nat} {m n : Node} (hl : l < 32) (h : Node.Works l d m n) (hd : 3 ≤ d) {c p : Nat}
    (hc : c < 2) : Node.Works l d m (n.cutConversion l p c) := by
  have hcount : Node.Works l d m (n.incSatI 32 0 (lakeIdx l) 0x08 1) :=
    h.setI (by simp [lakeWrites_lakeIdx hl, hd]) ⟨by unfold lakeIdx; omega, by decide⟩
  exact .ite (hcount.setConv.nextSlot hl (by omega) hc) h

/-- R162: a set whose break is declared, with its BAD_SENSOR reading sent and its results in hold dropped. -/
def Node.breakSent (n : Node) (l p stamp : Nat) : Node :=
  let n := n.setPin l p { n.pin l p with broken := true, lastBad := n.now }
  let x := n.lake l
  let gone := x.held.filter (fun h => h.pin == p)
  let n := (n.setLake l { x with held := x.held.filter (fun h => h.pin != p) }).incSatI 32 0 (lakeIdx l) 0x08 gone.length
  (gone.foldl (fun n h => n.sendNan l p h.r.time h.raw false) n).sendBroken l p stamp

theorem Node.breakSent_leaves (n : Node) {l p : Nat} (hl : l < 32) (hp : p < 8) (stamp : Nat) :
    ((n.breakSent l p stamp).pin l p).broken = true
      ∧ (n.breakSent l p stamp).o (pinRes l p) 0x06 = n.o (pinRes l p) 0x06 := by
  unfold Node.breakSent
  extract_lets _ marked x gone counted
  have hw : Node.Works l 1 counted
      ((gone.foldl (fun n h => n.sendNan l p h.r.time h.raw false) counted).sendBroken l p stamp) :=
    .sendBroken hl (.foldl (fun _ _ _ g => g.sendNan) (.refl counted)) (by decide) hp
  have hb : (counted.pin l p).broken = true := by
    have hx : counted.lake l = { marked.lake l with held := (marked.lake l).held.filter (fun h => h.pin != p) } :=
      Node.lake_setLake_self ..
    rw [Node.pin, hx]
    exact congrArg PinSt.broken (Node.pin_setPin_self ..)
  have ho : counted.o (pinRes l p) 0x06 = n.o (pinRes l p) 0x06 :=
    Node.oi_setI_ne (marked.setLake l _) _ (by unfold key pinRes; omega)
  exact ⟨(hw.broken p).trans hb, (hw.o_pinRes hl hp (by decide) (.inr (by decide))).trans ho⟩

theorem Node.declareBreak_eq {n : Node} {l p : Nat} (h : (n.pin l p).broken = false) (stamp : Nat) :
    n.declareBreak l p stamp = ((((((n.breakSent l p stamp).incSatI 32 0 (pinRes l p) 0x06 1).set (pinRes l p) 0x08 stamp).fault
      (0x020 + l) 0x30 p 0).cutConversion l p 0).cutConversion l p 1) := by
  unfold Node.declareBreak
  rw [if_neg (by simp [h])]
  rfl

/-- R162: what the declaration of a break leaves. -/
theorem Node.declareBreak_leaves {n : Node} {l p : Nat} (hl : l < 32) (hp : p < 8) (h : (n.pin l p).broken = false) (stamp : Nat) :
    ((n.declareBreak l p stamp).pin l p).broken = true
      ∧ (n.declareBreak l p stamp).o (pinRes l p) 0x06 = min (n.o (pinRes l p) 0x06 + 1) (2 ^ 32 - 1)
      ∧ (n.declareBreak l p stamp).o (pinRes l p) 0x08 = stamp := by
  obtain ⟨hb, h6⟩ := n.breakSent_leaves hl hp stamp
  rw [Node.declareBreak_eq h]
  generalize n.breakSent l p stamp = sent at hb h6 ⊢
  have hw : Node.Works l 3 (sent.incSatI 32 0 (pinRes l p) 0x06 1 |>.set (pinRes l p) 0x08 stamp) _ :=
    .cutConversion hl (.cutConversion hl (.fault (.refl _) (src := 0x020 + l) (kind := 0x30) (detail := p) (addr := 0)) (by decide)
      (c := 0) (p := p) (by decide)) (by decide) (c := 1) (p := p) (by decide)
  refine ⟨(hw.broken p).trans hb, (hw.o_pinRes hl hp (by decide) (.inr (by decide))).trans ?_,
    (hw.o_pinRes hl hp (by decide) (.inr (by decide))).trans (Node.o_set_self ..)⟩
  exact (Node.oi_setI_sub _ 0 (pinRes l p) _ (by decide)).trans ((Node.oi_incSatI_self ..).trans (by rw [← h6]; rfl))

theorem Node.windowBreak_declares {n : Node} {l p ago : Nat} (hc : n.lakeConverts l = true) (ha : 31000 ≤ ago)
    (hv : n.copyValid (isleLake l) = true) (hp : primaryOf (n.lakeCfg l) l p = p) (hs : setOk (n.lakeCfg l) l p = true)
    (hw : windowWatched (pinCfg (n.lakeCfg l) l p 0x01) = true) :
    n.windowBreak l p ago = n.declareBreak l p (n.copy (isleLake l) - ago) := by
  unfold Node.windowBreak
  dsimp only
  rw [hp, hc, hv, hs, hw, Nat.sub_self]
  exact if_pos (by simp [windowPin, us, ha])

/-! ## Pulse tests (R160) -/

section
variable {n : Node} {l p : Nat} {uv : Int} (hc : n.lakeConverts l = true) (hv : n.copyValid (isleLake l) = true)
  (hp : pulseOn (n.lakeCfg l) l p = true) (hs : setOk (n.lakeCfg l) l p = true)
include hc hv hp hs

theorem Node.pulse_passes (hu : (uv : Rat) ≤ pulseLimitUv (n.lakeCfg l) l p) :
    n.pulse l p uv = n.setPin l p { n.pin l p with failRun := 0 } := by
  unfold Node.pulse
  dsimp only
  simp only [hc, hv, hp, hs, Bool.and_self, if_true]
  rw [if_neg (not_lt.mpr hu)]

theorem Node.pulse_fails_first (hu : pulseLimitUv (n.lakeCfg l) l p < (uv : Rat)) (h0 : (n.pin l p).failRun = 0) :
    n.pulse l p uv =
      n.setPin l p { n.pin l p with failRun := 1, failFirst := n.copy (isleLake l), lastBad := n.now } := by
  unfold Node.pulse
  dsimp only
  simp only [hc, hv, hp, hs, Bool.and_self, if_true]
  rw [if_pos hu, h0, if_neg (by decide), if_pos rfl]

theorem Node.pulse_fails_again (hu : pulseLimitUv (n.lakeCfg l) l p < (uv : Rat)) (h1 : 1 ≤ (n.pin l p).failRun) :
    ∃ x : PinSt, n.pulse l p uv = (n.setPin l p x).declareBreak l p (n.pin l p).failFirst
      ∧ x.broken = (n.pin l p).broken := by
  unfold Node.pulse
  dsimp only
  simp only [hc, hv, hp, hs, Bool.and_self, if_true]
  rw [if_pos hu, if_pos h1, if_neg (by omega)]
  exact ⟨_, rfl, rfl⟩

end

/-! ## The end of a break (R163) -/

theorem Node.clearBreak_leaves {n : Node} {l p : Nat} (hb : (n.pin l p).broken = true)
    (hm : convMode (n.o (pinIdx l p) 0x01) = true) (ht : (n.pin l p).lastBad + 100000000 ≤ n.now) :
    ((n.clearBreak l p).pin l p).broken = false ∧ bit ((n.clearBreak l p).o (pinRes l p) 0x05) 2 = false
      ∧ SameObjects n (n.clearBreak l p) [key 0 (pinRes l p) 0x05] := by
  have e : n.clearBreak l p =
      (n.setPin l p { n.pin l p with broken := false, failRun := 0 }).setBitI 0 (pinRes l p) 0x05 2 false := by
    unfold Node.clearBreak
    exact if_pos (by simp [hb, hm, ms, ht])
  rw [e]
  refine ⟨congrArg PinSt.broken (n.pin_setPin_self l p _), ?_, ?_⟩
  · exact (congrArg (bit · 2) (Node.oi_setI_self ..)).trans (bit_setBit_self ..)
  · exact SameObjects.setI (n := n.setPin l p _) (.refl n _) (by simp)

/-! ## The commands of a pin -/

section
variable {s : State} {dt : Nat} {l : Fin 32} {p : Fin 8} (hup : s.node.up = true)
include hup

/-- A qualified change of a contact's band (R149). -/
theorem contactBandChange_reports (hc : (s.at_ dt).lakeConverts l = true) {band : Fin 4} {ago : Nat}
    (hm : contactMode ((s.at_ dt).o (pinIdx l p) 0x01) = true) (hb : bandOk ((s.at_ dt).o (pinIdx l p) 0x01) band = true)
    (hv : (s.at_ dt).copyValid (isleLake l) = true) (hne : ((s.at_ dt).pin l p).band ≠ some band.val)
    (hq : (if band.val < 2 then 20000 + (s.at_ dt).o (pinIdx l p) 0x14 * 1000000 else 20000) ≤ ago + 1000) :
    Answers (.contactBandChange dt l p band ago) s fun t => Rests s t ∧ (t.node.pin l p).band = some band.val
      ∧ t.node.o (pinRes l p) 0x02 = (if band.val < 2 then 0 else 2)
      ∧ t.node.o (pinRes l p) 0x03 = (s.at_ dt).copy (isleLake l) - ago
      ∧ t.node.o (pinRes l p) 0x07 = ((s.at_ dt).o (pinRes l p) 0x07 + 1) % 2 ^ 32
      ∧ t.node.o (pinRes l p) 0x05 / 256 = band := by
  have h := ((s.at_ dt).setPin l p { (s.at_ dt).pin l p with sampled := band.val }).reportBand_leaves l.isLt p.isLt band
    ((s.at_ dt).copy (isleLake l) - ago) false
  rw [← Node.bandChange_reports hm hb hc hv hne hq, Node.setPin_o] at h
  exact answers_actUp hup rfl ⟨⟨rfl, rfl⟩, h⟩

/-- A wire break that the window detector finds (R158, R162). -/
theorem wireBreak_declares (hc : (s.at_ dt).lakeConverts l = true) {ago : Nat} (ha : 31000 ≤ ago)
    (hv : (s.at_ dt).copyValid (isleLake l) = true) (hb : ((s.at_ dt).pin l p).broken = false)
    (hp : primaryOf ((s.at_ dt).lakeCfg l) l p = p) (hs : setOk ((s.at_ dt).lakeCfg l) l p = true)
    (hw : windowWatched (pinCfg ((s.at_ dt).lakeCfg l) l p 0x01) = true) :
    Answers (.wireBreak dt l p ago) s fun t => Rests s t ∧ (t.node.pin l p).broken = true
      ∧ t.node.o (pinRes l p) 0x06 = min ((s.at_ dt).o (pinRes l p) 0x06 + 1) (2 ^ 32 - 1)
      ∧ t.node.o (pinRes l p) 0x08 = (s.at_ dt).copy (isleLake l) - ago := by
  have h := Node.declareBreak_leaves l.isLt p.isLt hb ((s.at_ dt).copy (isleLake l) - ago)
  rw [← Node.windowBreak_declares hc ha hv hp hs hw] at h
  exact answers_actUp hup rfl ⟨⟨rfl, rfl⟩, h⟩

/-- The end of a break (R163). -/
theorem breakClear_clears (hb : ((s.at_ dt).pin l p).broken = true) (hm : convMode ((s.at_ dt).o (pinIdx l p) 0x01) = true)
    (ht : ((s.at_ dt).pin l p).lastBad + 100000000 ≤ (s.at_ dt).now) :
    Answers (.breakClear dt l p) s fun t => Rests s t ∧ (t.node.pin l p).broken = false
      ∧ bit (t.node.o (pinRes l p) 0x05) 2 = false ∧ SameObjects s.node t.node [key 0 (pinRes l p) 0x05] :=
  answers_actUp hup rfl ⟨⟨rfl, rfl⟩, Node.clearBreak_leaves hb hm ht⟩

section
variable {uv : Int} (hc : (s.at_ dt).lakeConverts l = true) (hv : (s.at_ dt).copyValid (isleLake l) = true)
  (hp : pulseOn ((s.at_ dt).lakeCfg l) l p = true) (hs : setOk ((s.at_ dt).lakeCfg l) l p = true)
include hc hv hp hs

/-- A pulse that passes (R160). -/
theorem pulseTest_passes (hu : (uv : Rat) ≤ pulseLimitUv ((s.at_ dt).lakeCfg l) l p) :
    Answers (.pulseTest dt l p uv) s fun t => Rests s t ∧ t.node.od = s.node.od ∧ (t.node.pin l p).failRun = 0 := by
  refine answers_actUp hup rfl ⟨⟨rfl, rfl⟩, ?_⟩
  rw [Node.pulse_passes hc hv hp hs hu, Node.pin_setPin_self]
  exact ⟨rfl, rfl⟩

/-- The first pulse that fails (R160). -/
theorem pulseTest_fails_first (hu : pulseLimitUv ((s.at_ dt).lakeCfg l) l p < (uv : Rat))
    (h0 : ((s.at_ dt).pin l p).failRun = 0) : Answers (.pulseTest dt l p uv) s fun t => Rests s t ∧ t.node.od = s.node.od
      ∧ (t.node.pin l p).failRun = 1 ∧ (t.node.pin l p).failFirst = (s.at_ dt).copy (isleLake l) := by
  refine answers_actUp hup rfl ⟨⟨rfl, rfl⟩, ?_⟩
  rw [Node.pulse_fails_first hc hv hp hs hu h0, Node.pin_setPin_self]
  exact ⟨rfl, rfl, rfl⟩

/-- A pulse that fails after another declares the break, stamped at the first (R160). -/
theorem pulseTest_fails_again (hu : pulseLimitUv ((s.at_ dt).lakeCfg l) l p < (uv : Rat))
    (h1 : 1 ≤ ((s.at_ dt).pin l p).failRun) (hb : ((s.at_ dt).pin l p).broken = false) :
    Answers (.pulseTest dt l p uv) s fun t => Rests s t ∧ (t.node.pin l p).broken = true
      ∧ t.node.o (pinRes l p) 0x08 = ((s.at_ dt).pin l p).failFirst := by
  obtain ⟨x, e, hx⟩ := Node.pulse_fails_again hc hv hp hs hu h1
  have hb' : (((s.at_ dt).setPin l p x).pin l p).broken = false := by
    rw [Node.pin_setPin_self, hx, hb]
  obtain ⟨h, -, h8⟩ := Node.declareBreak_leaves l.isLt p.isLt hb' ((s.at_ dt).pin l p).failFirst
  refine answers_actUp hup rfl ⟨⟨rfl, rfl⟩, ?_⟩
  rw [e]
  exact ⟨h, h8⟩

end

end

end Sys2Proof.Machine
end

section
/-!
SUPPORT. The mains reference (R151).
-/
namespace Sys2Proof.Machine

/-! ## The lakes' frequency -/

/-- Lakes tuned one after the other to what the node gives, which the tuning leaves as it is. -/
theorem Node.lakes_tuned {g : Node → Nat} (hg : ∀ (n : Node) l x, g (n.setLake l x) = g n) (ls : List Nat) (n : Node) :
    let t := ls.foldl (fun n l => n.setLake l { n.lake l with freq := g n }) n
    t.od = n.od ∧ t.ver = n.ver ∧ ∀ l, l ∈ ls ∨ (n.lake l).freq = g n → (t.lake l).freq = g n := by
  induction ls generalizing n with
  | nil => exact ⟨rfl, rfl, fun l h => h.resolve_left (List.not_mem_nil)⟩
  | cons a r ih =>
    obtain ⟨ho, hv, hf⟩ := ih (n.setLake a { n.lake a with freq := g n })
    rw [hg] at hf
    refine ⟨ho, hv, fun l h => hf l ?_⟩
    by_cases e : l = a
    · subst e
      exact .inr (congrArg LakeSt.freq (Node.lake_setLake_self ..))
    · rw [Node.lake_setLake_ne n a _ e]
      exact h.imp_left fun hm => (List.mem_cons.mp hm).resolve_left e

/-- R151: a valid frequency goes to every lake. -/
theorem Node.sendMains_leaves {n : Node} {f : Nat} (hf : n.mains.lastValid = some f) (ht : n.ob 0x4800 0x02 = true)
    (hk : n.mode.keeperReset = none) (hn : n.now < n.mains.since + 100000000) :
    n.sendMains.od = n.od ∧ ∀ l : Fin 32, (n.sendMains.lake l).freq = f := by
  have e : n.sendMains = (List.range 32).foldl (fun n l => n.setLake l { n.lake l with freq := f }) n := by
    unfold Node.sendMains
    rw [hf]
    exact if_pos (by simp [ht, hk, hn, ms])
  obtain ⟨ho, -, hl⟩ := Node.lakes_tuned (g := fun _ => f) (fun _ _ _ => rfl) (List.range 32) n
  rw [e]
  exact ⟨ho, fun l => hl l (.inl (List.mem_range.mpr l.isLt))⟩

/-- R418: a message of a source that no object owns names no vat. -/
theorem Node.fault_ver_of_unowned {m n : Node} (h : n.ver = m.ver) {src : Nat} (ho : ∀ k : Node, k.ownerOfSource src = 0xFF)
    (kind detail addr : Nat) : (n.fault src kind detail addr).ver = (m.fault src kind detail addr).ver := by
  unfold Node.fault Node.raiseMsg
  dsimp only
  rw [ho m, ho n, h]

/-- R151: with the reference lost, every lake uses the nominal frequency, and the loss is reported. -/
theorem Node.mainsLost_leaves {n : Node} (ht : n.ob 0x4800 0x02 = true) (h4 : n.o 0x4800 0x04 ≠ 2)
    (hn : n.mains.since + 100000000 ≤ n.now) :
    n.mainsLost.o 0x4800 0x04 = 2 ∧ (∀ l : Fin 32, (n.mainsLost.lake l).freq = n.o 0x4800 0x01)
      ∧ n.mainsLost.ver = (n.fault 0x005 0x33 0 0).ver ∧ SameObjects n n.mainsLost [key 0 0x4800 0x04] := by
  have e : n.mainsLost = (n.set 0x4800 0x04 2).nominalMains.fault 0x005 0x33 0 0 :=
    if_pos (by simp [ht, h4, hn, ms])
  obtain ⟨ho, hv, hl⟩ := Node.lakes_tuned (g := fun n => n.o 0x4800 0x01) (fun _ _ _ => rfl) (List.range 32) (n.set 0x4800 0x04 2)
  have hs : SameObjects n (n.set 0x4800 0x04 2) [key 0 0x4800 0x04] := (SameObjects.refl n _).setI (by simp)
  have h1 : (n.set 0x4800 0x04 2).o 0x4800 0x01 = n.o 0x4800 0x01 := Node.oi_setI_sub n 0 0x4800 2 (by decide)
  have hown (k : Node) : k.ownerOfSource 0x005 = 0xFF := by
    unfold Node.ownerOfSource
    rw [if_neg (by decide), if_neg (by decide), if_neg (by decide)]
  rw [e]
  unfold Node.nominalMains
  generalize (List.range 32).foldl _ (n.set 0x4800 0x04 2) = tuned at ho hv hl ⊢
  refine ⟨(congrArg (odGet · _) ho).trans (Node.o_set_self ..), fun l => ?_, Node.fault_ver_of_unowned hv hown .., fun x hx => ?_⟩
  · exact (hl l (.inl (List.mem_range.mpr l.isLt))).trans h1
  · exact (congrArg (odGet · x) ho).trans (hs x hx)

/-! ## A zero crossing -/

/-- The last nine crossings, this one with them (R151). -/
def Node.crossings (n : Node) : List Nat := (n.copy isleKeeper :: n.mains.cross).take 9

theorem Node.mainsCross_invalid {n : Node} (h : mainsFreq n.crossings = none) :
    n.mainsCross = { n with mains := { n.mains with cross := n.crossings } } := by
  unfold Node.mainsCross
  dsimp only
  rw [show (n.copy isleKeeper :: n.mains.cross).take 9 = n.crossings from rfl, h]

/-- The node that has measured a valid frequency, and shows it. -/
def Node.measured (n : Node) (f : Rat) : Node :=
  ({ n with mains := { cross := n.crossings, lastValid := some (r32 f), since := n.now } }).setF 0 0x4800 0x03 f

theorem Node.mainsCross_valid {n : Node} {f : Rat} (h : mainsFreq n.crossings = some f) :
    n.mainsCross = if n.ob 0x4800 0x02 then (n.measured f).set 0x4800 0x04 1 else n.measured f := by
  unfold Node.mainsCross
  dsimp only
  rw [show (n.copy isleKeeper :: n.mains.cross).take 9 = n.crossings from rfl, h]
  rfl

/-- R151: what a valid frequency leaves. -/
theorem Node.mainsCross_valid_leaves {n : Node} {f : Rat} (h : mainsFreq n.crossings = some f) :
    n.mainsCross.mains = { cross := n.crossings, lastValid := some (r32 f), since := n.now }
      ∧ n.mainsCross.o 0x4800 0x03 = r32 f ∧ (n.ob 0x4800 0x02 = true → n.mainsCross.o 0x4800 0x04 = 1)
      ∧ SameObjects n n.mainsCross [key 0 0x4800 0x03, key 0 0x4800 0x04] := by
  rw [Node.mainsCross_valid h]
  have hs : SameObjects n (n.measured f) [key 0 0x4800 0x03, key 0 0x4800 0x04] :=
    SameObjects.setI (n := { n with mains := _ }) (.refl n _) (by simp)
  have h3 : (n.measured f).o 0x4800 0x03 = r32 f := Node.oi_setI_self ..
  by_cases ht : n.ob 0x4800 0x02 = true
  · rw [if_pos ht]
    exact ⟨rfl, (Node.oi_setI_sub _ 0 0x4800 1 (by decide)).trans h3, fun _ => Node.o_set_self .., hs.setI (by simp)⟩
  · rw [if_neg ht]
    exact ⟨rfl, h3, fun h => absurd h ht, hs⟩

/-! ## The statement -/

section
variable {s : State} {dt : Nat} (hup : s.node.up = true)
include hup

/-- A zero crossing (R151). -/
theorem mainsZeroCrossing_measures : Answers (.mainsZeroCrossing dt) s fun t => Rests s t
    ∧ t.node.mains.cross = (s.at_ dt).crossings
    ∧ (∀ f, mainsFreq (s.at_ dt).crossings = some f → t.node.mains.lastValid = some (r32 f)
      ∧ t.node.mains.since = (s.at_ dt).now ∧ t.node.o 0x4800 0x03 = r32 f
      ∧ ((s.at_ dt).ob 0x4800 0x02 = true → t.node.o 0x4800 0x04 = 1))
    ∧ (mainsFreq (s.at_ dt).crossings = none → t.node.od = s.node.od ∧ t.node.mains.lastValid = (s.at_ dt).mains.lastValid)
    ∧ SameObjects s.node t.node [key 0 0x4800 0x03, key 0 0x4800 0x04] := by
  refine answers_actUp hup rfl ⟨⟨rfl, rfl⟩, ?_⟩
  dsimp only
  cases h : mainsFreq (s.at_ dt).crossings with
  | none =>
    rw [Node.mainsCross_invalid h]
    exact ⟨rfl, fun _ => nofun, fun _ => ⟨rfl, rfl⟩, .refl s.node _⟩
  | some f =>
    obtain ⟨hm, h3, h4, hs⟩ := Node.mainsCross_valid_leaves h
    rw [hm]
    refine ⟨rfl, fun g hg => ?_, nofun, hs⟩
    obtain rfl := Option.some.inj hg
    exact ⟨rfl, rfl, h3, h4⟩

/-- The valid frequency goes to every lake (R151). -/
theorem mainsFrequencySend_sends {f : Nat} (hf : (s.at_ dt).mains.lastValid = some f) (ht : (s.at_ dt).ob 0x4800 0x02 = true)
    (hk : (s.at_ dt).mode.keeperReset = none) (hn : (s.at_ dt).now < (s.at_ dt).mains.since + 100000000) :
    Answers (.mainsFrequencySend dt) s fun t => Rests s t ∧ t.node.od = s.node.od ∧ ∀ l : Fin 32, (t.node.lake l).freq = f :=
  answers_actUp hup rfl ⟨⟨rfl, rfl⟩, Node.sendMains_leaves hf ht hk hn⟩

/-- A lost reference (R151). -/
theorem mainsReferenceLost_falls (ht : (s.at_ dt).ob 0x4800 0x02 = true) (h4 : (s.at_ dt).o 0x4800 0x04 ≠ 2)
    (hn : (s.at_ dt).mains.since + 100000000 ≤ (s.at_ dt).now) : Answers (.mainsReferenceLost dt) s fun t => Rests s t
      ∧ t.node.o 0x4800 0x04 = 2 ∧ (∀ l : Fin 32, (t.node.lake l).freq = (s.at_ dt).o 0x4800 0x01)
      ∧ t.node.ver = ((s.at_ dt).fault 0x005 0x33 0 0).ver ∧ SameObjects s.node t.node [key 0 0x4800 0x04] :=
  answers_actUp hup rfl ⟨⟨rfl, rfl⟩, Node.mainsLost_leaves ht h4 hn⟩

end

/-- Settles O30: the happenings of a pin, each by what its operation leaves, and the three of the mains reference. -/
theorem pinsAndMainsAct : Obligations.PinsAndMainsAct :=
  ⟨fun _ _ _ _ hup hc =>
    ⟨fun _ _ hm hb hv hne hq => contactBandChange_reports hup hc hm hb hv hne hq,
      fun _ ha hv hb hp hs hw => wireBreak_declares hup hc ha hv hb hp hs hw,
      fun _ hv hp hs => ⟨pulseTest_passes hup hc hv hp hs, pulseTest_fails_first hup hc hv hp hs, pulseTest_fails_again hup hc hv hp hs⟩,
      breakClear_clears hup⟩,
    fun _ _ hup => ⟨mainsZeroCrossing_measures hup, fun _ => mainsFrequencySend_sends hup, mainsReferenceLost_falls hup⟩⟩

end Sys2Proof.Machine
end

section
/-!
SUPPORT. Lakes and dynamic lakes in service (R169 to R171, R419): service commands, and the ends of taking out, testing,
returning and reset.
-/
namespace Sys2Proof.Machine

/-! ## The objects of a unit (Tables 6-15, 7-19) -/

theorem canonIdx_unitIdx {u : Nat} (hu : u < 40) : canonIdx (unitIdx u) = if u < 32 then 0x4000 else 0x5002 := by
  unfold unitIdx
  by_cases h : u < 32
  · rw [if_pos h, if_pos h]
    exact (canonIdx_lake h (o := 0) (by decide)).trans (if_pos rfl)
  · rw [if_neg h, if_neg h]
    unfold canonIdx
    rw [if_neg (by omega), if_pos (by omega)]
    dsimp only
    rw [if_neg (by omega), if_neg (by omega), if_pos (by omega)]

/-- The units' indices lie in 0x4000 to 0x53FF. -/
theorem unitIdx_bounds {u : Nat} (hu : u < 40) : 0x4000 ≤ unitIdx u ∧ unitIdx u < 0x5400 := by
  unfold unitIdx lakeIdx
  split
  · omega
  · omega

theorem unitIdx_lake {u : Nat} (h : u < 32) : (unitIdx u - 0x4000) / 0x40 = u := by
  unfold unitIdx lakeIdx
  rw [if_pos h]
  omega

theorem unitIdx_dynamic {u : Nat} (h : ¬ u < 32) : 32 + (unitIdx u - 0x5000) / 0x80 = u := by
  unfold unitIdx
  rw [if_neg h]
  omega

/-! ## What a change of a unit's state, and of its isolation, leaves (R169, R419) -/

theorem Node.unitState_setUnitState (n : Node) (u st : Nat) : (n.setUnitState u st).unitState u = st := Node.o_set_self ..

/-- An object of another index. -/
theorem Node.unitState_setI (n : Node) {u : Nat} (hu : u < 40) {i idx sub : Nat} (v : Nat) (hi : idx < 0x4000) (hs : sub < 256) :
    (n.setI i idx sub v).unitState u = n.unitState u := by
  refine Node.oi_setI_ne n v fun e => ?_
  obtain ⟨hl, hh⟩ := unitIdx_bounds hu
  have := ((key_inj (by omega) (by decide) (by omega) hs).mp e).2.1
  omega

theorem Node.setUnitIsolated_eq (n : Node) (u : Nat) (b : Bool) :
    n.setUnitIsolated u b = n.setBitI 0 0x2200 (if u < 32 then 0x14 else 0x15) (if u < 32 then u else u - 32) b := by
  unfold Node.setUnitIsolated
  split
  · rfl
  · rfl

theorem Node.unitIsolated_eq (n : Node) (u : Nat) :
    n.unitIsolated u = bit (n.o 0x2200 (if u < 32 then 0x14 else 0x15)) (if u < 32 then u else u - 32) := by
  unfold Node.unitIsolated
  split
  · rfl
  · rfl

theorem Node.unitIsolated_setUnitIsolated (n : Node) (u : Nat) (b : Bool) : (n.setUnitIsolated u b).unitIsolated u = b := by
  rw [Node.setUnitIsolated_eq, Node.unitIsolated_eq]
  exact (congrArg (bit · _) (Node.oi_setI_self ..)).trans (bit_setBit_self ..)

theorem Node.unitState_setUnitIsolated (n : Node) {u : Nat} (hu : u < 40) (w : Nat) (b : Bool) :
    (n.setUnitIsolated w b).unitState u = n.unitState u := by
  rw [Node.setUnitIsolated_eq]
  exact n.unitState_setI hu _ (by decide) (by split <;> decide)

/-- R21: the node's status follows the isolation; nothing else does. -/
theorem Node.refreshIsolation_eq (n : Node) : ∃ a b, n.refreshIsolation = (n.setI 0 0x1010 0x04 a).setI 0 0x1010 0x04 b :=
  ⟨_, _, rfl⟩

theorem Node.refreshIsolation_leaves (n : Node) {u : Nat} (hu : u < 40) :
    n.refreshIsolation.unitState u = n.unitState u ∧ n.refreshIsolation.unitIsolated u = n.unitIsolated u
      ∧ n.refreshIsolation.eng = n.eng ∧ SameObjects n n.refreshIsolation [key 0 0x1010 0x04] := by
  obtain ⟨a, b, e⟩ := n.refreshIsolation_eq
  have hs : SameObjects n n.refreshIsolation [key 0 0x1010 0x04] := by
    rw [e]
    exact ((SameObjects.refl n _).setI (by simp)).setI (by simp)
  refine ⟨?_, ?_, rfl, hs⟩
  · rw [e, Node.unitState_setI _ hu _ (by decide) (by decide), Node.unitState_setI _ hu _ (by decide) (by decide)]
  · rw [Node.unitIsolated_eq, Node.unitIsolated_eq]
    exact congrArg (bit · _) (hs _ (by rw [List.mem_singleton]; unfold key; split <;> omega))

/-! ## Service commands (R169, R170) -/

/-- R169, R419: a unit that is returned is RETURNING, and isolated no more. -/
theorem Node.serviceApply_return_leaves (n : Node) {u : Nat} (hu : u < 40) :
    (n.serviceApply u 3).unitState u = 4 ∧ (n.serviceApply u 3).unitIsolated u = false ∧ (n.serviceApply u 3).eng = n.eng := by
  let released : Node := (n.setUnitState u 4).setUnitIsolated u false
  have hr : released.unitState u = 4 ∧ released.unitIsolated u = false ∧ released.eng = n.eng :=
    ⟨(Node.unitState_setUnitIsolated _ hu u false).trans (n.unitState_setUnitState u 4), Node.unitIsolated_setUnitIsolated ..,
      by simp only [released, Node.setUnitIsolated_eq]; rfl⟩
  have e : ∃ k : Node, n.serviceApply u 3 = k.refreshIsolation ∧ k.od = released.od ∧ k.eng = released.eng := by
    unfold Node.serviceApply
    refine ⟨_, rfl, ?_⟩
    split
    · exact ⟨rfl, rfl⟩
    · exact ⟨rfl, rfl⟩
  obtain ⟨k, e, ho, he⟩ := e
  obtain ⟨hs, hi, heng, -⟩ := k.refreshIsolation_leaves hu
  rw [e, hs, hi, heng, he]
  refine ⟨?_, ?_, hr.2.2⟩
  · exact (congrArg (odGet · _) ho).trans hr.1
  · rw [← hr.2.1, Node.unitIsolated_eq, Node.unitIsolated_eq]
    exact congrArg (fun od => bit (odGet od _) _) ho

theorem Node.writeNode_unit (n : Node) (m : Master) {u : Nat} (hu : u < 40) (i v : Nat) (data : List Byte) :
    n.writeNode m (unitIdx u) 0x01 i v data = none := by
  have hx := (unitIdx_bounds hu).1
  unfold Node.writeNode
  dsimp only
  iterate 22 rw [if_neg (by omega)]

theorem Node.writeBlock_unit (n : Node) (m : Master) {u : Nat} (hu : u < 40) (i v : Nat) (data : List Byte) :
    n.writeBlock m (unitIdx u) 0x01 i v data = some (n.serviceApply u v) := by
  unfold Node.writeBlock
  dsimp only
  rw [canonIdx_unitIdx hu]
  by_cases h : u < 32
  · rw [if_pos h]
    iterate 6 rw [if_neg (by decide)]
    rw [if_pos rfl, unitIdx_lake h]
  · rw [if_neg h]
    iterate 7 rw [if_neg (by decide)]
    rw [if_pos rfl, unitIdx_dynamic h]

/-- A service command of a unit is applied. -/
theorem Node.writeDo_unit (n : Node) (m : Master) {u : Nat} (hu : u < 40) (c : Byte) :
    n.writeDo m .direct (unitIdx u) 0x01 [c] = (n.serviceApply u c.toNat, false) := by
  have hc : canonIdx (unitIdx u) = 0x4000 ∨ canonIdx (unitIdx u) = 0x5002 := by
    rw [canonIdx_unitIdx hu]
    split
    · exact .inl rfl
    · exact .inr rfl
  have hv : ofLE [c] = c.toNat := Nat.add_zero _
  unfold Node.writeDo
  dsimp only
  rw [if_neg (by omega), if_neg (by omega), if_neg (by omega), n.writeNode_unit m hu, hv, n.writeBlock_unit m hu]

/-- An accepted service command that completes no descriptor: what it does, then the reply 0x0000. -/
theorem answers_service {i : Instr} {s : State} {dt : Nat} {m : Master} {u : Fin 40} {c : Byte} {P : State → Prop}
    (he : exec i s = askWrite dt m (unitIdx u) 0x01 [c] s) (ht : Takes s dt m (unitIdx u) 0x01 [c])
    (hd : ((s.at_ dt).serviceApply u c.toNat).eng.done = [])
    (h : P { s with node := ((s.at_ dt).serviceApply u c.toNat).emit (.reply m 0 []) }) : Answers i s P := by
  obtain ⟨hl, hh⟩ := unitIdx_bounds u.isLt
  have hp : privVat (unitIdx u) = none := if_neg (by omega)
  refine ⟨_, he.trans (askWrite_accepted ht.1 ht.2 (fun e => ?_) (fun e => ?_) (fun e => ?_) (fun e => ?_)
    (Node.writeDo_unit _ m u.isLt c) hd), h⟩
  · omega
  · rw [hp] at e
    exact absurd e.1 (by decide)
  · omega
  · exact absurd e.2 (by decide)

/-! ## The ends of taking out, testing, returning and reset (R169, R171) -/

/-- The lake's conversions have ended; no object changes. -/
theorem Node.stopConverters_leaves (n : Node) (u : Nat) :
    (n.stopConverters u).od = n.od ∧ (n.stopConverters u).twin = n.twin
      ∧ (u < 32 → ((n.stopConverters u).conv u 0).running = false ∧ ((n.stopConverters u).conv u 1).running = false) := by
  unfold Node.stopConverters
  split
  · refine ⟨rfl, rfl, fun _ => ?_⟩
    simp [Node.conv]
  · next h => exact ⟨rfl, rfl, fun hu => absurd hu h⟩

theorem Node.takenOut_eq {n : Node} {u : Nat} (h1 : n.unitState u = 1) (ht : n.twin.lakeTest = none) :
    n.takenOut u = (n.stopConverters u).setUnitState u 2 := by
  unfold Node.takenOut
  rw [if_pos h1]
  have hl : ((n.stopConverters u).setUnitState u 2).twin.lakeTest = none :=
    (congrArg TwinSt.lakeTest (n.stopConverters_leaves u).2.1).trans ht
  exact if_neg (by simp [hl])

/-- R171: the objects that the end of a test writes, before its messages. -/
def Node.testResult (n : Node) (u items : Nat) : Node :=
  (n.set (unitIdx u) 0x03 items).set (unitIdx u) 0x04 (n.copy (if u < 32 then isleLake u else isleDyn (u - 32)))

/-- Messages leave the objects and the states kept aside alone. -/
theorem Node.faults_leave {α : Type} (l : List α) (src kind detail addr : Nat) (n : Node) :
    (l.foldl (fun n _ => n.fault src kind detail addr) n).od = n.od
      ∧ (l.foldl (fun n _ => n.fault src kind detail addr) n).svcPrev = n.svcPrev
      ∧ (l.foldl (fun n _ => n.fault src kind detail addr) n).twin = n.twin := by
  induction l generalizing n with
  | nil => exact ⟨rfl, rfl, rfl⟩
  | cons a l ih => exact ih (n.fault src kind detail addr)

/-- R171: the end of a test that no standby asked for: the result, and the state before. -/
theorem Node.testDone_od {n : Node} {u : Nat} (h3 : n.unitState u = 3) (ht : n.twin.lakeTest = none) (failed : Nat) :
    (n.testDone u failed).od = ((n.testResult u (failed % 2 ^ abortedBit u)).setUnitState u (mapGet n.svcPrev u 2)).od := by
  unfold Node.testDone
  rw [if_pos h3]
  extract_lets items written told x forgot back bad self _ noted
  obtain ⟨ho, hp, hw⟩ := Node.faults_leave (bitList items (abortedBit u)) (unitSource u) 0x32 0 items written
  have hf : forgot.od = written.od ∧ forgot.svcPrev = n.svcPrev ∧ forgot.twin = n.twin := by
    dsimp only [forgot]
    split
    · exact ⟨ho, hp, hw⟩
    · exact ⟨ho, hp, hw⟩
  obtain ⟨hfo, hfp, hft⟩ := hf
  have hself : ¬ self = true := by
    have hb : back.twin.lakeTest = none := (congrArg TwinSt.lakeTest hft).trans ht
    simp [self, hb]
  rw [if_neg hself]
  change odPut forgot.od (key 0 (unitIdx u) 0x02) (mapGet forgot.svcPrev u 2) = _
  rw [hfo, hfp]
  rfl

/-- What the end of a test leaves of its unit's objects. -/
theorem Node.testDone_leaves {n : Node} {u : Nat} (h3 : n.unitState u = 3) (ht : n.twin.lakeTest = none) (failed : Nat) :
    (n.testDone u failed).unitState u = mapGet n.svcPrev u 2
      ∧ (n.testDone u failed).o (unitIdx u) 0x03 = failed % 2 ^ abortedBit u
      ∧ SameObjects n (n.testDone u failed) [key 0 (unitIdx u) 0x02, key 0 (unitIdx u) 0x03, key 0 (unitIdx u) 0x04] := by
  have ho := Node.testDone_od h3 ht failed
  generalize n.testDone u failed = k at ho
  have hs : SameObjects n ((n.testResult u (failed % 2 ^ abortedBit u)).setUnitState u (mapGet n.svcPrev u 2))
      [key 0 (unitIdx u) 0x02, key 0 (unitIdx u) 0x03, key 0 (unitIdx u) 0x04] :=
    (((SameObjects.refl n _).setI (by simp)).setI (by simp)).setI (by simp)
  refine ⟨?_, ?_, fun x hx => ?_⟩
  · exact (congrArg (odGet · _) ho).trans (Node.unitState_setUnitState ..)
  · refine (congrArg (odGet · _) ho).trans ((Node.oi_setI_sub _ 0 (unitIdx u) _ (by decide)).trans ?_)
    exact (Node.oi_setI_sub _ 0 (unitIdx u) _ (by decide)).trans (Node.o_set_self ..)
  · rw [ho]
    exact hs x hx

theorem Node.returned_eq {n : Node} {u : Nat} (h4 : n.unitState u = 4) (hr : 32 ≤ u ∨ (n.lake u).toReturn = []) :
    n.returned u = n.setUnitState u 0 :=
  if_pos (by simpa [h4] using hr)

/-- The state in which a unit comes out of a reset that began in state `b` (Table 6-12). -/
def stateAfterReset (b : Nat) : Nat := if b = 7 then 7 else if b = 0 ∨ b = 1 ∨ b = 4 then 0 else 2

theorem Node.resetUnitDone_eq {n : Node} {u : Nat} (h5 : n.unitState u = 5) :
    n.resetUnitDone u = (n.setUnitState u (stateAfterReset (mapGet n.svcPrev u 0))).refreshIsolation := by
  have e (b : Nat) : (if b = 0 ∨ b = 1 ∨ b = 4 then 0 else if b = 7 then 7 else 2) = stateAfterReset b := by
    unfold stateAfterReset
    split <;> split <;> omega
  unfold Node.resetUnitDone
  rw [if_pos h5]
  dsimp only
  rw [e]

theorem Node.resetUnitDone_leaves {n : Node} {u : Nat} (hu : u < 40) (h5 : n.unitState u = 5) :
    (n.resetUnitDone u).unitState u = stateAfterReset (mapGet n.svcPrev u 0)
      ∧ SameObjects n (n.resetUnitDone u) [key 0 (unitIdx u) 0x02, key 0 0x1010 0x04] := by
  obtain ⟨hs, -, -, ho⟩ := (n.setUnitState u (stateAfterReset (mapGet n.svcPrev u 0))).refreshIsolation_leaves hu
  rw [Node.resetUnitDone_eq h5]
  have hw : SameObjects n (n.setUnitState u (stateAfterReset (mapGet n.svcPrev u 0))) [key 0 (unitIdx u) 0x02] :=
    (SameObjects.refl n _).setI (by simp)
  exact ⟨hs.trans (Node.unitState_setUnitState ..), hw.append ho⟩

/-! ## The statement -/

section
variable {s : State} {dt : Nat} {u : Fin 40}

/-- An accepted command takes a unit out (R169). -/
theorem takeOut_takes {m : Master} (ht : Takes s dt m (unitIdx u) 0x01 [1]) :
    Answers (.takeOut dt m u) s fun t => Done m t ∧ Rests s t ∧ t.node.unitState u = 1
      ∧ SameObjects s.node t.node [key 0 (unitIdx u) 0x02] :=
  answers_service rfl ht rfl ⟨done_emit .., ⟨rfl, rfl⟩, Node.unitState_setUnitState ..,
    SameObjects.setI (n := s.at_ dt) (.refl s.node _) (by simp)⟩

/-- An accepted command tests a unit, whose state is kept aside (R170). -/
theorem test_tests {m : Master} (ht : Takes s dt m (unitIdx u) 0x01 [2]) :
    Answers (.test dt m u) s fun t => Done m t ∧ Rests s t ∧ t.node.unitState u = 3
      ∧ mapGet t.node.svcPrev u 0 = (s.at_ dt).unitState u ∧ SameObjects s.node t.node [key 0 (unitIdx u) 0x02] := by
  let k : Node := { s.at_ dt with svcPrev := mapPut (s.at_ dt).svcPrev u ((s.at_ dt).unitState u) }
  exact answers_service rfl ht rfl ⟨done_emit .., ⟨rfl, rfl⟩, Node.unitState_setUnitState .., mapGet_mapPut_self ..,
    SameObjects.setI (n := k) (.refl s.node _) (by simp)⟩

/-- An accepted command returns a unit (R169, R419). -/
theorem returnToService_returns {m : Master} (ht : Takes s dt m (unitIdx u) 0x01 [3]) :
    Answers (.returnToService dt m u) s fun t => Done m t ∧ Rests s t ∧ t.node.unitState u = 4
      ∧ t.node.unitIsolated u = false := by
  obtain ⟨hs, hi, he⟩ := (s.at_ dt).serviceApply_return_leaves u.isLt
  exact answers_service rfl ht (congrArg EngineSt.done he) ⟨done_emit .., ⟨rfl, rfl⟩, hs, hi⟩

/-- Conversions in progress have ended (Table 6-12). -/
theorem takingOutEnd_ends (hup : s.node.up = true) (h1 : (s.at_ dt).unitState u = 1) (ht : (s.at_ dt).twin.lakeTest = none) :
    Answers (.takingOutEnd dt u) s fun t => Rests s t ∧ t.node.unitState u = 2
      ∧ (u.val < 32 → (t.node.conv u 0).running = false ∧ (t.node.conv u 1).running = false)
      ∧ SameObjects s.node t.node [key 0 (unitIdx u) 0x02] := by
  obtain ⟨ho, -, hc⟩ := (s.at_ dt).stopConverters_leaves u
  have hs : SameObjects s.node ((s.at_ dt).stopConverters u) [key 0 (unitIdx u) 0x02] := fun x _ => by rw [ho]; rfl
  refine answers_actUp hup rfl ⟨⟨rfl, rfl⟩, ?_⟩
  rw [Node.takenOut_eq h1 ht]
  exact ⟨Node.unitState_setUnitState .., hc, hs.setI (by simp)⟩

end

/-- Settles O31: each service command by what it applies and the reply; each end by what its operation leaves. -/
theorem unitsAreServiced : Obligations.UnitsAreServiced := fun s dt u =>
  ⟨fun _ => takeOut_takes, fun _ => test_tests, fun _ => returnToService_returns, takingOutEnd_ends,
    fun failed hup h3 ht => answers_actUp hup rfl ⟨⟨rfl, rfl⟩, Node.testDone_leaves h3 ht failed.toNat⟩,
    fun hup h4 hr => answers_actUp hup rfl ⟨⟨rfl, rfl⟩, by
      rw [Node.returned_eq h4 hr]
      exact ⟨Node.unitState_setUnitState .., SameObjects.setI (n := s.at_ dt) (.refl s.node _) (by simp)⟩⟩,
    fun hup h5 => answers_actUp hup rfl ⟨⟨rfl, rfl⟩, Node.resetUnitDone_leaves u.isLt h5⟩⟩

end Sys2Proof.Machine
end

section
/-!
SUPPORT. Routed events: what an event leaves alone of the blocks that raise it.
-/
namespace Sys2Proof.Machine

/-- An event touches nothing but the vats, one of which it may interrupt. -/
theorem Node.event_keeps {α : Type} (g : Node → α) (hg : ∀ n vs, g { n with vats := vs } = g n) (n : Node) (e : Nat) :
    g (n.event e) = g n := by
  unfold Node.event
  dsimp only
  split
  · rfl
  · obtain ⟨vs, h⟩ := n.irq_eq (bits (n.oi (e + 1) 0x9000 0x0C) 11 8) (bits (n.oi (e + 1) 0x9000 0x0C) 7 0)
    rw [h, hg]

section
variable (n : Node) (e : Nat)

@[simp] theorem Node.event_od : (n.event e).od = n.od := Node.event_keeps Node.od (fun _ _ => rfl) n e
@[simp] theorem Node.event_dynCh (c : Nat) : (n.event e).dynCh c = n.dynCh c :=
  Node.event_keeps (Node.dynCh · c) (fun _ _ => rfl) n e
@[simp] theorem Node.event_shaft (i : Nat) : (n.event e).shaft i = n.shaft i :=
  Node.event_keeps (Node.shaft · i) (fun _ _ => rfl) n e
@[simp] theorem Node.event_serialPort (p : Nat) : (n.event e).serialPort p = n.serialPort p :=
  Node.event_keeps (Node.serialPort · p) (fun _ _ => rfl) n e
@[simp] theorem Node.event_oi (i idx sub : Nat) : (n.event e).oi i idx sub = n.oi i idx sub :=
  congrArg (odGet · _) (n.event_od e)

end

end Sys2Proof.Machine
end

section
/-!
SUPPORT. Serial position ports (R202 to R207): what a request, the end of a frame and the delivery of a sample slot leave.
-/
namespace Sys2Proof.Machine

/-! ## What is passed on leaves the ports alone -/

theorem Node.PassesOn.serialPort {m n : Node} (h : m.PassesOn n) (p : Nat) : n.serialPort p = m.serialPort p :=
  congrArg (mapGet · p ({} : SerialSt)) (congrArg Node.serial h.beside :)

theorem Node.PassesOn.sp {m n : Node} (h : m.PassesOn n) (p : Nat) {sub : Nat} (hs : sub < 256 := by decide) :
    n.sp p sub = m.sp p sub := h.objects p 0x5600 sub (by decide) hs rfl

theorem Node.passesOn_sendSerial (n : Node) (p : Nat) : n.PassesOn (n.sendSerial p) := .toFrame (.refl n)

@[simp] theorem Node.setI_serialPort (n : Node) (i idx sub v p : Nat) : (n.setI i idx sub v).serialPort p = n.serialPort p :=
  congrArg (mapGet · p ({} : SerialSt)) (n.setI_serial ..)

/-! ## A request (R202, R204, R205) -/

section
variable {n : Node} {p : Nat} (h2 : n.sp p 0x02 ≠ 0) (hr : (n.serialPort p).inReset = false) (high : Bool)
include h2 hr

theorem Node.serialRequest_overruns {t : Nat} (hx : (n.serialPort p).stamp = some t) :
    n.serialRequest p high = (n.incSatI 32 p 0x5600 0x18 1).setBitI p 0x5600 0x17 2 true := by
  have hon : n.obi p 0x5600 0x02 = true := bne_iff_ne.mpr h2
  simp [Node.serialRequest, hon, hr, hx]

variable (hx : (n.serialPort p).stamp = none)
include hx

theorem Node.serialRequest_begins (hc : n.serialConfigBad p = false) : n.serialRequest p high =
    n.setSerial p { n.serialPort p with stamp := some (n.copy isleFrame + n.sp p 0x10), notReady := !high } := by
  have hon : n.obi p 0x5600 0x02 = true := bne_iff_ne.mpr h2
  simp [Node.serialRequest, hon, hr, hx, hc]

theorem Node.serialRequest_misconfigured (hc : n.serialConfigBad p = true) : n.serialRequest p high =
    (((n.setI p 0x5600 0x17 2).setI p 0x5600 0x14 3).setI p 0x5600 0x15 (n.copy isleFrame)).sendSerial p := by
  have hon : n.obi p 0x5600 0x02 = true := bne_iff_ne.mpr h2
  simp [Node.serialRequest, hon, hr, hx, hc]

end

/-! ## The end of a frame (R203 to R205) -/

/-- The port `p` after a frame of stamp `t` and before its checks: with no frame in progress, and the start time measured. -/
def Node.frameOver (n : Node) (p t : Nat) (start : Option Nat) : Node :=
  let n := (n.setSerial p { n.serialPort p with stamp := none, notReady := false }).setI p 0x5600 0x15 t
  start.elim n fun d => n.setI p 0x5600 0x19 (min d 65535)

theorem Node.frameOver_leaves (n : Node) (p t : Nat) (start : Option Nat) :
    ((n.frameOver p t start).serialPort p).stamp = none ∧ (n.frameOver p t start).sp p 0x15 = t
      ∧ ∀ sub, sub ≠ 0x15 → sub ≠ 0x19 → (n.frameOver p t start).sp p sub = n.sp p sub := by
  have h5 (k : Node) (sub : Nat) (h : sub ≠ 0x15) : (k.setI p 0x5600 0x15 t).sp p sub = k.sp p sub := Node.oi_setI_sub _ _ _ _ h
  have h9 (k : Node) (v sub : Nat) (h : sub ≠ 0x19) : (k.setI p 0x5600 0x19 v).sp p sub = k.sp p sub := Node.oi_setI_sub _ _ _ _ h
  have hx : (n.setSerial p { n.serialPort p with stamp := none, notReady := false }).serialPort p
      = { n.serialPort p with stamp := none, notReady := false } := Node.serialPort_setSerial_self ..
  cases start with
  | none => exact ⟨congrArg SerialSt.stamp hx, Node.oi_setI_self .., fun sub h _ => h5 _ sub h⟩
  | some d =>
    exact ⟨congrArg SerialSt.stamp hx, (h9 _ _ _ (by decide)).trans (Node.oi_setI_self ..),
      fun sub h h' => (h9 _ _ sub h').trans (h5 _ sub h)⟩

section
variable {m n : Node} {p : Nat} (h : ∀ sub, sub ≠ 0x15 → sub ≠ 0x19 → n.sp p sub = m.sp p sub)
include h

/-- The checks read no object that the end of a frame has written. -/
theorem Node.serialChecks_congr : n.serialChecks p = m.serialChecks p := by
  have h5 : n.obi p 0x5600 0x05 = m.obi p 0x5600 0x05 := congrArg (· != 0) (h 0x05 (by decide) (by decide))
  unfold Node.serialChecks
  rw [h5, h 0x0C (by decide) (by decide), h 0x0D (by decide) (by decide)]

theorem Node.serialCode_congr (f : Nat) : n.serialCode p f = m.serialCode p f := by
  have h9 : n.obi p 0x5600 0x09 = m.obi p 0x5600 0x09 := congrArg (· != 0) (h 0x09 (by decide) (by decide))
  unfold Node.serialCode
  rw [h9, h 0x06 (by decide) (by decide), h 0x07 (by decide) (by decide), h 0x08 (by decide) (by decide)]

theorem Node.serialScale_congr {sub : Nat} (h1 : sub ≠ 0x15) (h2 : sub ≠ 0x19) : n.of32 p 0x5600 sub = m.of32 p 0x5600 sub :=
  congrArg q32 (h sub h1 h2)

end

/-- The objects that a frame whose checks pass writes: the code, the position, its quality and the status (R203, R205). -/
def Node.framePassed (n : Node) (p f v : Nat) (err : Bool) : Node :=
  (((n.setI p 0x5600 0x16 f).setI p 0x5600 0x13 v).setI p 0x5600 0x14 (if err then 2 else 0)).setI p 0x5600 0x17
    (if err then 128 else 0)

theorem Node.framePassed_leaves (n : Node) (p f v : Nat) (err : Bool) :
    (n.framePassed p f v err).serialPort p = n.serialPort p ∧ (n.framePassed p f v err).sp p 0x16 = f
      ∧ (n.framePassed p f v err).sp p 0x13 = v ∧ (n.framePassed p f v err).sp p 0x14 = (if err then 2 else 0)
      ∧ (n.framePassed p f v err).sp p 0x17 = (if err then 128 else 0)
      ∧ (n.framePassed p f v err).sp p 0x15 = n.sp p 0x15 ∧ (n.framePassed p f v err).sp p 0x18 = n.sp p 0x18 := by
  unfold Node.framePassed
  rw [Node.setI_serialPort, Node.setI_serialPort, Node.setI_serialPort, Node.setI_serialPort]
  simp [Node.sp, Node.oi_setI, key]

section
variable {n : Node} {p t : Nat} (hx : (n.serialPort p).stamp = some t) (start : Option Nat) (frame : Nat)
  (endMark trailer low : Bool) (mono : Option Nat)
include hx

/-- The end of a frame in terms of the port with the frame over. -/
theorem Node.serialFrameEnd_eq :
    n.serialFrameEnd p start frame endMark trailer low mono =
      let k := n.frameOver p t start
      let bad := n.serialChecks p (n.serialPort p).notReady start endMark trailer low mono
      if bad ≠ 0 then k.serialFail p bad else
      let f := frame % 2 ^ n.sp p 0x04
      let err := n.sp p 0x0A < 64 && bit f (n.sp p 0x0A) == n.obi p 0x5600 0x0B
      (k.framePassed p f (r32 (n.of32 p 0x5600 0x12 + (n.serialCode p f : Rat) * n.of32 p 0x5600 0x11)) err).sendSerial p := by
  have h := (n.frameOver_leaves p t start).2.2
  have hB : (n.frameOver p t start).obi p 0x5600 0x0B = n.obi p 0x5600 0x0B := congrArg (· != 0) (h 0x0B (by decide) (by decide))
  dsimp only
  rw [← Node.serialChecks_congr h, ← h 0x04 (by decide) (by decide), ← h 0x0A (by decide) (by decide), ← hB,
    ← Node.serialCode_congr h, ← Node.serialScale_congr h (sub := 0x12) (by decide) (by decide),
    ← Node.serialScale_congr h (sub := 0x11) (by decide) (by decide)]
  unfold Node.serialFrameEnd
  dsimp only
  rw [hx]
  cases start with
  | none => rfl
  | some d => rfl

end

/-- What a frame that fails leaves (R204). -/
theorem Node.serialFail_leaves (n : Node) (p status : Nat) : (n.serialFail p status).serialPort p = n.serialPort p
    ∧ (n.serialFail p status).sp p 0x17 = status ∧ (n.serialFail p status).sp p 0x14 = 2
    ∧ (n.serialFail p status).sp p 0x18 = min (n.sp p 0x18 + 1) (2 ^ 32 - 1)
    ∧ (n.serialFail p status).sp p 0x13 = n.sp p 0x13 ∧ (n.serialFail p status).sp p 0x15 = n.sp p 0x15 := by
  unfold Node.serialFail
  extract_lets failed
  have h : failed.PassesOn ((failed.fault (0x060 + p) 0x3B 0 status).sendSerial p) :=
    (Node.PassesOn.fault (.refl failed)).trans (Node.passesOn_sendSerial ..)
  rw [h.serialPort, h.sp, h.sp, h.sp, h.sp, h.sp]
  refine ⟨by simp only [failed, Node.incSatI, Node.event_serialPort, Node.setI_serialPort], ?_⟩
  simp [failed, Node.sp, Node.incSatI, Node.oi_setI, key, satAdd]

/-! ## A sample slot (R122, R166, R207) -/

theorem Node.deliver_room {n : Node} {q : Nat} (hr : n.oi q 0x9100 0x0B = 1)
    (ho : occupancy (n.pi q) (n.ci q) + (n.queue q).wait.length < n.depth q) (e : QEntry) :
    n.deliver q e = n.setQueue q { n.queue q with wait := (n.queue q).wait ++ [e] } := by
  unfold Node.deliver
  exact (if_pos hr).trans (if_pos ho)

/-- A delivery, taken or not, leaves the slot being filled alone. -/
theorem Node.deliver_fill (n : Node) (q : Nat) (e : QEntry) : ((n.deliver q e).queue q).fill = (n.queue q).fill := by
  unfold Node.deliver
  dsimp only
  split_ifs
  · rw [Node.queue_setQueue_self]
  · rw [Node.queue_setQueue_self]
  · rw [Node.queue_setQueue_self]
  · rfl

/-- What is handed over: the entry of a slot. -/
def Node.slotEntry (n : Node) (q : Nat) : QEntry :=
  let x := n.queue q
  { desc := padTo 32 (slotDesc (n.oi q 0x9100 0x0F) x.seq x.dropped x.fillGap x.fillPrefix x.fill)
    data := (x.fill.map (·.2)).flatten }

/-- The node whose slot of queue `q` is empty. -/
def Node.slotTaken (n : Node) (q : Nat) : Node :=
  n.setQueue q { n.queue q with fill := [], fillPrefix := [], fillGap := false }

/-- After the delivery only the counting of entries is left. -/
theorem Node.flushSlot_queue {n : Node} {q : Nat} (hf : (n.queue q).fill ≠ []) :
    ((n.flushSlot q).queue q).fill = (((n.slotTaken q).deliver q (n.slotEntry q)).queue q).fill
      ∧ ((n.flushSlot q).queue q).wait = (((n.slotTaken q).deliver q (n.slotEntry q)).queue q).wait := by
  unfold Node.flushSlot
  dsimp only
  rw [if_neg hf]
  split
  · rw [Node.queue_setQueue_self]
    exact ⟨rfl, rfl⟩
  · exact ⟨rfl, rfl⟩

/-- The slot is handed over (R166), into the queue where it has room. -/
theorem Node.flushSlot_leaves {n : Node} {q : Nat} (hf : (n.queue q).fill ≠ []) : ((n.flushSlot q).queue q).fill = []
    ∧ (n.oi q 0x9100 0x0B = 1 → occupancy (n.pi q) (n.ci q) + (n.queue q).wait.length < n.depth q →
      ((n.flushSlot q).queue q).wait = (n.queue q).wait ++ [n.slotEntry q]) := by
  have hq : (n.slotTaken q).queue q = { n.queue q with fill := [], fillPrefix := [], fillGap := false } :=
    Node.queue_setQueue_self ..
  obtain ⟨hfill, hwait⟩ := Node.flushSlot_queue hf
  rw [hfill, hwait, Node.deliver_fill, hq]
  refine ⟨rfl, fun hr ho => ?_⟩
  rw [Node.deliver_room (n := n.slotTaken q) hr (by rw [hq]; exact ho), Node.queue_setQueue_self, hq]

/-! ## The statement -/

section
variable {s : State} {dt : Nat} {p : Fin 8} (hup : s.node.up = true)
include hup

section
variable {high : Bool} (h2 : (s.at_ dt).sp p 0x02 ≠ 0) (hr : ((s.at_ dt).serialPort p).inReset = false)
include h2 hr

/-- A request starts a frame and stamps it (R202). -/
theorem serialRequest_stamps (hx : ((s.at_ dt).serialPort p).stamp = none) (hc : (s.at_ dt).serialConfigBad p = false) :
    Answers (.serialRequest dt p high) s fun t => Rests s t ∧ t.node.od = s.node.od
      ∧ t.node.serialPort p = { (s.at_ dt).serialPort p with
          stamp := some ((s.at_ dt).copy isleFrame + (s.at_ dt).sp p 0x10), notReady := !high } := by
  refine answers_actUp hup rfl ⟨⟨rfl, rfl⟩, ?_⟩
  rw [Node.serialRequest_begins h2 hr high hx hc, Node.serialPort_setSerial_self]
  exact ⟨rfl, rfl⟩

/-- A request of a port whose configuration gives no value reports it (R205). -/
theorem serialRequest_reports (hx : ((s.at_ dt).serialPort p).stamp = none) (hc : (s.at_ dt).serialConfigBad p = true) :
    Answers (.serialRequest dt p high) s fun t => Rests s t ∧ t.node.sp p 0x14 = 3 ∧ t.node.sp p 0x17 = 2
      ∧ (t.node.serialPort p).stamp = none := by
  refine answers_actUp hup rfl ⟨⟨rfl, rfl⟩, ?_⟩
  have hs := Node.passesOn_sendSerial
    ((((s.at_ dt).setI p 0x5600 0x17 2).setI p 0x5600 0x14 3).setI p 0x5600 0x15 ((s.at_ dt).copy isleFrame)) p
  rw [Node.serialRequest_misconfigured h2 hr high hx hc, hs.sp, hs.sp, hs.serialPort, Node.setI_serialPort, Node.setI_serialPort,
    Node.setI_serialPort]
  refine ⟨?_, ?_, hx⟩
  · simp [Node.sp, Node.oi_setI, key]
  · simp [Node.sp, Node.oi_setI, key]

/-- A request during a frame is an overrun, and counted (R204). -/
theorem serialRequest_overruns {at_ : Nat} (hx : ((s.at_ dt).serialPort p).stamp = some at_) :
    Answers (.serialRequest dt p high) s fun t => Rests s t ∧ bit (t.node.sp p 0x17) 2 = true
      ∧ t.node.sp p 0x18 = min ((s.at_ dt).sp p 0x18 + 1) (2 ^ 32 - 1) ∧ t.node.serialPort p = (s.at_ dt).serialPort p := by
  refine answers_actUp hup rfl ⟨⟨rfl, rfl⟩, ?_⟩
  rw [Node.serialRequest_overruns h2 hr high hx]
  refine ⟨?_, ?_, by rw [Node.setBitI, Node.incSatI, Node.setI_serialPort, Node.setI_serialPort]⟩
  · exact (congrArg (bit · 2) (Node.oi_setI_self ..)).trans (bit_setBit_self ..)
  · exact (Node.oi_setI_sub _ _ _ _ (by decide)).trans (Node.oi_incSatI_self ..)

end

section
variable {start : Option Nat} {frame : BitVec 64} {endMark trailer low : Bool} {mono : Option Nat} {at_ : Nat}
  (hx : ((s.at_ dt).serialPort p).stamp = some at_)
include hx

/-- A frame whose checks pass gives the position (R203, R205). -/
theorem serialFrameEnd_gives
    (hb : (s.at_ dt).serialChecks p ((s.at_ dt).serialPort p).notReady start endMark trailer low mono = 0) :
    Answers (.serialFrameEnd dt p start frame endMark trailer low mono) s fun t => Rests s t ∧ (t.node.serialPort p).stamp = none
      ∧ t.node.sp p 0x15 = at_ ∧ t.node.sp p 0x16 = frame.toNat % 2 ^ (s.at_ dt).sp p 0x04
      ∧ t.node.sp p 0x18 = (s.at_ dt).sp p 0x18
      ∧ t.node.sp p 0x13 = r32 ((s.at_ dt).of32 p 0x5600 0x12
          + ((s.at_ dt).serialCode p (frame.toNat % 2 ^ (s.at_ dt).sp p 0x04) : Rat) * (s.at_ dt).of32 p 0x5600 0x11)
      ∧ (64 ≤ (s.at_ dt).sp p 0x0A → t.node.sp p 0x14 = 0 ∧ t.node.sp p 0x17 = 0) := by
  obtain ⟨hstamp, h5, hother⟩ := (s.at_ dt).frameOver_leaves p at_ start
  have h8 := hother 0x18 (by decide) (by decide)
  refine answers_actUp hup rfl ⟨⟨rfl, rfl⟩, ?_⟩
  rw [Node.serialFrameEnd_eq hx]
  dsimp only
  rw [hb, if_neg (by simp)]
  generalize (s.at_ dt).frameOver p at_ start = k at hstamp h5 h8 ⊢
  generalize r32 _ = v
  generalize frame.toNat % _ = f
  generalize he : (decide ((s.at_ dt).sp p 0x0A < 64) && _) = err
  have hs := Node.passesOn_sendSerial (k.framePassed p f v err) p
  obtain ⟨hp, g6, g3, g4, g7, g5, g8⟩ := k.framePassed_leaves p f v err
  rw [hs.serialPort, hs.sp, hs.sp, hs.sp, hs.sp, hs.sp, hs.sp, hp, g5, g6, g8, g3, g4, g7]
  refine ⟨hstamp, h5, rfl, h8, rfl, fun h64 => ?_⟩
  have hnone : err = false := by rw [← he, decide_eq_false (by omega), Bool.false_and]
  rw [hnone]
  exact ⟨rfl, rfl⟩

/-- A frame that fails a check (R204). -/
theorem serialFrameEnd_fails
    (hb : (s.at_ dt).serialChecks p ((s.at_ dt).serialPort p).notReady start endMark trailer low mono ≠ 0) :
    Answers (.serialFrameEnd dt p start frame endMark trailer low mono) s fun t => Rests s t ∧ (t.node.serialPort p).stamp = none
      ∧ t.node.sp p 0x15 = at_
      ∧ t.node.sp p 0x17 = (s.at_ dt).serialChecks p ((s.at_ dt).serialPort p).notReady start endMark trailer low mono
      ∧ t.node.sp p 0x14 = 2 ∧ t.node.sp p 0x13 = (s.at_ dt).sp p 0x13
      ∧ t.node.sp p 0x18 = min ((s.at_ dt).sp p 0x18 + 1) (2 ^ 32 - 1) := by
  obtain ⟨hstamp, h5, hother⟩ := (s.at_ dt).frameOver_leaves p at_ start
  refine answers_actUp hup rfl ⟨⟨rfl, rfl⟩, ?_⟩
  rw [Node.serialFrameEnd_eq hx]
  dsimp only
  rw [if_pos hb]
  generalize (s.at_ dt).serialChecks p _ _ _ _ _ _ = bad
  obtain ⟨hp, f7, f4, f8, f3, f5⟩ := ((s.at_ dt).frameOver p at_ start).serialFail_leaves p bad
  rw [hp, f7, f4, f8, f3, f5, h5, hother 0x13 (by decide) (by decide), hother 0x18 (by decide) (by decide)]
  exact ⟨hstamp, rfl, rfl, rfl, rfl, rfl⟩

end

/-- The reset of a port ends (R206, Table 2-10). -/
theorem serialPortReady_ends : Answers (.serialPortReady dt p) s fun t => Rests s t ∧ t.node.od = s.node.od
    ∧ t.node.serialPort p = { (s.at_ dt).serialPort p with inReset := false } :=
  answers_actUp hup rfl ⟨⟨rfl, rfl⟩, rfl, Node.serialPort_setSerial_self ..⟩

/-- A slot whose oldest entry is due is delivered (R166, R207). -/
theorem sampleSlotDelivery_delivers {q : Fin 8192} {e : Nat × List Byte} {rest : List (Nat × List Byte)}
    (hf : ((s.at_ dt).queue q).fill = e :: rest) (h8 : (s.at_ dt).oi q 0x9100 0x03 = 8)
    (hd : e.1 + (s.at_ dt).o 0x4800 0x07 * 1000000 < (s.at_ dt).copy isleArchive) :
    Answers (.sampleSlotDelivery dt q) s fun t => Rests s t ∧ (t.node.queue q).fill = []
      ∧ ((s.at_ dt).oi q 0x9100 0x0B = 1 →
          occupancy ((s.at_ dt).pi q) ((s.at_ dt).ci q) + ((s.at_ dt).queue q).wait.length < (s.at_ dt).depth q →
          ∃ en, (t.node.queue q).wait = ((s.at_ dt).queue q).wait ++ [en] ∧ en.data = ((e :: rest).map (·.2)).flatten) := by
  obtain ⟨hfill, hwait⟩ := Node.flushSlot_leaves (n := s.at_ dt) (q := q) (by rw [hf]; exact List.cons_ne_nil _ _)
  refine answers_actUp hup rfl ⟨⟨rfl, rfl⟩, ?_⟩
  dsimp only
  rw [hf]
  dsimp only
  rw [if_pos ⟨h8, hd⟩]
  exact ⟨hfill, fun hr ho => ⟨_, hwait hr ho, by rw [Node.slotEntry, hf]⟩⟩

end

/-- Settles O35: a request's three ends, a frame's two, the end of a reset, and a slot's delivery. -/
theorem serialPortsAct : Obligations.SerialPortsAct := fun _ _ _ hup =>
  ⟨fun _ => serialRequest_stamps hup, fun _ => serialRequest_reports hup, fun _ _ h2 hr => serialRequest_overruns hup h2 hr,
    fun _ _ _ _ _ _ _ hx => ⟨serialFrameEnd_gives hup hx, serialFrameEnd_fails hup hx⟩, serialPortReady_ends hup,
    fun _ _ _ => sampleSlotDelivery_delivers hup⟩

end Sys2Proof.Machine
end

section
/-!
SUPPORT. Shaft inputs (R181 to R190): what an edge, standstill, the end of a speed window and open detection leave of an
input and of the crank domains whose encoder or index it is.
-/
namespace Sys2Proof.Machine

/-! ## The work of crank domains -/

/-- `n` has come of `m` by work of the crank domains that `ds` names: no other domain's objects change, and no shaft input. -/
structure Node.Turns (ds : Nat → Prop) (m n : Node) : Prop where
  objects : ∀ j idx sub, idx < 65536 → sub < 256 → ¬ (idx = 0x5400 ∧ ds j) → n.oi j idx sub = m.oi j idx sub
  shafts : ∀ i, n.shaft i = m.shaft i

namespace Node.Turns
variable {ds : Nat → Prop} {m n k : Node}

theorem refl (n : Node) : Turns ds n n := ⟨fun _ _ _ _ _ _ => rfl, fun _ => rfl⟩

theorem trans (h : Turns ds m n) (g : Turns ds n k) : Turns ds m k :=
  ⟨fun j x b hx hb hn => (g.objects j x b hx hb hn).trans (h.objects j x b hx hb hn), fun i => (g.shafts i).trans (h.shafts i)⟩

theorem mono {es : Nat → Prop} (h : Turns ds m n) (he : ∀ d, ds d → es d) : Turns es m n :=
  ⟨fun j x b hx hb hn => h.objects j x b hx hb fun hd => hn ⟨hd.1, he j hd.2⟩, h.shafts⟩

/-- A change of other parts of the node. -/
theorem of_same (h : Turns ds m n) (ho : k.od = n.od) (hs : k.shafts = n.shafts) : Turns ds m k :=
  h.trans ⟨fun _ _ _ _ _ _ => congrArg (odGet · _) ho, fun i => congrArg (mapGet · i ({} : ShaftSt)) hs⟩

theorem ite {a b : Node} {p : Prop} [Decidable p] (h : Turns ds m a) (g : Turns ds m b) : Turns ds m (if p then a else b) := by
  split <;> assumption

theorem foldl {α : Type} {f : Node → α → Node} {l : List α} (hf : ∀ n, ∀ a ∈ l, Turns ds m n → Turns ds m (f n a))
    (h : Turns ds m n) : Turns ds m (l.foldl f n) := by
  induction l generalizing n with
  | nil => exact h
  | cons a r ih => exact ih (fun n b hb => hf n b (List.mem_cons_of_mem _ hb)) (hf n a List.mem_cons_self h)

/-- A write of an object of one of these domains. -/
theorem setI (h : Turns ds m n) {d sub v : Nat} (hd : ds d) (hs : sub < 256 := by decide) :
    Turns ds m (n.setI d 0x5400 sub v) := by
  refine h.trans ⟨fun j x b hx hb hn => Node.oi_setI_ne n v fun e => ?_, fun _ => rfl⟩
  obtain ⟨rfl, rfl, -⟩ := (key_inj hx hb (by decide) hs).mp e
  exact hn ⟨rfl, hd⟩

theorem setCrank (h : Turns ds m n) {d : Nat} {x : CrankSt} : Turns ds m (n.setCrank d x) := h.of_same rfl rfl
theorem fault (h : Turns ds m n) {src kind detail addr : Nat} : Turns ds m (n.fault src kind detail addr) := h.of_same rfl rfl
theorem event (h : Turns ds m n) {e : Nat} : Turns ds m (n.event e) :=
  h.trans ⟨fun _ _ _ _ _ _ => Node.event_oi .., fun _ => Node.event_shaft ..⟩

section
variable {d : Nat} (hd : ds d)
include hd

theorem setCrankState (h : Turns ds m n) {st : Nat} : Turns ds m (n.setCrankState d st) := by
  have ha : Turns ds m (n.dropAngles d) := h.foldl fun _ _ _ g => .ite (g.of_same rfl rfl) g
  exact setI (.ite ha h) hd

theorem syncLost (h : Turns ds m n) : Turns ds m (n.syncLost d) := by
  unfold Node.syncLost
  exact .ite ((h.setCrankState hd).setI hd).event.fault h

theorem engineStop (h : Turns ds m n) : Turns ds m (n.engineStop d) := by
  have hs : Turns ds m (if 2 ≤ n.crankState d then n.setCrank d { n.crank d with stopped := List.range 20 } else n) :=
    .ite h.setCrank h
  unfold Node.engineStop Node.crankStop
  exact .ite hs (hs.setCrankState hd)

theorem seekIndex (h : Turns ds m n) : Turns ds m (n.seekIndex d) := by
  unfold Node.seekIndex
  exact .ite (h.setCrank.setCrankState hd) (h.setCrank.setCrankState hd)

theorem crankIndex (h : Turns ds m n) : Turns ds m (n.crankIndex d) := by
  unfold Node.crankIndex
  exact .ite (h.seekIndex hd) (.ite (.ite (h.setCrank.setCrankState hd) (.ite (h.setCrank.setI hd).fault h.setCrank))
    (.ite (.ite h.setCrank ((h.syncLost hd).seekIndex hd)) h))

theorem crankCount (h : Turns ds m n) {ahead : Bool} {t : Nat} : Turns ds m (n.crankCount d ahead t) := by
  unfold Node.crankCount
  exact .ite h (.ite (h.setCrank.setCrankState hd) (.ite (.ite h (h.setCrankState hd)) (.ite (h.setCrankState hd) h.setCrank)))

end

/-! ### What is read off it -/

theorem crankState (h : Turns ds m n) {d : Nat} (hd : ¬ ds d) : n.crankState d = m.crankState d :=
  h.objects d 0x5400 0x13 (by decide) (by decide) fun e => hd e.2
theorem cd (h : Turns ds m n) {d : Nat} (hd : ¬ ds d) {sub : Nat} (hs : sub < 256 := by decide) : n.cd d sub = m.cd d sub :=
  h.objects d 0x5400 sub (by decide) hs fun e => hd e.2
theorem sh (h : Turns ds m n) (i : Nat) {sub : Nat} (hs : sub < 256 := by decide) : n.sh i sub = m.sh i sub :=
  h.objects i 0x5500 sub (by decide) hs fun e => absurd e.1 (by decide)

end Node.Turns

/-! ## Every domain of an input (R189) -/

theorem Node.mem_domainsBy {n : Node} {sub i d : Nat} :
    d ∈ n.domainsBy sub i ↔ d < 4 ∧ n.crankState d ≠ 0 ∧ n.cd d sub = i := by
  simp [Node.domainsBy]

theorem Node.nodup_domainsBy (n : Node) (sub i : Nat) : (n.domainsBy sub i).Nodup := List.nodup_range.filter _

section
variable {f : Node → Nat → Node} (hf : ∀ n d, Node.Turns (· = d) n (f n d))
include hf

/-- What is done at every domain of a list leaves the shaft inputs alone. -/
theorem Node.foldl_domains_turns (l : List Nat) (n : Node) : Node.Turns (· ∈ l) n (l.foldl f n) :=
  .foldl (fun k d hd g => g.trans ((hf k d).mono fun _ h => h ▸ hd)) (.refl n)

/-- A domain of the list ends in the state in which it leaves its turn. -/
theorem Node.foldl_domains_state {l : List Nat} (hl : l.Nodup) {d st : Nat} (hd : d ∈ l) {n : Node}
    (hst : ∀ k, Node.Turns (· ≠ d) n k → (f k d).crankState d = st) : (l.foldl f n).crankState d = st := by
  obtain ⟨a, b, rfl⟩ := List.append_of_mem hd
  rw [List.nodup_middle, List.nodup_cons, List.mem_append, not_or] at hl
  obtain ⟨⟨ha, hb⟩, -⟩ := hl
  have before := (Node.foldl_domains_turns hf a n).mono (es := (· ≠ d)) fun _ h e => ha (e ▸ h)
  rw [List.foldl_append, List.foldl_cons, (Node.foldl_domains_turns hf b _).crankState hb]
  exact hst _ before

end

theorem Node.crankState_setCrankState (n : Node) (d st : Nat) : (n.setCrankState d st).crankState d = st := Node.oi_setI_self ..

theorem Node.syncLost_seeks {n : Node} {d : Nat} (h : n.crankState d = 4) : (n.syncLost d).crankState d = 2 := by
  have hf (k : Node) (src kind detail addr : Nat) : (k.fault src kind detail addr).crankState d = k.crankState d := rfl
  have he (k : Node) (e : Nat) : (k.event e).crankState d = k.crankState d := Node.event_oi ..
  have hi (k : Node) : (k.incSatI 32 d 0x5400 0x16 1).crankState d = k.crankState d := Node.oi_setI_sub _ _ _ _ (by decide)
  unfold Node.syncLost
  rw [if_pos h, hf, he, hi, Node.crankState_setCrankState]

/-- An index in a seek synchronises a two-stroke domain (Table 7-9). -/
theorem Node.crankIndex_synchronises {n : Node} {d : Nat} (h2 : n.crankState d = 2) (h3 : n.cd d 0x03 = 0) :
    (n.crankIndex d).crankState d = 4 := by
  unfold Node.crankIndex Node.seekIndex
  rw [if_pos h2, h3]
  exact Node.crankState_setCrankState ..

theorem Node.engineStop_stops {n : Node} {d : Nat} (h : n.crankState d ≠ 0) : (n.engineStop d).crankState d = 1 := by
  unfold Node.engineStop Node.crankStop
  extract_lets _ told
  have ht : told.crankState d = n.crankState d := by
    dsimp only [told]
    split
    · rfl
    · rfl
  rw [if_neg (ht ▸ h)]
  exact Node.crankState_setCrankState ..

/-! ## Speed (R183, R185) -/

/-- What showing a speed leaves of the input: the speed with its sign and its stamp are all it writes. -/
theorem Node.setSpeed_leaves (n : Node) (i : Nat) (rpm : Rat) (t : Nat) :
    (n.setSpeed i rpm t).sh i 0x0F = r32 (if n.astern i then -rpm else rpm) ∧ (n.setSpeed i rpm t).sh i 0x11 = t
      ∧ (∀ sub, sub ≠ 0x0F → sub ≠ 0x11 → (n.setSpeed i rpm t).sh i sub = n.sh i sub)
      ∧ (n.setSpeed i rpm t).shaft i = n.shaft i
      ∧ SameObjects n (n.setSpeed i rpm t) [key i 0x5500 0x0F, key i 0x5500 0x11] := by
  refine ⟨(Node.oi_setI_sub _ _ _ _ (by decide)).trans (Node.oi_setI_self ..), Node.oi_setI_self ..,
    fun sub hf h1 => ?_, rfl, ?_⟩
  · exact (Node.oi_setI_sub _ _ _ _ h1).trans (Node.oi_setI_sub _ _ _ _ hf)
  · exact ((SameObjects.refl n _).setI (by simp)).setI (by simp)

/-- A speed of 0 has no sign. -/
theorem r32_zero (b : Bool) : r32 (if b then -0 else 0) = 0 := by
  rw [neg_zero, ite_self]
  decide

theorem SameObjects.same {m n k : Node} {ks : List Nat} (h : SameObjects m n ks) (e : k.od = n.od) : SameObjects m k ks :=
  fun x hx => (congrArg (odGet · x) e).trans (h x hx)

theorem SameObjects.ite {m a b : Node} {ks : List Nat} {p : Prop} [Decidable p] (h : SameObjects m a ks) (g : SameObjects m b ks) :
    SameObjects m (if p then a else b) ks := by
  split <;> assumption

/-- A counted edge writes no object but the speed and its stamp. -/
theorem Node.speedEdge_objects (n : Node) (i t : Nat) (turned : Bool) :
    SameObjects n (n.speedEdge i t turned) [key i 0x5500 0x0F, key i 0x5500 0x11] := by
  have h0 : SameObjects n n [key i 0x5500 0x0F, key i 0x5500 0x11] := .refl n _
  unfold Node.speedEdge
  extract_lets x m h k kept
  have hk : SameObjects n kept [key i 0x5500 0x0F, key i 0x5500 0x11] := h0.same rfl
  refine .ite (h0.same rfl) (.ite ?_ hk)
  exact SameObjects.setI (SameObjects.setI (hk.same rfl) (by simp)) (by simp)

/-- A count against DIRECTION writes the status, and where the direction turns its stamp and count and the speed (R184). -/
theorem Node.directionCount_objects (n : Node) (i : Nat) (ahead : Bool) (t : Nat) : SameObjects n (n.directionCount i ahead t).1
    [key i 0x5500 0x0F, key i 0x5500 0x12, key i 0x5500 0x14, key i 0x5500 0x16] := by
  have h0 : SameObjects n n [key i 0x5500 0x0F, key i 0x5500 0x12, key i 0x5500 0x14, key i 0x5500 0x16] := .refl n _
  unfold Node.directionCount
  extract_lets x since counted marked told v
  have hc : SameObjects n counted _ := h0.same rfl
  have hm : SameObjects n marked _ := (hc.setI (by simp)).setI (by simp)
  have ht : SameObjects n told _ := ((hm.setI (by simp)).setI (by simp)).same (Node.event_od ..)
  by_cases ha : (ahead == n.astern i) = true
  · rw [if_pos ha]
    by_cases hh : n.sh i 0x0C ≤ x.against + 1
    · rw [if_pos hh]
      exact ht.setI (by simp)
    · rw [if_neg hh]
      exact h0.same rfl
  · rw [if_neg ha]
    exact h0.same rfl

/-- The first interval of the slow class gives the speed (R183, Table 7-7). -/
theorem Node.speedEdge_interval {n : Node} {i t0 : Nat} {rest : List Nat} (h7 : n.sh i 0x07 = 0) (h9 : n.sh i 0x09 = 1)
    (hh : (n.shaft i).hist = t0 :: rest) (t : Nat) :
    ∃ k : Node, n.speedEdge i t false = k.setSpeed i (rpmOf 1 (n.ppr i) (t - t0)) t ∧ k.od = n.od
      ∧ (k.shaft i).standstill = false := by
  unfold Node.speedEdge
  rw [if_neg (by rw [h7]; decide), h9, hh]
  exact ⟨_, rfl, rfl, congrArg ShaftSt.standstill (Node.shaft_setShaft_self ..)⟩

/-! ## An edge (R182 to R184, R189) -/

/-- The input with an edge counted (Table 7-20). -/
def Node.edgeCounted (n : Node) (i : Nat) (rising : Bool) : Node := (n.setShBit i 0 rising).incWrapI 32 i 0x5500 0x13 1

/-- A shaft object that a change names no write of. -/
theorem SameObjects.sh {m n : Node} {ks : List Nat} (h : SameObjects m n ks) {i sub : Nat} (hk : key i 0x5500 sub ∉ ks) :
    n.sh i sub = m.sh i sub := h _ hk

theorem key_domain_ne_shaft (d i : Nat) {a b : Nat} (ha : a < 256) (hb : b < 256) : key d 0x5400 a ≠ key i 0x5500 b := by
  unfold key
  omega

/-- The objects of the crank domains stay where only the status, the count and the count errors of an input change. -/
theorem SameObjects.cd {m n : Node} {i : Nat} (h : SameObjects m n [key i 0x5500 0x12, key i 0x5500 0x13, key i 0x5500 0x15])
    (d : Nat) {sub : Nat} (hs : sub < 256) : n.cd d sub = m.cd d sub := by
  refine h _ ?_
  simp only [List.mem_cons, List.not_mem_nil, or_false, not_or]
  exact ⟨key_domain_ne_shaft d i hs (by decide), key_domain_ne_shaft d i hs (by decide), key_domain_ne_shaft d i hs (by decide)⟩

/-- R181: no edge makes a configuration invalid. -/
theorem Node.shaftConfigBad_setShBit (n : Node) (i j b : Nat) (v : Bool) :
    (n.setShBit i b v).shaftConfigBad j = n.shaftConfigBad j := by
  have h : SameObjects n (n.setShBit i b v) [key i 0x5500 0x12, key i 0x5500 0x13, key i 0x5500 0x15] :=
    SameObjects.setI (.refl n _) (by simp)
  have hsh (k : Nat) : (n.setShBit i b v).sh k 0x02 = n.sh k 0x02 := Node.oi_setI_ne n _ (by unfold key; omega)
  have hobi (d : Nat) : (n.setShBit i b v).obi d 0x5400 0x02 = n.obi d 0x5400 0x02 :=
    congrArg (· != 0) (h.cd d (sub := 0x02) (by decide))
  unfold Node.shaftConfigBad Node.domainMismatch
  simp only [hsh, hobi, h.cd _ (sub := 0x04) (by decide), h.cd _ (sub := 0x05) (by decide), h.cd _ (sub := 0x06) (by decide)]

section
variable (n : Node) (i : Nat) (rising : Bool)

theorem Node.edgeCounted_count : (n.edgeCounted i rising).sh i 0x13 = (n.sh i 0x13 + 1) % 2 ^ 32 := by
  have h : (n.setShBit i 0 rising).sh i 0x13 = n.sh i 0x13 := Node.oi_setI_sub _ _ _ _ (by decide)
  rw [← h]
  exact Node.oi_setI_self ..

theorem Node.edgeCounted_objects :
    SameObjects n (n.edgeCounted i rising) [key i 0x5500 0x12, key i 0x5500 0x13, key i 0x5500 0x15] :=
  ((SameObjects.refl n _).setI (by simp)).setI (by simp)

theorem Node.edgeCounted_astern : (n.edgeCounted i rising).astern i = n.astern i := by
  have h : (n.edgeCounted i rising).sh i 0x12 = (n.setShBit i 0 rising).sh i 0x12 := Node.oi_setI_sub _ _ _ _ (by decide)
  unfold Node.astern
  rw [h]
  exact (congrArg (bit · 3) (Node.oi_setI_self ..)).trans (bit_setBit_ne _ _ (by decide))

theorem Node.edgeCounted_ppr : (n.edgeCounted i rising).ppr i = n.ppr i := by
  have h := n.edgeCounted_objects i rising
  unfold Node.ppr
  rw [h.sh (by simp [key]), h.sh (by simp [key])]

end

section
variable {n : Node} {i : Nat}

theorem Node.shaftEdge_single (h : n.sh i 0x02 = 1) (aLeads both : Bool) (ago : Nat) :
    n.shaftEdge i true aLeads both ago = (n.edgeCounted i true).speedEdge i (n.copy isleFrame - ago) false := by
  unfold Node.shaftEdge
  dsimp only
  rw [h, if_pos rfl]
  rfl

theorem Node.shaftEdge_index (h : n.sh i 0x02 = 4) (aLeads both : Bool) (ago : Nat) :
    n.shaftEdge i true aLeads both ago =
      ((n.edgeCounted i true).domainsBy 0x05 i).foldl (fun n d => n.crankIndex d) (n.edgeCounted i true) := by
  unfold Node.shaftEdge
  dsimp only
  rw [h, if_neg (by decide), if_neg (by decide), if_pos rfl]
  rfl

variable (h : n.sh i 0x02 = 2) (hc : n.shaftConfigBad i = false) (rising aLeads : Bool) (ago : Nat)
include h hc

theorem Node.shaftEdge_error : n.shaftEdge i rising aLeads true ago = (n.setShBit i 0 rising).countError i := by
  unfold Node.shaftEdge
  dsimp only
  rw [h, if_neg (by decide), if_pos (.inl rfl), if_pos rfl, n.shaftConfigBad_setShBit, hc]
  rfl

/-- A count of an encoder: direction, speed and domains leave the count itself alone. -/
theorem Node.shaftEdge_count : (n.shaftEdge i rising aLeads false ago).sh i 0x13 = (n.sh i 0x13 + 1) % 2 ^ 32 := by
  have hf (ahead : Bool) (t : Nat) (k : Node) (d : Nat) : Node.Turns (· = d) k (k.crankCount d ahead t) :=
    Node.Turns.crankCount (ds := (· = d)) rfl (.refl k)
  unfold Node.shaftEdge
  dsimp only
  rw [h, if_neg (by decide), if_pos (.inl rfl), if_pos rfl, n.shaftConfigBad_setShBit, hc, if_neg (by decide), if_neg (by decide)]
  generalize (aLeads == _) = ahead
  change Node.sh
    (List.foldl _ (((n.edgeCounted i rising).directionCount i ahead (n.stamp isleFrame ago)).1.speedEdge ..) _) i 0x13 = _
  rw [(Node.foldl_domains_turns (hf _ _) _ _).sh i,
    (Node.speedEdge_objects _ i _ _).sh (by simp [key]), (Node.directionCount_objects _ i _ _).sh (by simp [key]),
    Node.edgeCounted_count]

end

/-! ## A count error (R182) -/

/-- The objects that a count error writes at its input. -/
def Node.errorCounted (n : Node) (i : Nat) : Node := (n.setShBit i 6 true).incSatI 32 i 0x5500 0x15 1

theorem Node.errorCounted_leaves (n : Node) (i : Nat) : bit ((n.errorCounted i).sh i 0x12) 6 = true
    ∧ (n.errorCounted i).sh i 0x15 = min (n.sh i 0x15 + 1) (2 ^ 32 - 1)
    ∧ SameObjects n (n.errorCounted i) [key i 0x5500 0x12, key i 0x5500 0x13, key i 0x5500 0x15]
    ∧ (n.errorCounted i).sh i 0x13 = n.sh i 0x13 := by
  have h5 : (n.setShBit i 6 true).sh i 0x15 = n.sh i 0x15 := Node.oi_setI_sub _ _ _ _ (by decide)
  refine ⟨?_, ?_, ((SameObjects.refl n _).setI (by simp)).setI (by simp), ?_⟩
  · refine (congrArg (bit · 6) ((Node.oi_setI_sub _ _ _ _ (by decide)).trans (Node.oi_setI_self ..))).trans (bit_setBit_self ..)
  · rw [← h5]
    exact Node.oi_incSatI_self ..
  · exact (Node.oi_setI_sub _ _ _ _ (by decide)).trans (Node.oi_setI_sub _ _ _ _ (by decide))

/-- After the count every domain whose encoder it is loses its synchronisation. -/
theorem Node.countError_eq (n : Node) (i : Nat) : ∃ k : Node,
    n.countError i = (k.domainsBy 0x04 i).foldl (fun n d => n.syncLost d) k ∧ k.od = (n.errorCounted i).od := ⟨_, rfl, rfl⟩

/-! ## Standstill, the speed window and open detection (R183, R185) -/

/-- The input at standstill, before its domains follow. -/
def Node.atRest (n : Node) (i : Nat) : Node :=
  (n.setShaft i { n.shaft i with hist := [], standstill := true }).setSpeed i 0 (n.copy isleFrame)

theorem Node.standstill_eq (n : Node) (i : Nat) : n.standstill i = if (n.shaft i).standstill then n.atRest i else
    ((n.atRest i).domainsBy 0x04 i).foldl (fun n d => n.engineStop d) ((n.atRest i).event (0x0110 + i)) := rfl

theorem Node.atRest_leaves (n : Node) (i : Nat) : (n.atRest i).sh i 0x0F = 0
    ∧ (n.atRest i).shaft i = { n.shaft i with hist := [], standstill := true }
    ∧ ∀ d sub, sub < 256 → (n.atRest i).cd d sub = n.cd d sub := by
  let halted : Node := n.setShaft i { n.shaft i with hist := [], standstill := true }
  obtain ⟨hf, -, -, hx, ho⟩ := halted.setSpeed_leaves i 0 (n.copy isleFrame)
  refine ⟨hf.trans (r32_zero _), hx.trans (Node.shaft_setShaft_self ..), fun d sub hs => ho _ ?_⟩
  simp only [List.mem_cons, List.not_mem_nil, or_false, not_or]
  exact ⟨key_domain_ne_shaft d i hs (by decide), key_domain_ne_shaft d i hs (by decide)⟩

theorem Node.engineStop_turns (n : Node) (d : Nat) : Node.Turns (· = d) n (n.engineStop d) :=
  .engineStop rfl (.refl n)

/-- R183: an input at standstill shows speed 0 and no history, and the domains whose encoder it is stop. -/
theorem Node.standstill_leaves (n : Node) (i : Nat) : ((n.standstill i).shaft i).standstill = true
    ∧ (n.standstill i).sh i 0x0F = 0 ∧ ((n.standstill i).shaft i).hist = []
    ∧ ∀ d < 4, (n.shaft i).standstill = false → n.cd d 0x04 = i → n.crankState d ≠ 0 →
      (n.standstill i).crankState d = 1 := by
  obtain ⟨hf, hx, hcd⟩ := n.atRest_leaves i
  have hm : Node.Turns (fun _ => True) (n.atRest i) (n.standstill i) := by
    have he : Node.Turns (fun _ => True) (n.atRest i) ((n.atRest i).event (0x0110 + i)) := .event (.refl _)
    rw [Node.standstill_eq]
    exact .ite (.refl _) (he.trans ((Node.foldl_domains_turns Node.engineStop_turns _ _).mono fun _ _ => trivial))
  have hs : (n.standstill i).shaft i = (n.atRest i).shaft i := hm.shafts i
  rw [hs, hx, hm.sh i, hf]
  refine ⟨rfl, rfl, rfl, fun d hd hw h4 h0 => ?_⟩
  have hst : (n.atRest i).crankState d ≠ 0 := fun e => h0 ((hcd d 0x13 (by decide)).symm.trans e)
  rw [Node.standstill_eq, if_neg (by simp [hw])]
  refine Node.foldl_domains_state Node.engineStop_turns (Node.nodup_domainsBy ..)
    (Node.mem_domainsBy.mpr ⟨hd, hst, (hcd d 0x04 (by decide)).trans h4⟩) fun k hk => Node.engineStop_stops ?_
  rw [hk.crankState fun h => h rfl]
  exact fun e => hst ((Node.event_oi ..).symm.trans e)

/-- The end of the fast class's window (Table 7-7). -/
theorem Node.speedWindow_eq {n : Node} {i : Nat} (h7 : n.sh i 0x07 = 1) (hm : n.sh i 0x02 = 1 ∨ n.sh i 0x02 = 2) :
    n.speedWindow i = (n.setSpeed i (if 2 ≤ (n.shaft i).winCount
      then rpmOf ((n.shaft i).winCount - 1) (n.ppr i) ((n.shaft i).winLast - (n.shaft i).winFirst) else 0)
      (n.copy isleFrame)).setShaft i { n.shaft i with winCount := 0, winStart := n.copy isleFrame } := if_pos ⟨h7, hm⟩

theorem Node.speedWindow_leaves {n : Node} {i : Nat} (h7 : n.sh i 0x07 = 1) (hm : n.sh i 0x02 = 1 ∨ n.sh i 0x02 = 2) :
    ((n.speedWindow i).shaft i).winCount = 0 ∧ (n.speedWindow i).sh i 0x11 = n.copy isleFrame
    ∧ ((n.shaft i).winCount < 2 → (n.speedWindow i).sh i 0x0F = 0)
    ∧ (2 ≤ (n.shaft i).winCount → n.astern i = false → (n.speedWindow i).sh i 0x0F =
        r32 (rpmOf ((n.shaft i).winCount - 1) (n.ppr i) ((n.shaft i).winLast - (n.shaft i).winFirst)))
    ∧ SameObjects n (n.speedWindow i) [key i 0x5500 0x0F, key i 0x5500 0x11] := by
  rw [Node.speedWindow_eq h7 hm, Node.shaft_setShaft_self]
  generalize hv : (if 2 ≤ (n.shaft i).winCount then rpmOf ((n.shaft i).winCount - 1) (n.ppr i)
    ((n.shaft i).winLast - (n.shaft i).winFirst) else 0) = rpm
  obtain ⟨hf, h1, -, -, ho⟩ := n.setSpeed_leaves i rpm (n.copy isleFrame)
  refine ⟨rfl, h1, fun hl => hf.trans ?_, fun hg ha => hf.trans ?_, ho.same rfl⟩
  · rw [← hv, if_neg (Nat.not_le.mpr hl)]
    exact r32_zero _
  · rw [← hv, if_pos hg, ha]
    rfl

theorem Node.shaftOpen_eq {n : Node} {i : Nat} (h : n.obi i 0x5500 0x0E = true) (h2 : n.sh i 0x02 = 1) (h3 : n.sh i 0x03 < 2)
    (mv : Nat) : n.shaftOpen i mv = n.setShBit i 5 (decide (3000 < mv)) := by
  unfold Node.shaftOpen
  rw [h, h2, decide_eq_true h3]
  rfl

/-! ## The statement -/

section
variable {s : State} {dt : Nat} {i : Fin 16} (hup : s.node.up = true)
include hup

/-- A rising edge of a single input (R182, R183). -/
theorem shaftEdge_times {aLeads both : Bool} {ago t0 : Nat} {rest : List Nat} (h2 : (s.at_ dt).sh i 0x02 = 1)
    (h7 : (s.at_ dt).sh i 0x07 = 0) (h9 : (s.at_ dt).sh i 0x09 = 1) (hh : ((s.at_ dt).shaft i).hist = t0 :: rest) :
    Answers (.shaftEdge dt i true aLeads both ago) s fun t => Rests s t
      ∧ t.node.sh i 0x13 = ((s.at_ dt).sh i 0x13 + 1) % 2 ^ 32 ∧ t.node.sh i 0x11 = (s.at_ dt).copy isleFrame - ago
      ∧ (t.node.shaft i).standstill = false ∧ t.node.sh i 0x0F =
        r32 (if (s.at_ dt).astern i then -rpmOf 1 ((s.at_ dt).ppr i) ((s.at_ dt).copy isleFrame - ago - t0)
          else rpmOf 1 ((s.at_ dt).ppr i) ((s.at_ dt).copy isleFrame - ago - t0)) := by
  have hc := (s.at_ dt).edgeCounted_objects i true
  obtain ⟨k, e, hod, hst⟩ := Node.speedEdge_interval ((hc.sh (by simp [key])).trans h7) ((hc.sh (by simp [key])).trans h9)
    (n := (s.at_ dt).edgeCounted i true) hh ((s.at_ dt).copy isleFrame - ago)
  refine answers_actUp hup rfl ⟨⟨rfl, rfl⟩, ?_⟩
  rw [Node.shaftEdge_single h2, e, Node.edgeCounted_ppr]
  obtain ⟨hf, h1, hother, hx, -⟩ := k.setSpeed_leaves i (rpmOf 1 ((s.at_ dt).ppr i) ((s.at_ dt).copy isleFrame - ago - t0))
    ((s.at_ dt).copy isleFrame - ago)
  have ha : k.astern i = (s.at_ dt).astern i :=
    (congrArg (fun od => bit (odGet od _) 3) hod).trans ((s.at_ dt).edgeCounted_astern i true)
  have h3 : k.sh i 0x13 = ((s.at_ dt).sh i 0x13 + 1) % 2 ^ 32 :=
    (congrArg (odGet · _) hod).trans ((s.at_ dt).edgeCounted_count i true)
  rw [hother 0x13 (by decide) (by decide), hf, h1, hx, ha]
  exact ⟨h3, rfl, hst, rfl⟩

/-- An encoder's edge moves the count (R187). -/
theorem shaftEdge_counts {rising aLeads : Bool} {ago : Nat} (h2 : (s.at_ dt).sh i 0x02 = 2)
    (hc : (s.at_ dt).shaftConfigBad i = false) : Answers (.shaftEdge dt i rising aLeads false ago) s fun t => Rests s t
      ∧ t.node.sh i 0x13 = ((s.at_ dt).sh i 0x13 + 1) % 2 ^ 32 :=
  answers_actUp hup rfl ⟨⟨rfl, rfl⟩, Node.shaftEdge_count h2 hc rising aLeads ago⟩

/-- An encoder's edge with both channels changed is a count error (R182, R189). -/
theorem shaftEdge_errs {rising aLeads : Bool} {ago : Nat} (h2 : (s.at_ dt).sh i 0x02 = 2)
    (hc : (s.at_ dt).shaftConfigBad i = false) : Answers (.shaftEdge dt i rising aLeads true ago) s fun t => Rests s t
      ∧ t.node.sh i 0x13 = (s.at_ dt).sh i 0x13 ∧ bit (t.node.sh i 0x12) 6 = true
      ∧ t.node.sh i 0x15 = min ((s.at_ dt).sh i 0x15 + 1) (2 ^ 32 - 1)
      ∧ ∀ d : Fin 4, (s.at_ dt).cd d 0x04 = i → (s.at_ dt).crankState d = 4 → t.node.crankState d = 2 := by
  have hf (n : Node) (d : Nat) : Node.Turns (· = d) n (n.syncLost d) := .syncLost rfl (.refl n)
  have he : SameObjects (s.at_ dt) ((s.at_ dt).setShBit i 0 rising) [key i 0x5500 0x12, key i 0x5500 0x13, key i 0x5500 0x15] :=
    SameObjects.setI (.refl _ _) (by simp)
  have h (sub : Nat) (hs : sub ≠ 0x12) : ((s.at_ dt).setShBit i 0 rising).sh i sub = (s.at_ dt).sh i sub :=
    Node.oi_setI_sub _ _ _ _ hs
  obtain ⟨h6, h5, ho, h3⟩ := ((s.at_ dt).setShBit i 0 rising).errorCounted_leaves i
  obtain ⟨k, e, hod⟩ := ((s.at_ dt).setShBit i 0 rising).countError_eq i
  have hsh (sub : Nat) : k.sh i sub = (((s.at_ dt).setShBit i 0 rising).errorCounted i).sh i sub := congrArg (odGet · _) hod
  have hcd (d : Nat) {sub : Nat} (hs : sub < 256) : k.cd d sub = (s.at_ dt).cd d sub :=
    (congrArg (odGet · _) hod).trans ((ho.cd d hs).trans (he.cd d hs))
  refine answers_actUp hup rfl ⟨⟨rfl, rfl⟩, ?_⟩
  rw [Node.shaftEdge_error h2 hc, e]
  have hm := Node.foldl_domains_turns hf (k.domainsBy 0x04 i) k
  rw [hm.sh i, hm.sh i, hm.sh i, hsh, hsh, hsh, h3, h5, h _ (by decide), h _ (by decide)]
  refine ⟨rfl, h6, rfl, fun d h4 hst => ?_⟩
  have hk : k.crankState d = 4 := (hcd d (by decide)).trans hst
  refine Node.foldl_domains_state hf (Node.nodup_domainsBy ..)
    (Node.mem_domainsBy.mpr ⟨d.isLt, by omega, (hcd d (by decide)).trans h4⟩) fun j hj => Node.syncLost_seeks ?_
  exact (hj.crankState fun h => h rfl).trans hk

/-- An index edge synchronises a two-stroke domain that seeks it (R189). -/
theorem shaftEdge_synchronises {aLeads both : Bool} {ago : Nat} (h2 : (s.at_ dt).sh i 0x02 = 4) :
    Answers (.shaftEdge dt i true aLeads both ago) s fun t => Rests s t
      ∧ t.node.sh i 0x13 = ((s.at_ dt).sh i 0x13 + 1) % 2 ^ 32
      ∧ ∀ d : Fin 4, (s.at_ dt).cd d 0x05 = i → (s.at_ dt).crankState d = 2 → (s.at_ dt).cd d 0x03 = 0 →
        t.node.crankState d = 4 := by
  have hf (n : Node) (d : Nat) : Node.Turns (· = d) n (n.crankIndex d) := .crankIndex rfl (.refl n)
  have hcd (d : Nat) {sub : Nat} (hs : sub < 256) := ((s.at_ dt).edgeCounted_objects i true).cd d hs
  have h3 := (s.at_ dt).edgeCounted_count i true
  refine answers_actUp hup rfl ⟨⟨rfl, rfl⟩, ?_⟩
  rw [Node.shaftEdge_index h2]
  generalize (s.at_ dt).edgeCounted i true = k at hcd h3 ⊢
  rw [(Node.foldl_domains_turns hf _ k).sh i]
  refine ⟨h3, fun d h5 hst htwo => ?_⟩
  have hk : k.crankState d = 2 := (hcd d (by decide)).trans hst
  refine Node.foldl_domains_state hf (Node.nodup_domainsBy ..)
    (Node.mem_domainsBy.mpr ⟨d.isLt, by omega, (hcd d (by decide)).trans h5⟩) fun j hj => Node.crankIndex_synchronises ?_ ?_
  · exact (hj.crankState fun h => h rfl).trans hk
  · exact (hj.cd fun h => h rfl).trans ((hcd d (by decide)).trans htwo)

/-- An input without an edge for its timeout stands still (R183). -/
theorem standstillTimeout_stops (hd : (s.at_ dt).standstillDue i = true) :
    Answers (.standstillTimeout dt i) s fun t => Rests s t ∧ (t.node.shaft i).standstill = true ∧ t.node.sh i 0x0F = 0
      ∧ (t.node.shaft i).hist = [] ∧ ∀ d : Fin 4, ((s.at_ dt).shaft i).standstill = false → (s.at_ dt).cd d 0x04 = i →
        (s.at_ dt).crankState d ≠ 0 → t.node.crankState d = 1 := by
  obtain ⟨hst, hf, hh, hc⟩ := (s.at_ dt).standstill_leaves i
  refine answers_actUp hup rfl ⟨⟨rfl, rfl⟩, ?_⟩
  dsimp only
  rw [if_pos hd]
  exact ⟨hst, hf, hh, fun d => hc d d.isLt⟩

/-- The fast class's window ends (R183, Table 7-7). -/
theorem speedWindowEnd_gives (h7 : (s.at_ dt).sh i 0x07 = 1) (hm : (s.at_ dt).sh i 0x02 = 1 ∨ (s.at_ dt).sh i 0x02 = 2) :
    Answers (.speedWindowEnd dt i) s fun t => Rests s t ∧ (t.node.shaft i).winCount = 0
      ∧ t.node.sh i 0x11 = (s.at_ dt).copy isleFrame ∧ (((s.at_ dt).shaft i).winCount < 2 → t.node.sh i 0x0F = 0)
      ∧ (2 ≤ ((s.at_ dt).shaft i).winCount → (s.at_ dt).astern i = false → t.node.sh i 0x0F =
          r32 (rpmOf (((s.at_ dt).shaft i).winCount - 1) ((s.at_ dt).ppr i)
            (((s.at_ dt).shaft i).winLast - ((s.at_ dt).shaft i).winFirst)))
      ∧ SameObjects s.node t.node [key i 0x5500 0x0F, key i 0x5500 0x11] :=
  answers_actUp hup rfl ⟨⟨rfl, rfl⟩, Node.speedWindow_leaves h7 hm⟩

/-- Open detection of a single input (R185). -/
theorem shaftOpen_shows {mv : Nat} (h : (s.at_ dt).obi i 0x5500 0x0E = true) (h2 : (s.at_ dt).sh i 0x02 = 1)
    (h3 : (s.at_ dt).sh i 0x03 < 2) : Answers (.shaftOpen dt i mv) s fun t => Rests s t
      ∧ bit (t.node.sh i 0x12) 5 = decide (3000 < mv) ∧ SameObjects s.node t.node [key i 0x5500 0x12] := by
  refine answers_actUp hup rfl ⟨⟨rfl, rfl⟩, ?_⟩
  rw [Node.shaftOpen_eq h h2 h3]
  exact ⟨(congrArg (bit · 5) (Node.oi_setI_self ..)).trans (bit_setBit_self ..),
    SameObjects.setI (n := s.at_ dt) (.refl s.node _) (by simp)⟩

end

/-- Settles O33: an edge of a single input, an encoder's two, an index edge, standstill, the window's end, and an open input. -/
theorem shaftsAct : Obligations.ShaftsAct := fun _ _ _ hup =>
  ⟨fun _ _ _ _ _ => shaftEdge_times hup, fun _ _ _ => shaftEdge_counts hup, fun _ _ _ => shaftEdge_errs hup,
    fun _ _ _ => shaftEdge_synchronises hup, standstillTimeout_stops hup, speedWindowEnd_gives hup, fun _ => shaftOpen_shows hup⟩

end Sys2Proof.Machine
end

section
/-!
SUPPORT. Dynamic channels (R174 to R180): a sample, the summary, RMS and peak, and the conditions of Table 7-3.
-/
namespace Sys2Proof.Machine

/-! ## The objects of a channel and of its dynamic lake (Tables 7-16 to 7-19) -/

theorem canonIdx_dynIdx {c : Nat} (h : c < 32) : canonIdx (dynIdx c) = 0x5000 := by
  unfold canonIdx dynIdx
  rw [if_neg (by omega), if_pos (by omega)]
  exact if_pos (by omega)

theorem canonIdx_dynRes {c : Nat} (h : c < 32) : canonIdx (dynRes c) = 0x5001 := by
  unfold canonIdx dynRes
  rw [if_neg (by omega), if_pos (by omega)]
  dsimp only
  rw [if_neg (by omega), if_pos (by omega)]

theorem canonIdx_dlIdx {k : Nat} (h : k < 8) : canonIdx (dlIdx k) = 0x5002 := by
  unfold canonIdx dlIdx
  rw [if_neg (by omega), if_pos (by omega)]
  dsimp only
  rw [if_neg (by omega), if_neg (by omega), if_pos (by omega)]

/-- Passing things on leaves the results of a channel alone. -/
theorem Node.PassesOn.dynRes {m n : Node} (h : m.PassesOn n) {c : Nat} (hc : c < 32) {sub : Nat} (hs : sub < 256 := by decide) :
    n.o (dynRes c) sub = m.o (dynRes c) sub :=
  h.objects 0 _ sub (by unfold Machine.dynRes; omega) hs (by rw [passIdx, canonIdx_dynRes hc]; rfl)

theorem Node.PassesOn.dlIdx {m n : Node} (h : m.PassesOn n) {k : Nat} (hk : k < 8) {sub : Nat} (hs : sub < 256 := by decide) :
    n.o (dlIdx k) sub = m.o (dlIdx k) sub :=
  h.objects 0 _ sub (by unfold Machine.dlIdx; omega) hs (by rw [passIdx, canonIdx_dlIdx hk]; rfl)

theorem Node.PassesOn.dynCh {m n : Node} (h : m.PassesOn n) (c : Nat) : n.dynCh c = m.dynCh c :=
  congrArg (mapGet · c ({} : DynSt)) (congrArg Node.dyn h.beside :)

theorem Node.PassesOn.archiveGap {m n : Node} (h : m.PassesOn n) {kind src : Nat} : m.PassesOn (n.archiveGap kind src) := by
  unfold Node.archiveGap
  exact .ite h.sealRec (h.sealRec.of_same rfl)

theorem Node.PassesOn.gapStreams {m n : Node} (h : m.PassesOn n) {f : Nat → Bool} : m.PassesOn (n.gapStreams f) :=
  h.foldl fun _ _ _ g => g.flushSlot.setQueue

/-! ## The status bits of Table 7-3 -/

/-- `n` has come of `m` by status bits of channel `c` that were set or cleared. -/
structure Node.Touches (c : Nat) (m n : Node) : Prop where
  objects : SameObjects m n [key 0 (dynRes c) 0x06]
  state : ∃ t, n.dynCh c = { m.dynCh c with lastBad := t }
  beside : (n.now, n.tai, n.islands, n.eng) = (m.now, m.tai, m.islands, m.eng)

namespace Node.Touches
variable {c : Nat} {m n k : Node}

theorem refl (n : Node) : Touches c n n := ⟨.refl n _, ⟨_, rfl⟩, rfl⟩

theorem ite {a b : Node} {p : Prop} [Decidable p] (h : Touches c m a) (g : Touches c m b) : Touches c m (if p then a else b) := by
  split <;> assumption

theorem setDynBit (h : Touches c m n) {i : Nat} {b : Bool} : Touches c m (n.setDynBit c i b) :=
  ⟨h.objects.setI (by simp), h.state, h.beside⟩

theorem setLastBad (h : Touches c m n) {t : Option Nat} : Touches c m (n.setDyn c { n.dynCh c with lastBad := t }) := by
  obtain ⟨t0, e⟩ := h.state
  refine ⟨h.objects.same rfl, ⟨t, ?_⟩, h.beside⟩
  rw [Node.dynCh_setDyn_self, e]

theorem event (h : Touches c m n) {e : Nat} : Touches c m (n.event e) :=
  ⟨h.objects.same (Node.event_od ..), by rw [Node.event_dynCh]; exact h.state,
    (Node.event_keeps (fun n => (n.now, n.tai, n.islands, n.eng)) (fun _ _ => rfl) n e).trans h.beside⟩

theorem dynCondition (h : Touches c m n) {i : Nat} : Touches c m (n.dynCondition c i) :=
  .ite h.setLastBad.setDynBit h.setLastBad.setDynBit.event

theorem dynConditionEnds (h : Touches c m n) {i : Nat} : Touches c m (n.dynConditionEnds c i) := .ite h.setLastBad.setDynBit h

/-! ### What is read off it -/

theorem now (h : Touches c m n) : n.now = m.now := (congrArg (·.1) h.beside :)
theorem eng (h : Touches c m n) : n.eng = m.eng := (congrArg (·.2.2.2) h.beside :)

theorem copy (h : Touches c m n) (i : Nat) : n.copy i = m.copy i := by
  have hb := h.beside
  simp only [Prod.mk.injEq] at hb
  obtain ⟨hn, ht, hi, -⟩ := hb
  unfold Node.copy Node.isl
  rw [hn, ht, hi]

/-- The channel's configuration reads as before. -/
theorem dynIdx (h : Touches c m n) {sub : Nat} (hs : sub < 256 := by decide) : n.o (dynIdx c) sub = m.o (dynIdx c) sub :=
  h.objects _ (by rw [List.mem_singleton]; unfold key Machine.dynIdx Machine.dynRes; omega)

theorem dynRes (h : Touches c m n) {sub : Nat} (h6 : sub ≠ 6) : n.o (dynRes c) sub = m.o (dynRes c) sub :=
  h.objects _ (by rw [List.mem_singleton]; unfold key; omega)

theorem dynConfigBad (h : Touches c m n) : n.dynConfigBad c = m.dynConfigBad c := by
  have hd (d : Nat) : n.oi d 0x5400 0x13 = m.oi d 0x5400 0x13 := h.objects _ (by rw [List.mem_singleton]; unfold key; omega)
  have hf : n.of32 0 (Machine.dynIdx c) 0x0A = m.of32 0 (Machine.dynIdx c) 0x0A := congrArg q32 h.dynIdx
  unfold Node.dynConfigBad
  rw [h.dynIdx, h.dynIdx, h.dynIdx, h.dynIdx, h.dynIdx, hd, hf]

theorem dynValue (h : Touches c m n) (code : Int) : n.dynValue c code = m.dynValue c code := by
  have hf (sub : Nat) (hs : sub < 256) : n.of32 0 (Machine.dynIdx c) sub = m.of32 0 (Machine.dynIdx c) sub :=
    congrArg q32 (h.dynIdx hs)
  unfold Node.dynValue Node.dynQuantity
  rw [h.dynIdx, h.dynIdx, h.dynIdx, hf _ (by decide), hf _ (by decide)]

end Node.Touches

section
variable (n : Node) (c : Nat)

theorem Node.dynBit_setDynBit (i j : Nat) (b : Bool) : (n.setDynBit c i b).dynBit c j = if j = i then b else n.dynBit c j :=
  (congrArg (bit · j) (Node.oi_setI_self ..)).trans (bit_setBit ..)

theorem Node.dynCh_setDynBit (d i : Nat) (b : Bool) : (n.setDynBit c i b).dynCh d = n.dynCh d := rfl

theorem Node.dynBit_setDynBit_ne {d : Nat} (h : d ≠ c) (i j : Nat) (b : Bool) : (n.setDynBit c i b).dynBit d j = n.dynBit d j :=
  congrArg (bit · j) (Node.oi_setI_ne n _ (by unfold key dynRes; omega))

theorem Node.dynBit_event (e j : Nat) : (n.event e).dynBit c j = n.dynBit c j := congrArg (bit · j) (Node.event_oi ..)

theorem Node.dynBit_dynCondition (i j : Nat) : (n.dynCondition c i).dynBit c j = if j = i then true else n.dynBit c j := by
  have h := Node.dynBit_setDynBit (n.setDyn c { n.dynCh c with lastBad := some n.now }) c i j true
  unfold Node.dynCondition
  dsimp only
  split
  · exact h
  · exact (Node.dynBit_event ..).trans h

theorem Node.dynCondition_lastBad (i : Nat) : ((n.dynCondition c i).dynCh c).lastBad = some n.now := by
  have h : ((n.setDyn c { n.dynCh c with lastBad := some n.now }).dynCh c).lastBad = some n.now := by rw [Node.dynCh_setDyn_self]
  unfold Node.dynCondition
  dsimp only
  split
  · exact h
  · rw [Node.event_dynCh]
    exact h

theorem Node.dynBit_dynConditionEnds (i j : Nat) :
    (n.dynConditionEnds c i).dynBit c j = if j = i then false else n.dynBit c j := by
  unfold Node.dynConditionEnds
  split
  · exact Node.dynBit_setDynBit (n.setDyn c { n.dynCh c with lastBad := some n.now }) c i j false
  · next h =>
    split
    · next e => rw [e]; simpa using h
    · rfl

end

/-! ## Samples (R175 to R177) -/

theorem blockAdd_seen (b : StatBlock) (v : Option Rat) (q : Nat) : (blockAdd b v q).seen = b.seen + 1 := by
  cases v with
  | none => rfl
  | some x => rfl

theorem Node.dynQuality_ne_bad {n : Node} {c : Nat} (h : n.dynConfigBad c = false) : n.dynQuality c ≠ 3 := by
  unfold Node.dynQuality
  dsimp only
  rw [h, if_neg (by decide)]
  split_ifs <;> decide

/-- A channel none of whose conditions holds, or has held in the filter's window, gives GOOD. -/
theorem Node.dynQuality_good {n : Node} {c : Nat} (h : n.dynConfigBad c = false) (hl : (n.dynCh c).lastBad = none)
    (hb : ∀ i, 0 < i → i < 6 → n.dynBit c i = false) : n.dynQuality c = 0 := by
  unfold Node.dynQuality Node.dynBadNow
  rw [h, hl, hb 1 (by decide) (by decide), hb 2 (by decide) (by decide), hb 3 (by decide) (by decide),
    hb 4 (by decide) (by decide), hb 5 (by decide) (by decide)]
  rfl

/-- The results of a channel after a sample: its value, quality and stamp. -/
def Node.dynShown (n : Node) (c v q t : Nat) : Node := ((n.set (dynRes c) 0x01 v).set (dynRes c) 0x02 q).set (dynRes c) 0x03 t

theorem Node.dynShown_results (n : Node) (c v q t : Nat) : (n.dynShown c v q t).o (dynRes c) 0x01 = v
    ∧ (n.dynShown c v q t).o (dynRes c) 0x02 = q ∧ (n.dynShown c v q t).o (dynRes c) 0x03 = t := by
  simp [Node.dynShown, Node.o_eq, Node.set_eq, Node.oi_setI, key]

section
variable {n : Node} {c : Nat} (hr : n.dynRuns (c / 4) = true) (hm : n.o (dynIdx c) 0x01 ≠ 0)
include hr hm

theorem Node.dynSample_discards (hv : n.copyValid (isleDyn (c / 4)) = false) (code : Int) (raw : Nat) :
    (n.incSatI 32 0 (dlIdx (c / 4)) 0x05 1).PassesOn (n.dynSample c code raw) := by
  unfold Node.dynSample
  dsimp only
  rw [if_neg (by simp [hr, hm]), if_pos (by simp [hv])]
  exact (Node.PassesOn.gapStreams (.refl _)).archiveGap

/-- A sample with a valid copy of a channel that is well configured: what it shows, before it is passed on. -/
theorem Node.dynSample_takes (hv : n.copyValid (isleDyn (c / 4)) = true) (hb : n.dynConfigBad c = false) (code : Int) (raw : Nat) :
    ∃ (k : Node) (x : DynSt), Node.Touches c n k ∧ x.block.seen = (n.dynCh c).block.seen + 1
      ∧ ((n.dynCh c).lastBad = none → (∀ i, 0 < i → i < 6 → n.dynBit c i = false) → k.dynQuality c = 0)
      ∧ ((k.dynShown c (r32 (n.dynValue c code)) (k.dynQuality c)
          (n.copy (isleDyn (c / 4)) - dynDelay (n.o (dynIdx c) 0x06))).setDyn c x).PassesOn (n.dynSample c code raw) := by
  unfold Node.dynSample
  extract_lets k rc bound ended told marked t q v vb shown x y z kept bs pre apre
  have he : Node.Touches c n ended := .ite (Node.Touches.refl n).dynConditionEnds (.refl n)
  have ht : Node.Touches c n told := .ite he.event he
  have hk : Node.Touches c n marked := ht.setDynBit
  have hbad : marked.dynConfigBad c = false := hk.dynConfigBad.trans hb
  have hvb : vb = r32 (n.dynValue c code) := by
    dsimp only [vb, v, q]
    rw [if_neg (Node.dynQuality_ne_bad hbad), hk.dynValue]
  have hx : x = marked.dynCh c := by
    have hd (k : Node) (sub w : Nat) : (k.set (dynRes c) sub w).dynCh c = k.dynCh c := rfl
    dsimp only [x, shown]
    rw [hd, hd, hd]
  have hseen : z.block.seen = (n.dynCh c).block.seen + 1 := by
    obtain ⟨_, hd⟩ := hk.state
    have hy : y.block.seen = x.block.seen + 1 := blockAdd_seen x.block v q
    rw [hx, hd] at hy
    dsimp only [z]
    split
    · exact hy
    · exact hy
  refine ⟨marked, z, hk, hseen, fun hl hbits => ?_, ?_⟩
  · have hended : ended = n := if_neg (by simp [hbits 1 (by decide) (by decide)])
    have htold : told.dynCh c = n.dynCh c ∧ ∀ j, told.dynBit c j = n.dynBit c j := by
      dsimp only [told]
      rw [hended]
      split
      · exact ⟨Node.event_dynCh .., fun j => Node.dynBit_event ..⟩
      · exact ⟨rfl, fun _ => rfl⟩
    have hmarked : marked.dynCh c = told.dynCh c := Node.dynCh_setDynBit ..
    refine Node.dynQuality_good hbad (by rw [hmarked, htold.1, hl]) fun i h0 h6 => ?_
    rw [Node.dynBit_setDynBit, if_neg (by omega), htold.2, hbits i h0 h6]
  · rw [if_neg (by simp [k, hr, hm]), if_neg (by simp [k, hv]), ← hvb, ← hk.copy]
    exact (Node.PassesOn.archive (.refl kept)).toStreams

end

/-! ## The summary (R176) -/

/-- What the summary sends of one channel. -/
def Node.sendChannel (n : Node) (c : Nat) : Node :=
  if n.o (dynIdx c) 0x01 = 0 then n else
  let x := n.dynCh c
  let n := if n.o (dynRes c) 0x03 = 0 then n
    else n.toFrame 2 (4 * c) { value := n.o (dynRes c) 0x01, q := n.o (dynRes c) 0x02, time := n.o (dynRes c) 0x03 }
  if x.rmsTime = 0 then n
  else (n.toFrame 2 (4 * c + 1) { value := n.o (dynRes c) 0x04, q := x.rmsQ, time := x.rmsTime }).toFrame 2 (4 * c + 2)
    { value := n.o (dynRes c) 0x05, q := x.rmsQ, time := x.rmsTime }

theorem Node.dynSummary_eq {n : Node} {k : Nat} (h : n.dynRuns k = true) :
    n.dynSummary k = ((List.range 4).map (4 * k + ·)).foldl Node.sendChannel n := by
  unfold Node.dynSummary
  rw [h, List.foldl_map]
  rfl

theorem Node.toFrame_input (n : Node) (kind ref : Nat) (r : Reading) :
    (n.toFrame kind ref r).input = mapPut n.input (srcKey kind ref) r := by
  have ht (k : Node) (type : Nat) (body : List Byte) : (k.twinSend type body).input = k.input := by
    unfold Node.twinSend
    split
    · rfl
    · rfl
  unfold Node.toFrame
  dsimp only
  split
  · rfl
  · split
    · exact ht ..
    · rfl

/-- What no reading sent for a channel changes. -/
theorem Node.sendChannel_keeps {α : Type} {g : Node → α} {a : Nat}
    (hg : ∀ (n : Node) j r, j < 3 → g (n.toFrame 2 (4 * a + j) r) = g n) (n : Node) : g (n.sendChannel a) = g n := by
  have h0 (k : Node) (r : Reading) : g (k.toFrame 2 (4 * a) r) = g k := hg k 0 r (by decide)
  have h1 (k : Node) (r : Reading) : g (k.toFrame 2 (4 * a + 1) r) = g k := hg k 1 r (by decide)
  have h2 (k : Node) (r : Reading) : g (k.toFrame 2 (4 * a + 2) r) = g k := hg k 2 r (by decide)
  unfold Node.sendChannel
  extract_lets x first
  have hf : g first = g n := by
    dsimp only [first]
    split
    · rfl
    · exact h0 ..
  split
  · rfl
  · split
    · exact hf
    · rw [h2, h1, hf]

theorem Node.sendChannel_od (n : Node) (a : Nat) : (n.sendChannel a).od = n.od :=
  Node.sendChannel_keeps (fun _ _ _ _ => (Node.toFrame_leaves ..).1) n

/-- The present reading of a channel, as the frame has it (Table 8-1). -/
def Node.channelInput (n : Node) (c : Nat) : Reading := mapGet n.input (srcKey 2 (4 * c)) {}

theorem Node.channelInput_toFrame_ne (n : Node) {c ref : Nat} (h : 4 * c ≠ ref) (r : Reading) :
    (n.toFrame 2 ref r).channelInput c = n.channelInput c := by
  unfold Node.channelInput
  rw [Node.toFrame_input]
  exact mapGet_mapPut_ne _ _ (by unfold srcKey; omega) _

/-- Another channel leaves the reading alone. -/
theorem Node.channelInput_sendChannel_ne (n : Node) {c a : Nat} (h : c ≠ a) :
    (n.sendChannel a).channelInput c = n.channelInput c :=
  Node.sendChannel_keeps (g := (Node.channelInput · c)) (fun k _ r _ => k.channelInput_toFrame_ne (by omega) r) n

theorem Node.channelInput_sendChannel_self {n : Node} {c : Nat} (hm : n.o (dynIdx c) 0x01 ≠ 0) (ht : n.o (dynRes c) 0x03 ≠ 0) :
    (n.sendChannel c).channelInput c =
      { value := n.o (dynRes c) 0x01, q := n.o (dynRes c) 0x02, time := n.o (dynRes c) 0x03 } := by
  have hs (k : Node) (r : Reading) : (k.toFrame 2 (4 * c) r).channelInput c = r := by
    unfold Node.channelInput
    rw [Node.toFrame_input]
    exact mapGet_mapPut_self ..
  unfold Node.sendChannel
  dsimp only
  rw [if_neg hm, if_neg ht]
  split
  · exact hs ..
  · rw [Node.channelInput_toFrame_ne _ (by omega), Node.channelInput_toFrame_ne _ (by omega), hs]

/-- The channels of a list send their readings one after the other, each as the objects give it. -/
theorem Node.foldl_sendChannel {c : Nat} (l : List Nat) (n : Node) (hm : n.o (dynIdx c) 0x01 ≠ 0)
    (ht : n.o (dynRes c) 0x03 ≠ 0) :
    (l.foldl Node.sendChannel n).od = n.od ∧
      (c ∈ l ∨ n.channelInput c = { value := n.o (dynRes c) 0x01, q := n.o (dynRes c) 0x02, time := n.o (dynRes c) 0x03 } →
        (l.foldl Node.sendChannel n).channelInput c =
          { value := n.o (dynRes c) 0x01, q := n.o (dynRes c) 0x02, time := n.o (dynRes c) 0x03 }) := by
  induction l generalizing n with
  | nil => exact ⟨rfl, fun h => h.resolve_left List.not_mem_nil⟩
  | cons a r ih =>
    have ho (idx sub : Nat) : (n.sendChannel a).o idx sub = n.o idx sub := congrArg (odGet · _) (n.sendChannel_od a)
    obtain ⟨hod, hin⟩ := ih (n.sendChannel a) (by rw [ho]; exact hm) (by rw [ho]; exact ht)
    rw [ho, ho, ho] at hin
    refine ⟨hod.trans (n.sendChannel_od a), fun h => hin ?_⟩
    by_cases e : c = a
    · exact .inr (e ▸ Node.channelInput_sendChannel_self hm ht)
    · rw [n.channelInput_sendChannel_ne e]
      exact h.imp_left fun hc => (List.mem_cons.mp hc).resolve_left e

/-! ## RMS and peak (R178) -/

/-- The last ten tenths of the window, the one just filled with them. -/
def DynSt.window (x : DynSt) : List StatBlock := (x.block :: x.blocks).take 10

theorem Node.dynStats_leaves {n : Node} {c : Nat} (hr : n.dynRuns (c / 4) = true) :
    ((n.dynStats c).dynCh c).block = {} ∧ ((n.dynStats c).dynCh c).blocks = (n.dynCh c).window
      ∧ SameObjects n (n.dynStats c) [key 0 (dynRes c) 0x04, key 0 (dynRes c) 0x05]
      ∧ (∀ w, w = (n.dynCh c).window.foldl blockJoin {} → w.seen ≠ 0 → w.count ≠ 0 →
        (n.dynStats c).o (dynRes c) 0x04 =
          r32 (sqrt64 (w.sumSq / (w.count : Rat) - w.sum / (w.count : Rat) * (w.sum / (w.count : Rat))))) := by
  have hset (k : Node) (sub : Nat) (v : Rat) : (k.setF 0 (dynRes c) sub v).dynCh c = k.dynCh c := rfl
  have h0 : SameObjects n n [key 0 (dynRes c) 0x04, key 0 (dynRes c) 0x05] := .refl n _
  unfold Node.dynStats
  extract_lets x blocks w moved _ stamped mean ms
  have hm : moved.dynCh c = { x with block := {}, blocks := blocks } := Node.dynCh_setDyn_self ..
  have hs : stamped.dynCh c = { moved.dynCh c with rmsQ := w.q, rmsTime := moved.copy (isleDyn (c / 4)) } :=
    Node.dynCh_setDyn_self ..
  rw [hm] at hs
  by_cases hw : w.seen = 0
  · rw [if_pos (by simp [hw]), hm]
    exact ⟨rfl, rfl, h0.same rfl, fun v hv h => absurd (hv ▸ hw) h⟩
  · have hruns : ¬ (decide (w.seen = 0) || !moved.dynRuns (c / 4)) = true := by
      rw [show moved.dynRuns (c / 4) = true from hr, decide_eq_false hw]
      decide
    rw [if_neg hruns]
    by_cases hc : w.count = 0
    · rw [if_pos hc, hs]
      exact ⟨rfl, rfl, h0.same rfl, fun v hv _ h => absurd (hv ▸ hc) h⟩
    · rw [if_neg hc, hset, hset, hs]
      have ho : SameObjects n stamped [key 0 (dynRes c) 0x04, key 0 (dynRes c) 0x05] := h0.same rfl
      refine ⟨rfl, rfl, (ho.setI (by simp)).setI (by simp), fun v hv _ _ => ?_⟩
      rw [hv]
      exact (Node.oi_setI_sub _ 0 (dynRes c) _ (by decide)).trans (Node.oi_setI_self ..)

/-! ## The conditions of Table 7-3 -/

/-- R177: the comparator trips. -/
theorem Node.dynOverload_leaves {n : Node} {c : Nat} (hr : n.dynRuns (c / 4) = true) (hm : n.o (dynIdx c) 0x01 ≠ 0) :
    (n.dynOverload c).dynBit c 1 = true ∧ ((n.dynOverload c).dynCh c).resetting = (n.o (dynIdx c) 0x01 == 1)
      ∧ ((n.dynOverload c).dynCh c).lastBad = some n.now
      ∧ (n.dynOverload c).o (dynRes c) 0x08 =
        (if n.dynBit c 1 then n.o (dynRes c) 0x08 else min (n.o (dynRes c) 0x08 + 1) (2 ^ 32 - 1)) := by
  unfold Node.dynOverload
  extract_lets counted marked
  rw [if_neg (by simp [hr, hm]), Node.dynCh_setDyn_self]
  have hc : Node.Touches c counted marked := (Node.Touches.refl counted).dynCondition
  have h8 : counted.o (dynRes c) 0x08 =
      (if n.dynBit c 1 then n.o (dynRes c) 0x08 else min (n.o (dynRes c) 0x08 + 1) (2 ^ 32 - 1)) := by
    dsimp only [counted]
    split
    · rfl
    · exact Node.oi_incSatI_self ..
  have h1 : counted.o (dynIdx c) 0x01 = n.o (dynIdx c) 0x01 := by
    dsimp only [counted]
    split
    · rfl
    · exact Node.oi_setI_ne _ _ (by unfold key dynIdx dynRes; omega)
  have hn : counted.now = n.now := by
    dsimp only [counted]
    split
    · rfl
    · rfl
  refine ⟨?_, congrArg (· == 1) (hc.dynIdx.trans h1), ?_, (hc.dynRes (by decide)).trans h8⟩
  · exact (Node.dynBit_dynCondition counted c 1 1).trans (if_pos rfl)
  · exact (Node.dynCondition_lastBad counted c 1).trans (congrArg some hn)

/-- R177: the reset switch opens again. -/
theorem Node.chargeResetEnd_leaves {n : Node} {c : Nat} (hx : (n.dynCh c).resetting = true) :
    ((n.chargeResetEnd c).dynCh c).resetting = false ∧ (n.chargeResetEnd c).dynBit c 1 = false
      ∧ SameObjects n (n.chargeResetEnd c) [key 0 (dynRes c) 0x06] := by
  let opened : Node := n.setDyn c { n.dynCh c with resetting := false }
  have h : Node.Touches c opened (opened.dynConditionEnds c 1) := (Node.Touches.refl opened).dynConditionEnds
  have e : n.chargeResetEnd c = opened.dynConditionEnds c 1 := if_pos hx
  obtain ⟨t, hd⟩ := h.state
  rw [e, hd, Node.dynCh_setDyn_self]
  exact ⟨rfl, (Node.dynBit_dynConditionEnds ..).trans (if_pos rfl), h.objects⟩

/-- R177: in CHARGE a write resets the integrator. -/
theorem Node.integratorReset_leaves {n : Node} {c : Nat} (hm : n.o (dynIdx c) 0x01 = 1) (hr : n.dynRuns (c / 4) = true) :
    (n.integratorReset c).dynBit c 1 = true ∧ ((n.integratorReset c).dynCh c).resetting = true
      ∧ SameObjects n (n.integratorReset c) [key 0 (dynRes c) 0x06] ∧ (n.integratorReset c).eng = n.eng := by
  have h : Node.Touches c n (n.dynCondition c 1) := (Node.Touches.refl n).dynCondition
  have e : n.integratorReset c =
      (n.dynCondition c 1).setDyn c { (n.dynCondition c 1).dynCh c with resetting := true } := if_pos ⟨hm, hr⟩
  rw [e, Node.dynCh_setDyn_self]
  exact ⟨(Node.dynBit_dynCondition n c 1 1).trans (if_pos rfl), rfl, h.objects.same rfl, h.eng⟩

/-- A condition that is set or ends leaves its bit as it says, and the other bits as they were. -/
theorem Node.dynCondition_ite (n : Node) (c i : Nat) (p : Prop) [Decidable p] :
    let k := if p then n.dynCondition c i else n.dynConditionEnds c i
    Node.Touches c n k ∧ k.dynBit c i = decide p ∧ ∀ j, j ≠ i → k.dynBit c j = n.dynBit c j := by
  dsimp only
  split
  · next h =>
    exact ⟨(Node.Touches.refl n).dynCondition, (Node.dynBit_dynCondition ..).trans (by simp [h]),
      fun j hj => (Node.dynBit_dynCondition ..).trans (if_neg hj)⟩
  · next h =>
    exact ⟨(Node.Touches.refl n).dynConditionEnds, (Node.dynBit_dynConditionEnds ..).trans (by simp [h]),
      fun j hj => (Node.dynBit_dynConditionEnds ..).trans (if_neg hj)⟩

/-- Table 7-3: what a reading of the bias monitor shows. -/
theorem Node.iepeBias_leaves {n : Node} {c : Nat} (hm : n.o (dynIdx c) 0x01 = 3) (hr : n.dynRuns (c / 4) = true) (mv : Nat) :
    (n.iepeBias c mv).o (dynRes c) 0x07 = r32 (ratio mv 1000) ∧ (n.iepeBias c mv).dynBit c 3 = decide (24000 < mv)
      ∧ (n.iepeBias c mv).dynBit c 2 = decide (mv < 2000)
      ∧ SameObjects n (n.iepeBias c mv) [key 0 (dynRes c) 0x06, key 0 (dynRes c) 0x07] := by
  unfold Node.iepeBias
  rw [if_pos ⟨hm, hr⟩]
  extract_lets shown judged
  obtain ⟨ho, h3, -⟩ := shown.dynCondition_ite c 3 (24000 < mv)
  obtain ⟨hs, h2, hother⟩ := judged.dynCondition_ite c 2 (mv < 2000)
  have h7 : shown.o (dynRes c) 0x07 = r32 (ratio mv 1000) := Node.oi_setI_self ..
  have hn : SameObjects n shown [key 0 (dynRes c) 0x07] := SameObjects.setI (.refl n _) (by simp)
  refine ⟨(hs.dynRes (by decide)).trans ((ho.dynRes (by decide)).trans h7), (hother 3 (by decide)).trans h3, h2, ?_⟩
  refine fun x hx => ((hn.append ho.objects).append hs.objects) x fun h => hx ?_
  simpa [or_comm] using h

/-- Table 7-3: the reference check marks every channel of the lake alike. -/
theorem Node.dynRefCheck_bits {n : Node} {k : Nat} (hr : n.dynRuns k = true) (ppm : Int) {i : Nat} (hi : i < 4) :
    (n.dynRefCheck k ppm).dynBit (4 * k + i) 4 = decide (500 < ppm.natAbs) := by
  have all (bad : Bool) (l : List Nat) : ∀ n : Node, i ∈ l ∨ n.dynBit (4 * k + i) 4 = bad →
      (l.foldl (fun (n : Node) j => n.setDynBit (4 * k + j) 4 bad) n).dynBit (4 * k + i) 4 = bad := by
    induction l with
    | nil => exact fun n h => h.resolve_left List.not_mem_nil
    | cons a r ih =>
      refine fun n h => ih _ ?_
      by_cases e : i = a
      · exact .inr (e ▸ (n.dynBit_setDynBit ..).trans (if_pos rfl))
      · rw [n.dynBit_setDynBit_ne _ (by omega)]
        exact h.imp_left fun hm => (List.mem_cons.mp hm).resolve_left e
  unfold Node.dynRefCheck
  extract_lets bad was marked
  have hm : marked.dynBit (4 * k + i) 4 = bad := all bad _ n (.inl (List.mem_range.mpr hi))
  rw [if_neg (by simp [hr])]
  split
  · exact (Node.dynBit_event ..).trans hm
  · exact hm

/-! ## The statement -/

theorem Node.writeNode_dynIdx (n : Node) (m : Master) {c : Nat} (hc : c < 32) (i v : Nat) (data : List Byte) :
    n.writeNode m (dynIdx c) 0x0E i v data = none := by
  have hx : dynIdx c < 0x5400 ∧ 0x5000 ≤ dynIdx c := by unfold dynIdx; omega
  unfold Node.writeNode
  dsimp only
  iterate 22 rw [if_neg (by omega)]

/-- A write of the integrator-reset object acts, and stores nothing. -/
theorem Node.writeDo_integratorReset (n : Node) (m : Master) {c : Nat} (hc : c < 32) (val : Byte) :
    n.writeDo m .direct (dynIdx c) 0x0E [val] = (n.integratorReset c, false) := by
  have hx : canonIdx (dynIdx c) = 0x5000 := canonIdx_dynIdx hc
  have hb (i v : Nat) : n.writeBlock m (dynIdx c) 0x0E i v [val] = some (n.integratorReset c) := by
    have hd : (dynIdx c - 0x5000) / 0x20 = c := by unfold dynIdx; omega
    unfold Node.writeBlock
    dsimp only
    rw [hx]
    iterate 8 rw [if_neg (by decide)]
    rw [if_pos rfl, hd]
  unfold Node.writeDo
  dsimp only
  rw [if_neg (by omega), if_neg (by omega), if_neg (by omega), n.writeNode_dynIdx m hc, hb]

section
variable {s : State} {dt : Nat} {ch : Fin 32} (hup : s.node.up = true) (hr : s.node.dynRuns (ch / 4) = true)
include hup hr

/-- A sample with a valid copy (R175 to R177). -/
theorem dynamicSample_gives {code : BitVec 24} (hm : (s.at_ dt).o (dynIdx ch) 0x01 ≠ 0)
    (hv : (s.at_ dt).copyValid (isleDyn (ch / 4)) = true) (hb : (s.at_ dt).dynConfigBad ch = false) :
    Answers (.dynamicSample dt ch code) s fun t => Rests s t
      ∧ t.node.o (dynRes ch) 0x01 = r32 ((s.at_ dt).dynValue ch code.toInt)
      ∧ t.node.o (dynRes ch) 0x03 = (s.at_ dt).copy (isleDyn (ch / 4)) - dynDelay ((s.at_ dt).o (dynIdx ch) 0x06)
      ∧ (t.node.dynCh ch).block.seen = ((s.at_ dt).dynCh ch).block.seen + 1
      ∧ (((s.at_ dt).dynCh ch).lastBad = none → (∀ i : Fin 6, 0 < i.val → (s.at_ dt).dynBit ch i = false) →
          t.node.o (dynRes ch) 0x02 = 0) := by
  obtain ⟨k, x, -, hx, hq, hp⟩ := Node.dynSample_takes (n := s.at_ dt) hr hm hv hb code.toInt code.toNat
  obtain ⟨h1, h2, h3⟩ := k.dynShown_results ch (r32 ((s.at_ dt).dynValue ch code.toInt)) (k.dynQuality ch)
    ((s.at_ dt).copy (isleDyn (ch / 4)) - dynDelay ((s.at_ dt).o (dynIdx ch) 0x06))
  refine answers_actUp hup rfl ⟨⟨rfl, rfl⟩, ?_⟩
  dsimp only
  rw [hp.dynRes ch.isLt, hp.dynRes ch.isLt, hp.dynRes ch.isLt, hp.dynCh, Node.dynCh_setDyn_self, Node.setDyn_o, Node.setDyn_o,
    Node.setDyn_o, h1, h2, h3]
  exact ⟨rfl, rfl, hx, fun hl hbits => hq hl fun i h0 h6 => hbits ⟨i, h6⟩ h0⟩

/-- A sample without a valid copy is counted and kept out (R49, R55). -/
theorem dynamicSample_discards {code : BitVec 24} (hm : (s.at_ dt).o (dynIdx ch) 0x01 ≠ 0)
    (hv : (s.at_ dt).copyValid (isleDyn (ch / 4)) = false) :
    Answers (.dynamicSample dt ch code) s fun t => Rests s t
      ∧ t.node.o (dlIdx (ch / 4)) 0x05 = min ((s.at_ dt).o (dlIdx (ch / 4)) 0x05 + 1) (2 ^ 32 - 1)
      ∧ t.node.o (dynRes ch) 0x01 = (s.at_ dt).o (dynRes ch) 0x01 := by
  have hp := Node.dynSample_discards (n := s.at_ dt) hr hm hv code.toInt code.toNat
  refine answers_actUp hup rfl ⟨⟨rfl, rfl⟩, ?_⟩
  dsimp only
  rw [hp.dlIdx (by omega), hp.dynRes ch.isLt]
  exact ⟨Node.oi_incSatI_self .., Node.oi_setI_ne _ _ (by unfold key dynRes dlIdx; omega)⟩

/-- The summary sends a channel's present reading (R176). -/
theorem dynamicSummary_sends {j : Fin 8} (hj : j.val = ch.val / 4) (hm : (s.at_ dt).o (dynIdx ch) 0x01 ≠ 0)
    (ht : (s.at_ dt).o (dynRes ch) 0x03 ≠ 0) : Answers (.dynamicSummary dt j) s fun t => Rests s t ∧ t.node.od = s.node.od
      ∧ mapGet t.node.input (srcKey 2 (4 * ch)) {} =
        { value := (s.at_ dt).o (dynRes ch) 0x01, q := (s.at_ dt).o (dynRes ch) 0x02, time := (s.at_ dt).o (dynRes ch) 0x03 } := by
  obtain ⟨ho, hi⟩ := Node.foldl_sendChannel ((List.range 4).map (4 * j.val + ·)) (s.at_ dt) hm ht
  refine answers_actUp hup rfl ⟨⟨rfl, rfl⟩, ?_⟩
  dsimp only
  rw [Node.dynSummary_eq (n := s.at_ dt) (hj ▸ hr)]
  exact ⟨ho, hi (.inl (List.mem_map.mpr ⟨ch.val % 4, List.mem_range.mpr (by omega), by omega⟩))⟩

/-- A tenth of the window has passed (R178). -/
theorem rmsPeakUpdate_moves : Answers (.rmsPeakUpdate dt ch) s fun t => Rests s t ∧ (t.node.dynCh ch).block = {}
    ∧ (t.node.dynCh ch).blocks = (((s.at_ dt).dynCh ch).block :: ((s.at_ dt).dynCh ch).blocks).take 10
    ∧ SameObjects s.node t.node [key 0 (dynRes ch) 0x04, key 0 (dynRes ch) 0x05]
    ∧ (∀ w, w = ((((s.at_ dt).dynCh ch).block :: ((s.at_ dt).dynCh ch).blocks).take 10).foldl blockJoin {} → w.seen ≠ 0 →
        w.count ≠ 0 → t.node.o (dynRes ch) 0x04 =
          r32 (sqrt64 (w.sumSq / (w.count : Rat) - w.sum / (w.count : Rat) * (w.sum / (w.count : Rat))))) :=
  answers_actUp hup rfl ⟨⟨rfl, rfl⟩, Node.dynStats_leaves (n := s.at_ dt) hr⟩

/-- The overload comparator trips (R177). -/
theorem overload_marks (hm : (s.at_ dt).o (dynIdx ch) 0x01 ≠ 0) : Answers (.overload dt ch) s fun t => Rests s t
    ∧ t.node.dynBit ch 1 = true ∧ (t.node.dynCh ch).resetting = ((s.at_ dt).o (dynIdx ch) 0x01 == 1)
    ∧ (t.node.dynCh ch).lastBad = some (s.at_ dt).now
    ∧ t.node.o (dynRes ch) 0x08 = (if (s.at_ dt).dynBit ch 1 then (s.at_ dt).o (dynRes ch) 0x08
        else min ((s.at_ dt).o (dynRes ch) 0x08 + 1) (2 ^ 32 - 1)) :=
  answers_actUp hup rfl ⟨⟨rfl, rfl⟩, Node.dynOverload_leaves (n := s.at_ dt) hr hm⟩

omit hr in
/-- The reset of a charge amplifier ends (R177). -/
theorem chargeResetEnd_ends (hx : ((s.at_ dt).dynCh ch).resetting = true) : Answers (.chargeResetEnd dt ch) s fun t => Rests s t
    ∧ (t.node.dynCh ch).resetting = false ∧ t.node.dynBit ch 1 = false ∧ SameObjects s.node t.node [key 0 (dynRes ch) 0x06] :=
  answers_actUp hup rfl ⟨⟨rfl, rfl⟩, Node.chargeResetEnd_leaves (n := s.at_ dt) hx⟩

omit hup in
/-- A write of the integrator-reset object in CHARGE (R177). -/
theorem integratorReset_resets {m : Master} {val : Byte} (ht : Takes s dt m (dynIdx ch) 0x0E [val])
    (hm : (s.at_ dt).o (dynIdx ch) 0x01 = 1) : Answers (.integratorReset dt m ch val) s fun t => Done m t ∧ Rests s t
      ∧ t.node.dynBit ch 1 = true ∧ (t.node.dynCh ch).resetting = true
      ∧ SameObjects s.node t.node [key 0 (dynRes ch) 0x06] := by
  obtain ⟨h1, hres, ho, he⟩ := Node.integratorReset_leaves (n := s.at_ dt) hm hr
  have hx : dynIdx ch < 0x5400 ∧ 0x5000 ≤ dynIdx ch := by unfold dynIdx; omega
  have hp : privVat (dynIdx ch) = none := if_neg (by omega)
  have ha : exec (.integratorReset dt m ch val) s = askWrite dt m (dynIdx ch) 0x0E [val] s := rfl
  refine ⟨_, ha.trans (askWrite_accepted ht.1 ht.2 (fun e => ?_) (fun e => ?_) (fun e => ?_) (fun e => ?_)
    (Node.writeDo_integratorReset _ m ch.isLt val) (congrArg EngineSt.done he)), done_emit .., ⟨rfl, rfl⟩, h1, hres, ho⟩
  · omega
  · rw [hp] at e
    exact absurd e.1 (by decide)
  · omega
  · exact absurd e.2 (by decide)

/-- A reading of the bias monitor (R177). -/
theorem iepeBiasFault_shows {mv : Nat} (hm : (s.at_ dt).o (dynIdx ch) 0x01 = 3) : Answers (.iepeBiasFault dt ch mv) s fun t =>
    Rests s t ∧ t.node.o (dynRes ch) 0x07 = r32 (ratio mv 1000) ∧ t.node.dynBit ch 3 = decide (24000 < mv)
      ∧ t.node.dynBit ch 2 = decide (mv < 2000) ∧ SameObjects s.node t.node [key 0 (dynRes ch) 0x06, key 0 (dynRes ch) 0x07] :=
  answers_actUp hup rfl ⟨⟨rfl, rfl⟩, Node.iepeBias_leaves (n := s.at_ dt) hm hr mv⟩

/-- The reference check of a dynamic lake (Table 7-3). -/
theorem dynamicReferenceCheck_marks {j : Fin 8} {ppm : Int} (hj : j.val = ch.val / 4) :
    Answers (.dynamicReferenceCheck dt j ppm) s fun t => Rests s t ∧ t.node.dynBit ch 4 = decide (500 < ppm.natAbs)
      ∧ ∀ i : Fin 4, t.node.dynBit (4 * (ch.val / 4) + i) 4 = decide (500 < ppm.natAbs) := by
  have h (i : Nat) (hi : i < 4) := Node.dynRefCheck_bits (n := s.at_ dt) (k := ch.val / 4) hr ppm hi
  have hc := h (ch.val % 4) (Nat.mod_lt _ (by decide))
  rw [Nat.div_add_mod] at hc
  refine answers_actUp hup rfl ⟨⟨rfl, rfl⟩, ?_⟩
  dsimp only
  rw [hj]
  exact ⟨hc, fun i => h i i.isLt⟩

end

/-- Settles O32: a sample's two ends, the summary, RMS and peak, and the conditions of Table 7-3. -/
theorem dynamicChannelsAct : Obligations.DynamicChannelsAct := fun _ _ _ hup hr =>
  ⟨fun _ => dynamicSample_gives hup hr, fun _ => dynamicSample_discards hup hr, fun _ => dynamicSummary_sends hup hr,
    rmsPeakUpdate_moves hup hr, overload_marks hup hr, chargeResetEnd_ends hup, fun _ _ => integratorReset_resets hr,
    fun _ => iepeBiasFault_shows hup hr, fun _ _ => dynamicReferenceCheck_marks hup hr⟩

end Sys2Proof.Machine
end

section
/-!
SUPPORT. Operator commands: the fields of a record, and what the owner or a standby does with an accepted one.
-/
namespace Sys2Proof.Machine

/-- The fields of a record are what it was built from. -/
theorem opOf_opRecord {op : Nat} (ho : op < 256) (loc : Byte) (target : BitVec 16) (param : BitVec 32) (w : BitVec 64) (late : Bool) :
    opOf (opRecord op loc target param w) late =
      { op := op, loc := loc.toNat, target := target.toNat, param := param.toNat, when_ := w.toNat, late := late } := by
  have h0 : fieldLE (opRecord op loc target param w) 0 1 = op := by
    simp [fieldLE, slice, opRecord, Nat.mod_eq_of_lt ho]
  have h1 : fieldLE (opRecord op loc target param w) 1 1 = loc.toNat := by simp [fieldLE, slice, opRecord]
  have h2 : fieldLE (opRecord op loc target param w) 2 2 = target.toNat := ofLE_toLE_bv 2 target (by decide)
  have h4 : fieldLE (opRecord op loc target param w) 4 4 = param.toNat := ofLE_toLE_bv 4 param (by decide)
  have h8 : fieldLE (opRecord op loc target param w) 8 8 = w.toNat := ofLE_toLE_bv 8 w (by decide)
  simp only [opOf, h0, h1, h2, h4, h8]

/-- A command noted for the next Close message is noted on the twin's side only. -/
theorem Node.noteCmd_eq (n : Node) (c : List Byte) : ∃ x, n.noteCmd c = { n with twin := x } := by
  unfold Node.noteCmd
  split
  · exact ⟨_, rfl⟩
  · exact ⟨n.twin, rfl⟩

/-- The frame with an accepted command in it: among those of the next close, or in a free entry of the schedule (R243, R244). -/
def Node.opFrame (n : Node) (data : List Byte) : FrameSt :=
  if fieldLE data 8 8 = 0 then { n.frame with ops := n.frame.ops ++ [{ opOf data false with loc := fieldLE data 1 1 % 64 }] }
  else { n.frame with sched := mapPut n.frame.sched n.freeEntry (opOf data (decide (fieldLE data 8 8 < n.nextClose))) }

/-- An accepted command enters the frame: nothing else changes but what is noted for the twin. -/
theorem Node.opServe_eq (n : Node) (m : Master) (data : List Byte) :
    ∃ x, n.opServe m data = { n with twin := x, frame := n.opFrame data } := by
  obtain ⟨x, hx⟩ := n.noteCmd_eq (closeCmd data m (b2n (fieldLE data 8 8 != 0)) (if (fieldLE data 8 8 != 0) = true then n.freeEntry else 0))
  refine ⟨x, ?_⟩
  unfold Node.opServe Node.opAccept Node.opFrame
  dsimp only
  rw [hx]
  by_cases hw : fieldLE data 8 8 = 0
  · rw [if_pos hw, if_pos hw]
    simp [opOf, hw]
  · rw [if_neg hw, if_neg hw]
    simp only [opOf, ne_eq, hw, not_false_eq_true, decide_true, Bool.true_and]
    rfl

/-- A message to the twin changes its sequence numbers and goes out, or nothing happens. -/
theorem Node.twinSend_eq (n : Node) (type : Nat) (body : List Byte) : n.twinSend type body = n ∨
    ∃ x bs, n.twinSend type body = { n with twin := { n.twin with seqOut := x }, out := n.out ++ [.twin type bs] } := by
  unfold Node.twinSend
  split
  · exact .inr ⟨_, _, rfl⟩
  · exact .inl rfl

/-- Writing the operator command object (R242, R245). -/
theorem Node.writeDo_operator (n : Node) (m : Master) (via : Via) (data : List Byte) :
    n.writeDo m via 0x6000 0x08 data = if n.curMode = 5 then (n.opPass m via data, true) else (n.opServe m data, false) := by
  unfold Node.writeDo
  rfl

section
variable {s : State} {dt : Nat} {m : Master} {data : List Byte} {i : Instr}
  (he : exec i s = askWrite dt m 0x6000 0x08 data s) (ht : Takes s dt m 0x6000 0x08 data)
include he ht

/-- The owner answers an accepted command, and the command waits. -/
theorem operator_waits (hm : (s.at_ dt).curMode ≠ 5) : Answers i s fun t => Done m t ∧ Rests s t ∧ t.node.od = s.node.od
    ∧ t.node.points = s.node.points ∧ t.node.areas = s.node.areas ∧ t.node.frame = (s.at_ dt).opFrame data := by
  obtain ⟨x, hx⟩ := (s.at_ dt).opServe_eq m data
  have hd : (s.at_ dt).writeDo m .direct 0x6000 0x08 data = ((s.at_ dt).opServe m data, false) := by
    rw [Node.writeDo_operator, if_neg hm]
  refine ⟨_, he.trans (askWrite_accepted ht.1 ht.2 (fun e => ?_) (fun e => ?_) (fun e => ?_) (fun e => ?_) hd (by rw [hx]; rfl)), ?_⟩
  · exact absurd e.1 (by decide)
  · exact absurd e.2.2 (by decide)
  · exact absurd e.1 (by decide)
  · exact absurd e.2 (by decide)
  · rw [hx]
    exact ⟨done_emit .., ⟨rfl, rfl⟩, rfl, rfl, rfl, rfl⟩

/-- A standby passes the command on and does not answer it yet. -/
theorem operator_passes (hm : (s.at_ dt).curMode = 5) : Answers i s fun t => Rests s t ∧ t.node.od = s.node.od
    ∧ t.node.frame = s.node.frame ∧ ¬ Done m t
    ∧ t.node.twin.passed = (s.at_ dt).twin.passed ++ [{ rec_ := data, master := m, via := .direct, at_ := (s.at_ dt).now }] := by
  have hd : (s.at_ dt).writeDo m .direct 0x6000 0x08 data = ((s.at_ dt).opPass m .direct data, true) := by
    rw [Node.writeDo_operator, if_pos hm]
  have hs : (s.at_ dt).serveWrite m .direct 0x6000 0x08 data false = (s.at_ dt).opPass m .direct data := by
    unfold Node.serveWrite
    rw [if_neg (fun e => absurd e.1 (by decide)), if_neg (fun e => absurd e.2.2.1 (by decide)), if_neg (fun e => absurd e.1 (by decide))]
    have hc : ¬ (canonIdx 0x6000 = 0xF000 ∧ 0x08 = 0x04) := by decide
    simp only [Node.writeOne, ht.2, hd, hc, ne_eq, not_true_eq_false, if_false, if_true]
  have hk : ∃ x bs, (s.at_ dt).opPass m .direct data = { s.at_ dt with twin := x, out := bs } ∧ Out.reply m 0 [] ∉ bs
      ∧ x.passed = (s.at_ dt).twin.passed ++ [{ rec_ := data, master := m, via := .direct, at_ := (s.at_ dt).now }] := by
    unfold Node.opPass
    dsimp only
    rcases Node.twinSend_eq ((s.at_ dt).setTwin fun t => { t with passed := t.passed ++ [{ rec_ := data, master := m, via := .direct, at_ := (s.at_ dt).now }] })
      0x05 (padTo 16 data ++ toLE 2 (masterSource m)) with e | ⟨y, bs, e⟩ <;> rw [e]
    · exact ⟨_, [], rfl, List.not_mem_nil, rfl⟩
    · exact ⟨_, [.twin 5 bs], rfl, by simp, rfl⟩
  obtain ⟨x, bs, hx, hn, hp⟩ := hk
  refine ⟨_, he.trans (askWrite_served ht.1 (hs.trans hx) rfl), ⟨rfl, rfl⟩, rfl, rfl, hn, hp⟩

end

/-- The operator command of kind `op` is answered and waits, or is passed on. -/
theorem operatorCommand_waits {s : State} {dt op : Nat} {m : Master} {loc : Byte} {target : BitVec 16} {param : BitVec 32} {w : BitVec 64}
    {i : Instr} (ho : op < 256) (he : exec i s = askWrite dt m 0x6000 0x08 (opRecord op loc target param w) s)
    (ht : Takes s dt m 0x6000 0x08 (opRecord op loc target param w)) :
    let u := s.at_ dt
    let cmd := fun (op l : Nat) (late : Bool) => ({ op := op, loc := l, target := target.toNat, param := param.toNat, when_ := w.toNat, late := late } : OpCmd)
    (u.curMode ≠ 5 → Answers i s fun t => Done m t ∧ Rests s t ∧ t.node.od = s.node.od ∧ t.node.points = s.node.points ∧ t.node.areas = s.node.areas
      ∧ (w = 0 → t.node.frame = { u.frame with ops := u.frame.ops ++ [cmd op (loc.toNat % 64) false] })
      ∧ (w ≠ 0 → t.node.frame = { u.frame with sched := mapPut u.frame.sched u.freeEntry (cmd op loc.toNat (decide (w.toNat < u.nextClose))) }))
    ∧ (u.curMode = 5 → Answers i s fun t => Rests s t ∧ t.node.od = s.node.od ∧ t.node.frame = s.node.frame ∧ ¬ Done m t
      ∧ t.node.twin.passed = u.twin.passed ++ [{ rec_ := opRecord op loc target param w, master := m, via := .direct, at_ := u.now }]) := by
  refine ⟨fun hm => ?_, operator_passes he ht⟩
  have hw : fieldLE (opRecord op loc target param w) 8 8 = w.toNat := ofLE_toLE_bv 8 w (by decide)
  have hl : fieldLE (opRecord op loc target param w) 1 1 = loc.toNat := by simp [fieldLE, slice, opRecord]
  obtain ⟨t, hx, hd, hr, hod, hpt, har, hf⟩ := operator_waits he ht hm
  simp only [Node.opFrame, opOf_opRecord ho, hw, hl] at hf
  refine ⟨t, hx, hd, hr, hod, hpt, har, fun h0 => hf.trans (if_pos (congrArg BitVec.toNat h0) |>.trans ?_), fun h0 => ?_⟩
  · rw [h0]
  · exact hf.trans (if_neg fun e => h0 (BitVec.eq_of_toNat_eq e))

/-- Settles O38: an accepted command waits by `Node.opServe_eq`, and a standby passes it on by `Node.opPass`. -/
theorem operatorCommandsWait : Obligations.OperatorCommandsWait := fun s dt m loc target param w => by
  intro u cmd waits
  have h {op : Nat} {i : Instr} (he : exec i s = askWrite dt m 0x6000 0x08 (opRecord op loc target param w) s) (ho : op < 256 := by decide) :
      waits op i := fun ht => operatorCommand_waits ho he ht
  exact ⟨h rfl, h rfl, h rfl, h rfl, h rfl, h rfl, h rfl, h rfl, h rfl, h rfl, h rfl, h rfl, h rfl, h rfl, h rfl, h rfl, h rfl, h rfl, h rfl⟩

end Sys2Proof.Machine
end

section
/-!
SUPPORT. Writes of the objects of a selected point (R82, R219, R254), and a scheduled entry that is cancelled (R244).
-/
namespace Sys2Proof.Machine

/-! ## The select -/

/-- A point's objects have no meaning of their own among those of chapters 02 to 04, 11, 15 and 16. -/
theorem Node.writeNode_point (n : Node) (m : Master) {sub : Nat} (hs : sub < 256) (i v : Nat) (data : List Byte) :
    n.writeNode m 0x6100 sub i v data = none := by
  unfold Node.writeNode
  dsimp only
  iterate 22 rw [if_neg (by omega)]

/-- Only the two counters of a point have a meaning of their own. -/
theorem Node.writeBlock_point (n : Node) (m : Master) {sub : Nat} (hs : sub < 0x27) (i v : Nat) (data : List Byte) :
    n.writeBlock m 0x6100 sub i v data = none := by
  unfold Node.writeBlock
  dsimp only
  rw [show canonIdx 0x6100 = 0x6100 from rfl]
  iterate 25 rw [if_neg (by omega)]

theorem Node.writeDo_point (n : Node) (m : Master) (via : Via) {sub : Nat} (hs : sub < 0x27) (data : List Byte) :
    n.writeDo m via 0x6100 sub data = (n.store_ m 0x6100 sub (n.instOf m 0x6100 sub) (ofLE data), false) :=
  Node.writeDo_store via (fun h => absurd h.1 (by decide)) (fun h => absurd h.1 (by decide)) (by decide)
    (n.writeNode_point m (by omega) ..) (n.writeBlock_point m hs ..)

/-- A select of a point is stored, and nothing comes of it. -/
theorem Node.store_pointSelect (n : Node) (m : Master) (i v : Nat) : n.store_ m 0x6100 0x01 i v = n.stored 0x6100 0x01 i v := by
  have hr : (rowOf (keyIdx (key 0 0x6100 0x01)) (keySub (key 0 0x6100 0x01))).map Row.kept = some false := by decide
  obtain ⟨r, e, hkept⟩ := Option.map_eq_some_iff.mp hr
  have hk (k : Node) : k.keptHook 0x6100 0x01 = k := if_neg (by simp [Node.keptKey, e, hkept])
  have hw (k : Node) : k.written 0x6100 0x01 i = k := rfl
  unfold Node.store_
  dsimp only
  rw [hk, hw]
  rfl

theorem Node.writeOne_pointSelect {n : Node} {m : Master} {p : Fin 16384} (hj : n.writeJudge m 0x6100 0x01 (toLE 2 p) = 0) :
    n.writeOne m .direct 0x6100 0x01 (toLE 2 p) false = (0, n.stored 0x6100 0x01 (masterCode m) p, false) := by
  have hv : ofLE (toLE 2 p) = p := ofLE_toLE (k := 2) (by omega)
  have hd : n.writeDo m .direct 0x6100 0x01 (toLE 2 p) = (n.stored 0x6100 0x01 (masterCode m) p, false) := by
    rw [Node.writeDo_point n m .direct (by decide), hv, Node.store_pointSelect]
    rfl
  have hc : ¬ (canonIdx 0x6100 = 0xF000 ∧ 0x01 = 0x04) := by decide
  simp only [Node.writeOne, hj, hd, hc, ne_eq, not_true_eq_false, if_false]

/-- A master's write of a point's object acts on the point it has selected. -/
theorem Node.instOf_point (n : Node) (m : Master) {sub : Nat} (hs : sub ≠ 0x01 ∧ sub ≠ 0x20) :
    n.instOf m 0x6100 sub = n.oi (masterCode m) 0x6100 0x01 := by
  have hp : perMaster (canonIdx 0x6100) sub = false := by simp [perMaster, hs, show canonIdx 0x6100 = 0x6100 from rfl]
  unfold Node.instOf
  dsimp only
  rw [hp]
  rfl

/-- A point is selected, and the write of one of its objects is accepted and done. -/
theorem askSelected_point {s : State} {dt : Nat} {m : Master} {p : Fin 16384} {sub : Nat} {data : List Byte}
    (ht : Takes s dt m 0x6100 0x01 (toLE 2 p))
    (hj : ((s.at_ dt).writeOne m .direct 0x6100 0x01 (toLE 2 p) false).2.1.writeJudge m 0x6100 sub data = 0) :
    ∃ k : Node, k.oi (masterCode m) 0x6100 0x01 = p ∧ SameObjects s.node k [key (masterCode m) 0x6100 0x01]
      ∧ ∀ k', k.writeDo m .direct 0x6100 sub data = (k', false) → k'.eng = k.eng →
        askSelected dt m 0x6100 0x01 2 p sub data s = .next { s with node := k'.emit (.reply m 0 []) } := by
  obtain ⟨hv, hs, he, -, -⟩ := (s.at_ dt).stored_leaves 0x6100 0x01 (masterCode m) p
  have hw := Node.writeOne_pointSelect ht.2
  rw [hw] at hj
  have hdone : ((s.at_ dt).stored 0x6100 0x01 (masterCode m) p).eng.done = [] := congrArg EngineSt.done he
  refine ⟨_, hv, hs, fun k' hd hk => actDone_when (c := (Node.asks · m)) ht.1 ?_ ((congrArg EngineSt.done hk).trans hdone)⟩
  have hc : ¬ (canonIdx 0x6100 = 0xF000 ∧ sub = 0x04) := fun h => absurd h.1 (by decide)
  dsimp only
  rw [hw, if_pos rfl]
  unfold Node.serveWrite
  rw [if_neg (fun e => absurd e.1 (by decide)), if_neg (fun e => absurd e.1 (by decide)), if_neg (fun e => absurd e.1 (by decide))]
  simp only [Node.writeOne, hj, hd, hc, ne_eq, not_true_eq_false, if_false, Bool.false_eq_true]
  rfl

/-! ## The objects -/

/-- The counter that a write sets counts from there: it is not saturated. -/
def Node.counterSet (n : Node) (p : Nat) (standing : Bool) (v : Nat) : Node :=
  if standing then (n.setI p 0x6100 0x28 v).setPt p { n.pt p with satStand := false }
  else (n.setI p 0x6100 0x27 v).setPt p { n.pt p with satOcc := false }

theorem Node.writeDo_counter (n : Node) (m : Master) (standing : Bool) (data : List Byte) :
    n.writeDo m .direct 0x6100 (if standing then 0x28 else 0x27) data
      = (n.counterSet (n.oi (masterCode m) 0x6100 0x01) standing (ofLE data), false) := by
  cases standing with
  | false =>
    unfold Node.writeDo
    rw [Node.instOf_point n m (by decide)]
    simp only [Bool.false_eq_true, if_false, Node.writeNode_point n m (show 0x27 < 256 by decide)]
    rfl
  | true =>
    unfold Node.writeDo
    rw [Node.instOf_point n m (by decide)]
    simp only [if_true, Node.writeNode_point n m (show 0x28 < 256 by decide)]
    rfl

/-- A write of a point's configuration is stored as a kept object is, and asks for the restart of a point it changes (R222). -/
theorem Node.store_pointConfig (n : Node) (m : Master) {sub : Nat} (hs : pointConfig sub = true) (i v : Nat) :
    n.store_ m 0x6100 sub i v = (if n.po i sub = v then n
      else (n.setI i 0x6100 sub v).setPt i { n.pt i with restart := true }).keptHook 0x6100 sub := by
  have hw (k : Node) : k.written 0x6100 sub i = k.setPt i { k.pt i with restart := true } := by
    unfold Node.written
    simp only [hs, Bool.true_or, if_true]
    rfl
  unfold Node.store_
  dsimp only
  rw [hw]
  rfl

theorem pointConfig_lt {sub : Nat} (h : pointConfig sub = true) : 2 ≤ sub ∧ sub ≤ 0x16 := by
  simp only [pointConfig, Bool.and_eq_true, Bool.or_eq_true, decide_eq_true_eq, beq_iff_eq] at h
  omega

/-- The flag of uncommitted writes is no state of a point. -/
theorem Node.keptHook_points (n : Node) (idx sub : Nat) : (n.keptHook idx sub).points = n.points := by
  unfold Node.keptHook
  split
  · rcases n.keptWritten_eq with e | ⟨-, f, e⟩ <;> rw [e] <;> rfl
  · rfl

/-! ## The commands -/

/-- Cancelling an entry takes it from the schedule (R244). -/
theorem Node.opCancel_eq (n : Node) (m : Master) (e : Nat) :
    ∃ x, n.opCancel m e = { n with twin := x, frame := { n.frame with sched := n.frame.sched.filter fun x => x.1 != e } } := by
  unfold Node.opCancel
  split
  · next c _ =>
    obtain ⟨x, hx⟩ := n.noteCmd_eq (closeCmd (opBytes c.2) m 2 e)
    exact ⟨x, by rw [hx]⟩
  · exact ⟨n.twin, rfl⟩

theorem cancelScheduled_removes {s : State} {dt : Nat} {m : Master} {entry : BitVec 16}
    (ht : Takes s dt m 0x6000 0x0B (toLE 2 entry.toNat)) : Answers (.cancelScheduled dt m entry) s fun t => Done m t ∧ Rests s t
      ∧ t.node.od = s.node.od
      ∧ t.node.frame = { (s.at_ dt).frame with sched := (s.at_ dt).frame.sched.filter fun x => x.1 != entry.toNat } := by
  obtain ⟨x, hx⟩ := (s.at_ dt).opCancel_eq m entry.toNat
  have hd : (s.at_ dt).writeDo m .direct 0x6000 0x0B (toLE 2 entry.toNat) = ((s.at_ dt).opCancel m entry.toNat, false) := by
    unfold Node.writeDo
    rw [ofLE_toLE_bv 2 entry (by decide)]
    rfl
  have he : exec (.cancelScheduled dt m entry) s = askWrite dt m 0x6000 0x0B (toLE 2 entry.toNat) s := rfl
  refine ⟨_, he.trans (askWrite_accepted ht.1 ht.2 (fun e => ?_) (fun e => ?_) (fun e => ?_) (fun e => ?_) hd (by rw [hx]; rfl)), ?_⟩
  · exact absurd e.1 (by decide)
  · exact absurd e.1 (by decide)
  · exact absurd e.1 (by decide)
  · exact absurd e.1 (by decide)
  · rw [hx]
    exact ⟨done_emit .., ⟨rfl, rfl⟩, rfl, rfl⟩

section
variable {s : State} {dt : Nat} {m : Master} {p : Fin 16384} (ht : Takes s dt m 0x6100 0x01 (toLE 2 p))
include ht

theorem counterClear_sets {standing : Bool} {v : BitVec 64}
    (hj : ((s.at_ dt).writeOne m .direct 0x6100 0x01 (toLE 2 p) false).2.1.writeJudge m 0x6100 (if standing then 0x28 else 0x27)
      (toLE (if standing then 8 else 4) v.toNat) = 0) :
    Answers (.counterClear dt m p standing v) s fun t => Done m t ∧ Rests s t
      ∧ t.node.po p (if standing then 0x28 else 0x27) = v.toNat % 2 ^ (8 * if standing then 8 else 4)
      ∧ (standing = true → (t.node.pt p).satStand = false) ∧ (standing = false → (t.node.pt p).satOcc = false)
      ∧ SameObjects s.node t.node [key (masterCode m) 0x6100 0x01, key p 0x6100 (if standing then 0x28 else 0x27)] := by
  obtain ⟨k, hv, hs, hx⟩ := askSelected_point ht hj
  have hd := k.writeDo_counter m standing (toLE (if standing then 8 else 4) v.toNat)
  rw [hv, ofLE_toLE_mod] at hd
  refine ⟨_, hx _ hd (by cases standing <;> rfl), done_emit .., ⟨rfl, rfl⟩, ?_⟩
  cases standing with
  | false => exact ⟨Node.oi_setI_self .., nofun, fun _ => congrArg PointSt.satOcc (Node.pt_setPt_self ..), hs.append ((SameObjects.refl k _).setI (by simp))⟩
  | true => exact ⟨Node.oi_setI_self .., fun _ => congrArg PointSt.satStand (Node.pt_setPt_self ..), nofun, hs.append ((SameObjects.refl k _).setI (by simp))⟩

theorem pointConfigWrite_stores {sub : Byte} {data : List Byte} (hc : pointConfig sub.toNat = true)
    (hj : ((s.at_ dt).writeOne m .direct 0x6100 0x01 (toLE 2 p) false).2.1.writeJudge m 0x6100 sub.toNat data = 0) :
    Answers (.pointConfigWrite dt m p sub data) s fun t => Done m t ∧ Rests s t ∧ t.node.po p sub.toNat = ofLE data
      ∧ ((s.at_ dt).po p sub.toNat ≠ ofLE data → (t.node.pt p).restart = true)
      ∧ SameObjects s.node t.node [key (masterCode m) 0x6100 0x01, key p 0x6100 sub.toNat, key 0 0x1020 0x06] := by
  obtain ⟨hlo, hhi⟩ := pointConfig_lt hc
  obtain ⟨k, hv, hs, hx⟩ := askSelected_point ht hj
  have hd := k.writeDo_point m .direct (sub := sub.toNat) (by omega) data
  rw [Node.instOf_point _ m (by omega), hv, Node.store_pointConfig _ m hc] at hd
  have hpo : k.po p sub.toNat = (s.at_ dt).po p sub.toNat :=
    hs _ (by rw [List.mem_singleton, key_inj (by decide) (by omega) (by decide) (by decide)]; omega)
  let x := if k.po p sub.toNat = ofLE data then k else (k.setI p 0x6100 sub.toNat (ofLE data)).setPt p { k.pt p with restart := true }
  have hxe : x.eng = k.eng ∧ x.po p sub.toNat = ofLE data ∧ (k.po p sub.toNat ≠ ofLE data → (x.pt p).restart = true)
      ∧ SameObjects k x [key p 0x6100 sub.toNat] := by
    by_cases h : k.po p sub.toNat = ofLE data
    · rw [show x = k from if_pos h]
      exact ⟨rfl, h, fun hn => absurd h hn, .refl k _⟩
    · rw [show x = (k.setI p 0x6100 sub.toNat (ofLE data)).setPt p { k.pt p with restart := true } from if_neg h]
      exact ⟨rfl, Node.oi_setI_self .., fun _ => congrArg PointSt.restart (Node.pt_setPt_self ..), (SameObjects.refl k _).setI (by simp)⟩
  obtain ⟨hxe, hxv, hxr, hxs⟩ := hxe
  obtain ⟨hks, hke, -, -⟩ := x.keptHook_leaves 0x6100 sub.toNat
  refine ⟨_, hx _ hd (by rw [hke, hxe]), done_emit .., ⟨rfl, rfl⟩, (hks _ ?_).trans hxv, fun h => ?_, (hs.append hxs).append hks⟩
  · rw [List.mem_singleton, key_inj (by decide) (by omega) (by decide) (by decide)]
    omega
  · refine Eq.trans (congrArg (fun q => (mapGet q p.val ({} : PointSt)).restart) (x.keptHook_points 0x6100 sub.toNat)) (hxr ?_)
    rwa [hpo]

end

/-- Settles O39: the entry is filtered out, and a write of a selected point's object stores it. -/
theorem pointWritesTake : Obligations.PointWritesTake := fun _ _ _ =>
  ⟨fun _ ht => cancelScheduled_removes ht, fun _ _ _ ht hj => counterClear_sets ht hj, fun _ _ _ hc ht hj => pointConfigWrite_stores ht hc hj⟩

end Sys2Proof.Machine
end

section
/-!
SUPPORT. What the work of a frame leaves alone (R213, R214): the course of the frames, which is their number and close, the
commands that wait and the schedule; and a mirror with nothing to replay has nothing to replay after it. Each operation
has one lemma, which carries `m.KeepsCourse n` one step on.
-/
namespace Sys2Proof.Machine

/-- The course of the frames, and the time by which they close. -/
def Node.course (n : Node) :=
  (n.now, n.frame.num, n.frame.lastClose, n.frame.lastAt, n.frame.missed, n.frame.ops, n.frame.sched)

/-- `n` comes of `m` by work that leaves the course of the frames as it is. -/
structure Node.KeepsCourse (m n : Node) : Prop where
  course : n.course = m.course
  replay : m.twin.replay = [] → n.twin.replay = []

namespace Node.KeepsCourse
variable {m n k : Node}

theorem refl (n : Node) : n.KeepsCourse n := ⟨rfl, id⟩

theorem trans (h : m.KeepsCourse n) (g : n.KeepsCourse k) : m.KeepsCourse k :=
  ⟨g.course.trans h.course, fun e => g.replay (h.replay e)⟩

/-- A step that touches neither. -/
theorem of_same (h : m.KeepsCourse n) (e : (k.course, k.twin.replay) = (n.course, n.twin.replay)) : m.KeepsCourse k := by
  obtain ⟨hc, hr⟩ := Prod.mk.inj e
  exact h.trans ⟨hc, fun h => hr.trans h⟩

theorem ite {a b : Node} {p : Prop} [Decidable p] (h : m.KeepsCourse a) (g : m.KeepsCourse b) :
    m.KeepsCourse (if p then a else b) := by
  split <;> assumption

theorem foldl {α : Type} {f : Node → α → Node} (hf : ∀ n a, m.KeepsCourse n → m.KeepsCourse (f n a)) {l : List α}
    (h : m.KeepsCourse n) : m.KeepsCourse (l.foldl f n) := by
  induction l generalizing n with
  | nil => exact h
  | cons a r ih => exact ih (hf n a h)

theorem whenOn {c : Bool} {f : Node → Node} (h : m.KeepsCourse n) (g : m.KeepsCourse (f n)) : m.KeepsCourse (n.when c f) := .ite g h

theorem setI (h : m.KeepsCourse n) {i idx sub v : Nat} : m.KeepsCourse (n.setI i idx sub v) := h.of_same (by rfl)
theorem setPt (h : m.KeepsCourse n) {p : Nat} {x : PointSt} : m.KeepsCourse (n.setPt p x) := h.of_same (by rfl)
theorem setArea (h : m.KeepsCourse n) {a : Nat} {x : AreaSt} : m.KeepsCourse (n.setArea a x) := h.of_same (by rfl)
theorem setGrp (h : m.KeepsCourse n) {g : Nat} {x : GroupSt} : m.KeepsCourse (n.setGrp g x) := h.of_same (by rfl)
theorem setAnn (h : m.KeepsCourse n) {b : Nat} {x : AnnSt} : m.KeepsCourse (n.setAnn b x) := h.of_same (by rfl)
theorem setLoop (h : m.KeepsCourse n) {i : Nat} {x : LoopSt} : m.KeepsCourse (n.setLoop i x) := h.of_same (by rfl)
theorem setCan (h : m.KeepsCourse n) {c : Nat} {x : CanSt} : m.KeepsCourse (n.setCan c x) := h.of_same (by rfl)
theorem setVat (h : m.KeepsCourse n) {v : Nat} {x : VatSt} : m.KeepsCourse (n.setVat v x) := h.of_same (by rfl)
theorem setQueue (h : m.KeepsCourse n) {q : Nat} {x : QueueSt} : m.KeepsCourse (n.setQueue q x) := h.of_same (by rfl)
theorem emit (h : m.KeepsCourse n) {o : Out} : m.KeepsCourse (n.emit o) := h.of_same (by rfl)
theorem draw (h : m.KeepsCourse n) : m.KeepsCourse n.draw.2 := h.of_same (by rfl)
theorem complete (h : m.KeepsCourse n) {d : DescDone} : m.KeepsCourse (n.complete d) := h.of_same (by rfl)
theorem fault (h : m.KeepsCourse n) {src kind detail addr : Nat} : m.KeepsCourse (n.fault src kind detail addr) := h.of_same (by rfl)
theorem addRec (h : m.KeepsCourse n) {r : Rec} : m.KeepsCourse (n.addRec r) := h.of_same (by rfl)
theorem setTwin (h : m.KeepsCourse n) {f : TwinSt → TwinSt} (hf : (f n.twin).replay = n.twin.replay) : m.KeepsCourse (n.setTwin f) :=
  h.trans ⟨rfl, fun e => hf.trans e⟩

theorem irq (h : m.KeepsCourse n) {v s : Nat} : m.KeepsCourse (n.irq v s) := by
  unfold Node.irq
  exact h.ite h.setVat

theorem irqAll (h : m.KeepsCourse n) {s : Nat} : m.KeepsCourse (n.irqAll s) := h.foldl fun _ _ g => g.irq

theorem event (h : m.KeepsCourse n) {e : Nat} : m.KeepsCourse (n.event e) := by
  unfold Node.event
  exact h.ite h.irq

/-! ## Commands at the close (R213, R229, R236) -/

theorem callMessage (h : m.KeepsCourse n) {a kind state level prio rep point tk : Nat} :
    m.KeepsCourse (n.callMessage a kind state level prio rep point tk) := h.of_same (by rfl)

theorem callChanged (h : m.KeepsCourse n) {a tk : Nat} : m.KeepsCourse (n.callChanged a tk) := h.of_same (by rfl)

theorem esMessage (h : m.KeepsCourse n) {a state level rep tk : Nat} : m.KeepsCourse (n.esMessage a state level rep tk) :=
  h.of_same (by rfl)

theorem esCallChanged (h : m.KeepsCourse n) {a state level tk : Nat} : m.KeepsCourse (n.esCallChanged a state level tk) :=
  h.of_same (by rfl)

theorem enterEs (h : m.KeepsCourse n) {a st tk : Nat} : m.KeepsCourse (n.enterEs a st tk) := by
  unfold Node.enterEs
  refine .ite (esCallChanged (setArea (addRec h.setArea))) ?_
  dsimp only
  split
  · exact esCallChanged (setArea (addRec h.setArea))
  · exact addRec h.setArea

theorem respRec (h : m.KeepsCourse n) {a tk : Nat} : m.KeepsCourse (n.respRec a tk) := h.addRec

theorem setHolder (h : m.KeepsCourse n) {a l tk : Nat} : m.KeepsCourse (n.setHolder a l tk) := .ite h.setArea h.setArea.respRec

theorem setAttended (h : m.KeepsCourse n) {a tk : Nat} {on : Bool} : m.KeepsCourse (n.setAttended a on tk) := by
  unfold Node.setAttended
  extract_lets x y z
  have hz : m.KeepsCourse z := .ite h.setArea h.setArea.respRec
  exact .ite hz.enterEs hz

theorem ackPoint (h : m.KeepsCourse n) {p tk : Nat} : m.KeepsCourse (n.ackPoint p tk) := .ite h.setPt.addRec h

theorem setOos (h : m.KeepsCourse n) {p cause : Nat} {on late : Bool} : m.KeepsCourse (n.setOos p on cause late) := .ite h h.setPt

theorem answer (h : m.KeepsCourse n) {a tk : Nat} : m.KeepsCourse (n.answer a tk) := .ite h.setArea.callChanged h

theorem opApply (h : m.KeepsCourse n) {tk cause : Nat} {late : Bool} {c : OpCmd} : m.KeepsCourse (n.opApply tk cause late c) := by
  unfold Node.opApply
  refine .ite h.ackPoint (.ite (h.foldl fun _ _ g => g.ackPoint) (.ite (h.foldl fun _ _ g => g.ackPoint) (.ite h.setArea
    (.ite (.ite h.setPt h) (.ite (.ite h.setPt h) (.ite (.ite h.setOos h) (.ite h.setOos (.ite h.setArea (.ite ?_ (.ite h.setArea
    (.ite h.setHolder (.ite h.setAttended (.ite h.setAttended (.ite h.answer (.ite h.enterEs (.ite (.ite h h.enterEs)
    (.ite (.ite h.setI h) h)))))))))))))))))
  split
  · exact h.setHolder
  · exact h

/-! ## Points and groups (R216 to R229, R234) -/

theorem restartPoint (h : m.KeepsCourse n) {p tk : Nat} : m.KeepsCourse (n.restartPoint p tk) := by
  unfold Node.restartPoint
  exact h.ite (.ite h.setPt h.setPt.addRec)

theorem pointCounters (h : m.KeepsCourse n) {p was tk : Nat} {x : PointSt} : m.KeepsCourse (n.pointCounters p x was tk) := by
  unfold Node.pointCounters
  extract_lets y _ _ z _ _
  have hz : m.KeepsCourse z := .ite (.ite h.setPt.setI.setPt.addRec h.setPt.setI) h.setPt
  clear_value z
  exact .ite h.setPt (.ite (.ite hz.setI.setPt.addRec hz.setI) hz)

theorem settle (h : m.KeepsCourse n) {p was tk : Nat} {x : PointSt} : m.KeepsCourse (n.settle p x was tk) := by
  unfold Node.settle
  extract_lets old new cause late y
  refine pointCounters (.ite ?_ (.ite h.addRec h))
  exact .ite (h.of_same (by rfl)) h.addRec

theorem evalPoint (h : m.KeepsCourse n) {f : FrameIn} {p : Nat} : m.KeepsCourse (n.evalPoint f p) := by
  unfold Node.evalPoint
  dsimp only
  refine settle ?_
  split
  · exact h.setI
  · exact h

theorem captureEnd (h : m.KeepsCourse n) {g : Nat} : m.KeepsCourse (n.captureEnd g) := by
  unfold Node.captureEnd
  exact foldl (fun _ _ g => g.addRec) h.setI.setI.setI.setI.setI.setI.setI.setGrp

theorem groupStep (h : m.KeepsCourse n) {tk g : Nat} : m.KeepsCourse (n.groupStep tk g) := by
  unfold Node.groupStep
  extract_lets es mem rem counted _ joined ended
  have hc : m.KeepsCourse counted := h.setI.setI
  have hj : m.KeepsCourse joined := .ite hc.setGrp.setI.setI (.ite hc.setGrp (.ite hc.setI hc))
  have he : m.KeepsCourse ended := .ite hj.captureEnd hj
  exact .ite he.setI he

/-! ## Areas and calls (R236, R246 to R252) -/

theorem raiseCall (h : m.KeepsCourse n) {tk p prio : Nat} : m.KeepsCourse (n.raiseCall tk p prio) := by
  unfold Node.raiseCall
  exact .ite h.setArea.callChanged (.ite h.setArea.callChanged (.ite h.setArea.callChanged h.setArea))

theorem raiseAll (h : m.KeepsCourse n) {tk : Nat} : m.KeepsCourse (n.raiseAll tk) := by
  unfold Node.raiseAll
  exact (h.foldl fun _ _ g => g.setArea).foldl fun _ _ g => g.raiseCall

theorem transferTimeout (h : m.KeepsCourse n) {a : Nat} {due : Nat → Nat → Nat → Bool} : m.KeepsCourse (n.transferTimeout a due) :=
  .ite h.setArea h

theorem esPrewarn (h : m.KeepsCourse n) {a tk : Nat} {due : Nat → Nat → Nat → Bool} : m.KeepsCourse (n.esPrewarn a tk due) :=
  .ite h.enterEs h

theorem esExpired (h : m.KeepsCourse n) {a tk : Nat} {due : Nat → Nat → Nat → Bool} : m.KeepsCourse (n.esExpired a tk due) :=
  .ite h.enterEs h

theorem callEnd (h : m.KeepsCourse n) {a tk : Nat} : m.KeepsCourse (n.callEnd a tk) := .ite h.setArea.callChanged h

theorem escalate (h : m.KeepsCourse n) {a tk : Nat} {due : Nat → Nat → Nat → Bool} : m.KeepsCourse (n.escalate a tk due) := by
  unfold Node.escalate
  extract_lets x y z
  have hy : m.KeepsCourse y := by
    unfold y
    split
    · exact .ite h.setArea.callChanged h
    · exact h
  exact .ite hy.setArea.esCallChanged hy

theorem answerTimeout (h : m.KeepsCourse n) {a tk : Nat} {due : Nat → Nat → Nat → Bool} : m.KeepsCourse (n.answerTimeout a tk due) :=
  .ite h.setArea.callChanged h

theorem callRepeat (h : m.KeepsCourse n) {a : Nat} : m.KeepsCourse (n.callRepeat a) := by
  unfold Node.callRepeat
  extract_lets x _ y _ _
  have hy : m.KeepsCourse y := .ite h.setArea.callMessage h
  exact .ite hy.setArea.esMessage hy

theorem remoteStale (h : m.KeepsCourse n) {a : Nat} : m.KeepsCourse (n.remoteStale a) := .ite h.setArea h

theorem areasStep (h : m.KeepsCourse n) {tk : Nat} : m.KeepsCourse (n.areasStep tk) := by
  unfold Node.areasStep
  extract_lets due timed raised
  have ht : m.KeepsCourse timed := h.foldl fun _ _ g => g.transferTimeout.esPrewarn.esExpired
  have hr : m.KeepsCourse raised := .ite (ht.foldl fun _ _ g => g.raiseCall) ht
  exact hr.foldl fun _ _ g => .ite g.callEnd.escalate.answerTimeout.callRepeat.remoteStale g.remoteStale

theorem areasTick (h : m.KeepsCourse n) : m.KeepsCourse n.areasTick := h.foldl fun _ _ g => g.setArea

/-! ## Sepia (R355, R357, R359, R369) -/

theorem makeRoom (h : m.KeepsCourse n) {fuel : Nat} : m.KeepsCourse (n.makeRoom fuel) := by
  induction fuel generalizing n with
  | zero => exact h
  | succ fuel ih =>
    unfold Node.makeRoom
    refine h.ite ?_
    split
    · exact ih (h.of_same (by rfl))
    · exact h

theorem openSeg (h : m.KeepsCourse n) {log : Nat} : m.KeepsCourse (n.openSeg log).1 := by
  unfold Node.openSeg
  dsimp only
  split
  · split
    · exact h.makeRoom.of_same (by rfl)
    · exact h.makeRoom
  · exact h.makeRoom.of_same (by rfl)

theorem segFor (h : m.KeepsCourse n) {log need : Nat} : m.KeepsCourse (n.segFor log need).1 := by
  unfold Node.segFor
  split
  · split
    · exact h
    · exact h.openSeg
  · exact h.openSeg

theorem placeRec (h : m.KeepsCourse n) {r : ArchRec} : m.KeepsCourse (n.placeRec r) := by
  unfold Node.placeRec
  dsimp only
  split
  · exact h.segFor.of_same (by rfl)
  · exact h.segFor.of_same (by rfl)

theorem placeAll (h : m.KeepsCourse n) : m.KeepsCourse n.placeAll :=
  .ite (foldl (fun _ _ g => g.placeRec) (h.of_same (by rfl))) h

theorem backlogCheck (h : m.KeepsCourse n) : m.KeepsCourse n.backlogCheck := by
  unfold Node.backlogCheck
  exact h.ite (.ite h.setI.fault h.setI)

theorem pushRec (h : m.KeepsCourse n) {k : Nat} {x : OpenRec} : m.KeepsCourse (n.pushRec k x) :=
  (placeAll (h.of_same (by rfl))).backlogCheck

theorem sealRec (h : m.KeepsCourse n) {k : Nat} : m.KeepsCourse (n.sealRec k) := h.ite h.pushRec

theorem keepBudget (h : m.KeepsCourse n) {fuel : Nat} : m.KeepsCourse (n.keepBudget fuel) := by
  induction fuel generalizing n with
  | zero => exact h
  | succ fuel ih =>
    unfold Node.keepBudget
    refine h.ite (h.ite ?_)
    split
    · exact ih h.sealRec
    · exact h

theorem archive (h : m.KeepsCourse n) {kind src time : Nat} {pre bytes : List Byte} :
    m.KeepsCourse (n.archive kind src time pre bytes) := by
  unfold Node.archive
  extract_lets k counted _ size _ started x y _ added sealed_
  have hc : m.KeepsCourse counted := h.setI
  have hs : m.KeepsCourse started := .ite h.sealRec h
  clear_value counted started x y
  have ha : m.KeepsCourse added := hs.of_same (by rfl)
  have he : m.KeepsCourse sealed_ := .ite ha.sealRec ha
  exact .ite (.ite hc (hc.of_same (by rfl))) he.keepBudget

theorem sepRefresh (h : m.KeepsCourse n) : m.KeepsCourse n.sepRefresh := by
  unfold Node.sepRefresh
  extract_lets _ x st on y was _ z
  have hx : m.KeepsCourse x := .ite (h.of_same (by rfl)) h
  have hy : m.KeepsCourse y := hx.setI
  exact placeAll (.ite hy (hy.of_same (by rfl)))

/-! ## Records, publications and frames sent (R214, R308, R309, R312) -/

theorem deliver (h : m.KeepsCourse n) {q : Nat} {e : QEntry} : m.KeepsCourse (n.deliver q e) := by
  unfold Node.deliver
  exact .ite (.ite h.setQueue h.setI.setQueue) (.ite h.setI.setQueue h)

theorem deliverRec (h : m.KeepsCourse n) {num tk : Nat} {r : Rec} : m.KeepsCourse (n.deliverRec num tk r) :=
  h.setI.archive.foldl fun _ _ g => .ite (.ite g.deliver.setQueue g.deliver) g

theorem deliverRecs (h : m.KeepsCourse n) {num tk : Nat} : m.KeepsCourse (n.deliverRecs num tk).2 := by
  unfold Node.deliverRecs
  extract_lets recs _ cleared evs sent
  have hs : m.KeepsCourse sent := foldl (fun _ _ g => g.deliverRec) (h.of_same (by rfl))
  exact .ite hs.setI hs

theorem publication (h : m.KeepsCourse n) {tk : Nat} : m.KeepsCourse (n.publication tk).2 :=
  foldl (fun _ _ g => g.setPt.archive) (foldl (fun _ _ g => g.setPt) (h.of_same (by rfl)))

theorem publish (h : m.KeepsCourse n) {tk : Nat} : m.KeepsCourse (n.publish tk).2 := by
  unfold Node.publish
  split
  · dsimp only
    split
    · exact h.publication.of_same (by rfl)
    · exact h.publication
  · exact h

theorem portDrop (h : m.KeepsCourse n) {p k : Nat} : m.KeepsCourse (n.portDrop p k) := .ite h h.setI.setI

theorem handTo (h : m.KeepsCourse n) {p : Nat} {f : List Byte} : m.KeepsCourse (n.handTo p f) := by
  unfold Node.handTo
  exact .ite h.setI.emit (.ite (h.of_same (by rfl)) h.portDrop)

theorem sendWoad (h : m.KeepsCourse n) {w : WoadOut} : m.KeepsCourse (n.sendWoad w) := h.setI.handTo.handTo

theorem sendAll (h : m.KeepsCourse n) {fs : List WoadOut} : m.KeepsCourse (n.sendAll fs) := h.foldl fun _ _ g => g.sendWoad

theorem sendCalls (h : m.KeepsCourse n) : m.KeepsCourse n.sendCalls := by
  unfold Node.sendCalls
  extract_lets cs _ cleared
  have hc : m.KeepsCourse cleared := h.of_same (by rfl)
  exact .ite (hc.foldl fun _ _ g => g.sendWoad) hc

theorem flushHeld (h : m.KeepsCourse n) : m.KeepsCourse n.flushHeld := by
  unfold Node.flushHeld
  exact h.ite (.ite (h.of_same (by rfl)) (.ite (sendAll (h.of_same (by rfl))) h))

theorem sendFrame (h : m.KeepsCourse n) {num : Nat} {evs pubs : List WoadOut} : m.KeepsCourse (n.sendFrame num evs pubs) := by
  unfold Node.sendFrame
  extract_lets flushed _ sent
  have hf : m.KeepsCourse flushed := h.flushHeld
  have hs : m.KeepsCourse sent := .ite (hf.of_same (by rfl)) (.ite hf.sendAll hf)
  exact .ite (hs.setTwin rfl) (hs.setTwin rfl)

theorem twinSend (h : m.KeepsCourse n) {type : Nat} {body : List Byte} : m.KeepsCourse (n.twinSend type body) := by
  unfold Node.twinSend
  exact .ite (h.of_same (by rfl)) h

theorem sendTwinHeartbeat (h : m.KeepsCourse n) {health : Nat} : m.KeepsCourse (n.sendTwinHeartbeat health) := by
  unfold Node.sendTwinHeartbeat
  exact .ite h (handTo (h.of_same (by rfl)))

theorem sendImage (h : m.KeepsCourse n) : m.KeepsCourse n.sendImage := .ite (emit (h.setTwin rfl)) h

/-! ## Outputs, shafts and CAN -/

theorem enterAnn (h : m.KeepsCourse n) {b st : Nat} : m.KeepsCourse (n.enterAnn b st) := by
  unfold Node.enterAnn
  exact .ite h.setAnn.setI.setI.setI h.setAnn.setI.setI.setI.setI

theorem annRefresh (h : m.KeepsCourse n) {b : Nat} : m.KeepsCourse (n.annRefresh b) := by
  unfold Node.annRefresh
  exact .ite (.ite h h.enterAnn) (.ite h.enterAnn (.ite (.ite h.enterAnn h) (.ite (.ite h h.enterAnn) h)))

theorem annRefreshAll (h : m.KeepsCourse n) : m.KeepsCourse n.annRefreshAll := h.foldl fun _ _ g => g.annRefresh

theorem annFrame (h : m.KeepsCourse n) {tk : Nat} : m.KeepsCourse (n.annFrame tk) :=
  annRefreshAll (h.foldl fun _ _ g => .ite g.setAnn g)

theorem repeatCompute (h : m.KeepsCourse n) {b : Nat} : m.KeepsCourse (n.repeatCompute b) := by
  unfold Node.repeatCompute
  exact .ite h (.ite (.ite h (.ite h.setAnn h.setAnn)) (.ite h.setAnn h.setAnn))

theorem periodStart (h : m.KeepsCourse n) {b : Nat} : m.KeepsCourse (n.periodStart b) := h.setAnn.setI.setI.annRefresh

theorem repeatFrame (h : m.KeepsCourse n) : m.KeepsCourse n.repeatFrame :=
  h.foldl fun _ _ g => .ite g.repeatCompute.periodStart g.repeatCompute

theorem stageEnable (h : m.KeepsCourse n) : m.KeepsCourse n.stageEnable := annRefreshAll (h.of_same (by rfl))

theorem fskCheck (h : m.KeepsCourse n) {i : Nat} : m.KeepsCourse (n.fskCheck i) := .ite h.setI.setI.setLoop h

theorem stageDisable (h : m.KeepsCourse n) : m.KeepsCourse n.stageDisable :=
  foldl (fun _ _ g => g.fskCheck) (annRefreshAll (h.of_same (by rfl)))

theorem holdSafe (h : m.KeepsCourse n) : m.KeepsCourse n.holdSafe := h.foldl fun _ _ g => g.setAnn

theorem loopFrame (h : m.KeepsCourse n) {i : Nat} : m.KeepsCourse (n.loopFrame i) := by
  unfold Node.loopFrame
  exact .ite h.setLoop (.ite h.setLoop.setLoop (.ite h.setLoop.setLoop (.ite (.ite h.setLoop.setLoop h.setLoop.setLoop) h.setLoop.setLoop)))

theorem loopsFrame (h : m.KeepsCourse n) : m.KeepsCourse n.loopsFrame := h.foldl fun _ _ g => g.loopFrame

theorem toFrame (h : m.KeepsCourse n) {kind ref : Nat} {r : Reading} : m.KeepsCourse (n.toFrame kind ref r) := by
  unfold Node.toFrame
  exact .ite (h.of_same (by rfl)) (.ite (twinSend (h.of_same (by rfl))) (h.of_same (by rfl)))

theorem setSpeed (h : m.KeepsCourse n) {i t : Nat} {rpm : Rat} : m.KeepsCourse (n.setSpeed i rpm t) := h.setI.setI

theorem dropAngles (h : m.KeepsCourse n) {d : Nat} : m.KeepsCourse (n.dropAngles d) :=
  h.foldl fun _ _ g => .ite (g.of_same (by rfl)) g

theorem setCrankState (h : m.KeepsCourse n) {d st : Nat} : m.KeepsCourse (n.setCrankState d st) := (ite h.dropAngles h).setI

theorem engineStop (h : m.KeepsCourse n) {d : Nat} : m.KeepsCourse (n.engineStop d) := by
  unfold Node.engineStop
  extract_lets _ x
  have hx : m.KeepsCourse x := .ite (h.of_same (by rfl)) h
  exact .ite hx hx.setCrankState

theorem standstill (h : m.KeepsCourse n) {i : Nat} : m.KeepsCourse (n.standstill i) := by
  unfold Node.standstill
  extract_lets was _ x y
  have hx : m.KeepsCourse x := h.of_same (by rfl)
  have hy : m.KeepsCourse y := hx.setSpeed
  exact .ite hy (hy.event.foldl fun _ _ g => g.engineStop)

theorem shaftFrame (h : m.KeepsCourse n) : m.KeepsCourse n.shaftFrame := h.foldl fun n i g => by
  extract_lets mode x now y q z t a b
  have hx : m.KeepsCourse x := g.setI
  have hy : m.KeepsCourse y := by
    unfold y
    refine .ite hx (.ite hx.standstill ?_)
    split
    · exact .ite (.ite hx.setSpeed hx) hx
    · exact hx
  exact .ite hx hy.setI.toFrame.toFrame.toFrame

theorem canFlags (h : m.KeepsCourse n) {c : Nat} : m.KeepsCourse (n.canFlags c) := h.setI.setI.setI

theorem setCanState (h : m.KeepsCourse n) {c st : Nat} : m.KeepsCourse (n.setCanState c st) := h.setI.canFlags

theorem canDropSends (h : m.KeepsCourse n) {c code : Nat} : m.KeepsCourse (n.canDropSends c code) :=
  h.setCan.foldl fun _ _ g => g.complete.foldl fun _ _ g => g.complete

theorem canToListen (h : m.KeepsCourse n) : m.KeepsCourse n.canToListen :=
  h.foldl fun _ _ g => .ite g.canDropSends.setCanState g

theorem canConfine (h : m.KeepsCourse n) {c tec : Nat} : m.KeepsCourse (n.canConfine c tec) := by
  unfold Node.canConfine
  exact .ite h.canDropSends.setCan.setCanState.setI.event.fault
    (.ite h.setCanState.event.fault (.ite h.setCanState h.canFlags))

theorem canToActive (h : m.KeepsCourse n) : m.KeepsCourse n.canToActive :=
  h.foldl fun _ _ g => .ite g.setCanState.canConfine g

theorem canStart (h : m.KeepsCourse n) {c : Nat} : m.KeepsCourse (n.canStart c) := by
  unfold Node.canStart
  exact .ite h.setCan.setI.setCan.setCanState h.setCan.setI.setCanState

theorem canRestartAll (h : m.KeepsCourse n) : m.KeepsCourse n.canRestartAll := h.foldl fun _ _ g => .ite g.canStart g

/-! ## The mode boundary (R467) -/

theorem setRole (h : m.KeepsCourse n) {r : Nat} : m.KeepsCourse (n.setRole r) := h.ite h.setI.irqAll

/-- A mirror that starts anew has nothing to replay. -/
theorem syncStart (h : m.KeepsCourse n) : m.KeepsCourse n.syncStart := h.trans ⟨rfl, fun _ => rfl⟩

theorem holdOwn (h : m.KeepsCourse n) {wait : Option Nat} : m.KeepsCourse (n.holdOwn wait) := by
  unfold Node.holdOwn
  extract_lets x y
  have hy : m.KeepsCourse y := (setRole (h.setTwin rfl)).setI
  split
  · exact hy
  · exact .ite hy.stageEnable hy

theorem claimOwn (h : m.KeepsCourse n) {cause : Nat} : m.KeepsCourse (n.claimOwn cause) := by
  unfold Node.claimOwn
  exact holdOwn (h.setTwin rfl)

theorem dropOwn (h : m.KeepsCourse n) : m.KeepsCourse n.dropOwn := by
  unfold Node.dropOwn
  extract_lets x
  have hx : m.KeepsCourse x := (stageDisable (h.setTwin rfl)).setI
  exact .ite (.ite hx.sendTwinHeartbeat hx) h

theorem commissionOwn (h : m.KeepsCourse n) {cause : Nat} : m.KeepsCourse (n.commissionOwn cause) := by
  unfold Node.commissionOwn
  exact .ite (.ite h h.claimOwn) (h.whenOn h.dropOwn.canToListen).setRole

theorem enterMode (h : m.KeepsCourse n) {mode cause : Nat} : m.KeepsCourse (n.enterMode mode cause) := by
  unfold Node.enterMode
  extract_lets old anew x y z w v
  have hy : m.KeepsCourse y := h.setI.setI.setI.fault.irqAll
  have hz : m.KeepsCourse z := .ite hy.setI hy
  have hw : m.KeepsCourse w := .ite hy.setI.commissionOwn (.ite hz.dropOwn.setRole.syncStart.canToListen (.ite hy hy.claimOwn))
  have hv : m.KeepsCourse v := .ite hw.raiseAll hw
  exact .ite hv.holdSafe hv

theorem reactionBoundary (h : m.KeepsCourse n) : m.KeepsCourse n.reactionBoundary.1 := by
  unfold Node.reactionBoundary
  extract_lets mode _ done
  have hd : m.KeepsCourse done := h.of_same (by rfl)
  clear_value done
  split
  · exact enterMode (mode := 7) (cause := 0x31) hd
  · split
    · exact enterMode (mode := 6) (cause := 0x30) hd
    · exact hd

theorem propose (h : m.KeepsCourse n) {close cause : Nat} : m.KeepsCourse (n.propose close cause) := twinSend (h.setTwin rfl)

theorem verdigrisHandover (h : m.KeepsCourse n) {num : Nat} : m.KeepsCourse (n.verdigrisHandover num) := by
  unfold Node.verdigrisHandover
  extract_lets _ done
  have hd : m.KeepsCourse done := h.of_same (by rfl)
  exact .ite hd (.ite hd.enterMode (.ite hd.propose hd))

theorem roleDecide (h : m.KeepsCourse n) {cause : Nat} : m.KeepsCourse (n.roleDecide cause) := by
  unfold Node.roleDecide
  extract_lets _ x _
  have hx : m.KeepsCourse x := h.of_same (by rfl)
  exact .ite hx.enterMode (.ite hx.enterMode (.ite hx.enterMode (hx.of_same (by rfl))))

theorem railsWanted (h : m.KeepsCourse n) : m.KeepsCourse n.railsWanted := .ite (h.of_same (by rfl)) h

theorem resumeVats (h : m.KeepsCourse n) : m.KeepsCourse n.resumeVats := by
  unfold Node.resumeVats
  exact (h.foldl fun _ _ g => .ite g.setI.setVat g).foldl fun _ _ g => .ite g.setI g

theorem resumeFns (h : m.KeepsCourse n) : m.KeepsCourse n.resumeFns := by
  unfold Node.resumeFns
  extract_lets fns _ cleared a b c d e
  have ha : m.KeepsCourse a := h.of_same (by rfl)
  have hb : m.KeepsCourse b := ha.whenOn ha.sepRefresh
  have hc : m.KeepsCourse c := hb.whenOn hb.railsWanted
  have hd : m.KeepsCourse d := hc.whenOn hc.canRestartAll
  have he : m.KeepsCourse e := hd.whenOn hd.resumeVats
  exact he.whenOn he.annRefreshAll

theorem modeApply (h : m.KeepsCourse n) {num v : Nat} : m.KeepsCourse (n.modeApply num v) := by
  unfold Node.modeApply
  exact .ite h.setI (.ite (.ite h (enterMode (h.of_same (by rfl)))) (.ite (.ite h.roleDecide (.ite h.propose (.ite h.resumeFns.enterMode h)))
    (.ite (.ite h h.propose) (.ite h.setI (.ite h h.enterMode)))))

theorem modeBoundary (h : m.KeepsCourse n) {num : Nat} : m.KeepsCourse (n.modeBoundary num) := by
  unfold Node.modeBoundary
  have hr : m.KeepsCourse n.reactionBoundary.1 := h.reactionBoundary
  exact .ite h (foldl (fun _ _ g => g.modeApply) (of_same (.ite hr hr.verdigrisHandover) (by rfl)))

end Node.KeepsCourse

end Sys2Proof.Machine
end

section
/-!
SUPPORT. The close of a frame (R212 to R215): its evaluation takes the commands that wait and the actions that are due, and
everything else leaves the course of the frames alone.
-/
namespace Sys2Proof.Machine

/-! ## The steps that change the course -/

/-- The counts are brought up to date: no frame is missed. -/
theorem Node.catchUp_course (n : Node) : ({ n with frame := { n.frame with missed := 0 } }).KeepsCourse n.catchUp := by
  unfold Node.catchUp
  extract_lets f k points areas g
  have hp : n.KeepsCourse areas := .foldl (fun _ _ g => g.setArea) (.of_same (.refl n) (by rfl))
  split
  · next h => exact ⟨congrArg (fun j => (n.now, n.frame.num, n.frame.lastClose, n.frame.lastAt, j, n.frame.ops, n.frame.sched)) h, id⟩
  · have hc := hp.course
    simp only [Node.course, Prod.mk.injEq] at hc
    obtain ⟨hnow, hnum, hclose, hat, -, hops, hsched⟩ := hc
    exact ⟨by simp only [Node.course, f, g, hnow, hnum, hclose, hat, hops, hsched], hp.replay⟩

/-- The actions that are due leave the schedule (R244). -/
theorem Node.runSchedule_course (n : Node) (tk : Nat) :
    ({ n with frame := { n.frame with sched := n.frame.sched.filter fun e => decide (tk < e.2.when_) } }).KeepsCourse (n.runSchedule tk) :=
  by
  unfold Node.runSchedule
  exact .foldl (fun _ _ g => .opApply (.ite g.setI g)) (.refl _)

/-- The commands that wait are applied, and wait no more (R213). -/
theorem Node.runOps_course (n : Node) (tk : Nat) : ({ n with frame := { n.frame with ops := [] } }).KeepsCourse (n.runOps tk) :=
  .foldl (fun _ _ g => g.opApply) (.refl _)

/-- What the evaluation makes of the course: no frame missed, no command that waits, and no action that was due. -/
def Node.evaluated (n : Node) (tk : Nat) : Node :=
  { n with frame := { n.frame with missed := 0, ops := [], sched := n.frame.sched.filter fun e => decide (tk < e.2.when_) } }

theorem Node.KeepsCourse.evaluated {n c r k o : Node} {tk : Nat} (hc : ({ n with frame := { n.frame with missed := 0 } }).KeepsCourse c)
    (hr : c.KeepsCourse r)
    (hk : ({ r with frame := { r.frame with sched := r.frame.sched.filter fun e => decide (tk < e.2.when_) } }).KeepsCourse k)
    (ho : ({ k with frame := { k.frame with ops := [] } }).KeepsCourse o) : (n.evaluated tk).KeepsCourse o := by
  refine ⟨?_, fun e => ho.replay (hk.replay (hr.replay (hc.replay e)))⟩
  have h1 := hc.course
  have h2 := hr.course
  have h3 := hk.course
  have h4 := ho.course
  simp only [Node.course, Prod.mk.injEq] at h1 h2 h3 h4
  simp only [Node.course, h4, h3, h2, h1, Node.evaluated]

theorem Node.evaluate_course (n : Node) (tk : Nat) (closed firsts : List (Nat × Reading)) :
    (n.evaluated tk).KeepsCourse (n.evaluate tk closed firsts) := by
  unfold Node.evaluate
  extract_lets caught f restarted ran evaluated grouped _
  have hr : caught.KeepsCourse restarted.areasTick := (Node.KeepsCourse.foldl (fun _ _ g => g.restartPoint) (.refl caught)).areasTick
  have ho : (n.evaluated tk).KeepsCourse ran := .evaluated n.catchUp_course hr (Node.runSchedule_course _ tk) (Node.runOps_course _ tk)
  have he : (n.evaluated tk).KeepsCourse evaluated := ho.foldl fun _ _ g => g.evalPoint
  have hg : (n.evaluated tk).KeepsCourse grouped := he.foldl fun _ _ g => g.groupStep
  clear_value grouped
  exact .areasStep (hg.of_same (by rfl))

/-! ## The frame -/

/-- The node with frame `num` closed at `tk`. -/
def Node.closedAt (n : Node) (num tk : Nat) : Node :=
  { n with frame := { n.frame with num := num, started := true, lastClose := tk, lastAt := n.now, stepped := false } }

/-- What the frame's work makes of the course. To compare what follows the drawing, the delivery and the publication the
kernel would evaluate these three: so the work is unfolded as a function, and they stand for any functions that keep the
course (`id` holds that general statement). -/
theorem Node.frameDo_course (n : Node) (num tk : Nat) (closed firsts : List (Nat × Reading)) :
    ((n.closedAt num tk).evaluated tk).KeepsCourse (n.frameDo num tk closed firsts) := by
  suffices h : ∀ work, work = Node.frameDo → ((n.closedAt num tk).evaluated tk).KeepsCourse (work n num tk closed firsts) from h _ rfl
  intro work hw
  delta Node.frameDo at hw
  subst hw
  beta_reduce
  have he := (n.closedAt num tk).evaluate_course tk closed firsts
  generalize (n.closedAt num tk).evaluated tk = m at he ⊢
  have hdraw {k : Node} (h : m.KeepsCourse k) : m.KeepsCourse (Node.draw k).2 := h.draw
  have hrecs {k : Node} (h : m.KeepsCourse k) : m.KeepsCourse (Node.deliverRecs k num tk).2 := h.deliverRecs
  have hpub {k : Node} (h : m.KeepsCourse k) : m.KeepsCourse (Node.publish k tk).2 := h.publish
  revert hdraw hrecs hpub
  generalize Node.draw = draw, Node.deliverRecs = recs, Node.publish = pub
  revert draw recs pub
  refine id fun draw recs pub hdraw hrecs hpub => ?_
  have hon {k : Node} (h : m.KeepsCourse k) : m.KeepsCourse (if k.twin.own then k.canToActive else k) := .ite h.canToActive h
  exact .sendImage (.annFrame (.repeatFrame (.loopsFrame (.shaftFrame (hon (.modeBoundary (.sendFrame (.sendCalls
    (hpub (hrecs (hdraw he).setI.setI))))))))))

/-- The owner's Close message. -/
theorem Node.KeepsCourse.sendContinuations {m n : Node} (h : m.KeepsCourse n) {num first : Nat} {parts : List (List (List Byte))} :
    m.KeepsCourse (n.sendContinuations num first parts) := by
  induction parts generalizing n first with
  | nil => exact h
  | cons c cs ih => exact ih h.twinSend

theorem Node.KeepsCourse.sendClose {m n : Node} (h : m.KeepsCourse n) {num tk : Nat} : m.KeepsCourse (n.sendClose num tk) :=
  .ite (h.setTwin rfl).twinSend.sendContinuations (h.setTwin rfl)

/-! ## The node's own close -/

/-- A frame that is due closes (R212). -/
theorem Node.ownClose_due {n : Node} (hv : n.copyValid isleFrame = true) (hm : n.mirrors = false) (ha : n.twin.agreed = none)
    (hs : n.frame.started = true) (hd : n.nextClose ≤ n.copy isleFrame) :
    ((n.closedAt ((n.frame.num + 1) % 2 ^ 64) n.nextClose).evaluated n.nextClose).KeepsCourse n.ownClose := by
  have hh : n.handoverClose ((n.frame.num + 1) % 2 ^ 64) = n := by unfold Node.handoverClose; rw [ha]
  unfold Node.ownClose
  simp only [hv, hs, hm, hh, if_true, Bool.not_true, Bool.false_eq_true, if_false, Bool.false_and, Nat.not_lt.mpr hd]
  have hc := (Node.KeepsCourse.refl n).sendClose (num := (n.frame.num + 1) % 2 ^ 64) (tk := n.nextClose)
  generalize n.sendClose ((n.frame.num + 1) % 2 ^ 64) n.nextClose = k at hc
  refine .trans (n := (Node.closedAt { k with input := [], inputFirst := [] } ((n.frame.num + 1) % 2 ^ 64) n.nextClose).evaluated n.nextClose)
    ⟨?_, hc.replay⟩ (Node.frameDo_course ..)
  have e := hc.course
  simp only [Node.course, Prod.mk.injEq] at e
  simp only [Node.course, Node.evaluated, Node.closedAt, e]

theorem Node.ownClose_early {n : Node} (hv : n.copyValid isleFrame = true) (hs : n.frame.started = true)
    (hd : n.copy isleFrame < n.nextClose) : n.ownClose = n := by
  unfold Node.ownClose
  simp only [hv, hs, hd, if_true, Bool.not_true, Bool.false_eq_true, if_false]

theorem Node.ownClose_missed {n : Node} (hv : n.copyValid isleFrame = false) (hd : n.frame.lastAt + n.framePeriod ≤ n.now) :
    n.ownClose = n.missClose := by
  unfold Node.ownClose
  simp only [hv, hd, if_true, Bool.not_false]

theorem settle_frame (s : State) : (settle s).node.frame = s.node.frame := (congrArg Node.frame (settle_calms s).1 :)

/-- Settles O40: what the close makes of the course (`Node.frameDo_course`), and the close that is not due or missed. -/
theorem framesClose : Obligations.FramesClose := by
  intro s dt hup hs u
  have hsu : u.frame.started = true := hs
  have he : exec (.frameClose dt) s = actDone dt s fun n => n.whenUp Node.ownClose := rfl
  refine ⟨fun hv hm ha hd => answers_whenUp hup he ?_, fun hv _ hd => ?_, fun hv hd => ?_⟩
  · have hc := (Node.ownClose_due hv hm ha hsu hd).course
    simp only [Node.course, Node.evaluated, Node.closedAt, Prod.mk.injEq] at hc
    obtain ⟨-, hnum, hclose, hat, hmissed, hops, hsched⟩ := hc
    rw [settle_frame]
    refine ⟨rfl, hnum, hclose, hat, hops, hmissed, fun e hm => ?_⟩
    dsimp only at hm
    rw [hsched] at hm
    exact of_decide_eq_true (List.mem_filter.mp hm).2
  · have ho : u.ownClose = u := Node.ownClose_early hv hsu hd
    rw [he, actDone_whenUp hup, settle_of_done (congrArg (fun n => n.eng.done) ho)]
    exact congrArg (fun n => Host.Outcome.next { s with node := n }) ho
  · have ho : u.ownClose = u.missClose := Node.ownClose_missed hv hd
    have hx : exec (.frameClose dt) s = .next { s with node := u.missClose } := by
      rw [he, actDone_whenUp hup, settle_of_done (congrArg (fun n => n.eng.done) ho)]
      exact congrArg (fun n => Host.Outcome.next { s with node := n }) ho
    exact ⟨_, hx, ⟨rfl, rfl⟩, rfl, Node.oi_setI_self .., rfl, (SameObjects.refl u _).setI (by simp)⟩

end Sys2Proof.Machine
end

section
/-!
SUPPORT. The mirror (R331, R333, R335): what a message taken from the link brings, what a Close of the owner leaves, and the
answers to commands passed on.
-/
namespace Sys2Proof.Machine

/-! ## Messages of the link (R325) -/

/-- The sequence number of a message is noted. -/
def Node.noted (n : Node) (type seq : Nat) : Node := n.setTwin fun t => { t with seqIn := mapPut t.seqIn type ((seq + 1) % 2 ^ 32) }

/-- A message is taken on a link that is up; only its sequence number is noted. -/
theorem Node.linkTake_eq {n : Node} {type seq : Nat} (h : (n.linkTake type seq true).1 = true) :
    n.linkUp = true ∧ n.linkTake type seq true = (true, n.noted type seq) := by
  unfold Node.linkTake at h ⊢
  cases hl : n.linkUp with
  | false => simp [hl] at h
  | true =>
    simp only [hl, Bool.not_true, Bool.or_self, Bool.false_eq_true, if_false] at h ⊢
    refine ⟨trivial, Prod.ext h ?_⟩
    split <;> rfl

theorem Node.twinMsg_taken {n : Node} {type seq : Nat} (h : (n.linkTake type seq true).1 = true) (f : Node → Node) :
    n.twinMsg type seq true f = f (n.noted type seq) := by
  unfold Node.twinMsg
  rw [(Node.linkTake_eq h).2]
  rfl

theorem Node.mirrorMsg_taken {n : Node} {type seq : Nat} {crcOk : Bool} (h : (n.linkTake type seq true).1 = true) (hc : crcOk = true)
    (hm : n.mirrors = true) (f : Node → Node) : n.mirrorMsg type seq crcOk f = f (n.noted type seq) := by
  obtain ⟨hl, e⟩ := Node.linkTake_eq h
  have hm' : (n.noted type seq).mirrors = true := hm
  unfold Node.mirrorMsg
  rw [hc, e, hl]
  exact if_pos hm'

/-! ## Readings -/

theorem Node.mirrorReadings_succ (n : Node) {bs : List Byte} (h : 24 ≤ bs.length) (k : Nat) :
    n.mirrorReadings bs (k + 1) = (n.mirrorReading (bs.take 24)).mirrorReadings (bs.drop 24) k := if_neg (Nat.not_lt.mpr h)

/-- A Readings message of `k + 1` readings: the last one stands, and no object changes. -/
theorem Node.mirrorReadings_last {k : Nat} (n : Node) {bs : List Byte} (h : bs.length = 24 + 24 * k) :
    (n.mirrorReadings bs (k + 1)).od = n.od ∧ (let r := bs.drop (24 * k)
      mapGet (n.mirrorReadings bs (k + 1)).twin.rx (srcKey (fieldLE r 0 1) (fieldLE r 4 4)) {}
        = { value := fieldLE r 8 4, q := fieldLE r 12 1, time := fieldLE r 16 8 }) := by
  rw [n.mirrorReadings_succ (by omega)]
  induction k generalizing n bs with
  | zero =>
    rw [List.take_of_length_le (by omega)]
    exact ⟨rfl, mapGet_mapPut_self ..⟩
  | succ k ih =>
    have hd : (bs.drop 24).length = 24 + 24 * k := by rw [List.length_drop]; omega
    have hr : (bs.drop 24).drop (24 * k) = bs.drop (24 * (k + 1)) := by rw [List.drop_drop]; congr 1; omega
    rw [Node.mirrorReadings_succ _ (by omega), ← hr]
    exact ih (n.mirrorReading (bs.take 24)) hd

/-! ## The owner's frames -/

namespace Node.KeepsCourse
variable {m n : Node}

theorem mirrorOutputs (h : m.KeepsCourse n) {control : Nat} {setpoint : List Nat} : m.KeepsCourse (n.mirrorOutputs control setpoint) := by
  unfold Node.mirrorOutputs
  exact (h.foldl fun _ _ g => g.setI).foldl fun _ _ g => .ite g g.setI.setLoop

theorem setRecord (h : m.KeepsCourse n) {p : Nat} {r : List Byte} : m.KeepsCourse (n.setRecord p r) := h.foldl fun _ _ g => g.setI

theorem countDisagreements (h : m.KeepsCourse n) : m.KeepsCourse n.countDisagreements := .ite h h.setI

theorem handoverVoid (h : m.KeepsCourse n) {num : Nat} : m.KeepsCourse (n.handoverVoid num) := by
  unfold Node.handoverVoid
  split
  · exact .ite (h.setTwin rfl) h
  · exact h

end Node.KeepsCourse

theorem Node.KeepsCourse.num {m n : Node} (h : m.KeepsCourse n) : n.frame.num = m.frame.num := (Prod.mk.inj (Prod.mk.inj h.course).2).1

/-- What the owner's records frame: the frame's work between them. -/
theorem Node.withOwnerCfg_frameDo (n : Node) (num tk : Nat) (closed firsts : List (Nat × Reading)) :
    ∃ k, n.KeepsCourse k ∧ ((k.closedAt num tk).evaluated tk).KeepsCourse (n.withOwnerCfg fun n => n.frameDo num tk closed firsts) := by
  unfold Node.withOwnerCfg
  split
  · exact ⟨n, .refl n, n.frameDo_course num tk closed firsts⟩
  · exact ⟨_, .foldl (fun _ _ g => g.setRecord) (.refl n), .foldl (fun _ _ g => g.setRecord) (Node.frameDo_course ..)⟩

theorem Node.mirrorCmd_twin (n : Node) (tk : Nat) (bs : List Byte) : (n.mirrorCmd tk bs).twin = n.twin := by
  unfold Node.mirrorCmd
  extract_lets kind entry c
  split
  · rfl
  · split <;> rfl

/-- A frame of the owner is evaluated under its number, and leaves nothing to replay where nothing was. -/
theorem Node.mirrorClose_leaves (n : Node) (c : CloseMsg) (rx rxFirst : List (Nat × Reading)) :
    (n.mirrorClose c rx rxFirst).frame.num = c.num ∧ (n.twin.replay = [] → (n.mirrorClose c rx rxFirst).twin.replay = []) := by
  unfold Node.mirrorClose
  extract_lets shown led held told read ready
  have hr : n.twin.replay = [] → ready.twin.replay = [] := fun e => by
    have hl : n.KeepsCourse led := .ite (Node.KeepsCourse.refl n).mirrorOutputs.setI (Node.KeepsCourse.refl n).mirrorOutputs
    have ht : told.twin = held.twin := foldl_keeps (g := Node.twin) (fun k b => k.mirrorCmd_twin c.tclose b) ..
    refine (Node.KeepsCourse.refl _).countDisagreements.replay ?_
    exact (congrArg TwinSt.replay ht).trans (hl.replay e)
  obtain ⟨k, hk, hf⟩ := ready.withOwnerCfg_frameDo c.num c.tclose rx rxFirst
  have hv := hf.handoverVoid (num := c.num)
  exact ⟨hv.num, fun e => hv.replay (hk.replay (hr e))⟩

/-- The Close that a message of the owner spells (Table 11-3). -/
def closeOf (b : List Byte) : CloseMsg := {
  num := fieldLE b 0 8
  tclose := fieldLE b 8 8
  sent := fieldLE b 16 8
  mode := fieldLE b 24 1
  ncmd := fieldLE b 26 2
  control := fieldLE b 28 4
  setpoint := (List.range 16).map (fun i => fieldLE b (32 + 2 * i) 2)
  cmds := chunks 24 168 (b.drop 64) }

theorem Node.takeClose_eq (n : Node) (b : List Byte) : n.takeClose b = n.closePart (closeOf b) := rfl

/-- Outside SYNC a Close that is complete waits for the replay, with the readings before it. -/
theorem Node.closePart_waits {n : Node} {c : CloseMsg} (hc : c.ncmd ≤ c.cmds.length) (hs : n.syncState ≠ 3) :
    n.closePart c = n.setTwin fun t => { t with rx := [], rxFirst := [], close := none, replay := t.replay ++ [(c, t.rx, t.rxFirst)] } := by
  unfold Node.closePart
  rw [if_pos hc]
  exact if_neg hs

/-- In SYNC the Close of the next frame closes it. -/
theorem Node.closePart_closes {n : Node} {c : CloseMsg} (hc : c.ncmd ≤ c.cmds.length) (hs : n.syncState = 3)
    (hn : c.num = (n.frame.num + 1) % 2 ^ 64) : (n.closePart c).frame.num = c.num := by
  have e : n.closePart c = (n.setTwin fun t => { t with rx := [], rxFirst := [], close := none }).mirrorClose c n.twin.rx n.twin.rxFirst := by
    unfold Node.closePart
    rw [if_pos hc]
    exact (if_pos hs).trans (if_pos hn)
  rw [e]
  exact (Node.mirrorClose_leaves ..).1

/-- Frame after frame, the replay leaves nothing to replay. -/
theorem Node.replayed_replay (l : List (CloseMsg × List (Nat × Reading) × List (Nat × Reading))) {n : Node} (h : n.twin.replay = []) :
    (l.foldl (fun (n : Node) e => if e.1.num = (n.frame.num + 1) % 2 ^ 64 then n.mirrorClose e.1 e.2.1 e.2.2 else n) n).twin.replay = [] := by
  induction l generalizing n with
  | nil => exact h
  | cons e r ih =>
    refine ih ?_
    dsimp only
    split
    · exact (n.mirrorClose_leaves e.1 e.2.1 e.2.2).2 h
    · exact h

/-- A mirror that is lost is in no sync state, and one that is not in SYNC is none to lose. -/
theorem Node.mirrorLost_leaves {n : Node} (hs : n.syncState = 3) :
    n.mirrorLost.syncState = 0 ∧ n.mirrorLost.twin.replay = [] := by
  have h : [1, 2, 3].contains n.syncState = true := by rw [hs]; rfl
  unfold Node.mirrorLost Node.syncLostTwin
  rw [if_pos hs, if_pos h]
  exact ⟨Node.oi_setI_self (Node.mirrorClear { n with srcLast := n.twin.ownLast }) 0 0x2400 0x0A 0, rfl⟩

/-- The replay ends in SYNC, or without it where a frame is missing (R335). -/
theorem Node.replayDone_leaves {n : Node} (h : n.syncState = 2) : (n.replayDone.syncState = 3 ∨ n.replayDone.syncState = 0)
    ∧ n.replayDone.twin.replay = [] ∧ (n.twin.replay = [] → n.replayDone.syncState = 3) := by
  unfold Node.replayDone
  rw [if_neg (by rw [h]; decide)]
  extract_lets kept cleared replayed synced
  have hr : synced.twin.replay = [] := Node.replayed_replay kept (n := cleared) rfl
  have hs : synced.syncState = 3 := Node.oi_setI_self ..
  clear_value synced
  split
  · next e he =>
    have hk : n.twin.replay ≠ [] := fun e => by simp [kept, e] at he
    obtain ⟨hl, hlr⟩ := Node.mirrorLost_leaves hs
    split
    · exact ⟨.inr hl, hlr, fun e => absurd e hk⟩
    · exact ⟨.inl hs, hr, fun _ => hs⟩
  · exact ⟨.inl hs, hr, fun _ => hs⟩

theorem Node.loadReading_points (n : Node) (k v q t : Nat) : (n.loadReading k v q t).points = n.points := by
  unfold Node.loadReading
  split <;> rfl

/-- A point of the owner's image; what this node sent and kept of it stays. -/
theorem Node.loadBlock_point (n : Node) (x : PointImage) : (n.loadBlock (.point x)).pt x.point
    = { pointOf x with sent := (n.pt x.point).sent, kept := (n.pt x.point).kept } := by
  have hp : (n.loadBlock (.point x)).points
      = (n.setPt x.point { pointOf x with sent := (n.pt x.point).sent, kept := (n.pt x.point).kept }).points := by
    simp only [Node.loadBlock, Node.setTwin_points, Node.loadReading_points, Node.setI_points]
  unfold Node.pt
  rw [hp]
  exact Node.pt_setPt_self ..

/-! ## Commands passed on (R245, R333) -/

/-- Over a link that is up a message goes out. -/
theorem Node.twinSend_up {n : Node} (h : n.linkUp = true) (type : Nat) (body : List Byte) :
    ∃ x bs, n.twinSend type body = { n with twin := { n.twin with seqOut := x }, out := n.out ++ [.twin type bs] } := by
  unfold Node.twinSend
  rw [if_pos h]
  exact ⟨_, _, rfl⟩

/-- The check of an operator command does not ask for sequence numbers. -/
theorem Node.operatorJudge_noted (n : Node) (type seq : Nat) (m : Master) (data : List Byte) :
    (n.noted type seq).writeJudge m 0x6000 0x08 data = n.writeJudge m 0x6000 0x08 data := by
  have hx : (n.noted type seq).indexExists 0x6000 = n.indexExists 0x6000 := rfl
  have hr : (n.noted type seq).rowFor 0x6000 0x08 = n.rowFor 0x6000 0x08 := rfl
  have ho : (n.noted type seq).ownerWrite m = n.ownerWrite m := rfl
  have hw : (n.noted type seq).ownerMask m 0x6000 0x08 = n.ownerMask m 0x6000 0x08 := rfl
  have hs : (n.noted type seq).specific m 0x6000 0x08 = n.specific m 0x6000 0x08 := rfl
  have hm : (n.noted type seq).modeWrite = n.modeWrite := rfl
  have hc : ¬ canonIdx 0x6000 = 0xF000 := by decide
  unfold Node.writeJudge Node.writeCode
  rw [hx, hr, ho, hw, hs, hm, if_neg hc, if_neg hc]

/-- What an owner makes of a passed command: it enters the frame where it is accepted, and its code goes back. -/
theorem Node.commandAsked_eq {n : Node} {record : List Byte} {m : Master} (hk : n.keeperUp = true) (hm : n.curMode ≠ 5)
    (hl : n.linkUp = true) : ∃ x bs, n.commandAsked record m = { n with twin := x, out := n.out ++ [.twin 5 bs], frame :=
      (if n.writeJudge m 0x6000 0x08 (padTo 16 record) = 0 then n.opFrame (padTo 16 record) else n.frame) } := by
  obtain ⟨y, hy⟩ := n.opServe_eq m (padTo 16 record)
  have hup : ({ n with twin := y, frame := n.opFrame (padTo 16 record) } : Node).linkUp = true := hl
  unfold Node.commandAsked
  rw [hk, if_neg hm]
  by_cases hc : n.writeJudge m 0x6000 0x08 (padTo 16 record) = 0
  · obtain ⟨x, bs, e⟩ := Node.twinSend_up hup 0x05 (toLE 2 0)
    refine ⟨{ y with seqOut := x }, bs, ?_⟩
    simp only [hc, if_true, Bool.not_true, Bool.false_eq_true, if_false, hy]
    exact e
  · obtain ⟨x, bs, e⟩ := Node.twinSend_up hl 0x05 (toLE 2 (n.writeJudge m 0x6000 0x08 (padTo 16 record)))
    refine ⟨{ n.twin with seqOut := x }, bs, ?_⟩
    simp only [hc, if_false, Bool.not_true, Bool.false_eq_true]
    exact e

/-- Answering many keeps what answering keeps; an answer to a master on its own transport goes out. -/
theorem Node.answerAll_sends (code : Nat) {c : PassedCmd} (hv : c.via = .direct) {l : List PassedCmd} (hc : c ∈ l) (n : Node) :
    Out.reply c.master code [] ∈ (l.foldl (fun (n : Node) c => n.answerTo (c.master, c.via) code) n).out := by
  induction l generalizing n with
  | nil => exact absurd hc List.not_mem_nil
  | cons d l ih =>
    rcases List.mem_cons.mp hc with rfl | h
    · have hall := Node.calms_foldl (fun (n : Node) (c : PassedCmd) => n.answerTo (c.master, c.via) code) (fun n c => n.calms_answerTo _ code) l
      refine (hall (n.answerTo (c.master, c.via) code)).2.2 _ ?_
      rw [hv]
      exact List.mem_append_right _ (List.mem_singleton_self _)
    · exact ih h _

/-! ## The statement -/

section
variable {s : State} {dt : Nat}

/-- A command that may complete descriptors and completes none. -/
theorem answers_actDoneUp {i : Instr} {f : Node → Node} {k : Node} {P : State → Prop} (hup : s.node.up = true)
    (he : exec i s = actDone dt s fun n => n.whenUp f) (hk : f (s.at_ dt) = k) (hd : k.eng.done = []) (h : P { s with node := k }) :
    Answers i s P :=
  ⟨_, he.trans ((actDone_whenUp hup).trans (congrArg Host.Outcome.next (by rw [hk]; exact settle_of_done hd))), h⟩

variable (hup : s.node.up = true)
include hup

theorem readings_wait {g : LinkMsg} {k : Nat} (ht : ((s.at_ dt).linkTake 2 g.seq.toNat true).1 = true) (hc : g.crcOk = true)
    (hm : (s.at_ dt).mirrors = true) (hl : g.body.length = 28 + 24 * k) : Answers (.readings dt g) s fun t => Rests s t
    ∧ t.node.od = s.node.od ∧ (let r := g.body.drop (4 + 24 * k)
      mapGet t.node.twin.rx (srcKey (fieldLE r 0 1) (fieldLE r 4 4)) {} = { value := fieldLE r 8 4, q := fieldLE r 12 1, time := fieldLE r 16 8 }) := by
  refine answers_actUp hup rfl ⟨⟨rfl, rfl⟩, ?_⟩
  dsimp only
  have hb : (g.body.drop 4).length = 24 + 24 * k := by rw [List.length_drop]; omega
  have hn : g.body.length / 24 = k + 1 := by omega
  rw [Node.mirrorMsg_taken ht hc hm, hn, ← List.drop_drop]
  exact Node.mirrorReadings_last _ hb

theorem close_follows {g : LinkMsg} (ht : ((s.at_ dt).linkTake 3 g.seq.toNat true).1 = true) (hc : g.crcOk = true)
    (hm : (s.at_ dt).mirrors = true) (hn : fieldLE g.body 26 2 ≤ (chunks 24 168 (g.body.drop 64)).length) :
    ((s.at_ dt).syncState = 3 → fieldLE g.body 0 8 = ((s.at_ dt).frame.num + 1) % 2 ^ 64 → Answers (.close dt g) s fun t => t.pending = s.pending
      ∧ t.node.frame.num = ((s.at_ dt).frame.num + 1) % 2 ^ 64) ∧
    ((s.at_ dt).syncState ≠ 3 → Answers (.close dt g) s fun t => Rests s t ∧ t.node.od = s.node.od ∧ t.node.frame = (s.at_ dt).frame
      ∧ t.node.twin.rx = [] ∧ ∃ c, c.num = fieldLE g.body 0 8 ∧ c.tclose = fieldLE g.body 8 8
        ∧ t.node.twin.replay = (s.at_ dt).twin.replay ++ [(c, (s.at_ dt).twin.rx, (s.at_ dt).twin.rxFirst)]) := by
  have he : exec (.close dt g) s = actDone dt s fun n => n.whenUp fun n => n.mirrorMsg 3 g.seq.toNat g.crcOk fun n => n.takeClose g.body := rfl
  have hk : ((s.at_ dt).mirrorMsg 3 g.seq.toNat g.crcOk fun n => n.takeClose g.body) = ((s.at_ dt).noted 3 g.seq.toNat).closePart (closeOf g.body) :=
    (Node.mirrorMsg_taken ht hc hm _).trans (Node.takeClose_eq ..)
  refine ⟨fun hs hnum => answers_whenUp hup he ?_, fun hs => ?_⟩
  · rw [settle_frame]
    refine ⟨rfl, ?_⟩
    have hnext : (closeOf g.body).num = (((s.at_ dt).noted 3 g.seq.toNat).frame.num + 1) % 2 ^ 64 := hnum
    dsimp only
    rw [hk, Node.closePart_closes (n := (s.at_ dt).noted 3 g.seq.toNat) hn hs hnext]
    exact hnum
  · exact answers_actDoneUp hup he (hk.trans (Node.closePart_waits (c := closeOf g.body) hn hs)) rfl ⟨⟨rfl, rfl⟩, rfl, rfl, rfl, closeOf g.body, rfl, rfl, rfl⟩

theorem closeContinuation_follows {g : LinkMsg} {c : CloseMsg} (ht : ((s.at_ dt).linkTake 8 g.seq.toNat true).1 = true) (hc : g.crcOk = true)
    (hm : (s.at_ dt).mirrors = true) (hx : (s.at_ dt).twin.close = some c) (hn : fieldLE g.body 0 8 = c.num)
    (hf : fieldLE g.body 8 2 = c.cmds.length) :
    let all := c.cmds ++ chunks 24 170 (g.body.drop 16)
    (all.length < c.ncmd → Answers (.closeContinuation dt g) s fun t => Rests s t ∧ t.node.twin.close = some { c with cmds := all }) ∧
    (c.ncmd ≤ all.length → (s.at_ dt).syncState ≠ 3 → Answers (.closeContinuation dt g) s fun t => Rests s t ∧ t.node.twin.close = none
      ∧ t.node.twin.replay = (s.at_ dt).twin.replay ++ [({ c with cmds := all }, (s.at_ dt).twin.rx, (s.at_ dt).twin.rxFirst)]) ∧
    (c.ncmd ≤ all.length → (s.at_ dt).syncState = 3 → c.num = ((s.at_ dt).frame.num + 1) % 2 ^ 64 →
      Answers (.closeContinuation dt g) s fun t => t.pending = s.pending ∧ t.node.frame.num = c.num) := by
  intro all
  have he : exec (.closeContinuation dt g) s = actDone dt s fun n => n.whenUp fun n =>
    n.mirrorMsg 8 g.seq.toNat g.crcOk fun n => n.takeContinuation g.body := rfl
  have hk : ((s.at_ dt).mirrorMsg 8 g.seq.toNat g.crcOk fun n => n.takeContinuation g.body)
      = ((s.at_ dt).noted 8 g.seq.toNat).closePart { c with cmds := all } := by
    rw [Node.mirrorMsg_taken ht hc hm]
    have hx' : ((s.at_ dt).noted 8 g.seq.toNat).twin.close = some c := hx
    unfold Node.takeContinuation
    rw [hx']
    exact if_pos ⟨hn, hf⟩
  refine ⟨fun hl => ?_, fun hl hs => ?_, fun hl hs hnum => answers_whenUp hup he ?_⟩
  · exact answers_actDoneUp hup he (hk.trans (if_neg (Nat.not_le.mpr hl))) rfl ⟨⟨rfl, rfl⟩, rfl⟩
  · exact answers_actDoneUp hup he (hk.trans (Node.closePart_waits hl hs)) rfl ⟨⟨rfl, rfl⟩, rfl, rfl⟩
  · rw [settle_frame]
    refine ⟨rfl, ?_⟩
    dsimp only
    rw [hk]
    exact Node.closePart_closes hl hs hnum

theorem state_sets {seq : BitVec 32} {blocks : List TwinBlock} {b : TwinBlock} (ht : ((s.at_ dt).linkTake 4 seq.toNat true).1 = true)
    (hs : (s.at_ dt).syncState = 1) (hb : blocks.getLast? = some b) : Answers (.state dt seq true blocks) s fun t => Rests s t
    ∧ (∀ num : BitVec 64, b = .frame num → t.node.frame.num = num.toNat ∧ t.node.twin.loaded = true)
    ∧ (∀ y : AreaImage, b = .area y → (t.node.area y.area).holder = y.holder.toNat ∧ (t.node.area y.area).call = y.call.toNat)
    ∧ (∀ y : PointImage, b = .point y → (t.node.pt y.point).st = y.st.toNat ∧ (t.node.pt y.point).v = y.value.toNat)
    ∧ (∀ (e : Fin 256) rec_ late, b = .sched e rec_ late → mapGet t.node.frame.sched e {} = opOf rec_ late) := by
  obtain ⟨init, rfl⟩ := List.getLast?_eq_some_iff.mp hb
  refine answers_actUp hup rfl ⟨⟨rfl, rfl⟩, ?_⟩
  have hk : (s.at_ dt).twinMsg 4 seq.toNat true (fun n => n.takeState (init ++ [b]))
      = (init.foldl Node.loadBlock ((s.at_ dt).noted 4 seq.toNat)).loadBlock b := by
    rw [Node.twinMsg_taken ht]
    exact (if_pos hs).trans (List.foldl_concat ..)
  dsimp only
  rw [hk]
  generalize init.foldl Node.loadBlock ((s.at_ dt).noted 4 seq.toNat) = n
  refine ⟨?_, ?_, ?_, ?_⟩
  · rintro num rfl
    exact ⟨rfl, rfl⟩
  · rintro y rfl
    have e : (n.loadBlock (.area y)).area y.area = areaOf (n.area y.area.val) y := Node.area_setArea_self ..
    rw [e]
    exact ⟨rfl, rfl⟩
  · rintro y rfl
    rw [Node.loadBlock_point]
    exact ⟨rfl, rfl⟩
  · rintro e r late rfl
    exact mapGet_mapPut_self ..

theorem stateTransferDone_ends (hs : (s.at_ dt).syncState = 1) (hl : (s.at_ dt).twin.loaded = true) :
    Answers (.stateTransferDone dt) s fun t => Rests s t ∧ t.node.syncState = 2 ∧ SameObjects s.node t.node [key 0 0x2400 0x0A] := by
  have hk : (s.at_ dt).transferDone = (s.at_ dt).setSync 2 := if_pos ⟨hs, hl⟩
  refine answers_actUp hup rfl ⟨⟨rfl, rfl⟩, ?_⟩
  dsimp only
  rw [hk]
  exact ⟨Node.oi_setI_self .., (SameObjects.refl (s.at_ dt) _).setI (List.mem_singleton_self _)⟩

theorem replayDone_syncs (hs : (s.at_ dt).syncState = 2) : Answers (.replayDone dt) s fun t => t.pending = s.pending
    ∧ (t.node.syncState = 3 ∨ t.node.syncState = 0) ∧ t.node.twin.replay = []
    ∧ ((s.at_ dt).twin.replay = [] → t.node.syncState = 3) := by
  refine answers_whenUp hup rfl ?_
  rw [settle_syncState, settle_twin]
  exact ⟨rfl, Node.replayDone_leaves hs⟩

theorem commandAsk_judges {seq : BitVec 32} {record : List Byte} {m : Master} (ht : ((s.at_ dt).linkTake 5 seq.toNat true).1 = true)
    (hr : (s.at_ dt).mode.keeperReset = none) (hm : (s.at_ dt).curMode ≠ 5) :
    let code := (s.at_ dt).writeJudge m 0x6000 0x08 (padTo 16 record)
    Answers (.command dt seq true (.ask record m)) s fun t => Rests s t ∧ t.node.od = s.node.od ∧ (∃ bs, t.node.out = [.twin 5 bs])
      ∧ (code ≠ 0 → t.node.frame = (s.at_ dt).frame)
      ∧ (code = 0 → fieldLE (padTo 16 record) 8 8 = 0 → t.node.frame.ops.length = (s.at_ dt).frame.ops.length + 1)
      ∧ (code = 0 → fieldLE (padTo 16 record) 8 8 ≠ 0 → t.node.frame.ops = (s.at_ dt).frame.ops) := by
  intro code
  have hku : (s.at_ dt).keeperUp = true := by
    have hu : (s.at_ dt).up = true := hup
    simp only [Node.keeperUp, hu, hr, Option.isNone_none, Bool.and_self]
  have hj : ((s.at_ dt).noted 5 seq.toNat).writeJudge m 0x6000 0x08 (padTo 16 record) = code := Node.operatorJudge_noted ..
  obtain ⟨x, bs, e⟩ := Node.commandAsked_eq (n := (s.at_ dt).noted 5 seq.toNat) (record := record) (m := m) hku hm (Node.linkTake_eq ht).1
  rw [hj] at e
  have he : exec (.command dt seq true (.ask record m)) s
    = actDone dt s fun n => n.whenUp fun n => n.twinMsg 5 seq.toNat true fun n => n.commandAsked record m := rfl
  refine answers_actDoneUp hup he ((Node.twinMsg_taken ht fun n => n.commandAsked record m).trans e) rfl ⟨⟨rfl, rfl⟩, rfl, ⟨bs, rfl⟩, fun h => if_neg h, fun h hw => ?_, fun h hw => ?_⟩
  · dsimp only
    rw [if_pos h, Node.opFrame, if_pos hw]
    exact List.length_append
  · dsimp only
    rw [if_pos h, Node.opFrame, if_neg hw]
    rfl

theorem commandAnswer_answers {seq : BitVec 32} {code : BitVec 16} {c : PassedCmd} {rest : List PassedCmd}
    (ht : ((s.at_ dt).linkTake 5 seq.toNat true).1 = true) (hp : (s.at_ dt).twin.passed = c :: rest) :
    Answers (.command dt seq true (.answer code)) s fun t => t.pending = s.pending ∧ t.node.twin.passed = rest
      ∧ (c.via = .direct → Rests s t ∧ t.node.out = [.reply c.master code.toNat []]) := by
  let left := ((s.at_ dt).noted 5 seq.toNat).setTwin fun t => { t with passed := rest }
  have hk : (s.at_ dt).twinMsg 5 seq.toNat true (fun n => n.commandAnswered code.toNat) = left.answerTo (c.master, c.via) code.toNat := by
    have hp' : ((s.at_ dt).noted 5 seq.toNat).twin.passed = c :: rest := hp
    rw [Node.twinMsg_taken ht]
    unfold Node.commandAnswered
    rw [hp']
  have he : exec (.command dt seq true (.answer code)) s
    = actDone dt s fun n => n.whenUp fun n => n.twinMsg 5 seq.toNat true fun n => n.commandAnswered code.toNat := rfl
  have hx := he.trans (actDone_whenUp hup)
  rw [hk] at hx
  have htw : (left.answerTo (c.master, c.via) code.toNat).twin = left.twin := (congrArg Node.twin (left.calms_answerTo _ _).1 :)
  refine ⟨_, hx, rfl, ?_, fun hv => ?_⟩
  · rw [settle_twin]
    exact congrArg TwinSt.passed htw
  · rw [hv]
    rw [settle_of_done (s := { s with node := left.answerTo (c.master, .direct) code.toNat }) rfl]
    exact ⟨⟨rfl, rfl⟩, rfl⟩

theorem commandReplyTimeout_answers : Answers (.commandReplyTimeout dt) s fun t => t.pending = s.pending
    ∧ t.node.twin.passed = (s.at_ dt).twin.passed.filter (fun c => (s.at_ dt).linkUp && decide ((s.at_ dt).now < c.at_ + 1000000))
    ∧ ∀ c ∈ (s.at_ dt).twin.passed, c.via = .direct → ((s.at_ dt).linkUp = false ∨ c.at_ + 1000000 ≤ (s.at_ dt).now) →
      Out.reply c.master 0x0608 [] ∈ t.node.out := by
  refine answers_whenUp hup rfl ?_
  generalize s.at_ dt = u
  let late := fun c : PassedCmd => !u.linkUp || decide (c.at_ + ms 1 ≤ u.now)
  let left := u.setTwin fun t => { t with passed := t.passed.filter (fun c => !late c) }
  have hk : u.replyTimeout = (u.twin.passed.filter late).foldl (fun (n : Node) c => n.answerTo (c.master, c.via) 0x0608) left := rfl
  have hc := Node.calms_foldl (fun (n : Node) (c : PassedCmd) => n.answerTo (c.master, c.via) 0x0608) (fun n c => n.calms_answerTo _ _)
    (u.twin.passed.filter late) left
  refine ⟨rfl, ?_, fun c hm hv hl => settle_out _ ?_⟩
  · rw [settle_twin, hk]
    refine (congrArg (fun n => n.twin.passed) hc.1 :).trans (List.filter_congr fun c _ => ?_)
    have hlate : (!decide (c.at_ + ms 1 ≤ u.now)) = decide (u.now < c.at_ + 1000000) := by
      rw [← decide_not]
      exact decide_eq_decide.mpr Nat.not_le
    simp only [late, Bool.not_or, Bool.not_not, hlate]
  · dsimp only
    rw [hk]
    refine Node.answerAll_sends _ hv (List.mem_filter.mpr ⟨hm, ?_⟩) left
    simp only [late, Bool.or_eq_true, Bool.not_eq_true', decide_eq_true_iff]
    exact hl

end

/-- Settles O47: the messages of the link by what `Node.noted` leaves, the owner's frames by `Node.mirrorClose_leaves`. -/
theorem mirrorsFollow : Obligations.MirrorsFollow := fun _ _ hup =>
  ⟨fun _ _ ht hc hm hl => readings_wait hup ht hc hm hl, fun _ ht hc hm hn => close_follows hup ht hc hm hn,
    fun _ _ ht hc hm hx hn hf => closeContinuation_follows hup ht hc hm hx hn hf, fun _ _ _ ht hs hb => state_sets hup ht hs hb,
    stateTransferDone_ends hup, replayDone_syncs hup, fun _ _ _ ht hr hm => commandAsk_judges hup ht hr hm,
    fun _ _ _ _ ht hp => commandAnswer_answers hup ht hp, commandReplyTimeout_answers hup⟩

end Sys2Proof.Machine
end

section
/-!
SUPPORT. What happens between two closes (R213): after what ran out, the groups step, calls are raised and end, and the
records and calls go out. Telling leaves the points, areas and groups alone; calling leaves points and groups alone and, of
the areas, responsibility and engineer safety; stepping one group leaves the points, the areas and the other groups alone.
-/
namespace Sys2Proof.Machine

/-! ## The parts of what happens between two closes -/

/-- The groups of the points step, and the entries of this time are used up. -/
def Node.grouped (n : Node) (tk : Nat) : Node :=
  let n := n.groupsInUse.foldl (fun (n : Node) g => n.groupStep tk g) n
  { n with frame := { n.frame with entries := [], remoteIn := [] } }

/-- Calls are raised for the records, and end where nothing raises. -/
def Node.called (n : Node) (tk : Nat) : Node :=
  let n := if n.callsRun then (n.raisersOf n.frame.recs).foldl (fun (n : Node) e => n.raiseCall tk e.1 e.2) n else n
  if n.callsRun then (List.range 8).foldl (fun (n : Node) a => n.callEnd a tk) n else n

/-- Records, calls and event frames go out, and the annunciators follow. -/
def Node.told (n : Node) (tk : Nat) : Node :=
  let (evs, n) := n.deliverRecs n.frame.num tk
  let n := n.sendCalls.flushHeld
  let n := if n.curMode = 2 then { n with frame := { n.frame with held := n.frame.held ++ evs } }
    else if n.mayPublish then n.sendAll evs else n
  n.annFrame tk

theorem Node.between_eq {n : Node} (hm : n.mirrors = false) (hv : n.copyValid isleFrame = true) (hs : n.frame.started = true)
    (f : Node → Node) :
    n.between f = (((f n).grouped (n.copy isleFrame)).called (n.copy isleFrame)).told (n.copy isleFrame) := by
  unfold Node.between Node.told Node.called Node.grouped
  rw [if_neg (by simp [hm, hv, hs])]

/-! ## Telling -/

/-- `n` comes of `m` by work that leaves the points, the areas and the groups as they are. -/
structure Node.KeepsAlarms (m n : Node) : Prop where
  points : n.points = m.points
  areas : n.areas = m.areas
  groups : n.groups = m.groups
  groupObjects : ∀ g sub, sub < 256 → n.go g sub = m.go g sub

namespace Node.KeepsAlarms
variable {m n k : Node}

theorem refl (n : Node) : n.KeepsAlarms n := ⟨rfl, rfl, rfl, fun _ _ _ => rfl⟩

theorem trans (h : m.KeepsAlarms n) (g : n.KeepsAlarms k) : m.KeepsAlarms k :=
  ⟨g.points.trans h.points, g.areas.trans h.areas, g.groups.trans h.groups, fun j b hb => (g.groupObjects j b hb).trans (h.groupObjects j b hb)⟩

/-- A step that touches neither these states nor an object. -/
theorem of_same (h : m.KeepsAlarms n) (e : (k.points, k.areas, k.groups, k.od) = (n.points, n.areas, n.groups, n.od)) :
    m.KeepsAlarms k := by
  simp only [Prod.mk.injEq] at e
  obtain ⟨hp, ha, hg, ho⟩ := e
  exact h.trans ⟨hp, ha, hg, fun _ _ _ => by rw [Node.go, Node.oi, ho]; rfl⟩

theorem of_passes (h : m.KeepsAlarms n) (g : n.PassesOn k) : m.KeepsAlarms k := by
  have hb := g.beside
  exact h.trans ⟨congrArg (·.points) hb, congrArg (·.areas) hb, congrArg (·.groups) hb, fun j b hb => g.objects j 0x6200 b (by decide) hb (by decide)⟩

theorem ite {a b : Node} {p : Prop} [Decidable p] (h : m.KeepsAlarms a) (g : m.KeepsAlarms b) :
    m.KeepsAlarms (if p then a else b) := by
  split <;> assumption

theorem foldl {α : Type} {f : Node → α → Node} (hf : ∀ n a, m.KeepsAlarms n → m.KeepsAlarms (f n a)) {l : List α}
    (h : m.KeepsAlarms n) : m.KeepsAlarms (l.foldl f n) := by
  induction l generalizing n with
  | nil => exact h
  | cons a r ih => exact ih (hf n a h)

/-- A write of an object of no group. -/
theorem setI (h : m.KeepsAlarms n) {i idx sub v : Nat} (hu : (decide (idx < 65536) && decide (sub < 256) && (idx != 0x6200)) = true) :
    m.KeepsAlarms (n.setI i idx sub v) := by
  simp only [Bool.and_eq_true, decide_eq_true_eq, bne_iff_ne] at hu
  obtain ⟨⟨hi, hs⟩, hu⟩ := hu
  refine h.trans ⟨rfl, rfl, rfl, fun j b hb => Node.oi_setI_ne n v fun e => ?_⟩
  obtain ⟨-, rfl, -⟩ := (key_inj (by decide) hb hi hs).mp e
  exact hu rfl

theorem setAnn (h : m.KeepsAlarms n) {b : Nat} {x : AnnSt} : m.KeepsAlarms (n.setAnn b x) := h.of_same (by rfl)

theorem deliverRec (h : m.KeepsAlarms n) {num tk : Nat} {r : Rec} : m.KeepsAlarms (n.deliverRec num tk r) := by
  unfold Node.deliverRec
  refine foldl (fun k q g => ?_) ((h.setI (by decide)).of_passes (Node.PassesOn.refl _).archive)
  exact .ite (g.of_passes (.ite ((Node.PassesOn.refl k).deliver.setQueue) (Node.PassesOn.refl k).deliver)) g

theorem deliverRecs (h : m.KeepsAlarms n) {num tk : Nat} : m.KeepsAlarms (n.deliverRecs num tk).2 := by
  unfold Node.deliverRecs
  extract_lets recs _ cleared evs sent
  have hs : m.KeepsAlarms sent := foldl (fun _ _ g => g.deliverRec) (h.of_same (by rfl))
  exact .ite (hs.setI (by decide)) hs

theorem sendAll (h : m.KeepsAlarms n) {fs : List WoadOut} : m.KeepsAlarms (n.sendAll fs) :=
  h.foldl fun k _ g => g.of_passes (Node.PassesOn.refl k).sendWoad

theorem sendCalls (h : m.KeepsAlarms n) : m.KeepsAlarms n.sendCalls := by
  unfold Node.sendCalls
  extract_lets cs _ cleared
  have hc : m.KeepsAlarms cleared := h.of_same (by rfl)
  exact .ite (hc.foldl fun k _ g => g.of_passes (Node.PassesOn.refl k).sendWoad) hc

theorem flushHeld (h : m.KeepsAlarms n) : m.KeepsAlarms n.flushHeld := by
  unfold Node.flushHeld
  exact h.ite (.ite (h.of_same (by rfl)) (.ite (sendAll (h.of_same (by rfl))) h))

theorem enterAnn (h : m.KeepsAlarms n) {b st : Nat} : m.KeepsAlarms (n.enterAnn b st) := by
  have hw : ∀ {k : Node} {sub v : Nat}, sub < 256 → m.KeepsAlarms k → m.KeepsAlarms (k.setI b 0x7100 sub v) :=
    fun hs g => g.setI (by simp [hs])
  unfold Node.enterAnn
  exact .ite (hw (by decide) (hw (by decide) (hw (by decide) h.setAnn)))
    (hw (by decide) (hw (by decide) (hw (by decide) (hw (by decide) h.setAnn))))

theorem annRefresh (h : m.KeepsAlarms n) {b : Nat} : m.KeepsAlarms (n.annRefresh b) := by
  unfold Node.annRefresh
  exact .ite (.ite h h.enterAnn) (.ite h.enterAnn (.ite (.ite h.enterAnn h) (.ite (.ite h h.enterAnn) h)))

theorem annFrame (h : m.KeepsAlarms n) {tk : Nat} : m.KeepsAlarms (n.annFrame tk) :=
  (h.foldl fun _ _ g => .ite g.setAnn g).foldl fun _ _ g => g.annRefresh

theorem told (h : m.KeepsAlarms n) {tk : Nat} : m.KeepsAlarms (n.told tk) := by
  have hd : m.KeepsAlarms (n.deliverRecs n.frame.num tk).2 := h.deliverRecs
  unfold Node.told
  refine annFrame (.ite (hd.sendCalls.flushHeld.of_same (by rfl)) (.ite hd.sendCalls.flushHeld.sendAll hd.sendCalls.flushHeld))

theorem pt (h : m.KeepsAlarms n) (p : Nat) : n.pt p = m.pt p := by rw [Node.pt, h.points]; rfl
theorem area (h : m.KeepsAlarms n) (a : Nat) : n.area a = m.area a := by rw [Node.area, h.areas]; rfl
theorem grp (h : m.KeepsAlarms n) (g : Nat) : n.grp g = m.grp g := by rw [Node.grp, h.groups]; rfl

end Node.KeepsAlarms

/-! ## Calling -/

/-- Responsibility, engineer safety and the area master's silence, which no call touches. -/
def AreaSt.standing (x : AreaSt) := (x.holder, x.offer, x.es, x.esCall, x.remoteStale)

/-- `n` comes of `m` by calls. -/
structure Node.Calls (m n : Node) : Prop where
  points : n.points = m.points
  groups : n.groups = m.groups
  od : n.od = m.od
  standing : ∀ a, (n.area a).standing = (m.area a).standing

namespace Node.Calls
variable {m n k : Node}

theorem refl (n : Node) : n.Calls n := ⟨rfl, rfl, rfl, fun _ => rfl⟩

theorem trans (h : m.Calls n) (g : n.Calls k) : m.Calls k :=
  ⟨g.points.trans h.points, g.groups.trans h.groups, g.od.trans h.od, fun a => (g.standing a).trans (h.standing a)⟩

theorem ite {a b : Node} {p : Prop} [Decidable p] (h : m.Calls a) (g : m.Calls b) : m.Calls (if p then a else b) := by
  split <;> assumption

theorem foldl {α : Type} {f : Node → α → Node} (hf : ∀ n a, m.Calls n → m.Calls (f n a)) {l : List α} (h : m.Calls n) :
    m.Calls (l.foldl f n) := by
  induction l generalizing n with
  | nil => exact h
  | cons a r ih => exact ih (hf n a h)

theorem setArea (h : m.Calls n) {a : Nat} {x : AreaSt} (hx : x.standing = (n.area a).standing) : m.Calls (n.setArea a x) := by
  refine h.trans ⟨rfl, rfl, rfl, fun b => ?_⟩
  by_cases hb : b = a
  · subst hb
    rw [Node.area_setArea_self, hx]
  · rw [Node.area_setArea_ne _ _ _ hb]

/-- A step that touches neither these states nor an object. -/
theorem of_same (h : m.Calls n) (e : (k.points, k.areas, k.groups, k.od) = (n.points, n.areas, n.groups, n.od)) : m.Calls k := by
  simp only [Prod.mk.injEq] at e
  obtain ⟨hp, ha, hg, ho⟩ := e
  exact h.trans ⟨hp, hg, ho, fun a => by rw [Node.area, ha]; rfl⟩

theorem callChanged (h : m.Calls n) {a tk : Nat} : m.Calls (n.callChanged a tk) := by
  unfold Node.callChanged
  extract_lets x y raised st
  have hr : m.Calls raised := h.setArea rfl
  exact hr.of_same (by rfl)

theorem raiseCall (h : m.Calls n) {tk p prio : Nat} : m.Calls (n.raiseCall tk p prio) := by
  unfold Node.raiseCall
  exact .ite (h.setArea (by rfl)).callChanged (.ite (h.setArea (by rfl)).callChanged (.ite (h.setArea (by rfl)).callChanged (h.setArea (by rfl))))

theorem callEnd (h : m.Calls n) {a tk : Nat} : m.Calls (n.callEnd a tk) := by
  unfold Node.callEnd
  exact .ite (h.setArea (by rfl)).callChanged h

theorem called (h : m.Calls n) {tk : Nat} : m.Calls (n.called tk) := by
  unfold Node.called
  have hr : m.Calls (if n.callsRun then (n.raisersOf n.frame.recs).foldl (fun (n : Node) e => n.raiseCall tk e.1 e.2) n else n) :=
    .ite (h.foldl fun _ _ g => g.raiseCall) h
  exact .ite (hr.foldl fun _ _ g => g.callEnd) hr

end Node.Calls

/-! ## What raises a call -/

/-- A write of another key leaves what is listed of the keys that `f` takes. -/
theorem filterMap_odPut {α : Type} (od : List (Nat × Nat)) {k : Nat} (v : Nat) {f : Nat × Nat → Option α} (hf : ∀ w, f (k, w) = none) :
    (odPut od k v).filterMap f = od.filterMap f := by
  have he : (mapErase od k).filterMap f = od.filterMap f := by
    induction od with
    | nil => rfl
    | cons e r ih =>
      obtain ⟨j, w⟩ := e
      unfold mapErase
      split
      · next h => rw [ih, List.filterMap_cons, h, hf]
      · simp only [List.filterMap_cons, ih]
  have hi : ∀ m : List (Nat × Nat), (mapInsert m k v).filterMap f = m.filterMap f := fun m => by
    induction m with
    | nil => simp [mapInsert, hf]
    | cons e r ih =>
      obtain ⟨j, w⟩ := e
      unfold mapInsert
      split
      · rw [List.filterMap_cons, hf]
      · simp only [List.filterMap_cons, ih]
  unfold odPut mapPut
  split
  · exact he
  · rw [hi, he]

/-- No record raises a call: each is a system record, or of cause 6 and more. -/
def Node.quiet (n : Node) : Prop := ∀ r ∈ n.frame.recs, 16384 ≤ r.point ∨ 96 ≤ r.detail

theorem Node.raisersOf_quiet {n : Node} (h : n.quiet) : n.raisersOf n.frame.recs = [] := by
  refine List.filterMap_eq_nil_iff.mpr fun r hr => if_neg fun ⟨hp, _, hc, _⟩ => ?_
  have := h r hr
  omega

/-- `n` comes of `m` by work that leaves alone what raises the calls, and the areas outside `A`. -/
structure Node.KeepsRaising (A : Nat → Prop) (m n : Node) : Prop where
  points : n.points = m.points
  inUse : n.pointsInUse = m.pointsInUse
  po : ∀ p sub, sub < 256 → n.po p sub = m.po p sub
  quiet : m.quiet → n.quiet
  area : ∀ b, ¬ A b → n.area b = m.area b

namespace Node.KeepsRaising
variable {A : Nat → Prop} {m n k : Node}

theorem refl (n : Node) : n.KeepsRaising A n := ⟨rfl, rfl, fun _ _ _ => rfl, id, fun _ _ => rfl⟩

theorem trans (h : m.KeepsRaising A n) (g : n.KeepsRaising A k) : m.KeepsRaising A k :=
  ⟨g.points.trans h.points, g.inUse.trans h.inUse, fun p b hb => (g.po p b hb).trans (h.po p b hb), fun q => g.quiet (h.quiet q),
    fun b hb => (g.area b hb).trans (h.area b hb)⟩

theorem of_same (h : m.KeepsRaising A n)
    (e : (k.points, k.areas, k.od, k.frame.code, k.frame.recs) = (n.points, n.areas, n.od, n.frame.code, n.frame.recs)) :
    m.KeepsRaising A k := by
  simp only [Prod.mk.injEq] at e
  obtain ⟨hp, ha, ho, hc, hr⟩ := e
  refine h.trans ⟨hp, ?_, fun p b _ => ?_, fun q => ?_, fun b _ => ?_⟩
  · unfold Node.pointsInUse Node.limit
    rw [ho, hc]
  · simp only [Node.po, Node.oi, ho]
  · rwa [Node.quiet, hr]
  · simp only [Node.area, ha]

theorem ite {a b : Node} {p : Prop} [Decidable p] (h : m.KeepsRaising A a) (g : m.KeepsRaising A b) :
    m.KeepsRaising A (if p then a else b) := by
  split <;> assumption

theorem foldl {α : Type} {f : Node → α → Node} (hf : ∀ n a, m.KeepsRaising A n → m.KeepsRaising A (f n a)) {l : List α}
    (h : m.KeepsRaising A n) : m.KeepsRaising A (l.foldl f n) := by
  induction l generalizing n with
  | nil => exact h
  | cons a r ih => exact ih (hf n a h)

theorem setArea (h : m.KeepsRaising A n) {a : Nat} {x : AreaSt} (ha : A a) : m.KeepsRaising A (n.setArea a x) :=
  h.trans ⟨rfl, rfl, fun _ _ _ => rfl, id, fun _ hb => Node.area_setArea_ne _ _ _ fun e => hb (e ▸ ha)⟩

theorem setGrp (h : m.KeepsRaising A n) {g : Nat} {x : GroupSt} : m.KeepsRaising A (n.setGrp g x) := h.of_same (by rfl)

theorem setGroup (h : m.KeepsRaising A n) {g sub v : Nat} (hs : sub < 256) : m.KeepsRaising A (n.setI g 0x6200 sub v) := by
  refine h.trans ⟨rfl, filterMap_odPut _ _ fun w => if_neg ?_, fun p _ hb => Node.oi_setI_ne n v fun e => ?_, id, fun _ _ => rfl⟩
  · rw [keyIdx_key g (by decide) hs]
    exact fun e => absurd e.1 (by decide)
  · exact absurd ((key_inj (by decide) hb (by decide) hs).mp e).2.1 (by decide)

theorem addRec (h : m.KeepsRaising A n) {r : Rec} (hr : 16384 ≤ r.point ∨ 96 ≤ r.detail) : m.KeepsRaising A (n.addRec r) :=
  h.trans ⟨rfl, rfl, fun _ _ _ => rfl, fun q => List.forall_mem_append.mpr ⟨q, List.forall_mem_singleton.mpr hr⟩, fun _ _ => rfl⟩

theorem callMessage (h : m.KeepsRaising A n) {a kind state level prio rep point tk : Nat} :
    m.KeepsRaising A (n.callMessage a kind state level prio rep point tk) := h.of_same (by rfl)

theorem callChanged (h : m.KeepsRaising A n) {a tk : Nat} (ha : A a) : m.KeepsRaising A (n.callChanged a tk) := by
  unfold Node.callChanged
  exact callMessage (addRec (h.setArea ha) (.inl (by dsimp only; omega)))

theorem esCallChanged (h : m.KeepsRaising A n) {a state level tk : Nat} (ha : A a) : m.KeepsRaising A (n.esCallChanged a state level tk) :=
  (h.setArea ha).of_same (by rfl)

theorem esMessage (h : m.KeepsRaising A n) {a state level rep tk : Nat} : m.KeepsRaising A (n.esMessage a state level rep tk) :=
  h.of_same (by rfl)

theorem captureEnd (h : m.KeepsRaising A n) {g : Nat} : m.KeepsRaising A (n.captureEnd g) := by
  have hw : ∀ {k : Node} {sub v : Nat}, sub < 256 → m.KeepsRaising A k → m.KeepsRaising A (k.setI g 0x6200 sub v) :=
    fun hs h => h.setGroup hs
  unfold Node.captureEnd
  refine foldl (fun _ _ g => g.addRec (.inr ?_)) (setGrp (hw (by decide) (hw (by decide) (hw (by decide) (hw (by decide) (hw (by decide)
    (hw (by decide) (hw (by decide) h))))))))
  unfold Node.pointRec
  dsimp only
  omega

theorem groupStep (h : m.KeepsRaising A n) {tk g : Nat} : m.KeepsRaising A (n.groupStep tk g) := by
  have hw : ∀ {k : Node} {sub v : Nat}, sub < 256 → m.KeepsRaising A k → m.KeepsRaising A (k.setI g 0x6200 sub v) :=
    fun hs h => h.setGroup hs
  unfold Node.groupStep
  extract_lets es mem rem counted _ joined ended
  have hc : m.KeepsRaising A counted := hw (by decide) (hw (by decide) h)
  have hj : m.KeepsRaising A joined :=
    .ite (hw (by decide) (hw (by decide) hc.setGrp)) (.ite hc.setGrp (.ite (hw (by decide) hc) hc))
  have he : m.KeepsRaising A ended := .ite hj.captureEnd hj
  exact .ite (hw (by decide) he) he

theorem grouped (h : m.KeepsRaising A n) {tk : Nat} : m.KeepsRaising A (n.grouped tk) := by
  unfold Node.grouped
  extract_lets stepped
  have hs : m.KeepsRaising A stepped := h.foldl fun _ _ g => g.groupStep
  clear_value stepped
  exact hs.of_same (by rfl)

theorem raising (h : m.KeepsRaising A n) (a : Nat) : n.raising a = m.raising a := by
  have hp : ∀ p sub, sub < 256 → n.po p sub = m.po p sub := h.po
  have hpt : n.pt = m.pt := funext fun p => by rw [Node.pt, h.points]; rfl
  unfold Node.raising Node.faultPrio Node.condPrio
  rw [h.inUse, hpt]
  simp only [hp _ 0x05 (by decide), hp _ 0x11 (by decide), hp _ 0x02 (by decide)]

/-- Where area `a` has points that call, its call does not end. -/
theorem callEnd {a b tk : Nat} (ha : m.raising a ≠ []) (h : m.KeepsRaising (· ≠ a) n) : m.KeepsRaising (· ≠ a) (n.callEnd b tk) := by
  unfold Node.callEnd
  by_cases hb : b = a
  · subst hb
    rwa [if_neg fun e => ha ((h.raising b).symm.trans e.2)]
  · exact .ite ((h.setArea hb).callChanged hb) h

/-- Where no record raises a call and area `a` has points that call, calling leaves the area alone. -/
theorem called {a tk : Nat} (ha : n.raising a ≠ []) (hq : n.quiet) : n.KeepsRaising (· ≠ a) (n.called tk) := by
  unfold Node.called
  rw [Node.raisersOf_quiet hq, List.foldl_nil, ite_self]
  exact .ite (foldl (fun _ _ g => g.callEnd ha) (.refl n)) (.refl n)

end Node.KeepsRaising

/-! ## Stepping one group -/

/-- `n` comes of `m` by work at other groups than `g`. -/
structure Node.KeepsGroup (g : Nat) (m n : Node) : Prop where
  grp : n.grp g = m.grp g
  objects : ∀ sub, sub < 256 → n.go g sub = m.go g sub
  entries : n.frame.entries = m.frame.entries
  remoteIn : n.frame.remoteIn = m.frame.remoteIn

namespace Node.KeepsGroup
variable {g : Nat} {m n k : Node}

theorem refl (n : Node) : n.KeepsGroup g n := ⟨rfl, fun _ _ => rfl, rfl, rfl⟩

theorem trans (h : m.KeepsGroup g n) (l : n.KeepsGroup g k) : m.KeepsGroup g k :=
  ⟨l.grp.trans h.grp, fun b hb => (l.objects b hb).trans (h.objects b hb), l.entries.trans h.entries, l.remoteIn.trans h.remoteIn⟩

theorem ite {a b : Node} {p : Prop} [Decidable p] (h : m.KeepsGroup g a) (l : m.KeepsGroup g b) :
    m.KeepsGroup g (if p then a else b) := by
  split <;> assumption

theorem foldl {α : Type} {f : Node → α → Node} (hf : ∀ n a, m.KeepsGroup g n → m.KeepsGroup g (f n a)) {l : List α}
    (h : m.KeepsGroup g n) : m.KeepsGroup g (l.foldl f n) := by
  induction l generalizing n with
  | nil => exact h
  | cons a r ih => exact ih (hf n a h)

theorem addRec (h : m.KeepsGroup g n) {r : Rec} : m.KeepsGroup g (n.addRec r) := h.trans ⟨rfl, fun _ _ => rfl, rfl, rfl⟩

section
variable {j : Nat} (hj : j ≠ g)
include hj

theorem setI (h : m.KeepsGroup g n) {sub v : Nat} (hs : sub < 256) : m.KeepsGroup g (n.setI j 0x6200 sub v) :=
  h.trans ⟨rfl, fun _ hb => Node.oi_setI_ne n v fun e => hj ((key_inj (by decide) hb (by decide) hs).mp e).1.symm, rfl, rfl⟩

theorem setGrp (h : m.KeepsGroup g n) {x : GroupSt} : m.KeepsGroup g (n.setGrp j x) :=
  h.trans ⟨Node.grp_setGrp_ne _ _ _ hj.symm, fun _ _ => rfl, rfl, rfl⟩

theorem captureEnd (h : m.KeepsGroup g n) : m.KeepsGroup g (n.captureEnd j) := by
  have hw : ∀ {k : Node} {sub v : Nat}, sub < 256 → m.KeepsGroup g k → m.KeepsGroup g (k.setI j 0x6200 sub v) :=
    fun hs h => h.setI hj hs
  unfold Node.captureEnd
  exact foldl (fun _ _ l => l.addRec) (setGrp hj (hw (by decide) (hw (by decide) (hw (by decide) (hw (by decide) (hw (by decide)
    (hw (by decide) (hw (by decide) h))))))))

theorem groupStep (h : m.KeepsGroup g n) {tk : Nat} : m.KeepsGroup g (n.groupStep tk j) := by
  have hw : ∀ {k : Node} {sub v : Nat}, sub < 256 → m.KeepsGroup g k → m.KeepsGroup g (k.setI j 0x6200 sub v) :=
    fun hs h => h.setI hj hs
  unfold Node.groupStep
  extract_lets es mem rem counted _ joined ended
  have hc : m.KeepsGroup g counted := hw (by decide) (hw (by decide) h)
  have hj : m.KeepsGroup g joined :=
    .ite (hw (by decide) (hw (by decide) (hc.setGrp hj))) (.ite (hc.setGrp hj) (.ite (hw (by decide) hc) hc))
  have he : m.KeepsGroup g ended := .ite (hj.captureEnd ‹_›) hj
  exact .ite (hw (by decide) he) he

end
end Node.KeepsGroup

end Sys2Proof.Machine
end

section
/-!
PROOF of O41 (R216 to R226, R234, R238 to R252): what runs out for a point, an area or a first-out group, and that what
follows between two closes leaves it so.
-/
namespace Sys2Proof.Machine

/-! ## Points -/

/-- The reading of a point and its rate window. -/
def PointSt.reading (x : PointSt) := (x.q, x.fault, x.rateCount, x.rateV, x.rateT, x.rateAt)

/-- What the counters and the state of a point leave alone. -/
def PointSt.judged (x : PointSt) := (x.active, x.cond, x.sup, x.shelve, x.reading)

theorem PointSt.reading_eq {x y : PointSt} (h : y.reading = x.reading) :
    y.q = x.q ∧ y.fault = x.fault ∧ y.rateCount = x.rateCount ∧ y.rateV = x.rateV ∧ y.rateT = x.rateT ∧ y.rateAt = x.rateAt := by
  simpa only [PointSt.reading, Prod.mk.injEq] using h

theorem PointSt.judged_eq {x y : PointSt} (h : y.judged = x.judged) :
    y.active = x.active ∧ y.cond = x.cond ∧ y.sup = x.sup ∧ y.shelve = x.shelve ∧ y.reading = x.reading := by
  simpa only [PointSt.judged, Prod.mk.injEq] using h

theorem Node.pt_pointCounters_judged (n : Node) (p : Nat) (s : PointSt) (was tk : Nat) :
    ((n.pointCounters p s was tk).pt p).judged = s.judged := by
  unfold Node.pointCounters
  extract_lets stored _ occ counted _ stand
  have hs : (stored.pt p).judged = s.judged := congrArg _ (Node.pt_setPt_self ..)
  have hc : (counted.pt p).judged = s.judged := by
    unfold counted
    split
    · split
      · exact (congrArg PointSt.judged (Node.pt_setPt_self ..)).trans hs
      · exact hs
    · exact hs
  clear_value counted
  split
  · exact congrArg _ (Node.pt_setPt_self ..)
  · split
    · split
      · exact (congrArg PointSt.judged (Node.pt_setPt_self ..)).trans hc
      · exact hc
    · exact hc

theorem Node.pt_settle_judged (n : Node) (p : Nat) (s : PointSt) (was tk : Nat) :
    ((n.settle p s was tk).pt p).judged = s.judged := by
  unfold Node.settle
  extract_lets old new cause late y told
  exact Node.pt_pointCounters_judged ..

theorem Node.limitStep_reading (n : Node) (p : Nat) (x : Rat) (s : PointSt) : (n.limitStep p x s).reading = s.reading := rfl

theorem Node.delayStep_reading (n : Node) (p : Nat) (i : PIn) (s : PointSt) : (n.delayStep p i s).reading = s.reading := by
  unfold Node.delayStep
  extract_lets on1 on2 on3 off1 off2 off3
  have hon1 : on1.reading = s.reading := by
    unfold on1
    split <;> rfl
  have hon3 : on3.reading = s.reading := by
    unfold on3
    split <;> exact hon1
  have hoff1 : off1.reading = s.reading := by
    unfold off1
    split <;> rfl
  clear_value on1 off1
  split
  · rfl
  · split
    · split <;> exact hon3
    · split
      · split <;> exact hoff1
      · exact hoff1

/-- A point in fault keeps the reading that put it there, and has no condition unless it is monitored for faults (R220). -/
theorem Node.delayStep_rawStep_fault {n : Node} {p : Nat} {i : PIn} {s : PointSt} (hi : i.fault = true) :
    (n.delayStep p i (n.rawStep p i s)).q = s.q ∧ (n.delayStep p i (n.rawStep p i s)).fault = s.fault
      ∧ (n.po p 0x02 ≠ 4 → (n.delayStep p i (n.rawStep p i s)).cond = 0) := by
  have hr : (n.rawStep p i s).reading = s.reading := by
    unfold Node.rawStep
    dsimp only
    split <;> rfl
  obtain ⟨hq, hf, -⟩ := PointSt.reading_eq ((n.delayStep_reading p i (n.rawStep p i s)).trans hr)
  refine ⟨hq, hf, fun hk => ?_⟩
  unfold Node.delayStep
  rw [if_pos (by simp [hi, hk])]

section
variable {n : Node} (hm : n.mirrors = false) (hv : n.copyValid isleFrame = true) (hs : n.frame.started = true)
include hm hv hs

/-- What follows leaves the points as what ran out left them. -/
theorem Node.pt_between (f : Node → Node) (p : Nat) : (n.between f).pt p = (f n).pt p := by
  have hg : ((f n).grouped (n.copy isleFrame)).points = (f n).points := (Node.KeepsRaising.refl (A := fun _ => False) _).grouped.points
  have hc := (Node.Calls.refl ((f n).grouped (n.copy isleFrame))).called (tk := n.copy isleFrame)
  rw [Node.between_eq hm hv hs, (Node.KeepsAlarms.refl _).told.pt, Node.pt, hc.points, hg]
  rfl

/-- What follows leaves responsibility and engineer safety as what ran out left them. -/
theorem Node.standing_between (f : Node → Node) (a : Nat) : ((n.between f).area a).standing = ((f n).area a).standing := by
  have hg : ((f n).grouped (n.copy isleFrame)).area a = (f n).area a :=
    (Node.KeepsRaising.refl (A := fun _ => False) _).grouped.area a not_false
  rw [Node.between_eq hm hv hs, (Node.KeepsAlarms.refl _).told.area, (Node.Calls.refl _).called.standing, hg]

/-- Where no record waits and area `a` has points that call, what follows leaves the area as what ran out left it. -/
theorem Node.area_between {A : Nat → Prop} {f : Node → Node} {a : Nat} (hf : n.KeepsRaising A (f n)) (hq : n.frame.recs = [])
    (ha : n.raising a ≠ []) : (n.between f).area a = (f n).area a := by
  have hn : n.quiet := by simp [Node.quiet, hq]
  have hg : (f n).KeepsRaising (fun _ => False) ((f n).grouped (n.copy isleFrame)) := (Node.KeepsRaising.refl _).grouped
  have hc : ((f n).grouped (n.copy isleFrame)).KeepsRaising (· ≠ a) (((f n).grouped (n.copy isleFrame)).called (n.copy isleFrame)) :=
    .called (by rwa [hg.raising, hf.raising]) (hg.quiet (hf.quiet hn))
  rw [Node.between_eq hm hv hs, (Node.KeepsAlarms.refl _).told.area, hc.area a (not_not_intro rfl), hg.area a not_false]

end

/-- A point that settles when its time has run out shows what it settled on. -/
theorem answers_settled {i : Instr} {s : State} {dt p was tk : Nat} {f : Node → Node} {x : PointSt} (hup : s.node.up = true)
    (hm : (s.at_ dt).mirrors = false) (hv : (s.at_ dt).copyValid isleFrame = true) (hs : s.node.frame.started = true)
    (he : exec i s = act dt s fun n => n.whenUp fun n => n.between f) (hf : f (s.at_ dt) = (s.at_ dt).settle p x was tk)
    {P : PointSt → Prop} (h : ∀ y : PointSt, y.judged = x.judged → P y) : Answers i s fun t => Rests s t ∧ P (t.node.pt p) := by
  refine answers_actUp hup he ⟨⟨rfl, rfl⟩, h _ ?_⟩
  change (((s.at_ dt).between f).pt p).judged = _
  rw [Node.pt_between hm hv hs, hf, Node.pt_settle_judged]

/-- A point whose age is past its limit settles in fault (R217). -/
theorem Node.staleExpiry_due {n : Node} {p l : Nat} (hp : n.pointUsed p = true) (hl : n.staleLimit p = some l) (hk : l < (n.pt p).age)
    (ha : (n.pt p).aged = true) (hc : n.po p 0x2C = 0) (hq : (n.pt p).q < 3) :
    ∃ x : PointSt, n.staleExpiry p = n.settle p x (n.pt p).cond (n.copy isleFrame) ∧ x.q = 4 ∧ x.fault = true
      ∧ (n.po p 0x02 ≠ 4 → x.cond = 0) := by
  have hb : n.obi p 0x6100 0x2C = false := by
    change (n.po p 0x2C != 0) = false
    simp [hc]
  have h3 : (n.pt p).q ≠ 3 := by omega
  have h4 : (n.pt p).q ≠ 4 := by omega
  unfold Node.staleExpiry
  rw [hl]
  exact ⟨_, if_pos (by simp [hp, ha, hk, hb, h3, h4]), Node.delayStep_rawStep_fault (by rfl)⟩

section
variable {s : State} {dt : Nat} {p : Fin 16384} (hup : s.node.up = true) (hm : (s.at_ dt).mirrors = false)
  (hv : (s.at_ dt).copyValid isleFrame = true) (hs : s.node.frame.started = true) (hp : (s.at_ dt).pointUsed p = true)
include hup hm hv hs hp

theorem onDelayExpiry_activates (hr : ((s.at_ dt).pt p).raw ≠ 0) (hn : 0 < ((s.at_ dt).pt p).runOn) (hx : ((s.at_ dt).pt p).active = false)
    (hk : (s.at_ dt).tenths ((s.at_ dt).po p 0x0B) < ((s.at_ dt).pt p).runOn) : Answers (.onDelayExpiry dt p) s fun t => Rests s t
      ∧ (t.node.pt p).active = true ∧ (t.node.pt p).cond = ((s.at_ dt).pt p).raw := by
  have hd : (s.at_ dt).onDelayExpiry p = (s.at_ dt).settle p _ _ _ := if_pos (by simp [hp, hr, hn, hx, hk])
  refine answers_settled hup hm hv hs rfl hd (P := fun y => y.active = true ∧ y.cond = ((s.at_ dt).pt p).raw) fun y e => ?_
  obtain ⟨ha, hc, -⟩ := PointSt.judged_eq e
  exact ⟨ha, hc⟩

theorem offDelayExpiry_deactivates (hr : ((s.at_ dt).pt p).raw = 0) (hn : 0 < ((s.at_ dt).pt p).runOff)
    (hx : ((s.at_ dt).pt p).active = true) (hk : (s.at_ dt).tenths ((s.at_ dt).po p 0x0C) < ((s.at_ dt).pt p).runOff) :
    Answers (.offDelayExpiry dt p) s fun t => Rests s t ∧ (t.node.pt p).active = false ∧ (t.node.pt p).cond = 0 := by
  have hd : (s.at_ dt).offDelayExpiry p = (s.at_ dt).settle p _ _ _ := if_pos (by simp [hp, hr, hn, hx, hk])
  refine answers_settled hup hm hv hs rfl hd (P := fun y => y.active = false ∧ y.cond = 0) fun y e => ?_
  obtain ⟨ha, hc, -⟩ := PointSt.judged_eq e
  exact ⟨ha, hc⟩

theorem suppressionRelease_releases (hx : ((s.at_ dt).pt p).sup = true) (hn : 0 < ((s.at_ dt).pt p).rel)
    (hk : (s.at_ dt).tenths ((s.at_ dt).po p 0x0E) < ((s.at_ dt).pt p).rel) :
    Answers (.suppressionRelease dt p) s fun t => Rests s t ∧ (t.node.pt p).sup = false := by
  have hd : (s.at_ dt).suppressionRelease p = (s.at_ dt).settle p _ _ _ := if_pos (by simp [hp, hn, hx, hk])
  refine answers_settled hup hm hv hs rfl hd (P := fun y => y.sup = false) fun y e => ?_
  obtain ⟨-, -, hsup, -⟩ := PointSt.judged_eq e
  exact hsup

theorem shelveExpiry_ends (hx : ((s.at_ dt).pt p).shelve = some 0) :
    Answers (.shelveExpiry dt p) s fun t => Rests s t ∧ (t.node.pt p).shelve = none := by
  have hd : (s.at_ dt).shelveExpiry p = (s.at_ dt).settle p _ _ _ := if_pos (by simp [hp, hx])
  refine answers_settled hup hm hv hs rfl hd (P := fun y => y.shelve = none) fun y e => ?_
  obtain ⟨-, -, -, hshelve, -⟩ := PointSt.judged_eq e
  exact hshelve

theorem stale_turnsBad {l : Nat} (hl : (s.at_ dt).staleLimit p = some l) (hk : l < ((s.at_ dt).pt p).age)
    (ha : ((s.at_ dt).pt p).aged = true) (hc : (s.at_ dt).po p 0x2C = 0) (hq : ((s.at_ dt).pt p).q < 3) :
    Answers (.stale dt p) s fun t => Rests s t ∧ (t.node.pt p).q = 4 ∧ (t.node.pt p).fault = true
      ∧ ((s.at_ dt).po p 0x02 ≠ 4 → (t.node.pt p).cond = 0) := by
  obtain ⟨x, hd, hxq, hxf, hxc⟩ := Node.staleExpiry_due hp hl hk ha hc hq
  refine answers_settled hup hm hv hs rfl hd (P := fun y => y.q = 4 ∧ y.fault = true ∧ ((s.at_ dt).po p 0x02 ≠ 4 → y.cond = 0))
    fun y e => ?_
  obtain ⟨-, hcond, -, -, hread⟩ := PointSt.judged_eq e
  obtain ⟨hyq, hyf, -⟩ := PointSt.reading_eq hread
  exact ⟨hyq.trans hxq, hyf.trans hxf, fun hne => hcond.trans (hxc hne)⟩

theorem rateWindowEnd_restarts (hr : (s.at_ dt).po p 0x02 = 1) (hx : ((s.at_ dt).pt p).rateRun = true)
    (hf : ((s.at_ dt).pt p).fault = false) (hk : (s.at_ dt).tenths ((s.at_ dt).po p 0x14) ≤ ((s.at_ dt).pt p).rateCount) :
    Answers (.rateWindowEnd dt p) s fun t => Rests s t ∧ (t.node.pt p).rateCount = 0 ∧ (t.node.pt p).rateV = ((s.at_ dt).pt p).v
      ∧ (t.node.pt p).rateT = ((s.at_ dt).pt p).t ∧ (t.node.pt p).rateAt = (s.at_ dt).now := by
  have hd : (s.at_ dt).rateWindowEnd p = (s.at_ dt).settle p _ _ _ := if_pos (by simp [hp, hr, hx, hf, hk])
  refine answers_settled hup hm hv hs rfl hd (P := fun y => y.rateCount = 0 ∧ y.rateV = ((s.at_ dt).pt p).v
    ∧ y.rateT = ((s.at_ dt).pt p).t ∧ y.rateAt = (s.at_ dt).now) fun y e => ?_
  obtain ⟨-, -, -, -, hread⟩ := PointSt.judged_eq e
  rw [Node.delayStep_reading, Node.limitStep_reading] at hread
  obtain ⟨-, -, hcount, hval, ht, hat⟩ := PointSt.reading_eq hread
  exact ⟨hcount, hval, ht, hat⟩

end

/-! ## Areas -/

theorem Node.timerDue_of_le {n : Node} {k c : Nat} (h : k ≤ c) (since : Nat) : n.timerDue k c since = true := by
  simp [Node.timerDue, h]

/-! What a change of a call writes of its area (R246, R251). -/

theorem Node.area_callMessage (n : Node) (a kind state level prio rep point tk b : Nat) :
    (n.callMessage a kind state level prio rep point tk).area b = n.area b := rfl

theorem Node.area_esMessage (n : Node) (a state level rep tk b : Nat) : (n.esMessage a state level rep tk).area b = n.area b := rfl

theorem Node.area_callChanged (n : Node) (a tk : Nat) : (n.callChanged a tk).area a = { n.area a with
    seq := ((n.area a).seq + 1) % 65536, prio := n.callPrio a, rep := 0, repAt := n.now, changedAt := tk } :=
  Node.area_setArea_self ..

theorem Node.area_esCallChanged (n : Node) (a state level tk : Nat) : (n.esCallChanged a state level tk).area a = { n.area a with
    seq := ((n.area a).seq + 1) % 65536, esRep := 0, esRepAt := n.now, esChangedAt := tk } :=
  Node.area_setArea_self ..

/-- A call that is due goes one level up (R248). -/
theorem Node.area_escalate {n : Node} {a tk k : Nat} {due : Nat → Nat → Nat → Bool} (hl : n.levelFrames a = some k)
    (hc : (n.area a).call = 1) (hd : due k (n.area a).count (n.area a).since = true) :
    ((n.escalate a tk due).area a).level = n.levelFor ((n.area a).level + 1) (n.area a).ceiling
      ∧ ((n.escalate a tk due).area a).call = 1 ∧ ((n.escalate a tk due).area a).count = 0 := by
  unfold Node.escalate
  extract_lets x raised y
  have hr : (raised.area a).level = n.levelFor ((n.area a).level + 1) (n.area a).ceiling ∧ (raised.area a).call = 1
      ∧ (raised.area a).count = 0 := by
    unfold raised
    rw [hl]
    dsimp only
    rw [if_pos (by simp [x, hc, hd]), Node.area_callChanged, Node.area_setArea_self]
    exact ⟨rfl, hc, rfl⟩
  clear_value raised
  split
  · rw [Node.area_esCallChanged, Node.area_setArea_self]
    exact hr
  · exact hr

/-- An answered call whose time is up is a call again (R248). -/
theorem Node.area_answerTimeout {n : Node} {a tk : Nat} {due : Nat → Nat → Nat → Bool} (hr : n.raising a ≠ [])
    (hc : (n.area a).call = 2) (hd : due (n.seconds (n.ao a 0x0B)) (n.area a).count (n.area a).since = true) :
    ((n.answerTimeout a tk due).area a).call = 1
      ∧ ((n.answerTimeout a tk due).area a).level = n.levelFor (min ((n.area a).level + 1) (n.area a).ceiling) (n.area a).ceiling := by
  unfold Node.answerTimeout
  rw [if_pos (by simp [hc, hd, hr]), Node.area_callChanged, Node.area_setArea_self]
  exact ⟨rfl, rfl⟩

/-- The state of a call and its repeats. -/
def AreaSt.calling (x : AreaSt) := (x.call, x.rep, x.repAt)

/-- The repeat of an engineer-safety call leaves that of the area's call alone. -/
theorem AreaSt.calling_esRepeat (x : AreaSt) (rep t clears : Nat) :
    ({ x with esRep := rep, esRepAt := t, esClears := clears } : AreaSt).calling = x.calling := rfl

/-- A call that is due to be repeated is repeated (R248). -/
theorem Node.area_callRepeat {n : Node} {a : Nat} (hc : (n.area a).call ≠ 0) (hd : (n.area a).repAt + sec 2 ≤ n.now) :
    ((n.callRepeat a).area a).calling = ((n.area a).call, ((n.area a).rep + 1) % 256, (n.area a).repAt + sec 2) := by
  unfold Node.callRepeat
  extract_lets x _ told y _
  have ht : (told.area a).calling = ((n.area a).call, ((n.area a).rep + 1) % 256, (n.area a).repAt + sec 2) := by
    unfold told
    rw [if_pos ⟨hd, .inl hc⟩, Node.area_callMessage, Node.area_setArea_self]
    rfl
  split
  · rw [Node.area_esMessage, Node.area_setArea_self, AreaSt.calling_esRepeat, ht]
  · exact ht

/-- Engineer safety enters a state; EXPIRED calls level 2 (R251). -/
theorem Node.area_enterEs (n : Node) (a st tk : Nat) :
    ((n.enterEs a st tk).area a).es = st ∧ (st = 3 → ((n.enterEs a st tk).area a).esCall = some 2) := by
  unfold Node.enterEs
  extract_lets x y entered told
  have he : (told.area a).es = st := congrArg AreaSt.es (Node.area_setArea_self ..)
  clear_value told
  split
  · rw [Node.area_esCallChanged, Node.area_setArea_self]
    exact ⟨he, fun _ => rfl⟩
  · next hst =>
    refine ⟨?_, fun e => absurd e hst⟩
    split
    · rw [Node.area_esCallChanged, Node.area_setArea_self]
      exact he
    · exact he

namespace Node.KeepsRaising
variable {m n : Node} {a tk : Nat} {due : Nat → Nat → Nat → Bool}

theorem escalate (h : m.KeepsRaising (· = a) n) : m.KeepsRaising (· = a) (n.escalate a tk due) := by
  unfold Node.escalate
  extract_lets x y z
  have hy : m.KeepsRaising (· = a) y := by
    unfold y
    split
    · exact .ite ((h.setArea rfl).callChanged rfl) h
    · exact h
  exact .ite ((hy.setArea rfl).esCallChanged rfl) hy

theorem answerTimeout (h : m.KeepsRaising (· = a) n) : m.KeepsRaising (· = a) (n.answerTimeout a tk due) :=
  .ite ((h.setArea rfl).callChanged rfl) h

theorem callRepeat (h : m.KeepsRaising (· = a) n) : m.KeepsRaising (· = a) (n.callRepeat a) := by
  unfold Node.callRepeat
  extract_lets x _ y _ _
  have hy : m.KeepsRaising (· = a) y := .ite (h.setArea rfl).callMessage h
  exact .ite (hy.setArea rfl).esMessage hy

end Node.KeepsRaising

section
variable {s : State} {dt : Nat} {a : Fin 8} (hup : s.node.up = true) (hm : (s.at_ dt).mirrors = false)
  (hv : (s.at_ dt).copyValid isleFrame = true) (hs : s.node.frame.started = true)
include hup hm hv hs

/-- What an area's call became when its time ran out stands afterwards. -/
theorem answers_called {i : Instr} {f : Node → Node} (hc : (s.at_ dt).curMode ≠ 2) (hq : s.node.frame.recs = [])
    (ha : (s.at_ dt).raising a ≠ []) (he : exec i s = act dt s fun n => n.whenUp fun n => n.between fun n => if n.callsRun then f n else n)
    (hf : (s.at_ dt).KeepsRaising (· = a.val) (f (s.at_ dt))) {P : AreaSt → Prop} (h : P ((f (s.at_ dt)).area a)) :
    Answers i s fun t => Rests s t ∧ P (t.node.area a) := by
  have hr : (s.at_ dt).callsRun = true := by simp [Node.callsRun, hc]
  have hg : (if (s.at_ dt).callsRun then f (s.at_ dt) else s.at_ dt) = f (s.at_ dt) := if_pos hr
  refine answers_actUp hup he ⟨⟨rfl, rfl⟩, ?_⟩
  change P (((s.at_ dt).between fun n => if n.callsRun then f n else n).area a)
  rw [Node.area_between hm hv hs (by rwa [hg]) hq ha, hg]
  exact h

/-- What responsibility and engineer safety became when a time ran out stands afterwards. -/
theorem answers_standing {i : Instr} {f : Node → Node} (he : exec i s = act dt s fun n => n.whenUp fun n => n.between f)
    {P : AreaSt → Prop} (h : ∀ y : AreaSt, y.standing = ((f (s.at_ dt)).area a).standing → P y) :
    Answers i s fun t => Rests s t ∧ P (t.node.area a) :=
  answers_actUp hup he ⟨⟨rfl, rfl⟩, h _ (Node.standing_between hm hv hs f a)⟩

/-! What runs out for an area (R239, R240, R248, R251). -/

theorem callEscalation_escalates {k : Nat} (hc : (s.at_ dt).curMode ≠ 2) (hq : s.node.frame.recs = []) (ha : (s.at_ dt).raising a ≠ [])
    (hx : ((s.at_ dt).area a).call = 1) (hl : (s.at_ dt).levelFrames a = some k) (hk : k ≤ ((s.at_ dt).area a).count) :
    Answers (.callEscalation dt a) s fun t => Rests s t
      ∧ (t.node.area a).level = (s.at_ dt).levelFor (((s.at_ dt).area a).level + 1) ((s.at_ dt).area a).ceiling
      ∧ (t.node.area a).call = 1 ∧ (t.node.area a).count = 0 :=
  answers_called hup hm hv hs (f := fun n => n.escalate a (n.copy isleFrame) n.timerDue) hc hq ha rfl (Node.KeepsRaising.refl _).escalate
    (P := fun y => y.level = (s.at_ dt).levelFor (((s.at_ dt).area a).level + 1) ((s.at_ dt).area a).ceiling ∧ y.call = 1 ∧ y.count = 0)
    (Node.area_escalate hl hx (Node.timerDue_of_le hk _))

theorem answerTimeout_callsAgain (hc : (s.at_ dt).curMode ≠ 2) (hq : s.node.frame.recs = []) (ha : (s.at_ dt).raising a ≠ [])
    (hx : ((s.at_ dt).area a).call = 2) (hk : (s.at_ dt).seconds ((s.at_ dt).ao a 0x0B) ≤ ((s.at_ dt).area a).count) :
    Answers (.answerTimeout dt a) s fun t => Rests s t ∧ (t.node.area a).call = 1 ∧ (t.node.area a).level =
      (s.at_ dt).levelFor (min (((s.at_ dt).area a).level + 1) ((s.at_ dt).area a).ceiling) ((s.at_ dt).area a).ceiling :=
  answers_called hup hm hv hs (f := fun n => n.answerTimeout a (n.copy isleFrame) n.timerDue) hc hq ha rfl
    (Node.KeepsRaising.refl _).answerTimeout (P := fun y => y.call = 1 ∧ y.level =
      (s.at_ dt).levelFor (min (((s.at_ dt).area a).level + 1) ((s.at_ dt).area a).ceiling) ((s.at_ dt).area a).ceiling)
    (Node.area_answerTimeout ha hx (Node.timerDue_of_le hk _))

theorem callMessageRepeat_repeats (hc : (s.at_ dt).curMode ≠ 2) (hq : s.node.frame.recs = []) (ha : (s.at_ dt).raising a ≠ [])
    (hx : ((s.at_ dt).area a).call ≠ 0) (hd : ((s.at_ dt).area a).repAt + sec 2 ≤ (s.at_ dt).now) :
    Answers (.callMessageRepeat dt a) s fun t => Rests s t ∧ (t.node.area a).rep = (((s.at_ dt).area a).rep + 1) % 256
      ∧ (t.node.area a).repAt = ((s.at_ dt).area a).repAt + sec 2 ∧ (t.node.area a).call = ((s.at_ dt).area a).call := by
  refine answers_called hup hm hv hs (f := fun n => n.callRepeat a) hc hq ha rfl (Node.KeepsRaising.refl _).callRepeat
    (P := fun y => y.rep = (((s.at_ dt).area a).rep + 1) % 256 ∧ y.repAt = ((s.at_ dt).area a).repAt + sec 2
      ∧ y.call = ((s.at_ dt).area a).call) ?_
  have h := Node.area_callRepeat hx hd
  simp only [AreaSt.calling, Prod.mk.injEq] at h
  obtain ⟨hcall, hrep, hat⟩ := h
  exact ⟨hrep, hat, hcall⟩

theorem transferTimeout_withdraws (hx : ((s.at_ dt).area a).offer ≠ none)
    (hk : (s.at_ dt).seconds ((s.at_ dt).ao a 0x07) ≤ ((s.at_ dt).area a).offerCount) :
    Answers (.transferTimeout dt a) s fun t => Rests s t ∧ (t.node.area a).offer = none
      ∧ (t.node.area a).holder = ((s.at_ dt).area a).holder := by
  have ht : (s.at_ dt).transferTimeout a (s.at_ dt).timerDue = (s.at_ dt).setArea a { (s.at_ dt).area a with offer := none } :=
    if_pos (by simp [Option.isSome_iff_ne_none.mpr hx, Node.timerDue_of_le hk])
  refine answers_standing hup hm hv hs (f := fun n => n.transferTimeout a n.timerDue) rfl
    (P := fun y => y.offer = none ∧ y.holder = ((s.at_ dt).area a).holder) fun y e => ?_
  rw [ht, Node.area_setArea_self] at e
  simp only [AreaSt.standing, Prod.mk.injEq] at e
  obtain ⟨hh, ho, -⟩ := e
  exact ⟨ho, hh⟩

theorem esPrewarn_warns (hx : ((s.at_ dt).area a).es = 1)
    (hk : (s.at_ dt).seconds ((s.at_ dt).ao a 0x11 - (s.at_ dt).ao a 0x12) ≤ ((s.at_ dt).area a).esCount) :
    Answers (.esPrewarn dt a) s fun t => Rests s t ∧ (t.node.area a).es = 2 := by
  have ht : (s.at_ dt).esPrewarn a ((s.at_ dt).copy isleFrame) (s.at_ dt).timerDue = (s.at_ dt).enterEs a 2 ((s.at_ dt).copy isleFrame) :=
    if_pos (by simp [hx, Node.timerDue_of_le hk])
  refine answers_standing hup hm hv hs (f := fun n => n.esPrewarn a (n.copy isleFrame) n.timerDue) rfl (P := fun y => y.es = 2) fun y e => ?_
  rw [ht] at e
  simp only [AreaSt.standing, Prod.mk.injEq] at e
  obtain ⟨-, -, he, -⟩ := e
  exact he.trans (Node.area_enterEs ..).1

theorem esExpired_expires (hx : ((s.at_ dt).area a).es = 2)
    (hk : (s.at_ dt).seconds ((s.at_ dt).ao a 0x11) ≤ ((s.at_ dt).area a).esCount) :
    Answers (.esExpired dt a) s fun t => Rests s t ∧ (t.node.area a).es = 3 ∧ (t.node.area a).esCall = some 2 := by
  have ht : (s.at_ dt).esExpired a ((s.at_ dt).copy isleFrame) (s.at_ dt).timerDue = (s.at_ dt).enterEs a 3 ((s.at_ dt).copy isleFrame) :=
    if_pos (by simp [hx, Node.timerDue_of_le hk])
  refine answers_standing hup hm hv hs (f := fun n => n.esExpired a (n.copy isleFrame) n.timerDue) rfl
    (P := fun y => y.es = 3 ∧ y.esCall = some 2) fun y e => ?_
  rw [ht] at e
  simp only [AreaSt.standing, Prod.mk.injEq] at e
  obtain ⟨-, -, he, hcall, -⟩ := e
  obtain ⟨hes, hlevel⟩ := (s.at_ dt).area_enterEs a 3 ((s.at_ dt).copy isleFrame)
  exact ⟨he.trans hes, hcall.trans (hlevel rfl)⟩

theorem remoteStale_marks (hx : (s.at_ dt).isAreaMaster a = false) (hd : ((s.at_ dt).area a).heardAt + sec 3 ≤ (s.at_ dt).now) :
    Answers (.remoteStale dt a) s fun t => Rests s t ∧ (t.node.area a).remoteStale = true := by
  have ht : (s.at_ dt).remoteStale a = (s.at_ dt).setArea a { (s.at_ dt).area a with remoteStale := true } := if_pos (by simp [hx, hd])
  refine answers_standing hup hm hv hs (f := fun n => n.remoteStale a) rfl (P := fun y => y.remoteStale = true) fun y e => ?_
  rw [ht, Node.area_setArea_self] at e
  simp only [AreaSt.standing, Prod.mk.injEq] at e
  obtain ⟨-, -, -, -, hr⟩ := e
  exact hr

end

/-! ## First-out groups -/

/-- What an object of a group holds after a write of one. -/
theorem Node.go_setI {n : Node} {g sub v b : Nat} (hs : sub < 256) (hb : b < 256) :
    (n.setI g 0x6200 sub v).go g b = if b = sub then v else n.go g b := by
  by_cases h : b = sub
  · rw [if_pos h, h]
    exact Node.oi_setI_self ..
  · rw [if_neg h]
    exact Node.oi_setI_ne n v fun e => h ((key_inj (by decide) hb (by decide) hs).mp e).2.2

theorem Node.go_setGrp (n : Node) (g : Nat) (x : GroupSt) (j b : Nat) : (n.setGrp g x).go j b = n.go j b := rfl

/-- Group `g` of `n` is decided as it is in `m`, and nothing new waits for a group. -/
structure Node.Decided (g : Nat) (m n : Node) : Prop where
  entries : n.frame.entries = []
  remoteIn : n.frame.remoteIn = []
  cands : (n.grp g).cands = []
  state : n.go g 0x07 = 2 ∨ n.go g 0x07 = 0
  first : n.go g 0x08 = m.go g 0x08
  onset : n.go g 0x09 = m.go g 0x09
  count : n.go g 0x0E = m.go g 0x0E

namespace Node.Decided
variable {g : Nat} {m n k : Node}

/-- Work at other groups leaves it so. -/
theorem keeps (h : m.Decided g n) (l : n.KeepsGroup g k) : m.Decided g k :=
  ⟨l.entries.trans h.entries, l.remoteIn.trans h.remoteIn, (congrArg GroupSt.cands l.grp).trans h.cands,
    by rw [l.objects 0x07 (by decide)]; exact h.state, (l.objects 0x08 (by decide)).trans h.first,
    (l.objects 0x09 (by decide)).trans h.onset, (l.objects 0x0E (by decide)).trans h.count⟩

/-- A write of a count of the members leaves it so. -/
theorem setCount (h : m.Decided g n) {sub v : Nat} (hs : sub = 0x0C ∨ sub = 0x0D) : m.Decided g (n.setI g 0x6200 sub v) := by
  have hw : ∀ b, b < 256 → b < 0x0C ∨ 0x0D < b → (n.setI g 0x6200 sub v).go g b = n.go g b := fun b hb hne => by
    rw [Node.go_setI (by omega) hb, if_neg (by omega)]
  exact ⟨h.entries, h.remoteIn, h.cands, by rw [hw _ (by decide) (by decide)]; exact h.state,
    (hw _ (by decide) (by decide)).trans h.first, (hw _ (by decide) (by decide)).trans h.onset,
    (hw _ (by decide) (by decide)).trans h.count⟩

/-- The end of the alarm leaves the decision. -/
theorem setState (h : m.Decided g n) {v : Nat} (hv : v = 2 ∨ v = 0) : m.Decided g (n.setI g 0x6200 0x07 v) := by
  have hw : ∀ b, b < 256 → b ≠ 0x07 → (n.setI g 0x6200 0x07 v).go g b = n.go g b := fun b hb hne => by
    rw [Node.go_setI (by decide) hb, if_neg hne]
  exact ⟨h.entries, h.remoteIn, h.cands, by rwa [Node.go_setI (by decide) (by decide), if_pos rfl],
    (hw _ (by decide) (by decide)).trans h.first, (hw _ (by decide) (by decide)).trans h.onset,
    (hw _ (by decide) (by decide)).trans h.count⟩

theorem ite {a b : Node} {p : Prop} [Decidable p] (h : m.Decided g a) (l : m.Decided g b) : m.Decided g (if p then a else b) := by
  split <;> assumption

/-- No group's step undoes the decision: nothing entered, and the window is closed. -/
theorem groupStep (h : m.Decided g n) {tk j : Nat} : m.Decided g (n.groupStep tk j) := by
  by_cases hj : j = g
  · subst hj
    unfold Node.groupStep
    extract_lets es mem rem counted _ joined ended
    have hc : m.Decided j counted := (h.setCount (.inl rfl)).setCount (.inr rfl)
    have he : es = [] := by simp [es, Node.groupEntries, h.entries, h.remoteIn]
    have h1 : counted.go j 0x07 ≠ 1 := by
      rcases hc.state with h | h <;> omega
    have hjoin : joined = counted := by
      unfold joined
      rw [if_neg (by simp [he]), if_neg h1, if_neg (by simp [he])]
    have hend : ended = counted := by
      unfold ended
      rw [hjoin, if_neg fun e => h1 e.1]
    rw [hend]
    exact .ite (hc.setState (.inr rfl)) hc
  · exact h.keeps ((Node.KeepsGroup.refl n).groupStep hj)

theorem grouped (h : m.Decided g n) {tk : Nat} : m.Decided g (n.grouped tk) := by
  have hf : ∀ (l : List Nat) (k : Node), m.Decided g k → m.Decided g (l.foldl (fun (n : Node) j => n.groupStep tk j) k) := fun l => by
    induction l with
    | nil => exact fun _ h => h
    | cons j r ih => exact fun k h => ih _ h.groupStep
  unfold Node.grouped
  extract_lets stepped
  have hs : m.Decided g stepped := hf _ n h
  clear_value stepped
  exact ⟨rfl, rfl, hs.cands, hs.state, hs.first, hs.onset, hs.count⟩

end Node.Decided

/-- The first of the candidates of group `g`, within its tie tolerance (R234). -/
def Node.firstOut (n : Node) (g : Nat) : Candidate := (firstOnes (n.go g 0x04) (n.grp g).cands).headD {}

/-- The group objects that the end of a window writes. -/
def Node.writeFirst (n : Node) (g st first onset ties list flags : Nat) : Node :=
  ((((((n.setI g 0x6200 0x07 st).setI g 0x6200 0x08 first).setI g 0x6200 0x09 onset).setI g 0x6200 0x0A ties).setI g 0x6200 0x0B
    list).incWrapI 32 g 0x6200 0x0E 1).setI g 0x6200 0x0F flags

theorem Node.writeFirst_reads (n : Node) (g st first onset ties list flags : Nat) :
    (n.writeFirst g st first onset ties list flags).go g 0x07 = st ∧ (n.writeFirst g st first onset ties list flags).go g 0x08 = first
      ∧ (n.writeFirst g st first onset ties list flags).go g 0x09 = onset
      ∧ (n.writeFirst g st first onset ties list flags).go g 0x0E = (n.go g 0x0E + 1) % 2 ^ 32
      ∧ (n.writeFirst g st first onset ties list flags).frame = n.frame := by
  have hs : ∀ (k : Node) (sub v : Nat), sub < 256 → (k.setI g 0x6200 sub v).go g sub = v := fun k sub v hs => by
    rw [Node.go_setI hs hs, if_pos rfl]
  have hw : ∀ (k : Node) (sub v b : Nat), sub < 256 → b < 256 → b ≠ sub → (k.setI g 0x6200 sub v).go g b = k.go g b :=
    fun k sub v b hs hb hne => by rw [Node.go_setI hs hb, if_neg hne]
  unfold Node.writeFirst Node.incWrapI
  refine ⟨?_, ?_, ?_, ?_, rfl⟩
  · rw [hw _ 0x0F _ 0x07, hw _ 0x0E _ 0x07, hw _ 0x0B _ 0x07, hw _ 0x0A _ 0x07, hw _ 0x09 _ 0x07, hw _ 0x08 _ 0x07, hs] <;> decide
  · rw [hw _ 0x0F _ 0x08, hw _ 0x0E _ 0x08, hw _ 0x0B _ 0x08, hw _ 0x0A _ 0x08, hw _ 0x09 _ 0x08, hs] <;> decide
  · rw [hw _ 0x0F _ 0x09, hw _ 0x0E _ 0x09, hw _ 0x0B _ 0x09, hw _ 0x0A _ 0x09, hs] <;> decide
  · rw [hw _ 0x0F _ 0x0E, hs]
    · change (Node.go _ g 0x0E + 1) % 2 ^ 32 = _
      rw [hw _ 0x0B _ 0x0E, hw _ 0x0A _ 0x0E, hw _ 0x09 _ 0x0E, hw _ 0x08 _ 0x0E, hw _ 0x07 _ 0x0E] <;> decide
    all_goals decide

theorem Node.frame_setGrp (n : Node) (g : Nat) (x : GroupSt) : (n.setGrp g x).frame = n.frame := rfl

/-- The end of the window decides its group (R234). -/
theorem Node.captureEnd_reads (n : Node) (g : Nat) :
    (n.captureEnd g).go g 0x07 = 2 ∧ (n.captureEnd g).go g 0x08 = (n.firstOut g).ident * 65536 + (n.firstOut g).point
      ∧ (n.captureEnd g).go g 0x09 = (n.firstOut g).onset ∧ (n.captureEnd g).go g 0x0E = (n.go g 0x0E + 1) % 2 ^ 32
      ∧ ((n.captureEnd g).grp g).cands = [] ∧ (n.captureEnd g).frame.entries = n.frame.entries
      ∧ (n.captureEnd g).frame.remoteIn = n.frame.remoteIn := by
  unfold Node.captureEnd
  extract_lets fs c _ _ tied x done
  have ht : tied = n.writeFirst g 2 (c.ident * 65536 + c.point) c.onset (min fs.length 255) (ofLE ((fs.take 4).map tieEntry).flatten)
    (b2n (decide (1 < fs.length))) := rfl
  obtain ⟨h7, h8, h9, hE, hf⟩ := n.writeFirst_reads g 2 (c.ident * 65536 + c.point) c.onset (min fs.length 255)
    (ofLE ((fs.take 4).map tieEntry).flatten) (b2n (decide (1 < fs.length)))
  rw [← ht] at h7 h8 h9 hE hf
  clear_value tied
  have hd : done = tied.setGrp g { firstClose := x.firstClose } := rfl
  clear_value x done
  have hgo : ∀ b, done.go g b = tied.go g b := fun b => by rw [hd, Node.go_setGrp]
  have hc : (done.grp g).cands = [] := by rw [hd, Node.grp_setGrp_self]
  have hfr : done.frame = n.frame := (congrArg Node.frame hd).trans ((Node.frame_setGrp ..).trans hf)
  clear hd
  obtain ⟨hg, ho, he, hi⟩ := (Node.KeepsGroup.refl done).foldl (g := g) (fun k c (l : done.KeepsGroup g k) => l.addRec (r :=
    k.pointRec c.point (k.pt c.point) 6 c.onset (k.pt c.point).onsetV qfFirst))
    (l := fs.filter fun c => c.ident == done.ident && (done.pointGroups c.point).contains g)
  rw [ho 0x07 (by decide), ho 0x08 (by decide), ho 0x09 (by decide), ho 0x0E (by decide), hg, he, hi, hgo, hgo, hgo, hgo, hfr]
  exact ⟨h7, h8, h9, hE, hc, rfl, rfl⟩

/-- A window that is over is decided, and stays so while the groups step (R234). -/
theorem Node.firstOutEnd_decided {n : Node} {g : Nat} (hg : n.go g 0x07 = 1)
    (hd : (n.grp g).firstClose + ms (n.go g 0x03) ≤ n.copy isleFrame) (he : n.frame.entries = []) (hr : n.frame.remoteIn = []) :
    (n.captureEnd g).Decided g (n.firstOutEnd g) := by
  obtain ⟨h7, -, -, -, hc, hfe, hfr⟩ := n.captureEnd_reads g
  have h : (n.captureEnd g).Decided g (n.captureEnd g) := ⟨hfe.trans he, hfr.trans hr, hc, .inl h7, rfl, rfl, rfl⟩
  unfold Node.firstOutEnd
  rw [if_pos ⟨hg, hd⟩]
  exact .ite (h.setState (.inr rfl)) h

/-- What follows leaves the group as it was decided. -/
theorem Node.between_decided {m n : Node} {f : Node → Node} {g : Nat} (hm : n.mirrors = false) (hv : n.copyValid isleFrame = true)
    (hs : n.frame.started = true) (h : m.Decided g (f n)) :
    ((n.between f).grp g).cands = [] ∧ ((n.between f).go g 0x07 = 2 ∨ (n.between f).go g 0x07 = 0)
      ∧ (n.between f).go g 0x08 = m.go g 0x08 ∧ (n.between f).go g 0x09 = m.go g 0x09 ∧ (n.between f).go g 0x0E = m.go g 0x0E := by
  have hg : m.Decided g ((f n).grouped (n.copy isleFrame)) := h.grouped
  have hc := (Node.Calls.refl ((f n).grouped (n.copy isleFrame))).called (tk := n.copy isleFrame)
  have ht := (Node.KeepsAlarms.refl (((f n).grouped (n.copy isleFrame)).called (n.copy isleFrame))).told (tk := n.copy isleFrame)
  have ho : ∀ b, b < 256 → (n.between f).go g b = ((f n).grouped (n.copy isleFrame)).go g b := fun b hb => by
    rw [Node.between_eq hm hv hs, ht.groupObjects g b hb, Node.go, Node.oi, hc.od]
    rfl
  have hk : (n.between f).grp g = ((f n).grouped (n.copy isleFrame)).grp g := by
    rw [Node.between_eq hm hv hs, ht.grp, Node.grp, hc.groups]
    rfl
  rw [hk, ho 0x07 (by decide), ho 0x08 (by decide), ho 0x09 (by decide), ho 0x0E (by decide)]
  exact ⟨hg.cands, hg.state, hg.first, hg.onset, hg.count⟩

theorem firstOutWindowEnd_decides {s : State} {dt : Nat} {g : Fin 1024} (hup : s.node.up = true) (hm : (s.at_ dt).mirrors = false)
    (hv : (s.at_ dt).copyValid isleFrame = true) (hs : s.node.frame.started = true) (he : s.node.frame.entries = [])
    (hr : s.node.frame.remoteIn = []) (hg : (s.at_ dt).go g 0x07 = 1)
    (hd : ((s.at_ dt).grp g).firstClose + ms ((s.at_ dt).go g 0x03) ≤ (s.at_ dt).copy isleFrame) :
    Answers (.firstOutWindowEnd dt g) s fun t => Rests s t ∧ (t.node.grp g).cands = [] ∧ (t.node.go g 0x07 = 2 ∨ t.node.go g 0x07 = 0)
      ∧ t.node.go g 0x0E = ((s.at_ dt).go g 0x0E + 1) % 2 ^ 32
      ∧ ∀ c rest, firstOnes ((s.at_ dt).go g 0x04) ((s.at_ dt).grp g).cands = c :: rest →
        t.node.go g 0x08 = c.ident * 65536 + c.point ∧ t.node.go g 0x09 = c.onset := by
  have hdec : ((s.at_ dt).captureEnd g).Decided g ((s.at_ dt).firstOutEnd g) := Node.firstOutEnd_decided hg hd he hr
  obtain ⟨hc, h7, h8, h9, hE⟩ := Node.between_decided (f := fun n => n.firstOutEnd g) hm hv hs hdec
  obtain ⟨-, hfirst, honset, hcount, -⟩ := (s.at_ dt).captureEnd_reads g
  refine answers_actUp hup (f := fun n => n.between fun n => n.firstOutEnd g) rfl
    ⟨⟨rfl, rfl⟩, hc, h7, hE.trans hcount, fun c rest hf => ?_⟩
  have hc : (s.at_ dt).firstOut g = c := by rw [Node.firstOut, hf, List.headD_cons]
  rw [hc] at hfirst honset
  exact ⟨h8.trans hfirst, h9.trans honset⟩

/-- Settles O41, one expiry by its own theorem. -/
theorem expiriesAct : Obligations.ExpiriesAct := by
  constructor
  · intro s dt p hup u x hm hv hs hp
    exact ⟨onDelayExpiry_activates hup hm hv hs hp, offDelayExpiry_deactivates hup hm hv hs hp,
      suppressionRelease_releases hup hm hv hs hp, fun _ => stale_turnsBad hup hm hv hs hp, rateWindowEnd_restarts hup hm hv hs hp,
      shelveExpiry_ends hup hm hv hs hp⟩
  · intro s dt a hup u x hm hv hs hc hq
    exact ⟨fun _ ha hx => callEscalation_escalates hup hm hv hs hc hq ha hx, answerTimeout_callsAgain hup hm hv hs hc hq,
      transferTimeout_withdraws hup hm hv hs, esPrewarn_warns hup hm hv hs, esExpired_expires hup hm hv hs,
      fun hx ha => callMessageRepeat_repeats hup hm hv hs hc hq ha hx, remoteStale_marks hup hm hv hs,
      fun g he hr hg hd => firstOutWindowEnd_decides hup hm hv hs he hr hg hd⟩

end Sys2Proof.Machine
end
